-- ==== Sys2Proof/Word.lean ====
section
/-! DEFINITION. The word and byte types of the device's formats and registers (R8, R9), and the names of its parts. -/

namespace Sys2Proof

/-- A byte of a format, a link frame or a memory. -/
abbrev Byte := BitVec 8

/-- A run of bytes in the order in which it is sent or lies in memory: formats put the most significant byte first (R9). -/
abbrev Bytes := List Byte

/-- A 32-bit register or field. -/
abbrev Word := BitVec 32

/-- The two parts of the device (R1): the aggregator under study, and the DTC of one of its 64 ports (R13). -/
inductive Part where
  | agg
  | dtc (p : Fin 64)
deriving DecidableEq, Repr

/-- The two telemetry links of a DTC (R13). Link A goes to the aggregator under study, link B to its partner. -/
inductive LinkId where
  | a
  | b
deriving DecidableEq, Repr

/-- The two ends of a telemetry link. -/
inductive Side where
  | agg
  | dtc
deriving DecidableEq, Repr

/-- Who sent a sentence or a request (R118, R120, R472). The first four are requesters of the aggregator, the last two of a DTC. -/
inductive Requester where
  | qp (n : Fin 64)
  | partner
  | eth (oid : Word)
  | dtcPort (p : Fin 64)
  | pair
  | mailbox
deriving DecidableEq, Repr

/-- A full stamp (R46): seconds since 1970 TAI, nanoseconds, 1/65,536 ns, and the flag word of R47. -/
structure Stamp where
  sec : BitVec 64
  nsec : BitVec 32
  frac : BitVec 16
  flags : BitVec 16
deriving DecidableEq, Repr

/-- One set of lanes that can raise an alarm or run a swap (R264, R445, R487). -/
inductive LanePlace where
  | dtcLink (side : Side) (p : Fin 64) (l : LinkId)
  | fabric (q : Fin 16)
  | partner
deriving DecidableEq, Repr

end Sys2Proof
end

