-- ==== Sys2Proof/Syntax.lean ====
section
/-! DEFINITION. The commands of the device: one constructor per row of spec/opcode_table.json, and the data each command carries.
A verb's row carries the sentence (R92) as its requester sent it; an event's row carries what the event brings from outside. -/

namespace Sys2Proof

/-- A sentence after its transport (R92): the part that receives it, its requester, and the header fields a verb reads.
The row names VERB; FORMAT, PLEN and the two CRCs are checked where the bytes arrive (SENTENCE_FETCH and its like). -/
structure Sentence where
  part : Part
  req : Requester
  flags : Byte
  tag : Word
  target : Word
  subunit : BitVec 16
  tenant : BitVec 16
  params : Bytes
deriving DecidableEq, Repr

/-- What the DMA read of one submission entry of 64 bytes and of its parameters delivers (R121, R295), with the outcome of the later
write of results. `hostBig` tells the host's byte order. `queue` is the queue pair whose entry was read; an Ethernet sentence is taken from the waiting list instead. -/
structure HostEntry where
  queue : Fin 64
  entry : Bytes
  hostBig : Bool
  params : Option Bytes
  resultWritable : Bool
deriving DecidableEq, Repr

/-- An Ethernet frame at a fabric or management port (R446): addresses, the 802.1Q tag if any, EtherType, body, length in
bytes from the destination address through the FCS, and whether the FCS matches. -/
structure Frame where
  dst : BitVec 48
  src : BitVec 48
  vlan : Option (BitVec 16)
  etherType : BitVec 16
  body : Bytes
  len : Nat
  fcsOk : Bool
deriving DecidableEq, Repr

/-- The static ports of a DTC, sampled when a reset is released (R142), with the frequency of adp_ref_clk in MHz (R139). -/
structure DtcTies where
  oid : Word
  rpd : Bool
  optA : Bool
  optB : Bool
  snsUsed : BitVec 64
  memLat2 : Bool
  refMHz : Nat
deriving DecidableEq, Repr

/-- One host queue's state (R150). -/
structure QueueState where
  live : Bool
  wait : Bool
  on : BitVec 8
  ctx : BitVec 16
deriving DecidableEq, Repr

/-- The memories of a tartlet that carry SECDED bits (R326). -/
inductive MemRegion where
  | treeArray (bank : Fin 4)
  | scratch
  | clusterCache
deriving DecidableEq, Repr

/-- A model is named by its context and model ID (R365). -/
structure ModelKey where
  ctx : BitVec 10
  id : BitVec 16
deriving DecidableEq, Repr

/-- One slot or weight bank whose digest differs from the reference (R401, R402): replica, tartlet position in the group,
bank, slot (25 for a weight bank), the expected and the found check value. -/
structure SlotFault where
  replica : Fin 4
  pos : Nat
  bank : Fin 4
  slot : Nat
  expected : BitVec 64
  found : BitVec 64
deriving DecidableEq, Repr

/-- A tenant request as it arrives (R385, R386): the transport's requester, the port it came from (17 for PCIe), the
pre-colour of its frame, the 32 header bytes, the payload bytes delivered, and the result buffer of a PCIe request. -/
structure RequestIn where
  req : Requester
  port : Fin 18
  yellow : Bool
  header : Bytes
  payload : Bytes
  resultAddr : BitVec 64
  resultSize : Word
deriving DecidableEq, Repr

/-- Why a fabric port retrains (R443). -/
inductive PortCause where
  | limit
  | blockLock
  | laneSignal
deriving DecidableEq, Repr

/-- A PTP message at a port (R71, R72): its domain number and its kind with the times it carries, in 1/65,536 ns. -/
inductive PtpKind where
  | sync (originTime : Int) (twoStep : Bool)
  | followUp (originTime : Int)
  | delayReq
  | delayResp (receiveTime : Int)
  | announce (stepsRemoved : Nat) (clockClass : Byte) (priority2 : Byte)
  | other
deriving DecidableEq, Repr

structure PtpMessage where
  domainNumber : Byte
  kind : PtpKind
deriving DecidableEq, Repr

/-- The messages a port sends at its message rate (R71). -/
inductive PtpSend where
  | sync
  | delayReq
  | announce
deriving DecidableEq, Repr

/-- The two paths of pair notices (R485). -/
inductive PairPath where
  | partnerLink
  | fabric
deriving DecidableEq, Repr

/-- The causes of hang handling, rows 1 to 4 of R498. -/
inductive HangCause where
  | watchdog
  | descriptor
  | tableEcc
  | crossing
deriving DecidableEq, Repr

/-- The straps sampled when POR_N rises (R597), and TEST_EN (R613). -/
structure Straps where
  bootSel : BitVec 2
  pairSel : Bool
  testEn : Bool
deriving DecidableEq, Repr

/-- The three physical copies of one fuse word: the read at the normal and at the margin reference (R522). -/
structure FuseCopies where
  n0 : Word
  n1 : Word
  n2 : Word
  m0 : Word
  m1 : Word
  m2 : Word
deriving DecidableEq, Repr

/-- What ends a boot stage (R296): the fuse reads that disagree in stage 1, the images read from flash in stages 2 and 3 and the access map in
stage 4, the training of the HBM stacks, the BIST, and in stages 7 to 9 that their work is done. -/
inductive StageResult where
  | done
  | fuses (reads : List (Nat × FuseCopies))
  | image
  | accessMap
  | hbm (trained : Bool)
  | bist (passed : Bool)
deriving DecidableEq, Repr

/-- One island's monitor sample (R507): RO, DELAY, TJ, VOLT. -/
structure IslandSample where
  island : Fin 97
  ro : BitVec 16
  delay : BitVec 16
  tj : BitVec 16
  volt : BitVec 16
deriving DecidableEq, Repr

/-- One in-service margin reading (R515): kind, index, lane or channel, the value, and whether it is in alarm. -/
structure MarginReading where
  kind : Fin 5
  index : Nat
  lane : Nat
  quantity : Fin 3
  value : BitVec 16
  alarm : Bool
deriving DecidableEq, Repr

/-- How one test of a screen pack ended on a cluster (R520, R521): skipped, passed, or failed on the listed tartlets with
the expected and found check values. -/
inductive ScreenOutcome where
  | skipped
  | passed
  | failed (tartlets : List (Nat × BitVec 64 × BitVec 64))
deriving DecidableEq, Repr

/-- The words of one SPI transaction (R608, R609): the header, the data words completed, and the clock edges left over when
MS_CS_N rose (`edges`, 0 to 31, of an incomplete word) and after data word N (`extra`). -/
structure SpiTransaction where
  header : Option Word
  data : List Word
  edges : Nat
  extra : Nat
deriving DecidableEq, Repr

/-- What a control core presents in one cycle of its clock (R149): enable, the outcomes of the branch slots that retired, the
indirect target if any, the next PC and the context. -/
structure TraceCycle where
  en : Bool
  slot0 : Option Bool
  slot1 : Option Bool
  ind : Option (BitVec 64)
  pc : BitVec 64
  ctx : Word
deriving DecidableEq, Repr

/-- The instructions of the TAP (R613). -/
inductive TapInstruction where
  | bypass
  | idcode
  | samplePreload
  | extest
  | extestPulse
  | extestTrain
  | clamp
  | highz
  | dft
deriving DecidableEq, Repr

/-- A register of the host's window that a BAR_REGISTER_WRITE names: of BAR2, the MSI-X table, where `table` holds (R288), else of BAR0 (R290). -/
structure BarReg where
  table : Bool
  off : BitVec 24
deriving DecidableEq, Repr

/-- An SRAM error: the instance, and whether the code corrected it (R158). -/
structure EccHit where
  inst : Fin 32
  corrected : Bool
deriving DecidableEq, Repr

/-- One end of the links of a port (R155, R239). -/
structure PortEnd where
  side : Side
  p : Fin 64
deriving DecidableEq, Repr

/-- The commands: one constructor per row of the table, in the table's order. -/
inductive Instr where
  /-- NOP (R133): Does nothing and answers ST_OK after admission. -/
  | nop (x : Sentence)
  /-- GET_VERSION (R133): Returns the version register, the pinned level, the part, the role and the own OID. -/
  | getVersion (x : Sentence)
  /-- GET_CAPS (R134): Returns the tag window depth, the in-flight bounds, the staging limit and the buffer sizes. -/
  | getCaps (x : Sentence)
  /-- GET_VERB_COUNTERS (R133): Returns the saturating discard, refusal and violation counts of one transport. -/
  | getVerbCounters (x : Sentence)
  /-- SET_TRANSPORT (R125): Sets the sentence EtherType for frames received 1 µs or more after acceptance. -/
  | setTransport (x : Sentence)
  /-- SET_OID (R136): Changes the OID of the aggregator, or forwards a new OID to the DTC of a port and keeps it for resending. -/
  | setOid (x : Sentence)
  /-- GET_TIME (R90): Returns service time and, at the aggregator, the domain A and B stamps and the UTC offset. -/
  | getTime (x : Sentence)
  /-- SET_INCREMENT (R54): Replaces a timebase increment from the first time-clock tick after execution. -/
  | setIncrement (x : Sentence)
  /-- PHASE_ADD (R55): Adds a signed phase to a domain timebase, or to the DTC residual, and returns the residual after the add. -/
  | phaseAdd (x : Sentence)
  /-- SET_TIME (R57): Writes a timebase absolutely where the domain is not followed or time is in INIT. -/
  | setTime (x : Sentence)
  /-- SET_DOMAIN_STATE (R60): Sets a domain's binding, qualified bit, quality class, host discipline and watchdog period. -/
  | setDomainState (x : Sentence)
  /-- SET_SELECTION (R64): Sets the selection mode, the preferred domain, the wait-to-restore time and the slew rate. -/
  | setSelection (x : Sentence)
  /-- GET_SELECTION (R90): Returns the selection state, the domain, the mode, the residual and the remaining wait-to-restore time. -/
  | getSelection (x : Sentence)
  /-- SET_ASYMMETRY (R75): Writes the TX and RX delays of a port, applied to stamps taken 1 µs or more after acceptance. -/
  | setAsymmetry (x : Sentence)
  /-- SET_TRIGGER (R83): Programs a trigger output and returns its first edge. -/
  | setTrigger (x : Sentence)
  /-- GET_TRIGGER (R90): Returns the trigger program in force and its next edge. -/
  | getTrigger (x : Sentence)
  /-- SET_CAPTURE (R87): Sets which edges a capture input stamps. -/
  | setCapture (x : Sentence)
  /-- READ_CAPTURES (R87): Removes and returns queued capture stamps and clears the overflow count. -/
  | readCaptures (x : Sentence)
  /-- SET_FREQ_SOURCE (R73): Sets the priority list of frequency reference candidates and the QL mode. -/
  | setFreqSource (x : Sentence)
  /-- SET_PTP_PORT (R90): Configures PTP on a port: enable, step mode, address, role, localPriority, domain and UTC offset. -/
  | setPtpPort (x : Sentence)
  /-- GET_PTP_PORT (R90): Returns a port's PTP settings, state, discards, path delay and offset. -/
  | getPtpPort (x : Sentence)
  /-- SET_COUNTER_SET (R180): Sets the counter set from its activation tick, checked against the collection minimum. -/
  | setCounterSet (x : Sentence)
  /-- READ_COUNTERS (R205): Returns up to 40 counter values from the freeze bank or the live bank. -/
  | readCounters (x : Sentence)
  /-- FREEZE_COUNTERS (R174): Freezes the counter bank at once and produces a snapshot body. -/
  | freezeCounters (x : Sentence)
  /-- SET_REDUCTION (R187): Sets the window length, the window list and the sensor period from the activation tick. -/
  | setReduction (x : Sentence)
  /-- SET_HISTOGRAM (R189): Enables or disables one histogram metric from the activation tick. -/
  | setHistogram (x : Sentence)
  /-- READ_SENSORS (R205): Returns the last, least and greatest samples of a range of sensor channels. -/
  | readSensors (x : Sentence)
  /-- READ_EVENT_RING (R197): Copies the event-ring entries of one host unit in one cycle. -/
  | readEventRing (x : Sentence)
  /-- READ_HANG (R199): Returns the latest DTC hang record and whether the hang condition holds now. -/
  | readHang (x : Sentence)
  /-- SET_CHECK_VALUE (R200): Configures the DTC check-value unit. -/
  | setCheckValue (x : Sentence)
  /-- SCAN_START (R202): Starts a check-value scan of host memory, or completes at once for length 0. -/
  | scanStart (x : Sentence)
  /-- SCAN_ABORT (R203): Ends the running scan with ST_STATE and the bytes processed. -/
  | scanAbort (x : Sentence)
  /-- SET_TRACE_SOURCE (R234): Enables or disables a trace source and sets its priority and CYC mode. -/
  | setTraceSource (x : Sentence)
  /-- SET_TRACE_SINK (R228): Starts, moves or disables a sink ring in tray-host memory. -/
  | setTraceSink (x : Sentence)
  /-- TRACE_FLUSH (R219): Closes open BRs and takes a full stop of reason 5 on the named sources. -/
  | traceFlush (x : Sentence)
  /-- GET_TRACE_STATUS (R234): Returns the floors, the merge-buffer fill, the byte and OVF counts and the per-source states. -/
  | getTraceStatus (x : Sentence)
  /-- GET_LINK_STATUS (R272): Returns a link's state, lane map, optical power, delay, per-lane state and error totals. -/
  | getLinkStatus (x : Sentence)
  /-- LINK_RETRAIN (R263): Mode 0: starts a retrain of a link. -/
  | linkRetrain (x : Sentence)
  /-- LINK_PRBS31_TEST (R272): Mode 1: runs the PRBS31 test on a link that is out of service. -/
  | linkPrbs31Test (x : Sentence)
  /-- LINK_LOOPBACK_TEST (R272): Mode 2: runs the near-end loopback test on a link that is out of service. -/
  | linkLoopbackTest (x : Sentence)
  /-- LINK_TAKE_OUT_OF_SERVICE (R272): Mode 3: takes a link out of service. -/
  | linkTakeOutOfService (x : Sentence)
  /-- LINK_RETURN_TO_SERVICE (R272): Mode 4: returns a link to service. -/
  | linkReturnToService (x : Sentence)
  /-- LANE_SWAP_RETIRE (R265): Action 0: retires a lane by the swap procedure and completes with the lane map. -/
  | laneSwapRetire (x : Sentence)
  /-- LANE_SWAP_SET_AUTOMATIC (R264): Action 1: sets automatic swapping and the margin threshold. -/
  | laneSwapSetAutomatic (x : Sentence)
  /-- SET_COMPRESSION (R267): Enables compression for the chosen compressible record classes. -/
  | setCompression (x : Sentence)
  /-- GET_JOURNAL (R272): Returns the journal sequence numbers, the occupancy and the resend and drop counts. -/
  | getJournal (x : Sentence)
  /-- LOAD_MODEL (R374): Takes one chunk of a model image and checks the whole image at the LAST chunk. -/
  | loadModel (x : Sentence)
  /-- UNLOAD_MODEL (R382): Schedules a model to pass to UNLOADING at the first tick at least 2 µs after acceptance. -/
  | unloadModel (x : Sentence)
  /-- PLACE_MODEL (R380): Starts copying a model's trees and weights into free slots for a new placement. -/
  | placeModel (x : Sentence)
  /-- SET_FEATURE_MAP (R375): Takes one chunk of a feature map image for a model. -/
  | setFeatureMap (x : Sentence)
  /-- OPEN_SEQUENCE (R394): Opens a sequence entry with an initial state and returns its sequence ID. -/
  | openSequence (x : Sentence)
  /-- CLOSE_SEQUENCE (R397): Closes a sequence after its admitted steps and returns its final state. -/
  | closeSequence (x : Sentence)
  /-- GET_JOBS (R391): Returns the job counter of a context. -/
  | getJobs (x : Sentence)
  /-- GET_MODEL_STATUS (R405): Returns a model's state, placement, digests and replica mismatches. -/
  | getModelStatus (x : Sentence)
  /-- GROUP_JOIN (R435): Joins a reduction group at a position from the first close tick at least 2 µs after acceptance. -/
  | groupJoin (x : Sentence)
  /-- GROUP_LEAVE (R435): Leaves a reduction group at the first close tick at least 2 µs after acceptance. -/
  | groupLeave (x : Sentence)
  /-- GROUP_FENCE (R434): Ends a group's generation at a fence tick. -/
  | groupFence (x : Sentence)
  /-- GROUP_SET (R413): Sets a group's configuration: payload, field, shift, model, close period, k, quantile and mask. -/
  | groupSet (x : Sentence)
  /-- GROUP_STATUS (R436): Returns a group's generation, level, flags, position, reach, offset and discard counts. -/
  | groupStatus (x : Sentence)
  /-- READ_STRAGGLERS (R438): Returns part of the summary, the final list or the payload of a retained close. -/
  | readStragglers (x : Sentence)
  /-- SET_BASELINE (R429): Sets a constant baseline for a telemetry model or makes it follow a group. -/
  | setBaseline (x : Sentence)
  /-- ROUTE_SET (R450): Writes a routing-table or next-hop-table entry. -/
  | routeSet (x : Sentence)
  /-- ROUTE_GET (R469): Returns a routing-table or next-hop-table entry in force. -/
  | routeGet (x : Sentence)
  /-- POLICER_SET (R459): Sets a context's policer, response class and fallback bucket from the next refill. -/
  | policerSet (x : Sentence)
  /-- QUEUE_SET (R461): Sets the deficit-round-robin weights of queues 3 to 7 of a port. -/
  | queueSet (x : Sentence)
  /-- SHAPER_SET (R462): Sets the shaper rate and burst of an egress queue. -/
  | shaperSet (x : Sentence)
  /-- GATE_LIST_SET (R464): Sets a new gate list of a fabric port, pending until its activation. -/
  | gateListSet (x : Sentence)
  /-- GATE_LIST_GET (R469): Returns the gate list in force or the pending one. -/
  | gateListGet (x : Sentence)
  /-- GET_PORT_STATUS (R469): Returns the state and counts of a port, or the counts of a context's policer. -/
  | getPortStatus (x : Sentence)
  /-- SYNC_INIT (R478): Initialises a sync object and ends its waiters with reason 2. -/
  | syncInit (x : Sentence)
  /-- SYNC_POST (R473): Adds n to a sync object's COUNT and serves waiters from the head. -/
  | syncPost (x : Sentence)
  /-- SYNC_POST_ORDERED (R482): A post with ORDERED set, held until the earlier sentences and the BEHIND sentence have completed. -/
  | syncPostOrdered (x : Sentence)
  /-- SYNC_WAIT (R473): Takes n from a sync object, or joins the waiter list when blocking. -/
  | syncWait (x : Sentence)
  /-- SYNC_READ (R471): Returns the record of a sync object. -/
  | syncRead (x : Sentence)
  /-- GET_HANG (R505): Returns the last HANG record or bytes of either last-words half. -/
  | getHang (x : Sentence)
  /-- FORCE_FAILOVER (R505): Makes the active send RELINQUISH after its reply. -/
  | forceFailover (x : Sentence)
  /-- RESET_DTC (R503): Resets the DTC of a port and returns the last acknowledged SEQ. -/
  | resetDtc (x : Sentence)
  /-- GET_PAIR_STATUS (R505): Returns the roles, term, checkpoints and mirror state of the pair. -/
  | getPairStatus (x : Sentence)
  /-- READ_AGEING (R532): Returns island samples, DTC ageing, margin-log entries or the ageing summary. -/
  | readAgeing (x : Sentence)
  /-- RUN_MARGIN_PLAN (R509): Modes 0 and 1: runs the margin planner, with or without applying the changes. -/
  | runMarginPlan (x : Sentence)
  /-- SET_MARGIN_SCHEDULE (R509): Mode 2 of RUN_MARGIN_PLAN: sets the second of the TAI day of the daily run. -/
  | setMarginSchedule (x : Sentence)
  /-- GET_MARGINS (R515): Returns the current, 24 h least and lifetime least margins of an index. -/
  | getMargins (x : Sentence)
  /-- RUN_SCREEN_PACK (R521): Runs each test of a screen pack on each cluster of the mask. -/
  | runScreenPack (x : Sentence)
  /-- LIST_SCREEN_PACKS (R532): Operation 1 of RUN_SCREEN_PACK: lists the packs held in SCR. -/
  | listScreenPacks (x : Sentence)
  /-- READ_SILENT_ERRORS (R517): Returns the silent-error reports from a cursor, oldest first. -/
  | readSilentErrors (x : Sentence)
  /-- PIN_BEHAVIOUR (R529): Pins the pair or a DTC to a behaviour level, or removes the pin. -/
  | pinBehaviour (x : Sentence)
  /-- GET_FUSE_STATUS (R532): Returns the marginal and drifted fuse words and their reads. -/
  | getFuseStatus (x : Sentence)
  /-- GET_ATTESTATION (R557): Returns a freshly signed attestation report over the nonce. -/
  | getAttestation (x : Sentence)
  /-- KEY_RELEASE_BEGIN (R551): Draws an ephemeral key pair and a release ID for a context and returns the signed public key. -/
  | keyReleaseBegin (x : Sentence)
  /-- KEY_INSTALL (R552): Unwraps a weight key blob into a context's key slot. -/
  | keyInstall (x : Sentence)
  /-- KEY_REVOKE (R556): Destroys a slot's weight key and schedules the unloading of the context. -/
  | keyRevoke (x : Sentence)
  /-- DEBUG_AUTHORISE (R559): Accepts a signed debug authorisation, or revokes the one in force. -/
  | debugAuthorise (x : Sentence)
  /-- GET_ACCESS_MAP (R563): Returns access-map requester or window entries. -/
  | getAccessMap (x : Sentence)
  /-- READ_SELF_COUNTERS (R586): Returns snapshot entries of the tick bank or the hold bank, and releases the hold bank when asked. -/
  | readSelfCounters (x : Sentence)
  /-- FREEZE (R568): Freezes every engine's counts into the hold bank. -/
  | freeze (x : Sentence)
  /-- READ_RECORDS (R580): Returns held event records from a cursor, filtered by context unless on the management plane. -/
  | readRecords (x : Sentence)
  /-- CHECK_VALUE (R583): Starts a check-value scan of HBM or host memory on units 0 to 5. -/
  | checkValue (x : Sentence)
  /-- COMPRESS (R584): Operation 0: compresses a source range into a DEFLATE stream. -/
  | compress (x : Sentence)
  /-- DECOMPRESS (R584): Operation 1 of COMPRESS: decompresses a stream and rejects it on the conditions of R269. -/
  | decompress (x : Sentence)
  /-- GET_PROFILE (R44): Returns the profile in force, the commanded profile, the cause and Tj. -/
  | getProfile (x : Sentence)
  /-- SET_PROFILE (R33): Sets the pair's profile from the first tick at least 2 µs after acceptance and starts lend yields. -/
  | setProfile (x : Sentence)
  /-- GET_EPOCH (R44): Returns the epoch in force and the pending epoch with its activation second. -/
  | getEpoch (x : Sentence)
  /-- SET_EPOCH (R19): Sets a pending epoch change for its activation second. -/
  | setEpoch (x : Sentence)
  /-- STAGE (R110): Opens a staged set explicitly. -/
  | stage (x : Sentence)
  /-- COMMIT (R113): Commits the open staged set for a tick after preparation and the not-before stamp. -/
  | commit (x : Sentence)
  /-- DISCARD (R135): Releases the open staged set and ends its changes with ST_STATE. -/
  | discard (x : Sentence)
  /-- GET_STAGED (R133): Returns the open set number, its changes and the time until expiry. -/
  | getStaged (x : Sentence)
  /-- STAGED_SET_PREPARED (R114): Preparation of a committed set ends and each change is checked against the state it will meet. -/
  | stagedSetPrepared (r : Requester)
  /-- STAGED_SET_APPLY (R113): At the commit tick all changes of the set take effect together, or none do. -/
  | stagedSetApply (r : Requester)
  /-- STAGE_EXPIRY (R112): A staged set without COMMIT is discarded after 100 ms and its changes end with ST_STAGE_EXPIRED. -/
  | stageExpiry (r : Requester)
  /-- FABRIC_FRAME_RECEIVE (R448): A frame arrives at a fabric or management port and is discarded or routed item by item. -/
  | fabricFrameReceive (port : Fin 17) (f : Frame)
  /-- FORWARDED_REPLY_RECEIVE (R126): A VERB reply record from a DTC arrives and the original TAG is restored in the reply. -/
  | forwardedReplyReceive (p : Fin 64) (l : LinkId) (reply : Bytes)
  /-- FORWARD_RESEND_TIMEOUT (R258): No reply 2d + 10 µs after forwarding, so the sentence is resent with the same forwarding tag. -/
  | forwardResendTimeout (p : Fin 64) (ftag : Word)
  /-- FORWARD_LINK_TIMEOUT (R127): No link to the target DTC has been up for 10 ms, so the sentence ends with ST_HW_FAULT. -/
  | forwardLinkTimeout (p : Fin 64) (ftag : Word)
  /-- QP_ENABLE (R295): A write of ENABLE = 1 resets the queue pair's positions and starts fetching. -/
  | qpEnable (n : Fin 64) (msiEn : Bool)
  /-- QP_DISABLE (R295): A write of ENABLE = 0 stops fetching and lets the fetched sentences drain. -/
  | qpDisable (n : Fin 64) (msiEn : Bool)
  /-- QP_SQ_TAIL_DOORBELL (R295): A write of GQ_QP_SQ_TAIL makes new submission entries available for fetching. -/
  | qpSqTailDoorbell (n : Fin 64) (v : Word)
  /-- QP_CQ_HEAD_DOORBELL (R123): A write of GQ_QP_CQ_HEAD frees completion entries and releases held completions. -/
  | qpCqHeadDoorbell (n : Fin 64) (v : Word)
  /-- SENTENCE_FETCH (R119): The command processor fetches the next sentence by round robin over queue pairs and Ethernet. -/
  | sentenceFetch (e : HostEntry)
  /-- SUBMISSION_READ_FAIL (R295): The DMA read of a submission entry fails, so fetching stops and ERR is set with kind 1. -/
  | submissionReadFail (n : Fin 64)
  /-- SYNC_DOORBELL (R480): A write of GQ_SYNC_POST posts N when SEQ differs from HSEQ, or is held by the standby. -/
  | syncDoorbell (o : BitVec 15) (v : Word)
  /-- BAR_REGISTER_WRITE (R290): A write to any other BAR0 register acts by the field types. -/
  | barRegisterWrite (reg : BarReg) (v : Word)
  /-- SC_RELEASE (R568): A write of GQ_SC_RELEASE releases the self-counter hold bank. -/
  | scRelease (v : Word)
  /-- REC_CURSOR_WRITE (R578): A write of GQ_REC_CURSOR moves the recorder window to a new first SEQ. -/
  | recCursorWrite (v : Word)
  /-- TIME_W0_READ (R171): A read of ADP_TIME_W0 or GQ_SVC_TIME_W0 latches the whole time stamp. -/
  | timeW0Read (part : Part)
  /-- TRB_REGISTER_WRITE (R162): A TRB write to any other register is decided by mapping, byte enables and field types. -/
  | trbRegisterWrite (p : Fin 64) (off : BitVec 16) (be : BitVec 4) (v : Word)
  /-- ADP_RESET_GO (R167): A write of ADP_RESET with KEY 0xA5D7 and GO 1 starts a DTC reset. -/
  | adpResetGo (p : Fin 64) (ties : DtcTies)
  /-- MAILBOX_GO (R165): A write of GO to ADP_MB_CTRL starts a mailbox exchange of LEN bytes. -/
  | mailboxGo (p : Fin 64) (len : BitVec 9)
  /-- DTC_ORIGINATED_REPLY (R129): A reply to a DTC-originated sentence arrives and completes the mailbox exchange. -/
  | dtcOriginatedReply (p : Fin 64) (l : LinkId) (reply : Bytes)
  /-- DTC_COLD_RESET (R167): adp_por_n goes low and the whole DTC is reset with nothing surviving. -/
  | dtcColdReset (p : Fin 64) (ties : DtcTies)
  /-- DTC_RESET (R167): adp_rst_n goes low and the DTC is reset, keeping the error counts. -/
  | dtcReset (p : Fin 64) (ties : DtcTies)
  /-- DTC_READY (R168): Initialisation after reset ends with every SRAM cleared, and adp_ready rises. -/
  | dtcReady (p : Fin 64)
  /-- TAP_ALIVE_CHANGE (R145): adp_tap_alive of a tap group changes, starting or stopping its counting. -/
  | tapAliveChange (p : Fin 64) (g : Fin 64) (alive : Bool)
  /-- TAP_CODE_INVALID (R144): A tap code of 5 to 7 counts as 4 and sets TAP_ERR. -/
  | tapCodeInvalid (p : Fin 64) (g : Fin 64) (line : Fin 64) (code : BitVec 3)
  /-- SENSOR_SAMPLE (R147): A sensor sample arrives on a channel and updates its last value and its period statistics. -/
  | sensorSample (p : Fin 64) (chan : Fin 64) (word : BitVec 20) (fromRpd : Bool)
  /-- SENSOR_STALE (R148): A used channel has had no sample for four minimum intervals and becomes stale. -/
  | sensorStale (p : Fin 64) (chan : Fin 64)
  /-- QUEUE_STATE_UPDATE (R150): A host queue-state update replaces the whole state of one queue. -/
  | queueStateUpdate (p : Fin 64) (q : Fin 256) (st : QueueState)
  /-- HANG_EVALUATION (R198): The hang detector evaluates the queue states once per microsecond. -/
  | hangEvaluation (p : Fin 64)
  /-- HOST_EVENT (R151): A host event is stamped and enters its unit's event ring. -/
  | hostEvent (p : Fin 64) (unit : Fin 64) (code data : BitVec 16)
  /-- EVENT_RING_AGE_CHECK (R196): A periodic check sets AGED on event entries older than 2⁴⁶ units. -/
  | eventRingAgeCheck (p : Fin 64)
  /-- HM_RESPONSE_BEAT (R152): A host-memory response beat arrives and feeds the scan, or ends it on an error. -/
  | hmResponseBeat (p : Fin 64) (data : Bytes) (last err : Bool)
  /-- HM_RESPONSE_TIMEOUT (R153): A host-memory response has been outstanding for 1 ms, so the scan ends with ST_HW_FAULT. -/
  | hmResponseTimeout (p : Fin 64)
  /-- SRAM_ECC_ERROR (R158): A DTC SRAM read finds an uncorrectable error, which is counted and sent as a FAULT record; or, with
`corrected`, one that the code corrects, which is only counted. -/
  | sramEccError (p : Fin 64) (hit : EccHit)
  /-- DTC_EPOCH_TICK (R174): At each tick the DTC freezes its counters and produces the tick's collection bodies. -/
  | dtcEpochTick (p : Fin 64)
  /-- CAPTURE_EDGE (R87): An edge on a capture input is stamped and queued, and may freeze the counters. -/
  | captureEdge (part : Part) (i : Fin 16) (rising : Bool) (phase : Fin 8)
  /-- COLLECTION_CONFIG_ACTIVATION (R180): A pending counter set, reduction or histogram change takes effect at its activation tick. -/
  | collectionConfigActivation (p : Fin 64)
  /-- JOURNAL_FRAME_BUILD (R247): The DTC builds the next journalled frame when the journal has room and a link needs one. -/
  | journalFrameBuild (p : Fin 64)
  /-- LINK_SLOT (R248): A link slot starts and the frame to send is chosen by fixed priority. -/
  | linkSlot (side : Side) (p : Fin 64) (l : LinkId)
  /-- LINK_FRAME_RECEIVE (R242): A link frame arrives, is checked by HCRC, FTYPE and FCRC, and its segments are taken. -/
  | linkFrameReceive (side : Side) (p : Fin 64) (l : LinkId) (frame : Bytes)
  /-- ACK_RECEIVE (R252): The DTC takes an ACK, releases acknowledged frames and queues the missing ones again. -/
  | ackReceive (p : Fin 64) (l : LinkId) (nextSeq : Word) (missing : List Word)
  /-- JOURNAL_RESEND_TIMEOUT (R252): The lowest unacknowledged frame has waited 2d + 4 µs with NEXT unmoved, so all unacknowledged frames are requeued. -/
  | journalResendTimeout (p : Fin 64) (l : LinkId)
  /-- FCRC_WINDOW_END (R263): The 1 ms FCRC window of a link ends and its window count restarts. -/
  | fcrcWindowEnd (side : Side) (p : Fin 64) (l : LinkId)
  /-- TRAINING_BLOCK_RECEIVE (R239): A training block arrives and advances lane lock, alignment and the lane map. -/
  | trainingBlockReceive (q : PortEnd) (l : LinkId) (lane : Fin 3) (word0 word1 : Word) (rest : Bytes)
  /-- LANE_LOCK_CHANGE (R155): adp_ln_rx_lock changes: on rise the PHY latencies are sampled, on loss the link retrains. -/
  | laneLockChange (q : PortEnd) (lane : Fin 6) (lock : Bool) (txlat rxlat : BitVec 16)
  /-- LANE_MARGIN_ALARM (R264): A lane's margin stays below the threshold for 1 ms and a swap starts. -/
  | laneMarginAlarm (w : LanePlace) (lane : Fin 5) (margin : Byte)
  /-- BEACON_SEND (R256): The aggregator sends a BEACON at each whole 2 µs of service time or of its time clock. -/
  | beaconSend (p : Fin 64)
  /-- BEACON_RECEIVE (R256): The DTC accepts a BEACON and takes role, term, NEXT, epoch, floor and, for a time record, time. -/
  | beaconReceive (p : Fin 64) (l : LinkId) (data : Bytes)
  /-- TIME_ECHO_SEND (R261): The DTC sends a TIME_ECHO for an echo request as the first segment of an upstream frame. -/
  | timeEchoSend (p : Fin 64) (l : LinkId)
  /-- TIME_ECHO_RECEIVE (R262): The aggregator stamps T4 and computes the delay and offset of the exchange. -/
  | timeEchoReceive (p : Fin 64) (data : Bytes)
  /-- DTC_DISCIPLINE (R79): The firmware sends SET_INCREMENT and PHASE_ADD to each DTC at least once per millisecond. -/
  | dtcDiscipline (p : Fin 64)
  /-- DTC_HOLDOVER_ENTRY (R80): No time record for 10 µs while time is valid, so the DTC enters holdover. -/
  | dtcHoldoverEntry (p : Fin 64)
  /-- LINK_CTRL_START (R255): The aggregator takes START, sets NEXT and ends pending sentences on RESET. -/
  | linkCtrlStart (p : Fin 64) (l : LinkId) (seq : Word) (reset : Bool)
  /-- LINK_CTRL_RESUME (R255): The DTC takes RESUME and answers START from its journal state. -/
  | linkCtrlResume (p : Fin 64) (l : LinkId) (seq : Word)
  /-- SWAP_REQ_RECEIVE (R265): A transmitter takes SWAP_REQ and begins mirroring lane x on the spare. -/
  | swapReqReceive (w : LanePlace) (lane : Fin 5)
  /-- SWAP_MIRROR_RECEIVE (R265): A receiver takes SWAP_MIRROR and aligns the spare to lane x. -/
  | swapMirrorReceive (w : LanePlace) (lane : Fin 5) (matched : Bool)
  /-- SWAP_DONE_RECEIVE (R265): A transmitter takes SWAP_DONE and makes the replaced lane the spare, or stops mirroring. -/
  | swapDoneReceive (w : LanePlace) (lane : Option (Fin 5))
  /-- LINK_CTRL_RETRAIN_RECEIVE (R263): A side receives LINK_CTRL RETRAIN and retrains both directions. -/
  | linkCtrlRetrainReceive (side : Side) (p : Fin 64) (l : LinkId)
  /-- SWAP_TIMEOUT (R265): The mirrored words do not match within 10 µs, so the swap is abandoned. -/
  | swapTimeout (w : LanePlace)
  /-- LINK_ENTER_SERVICE (R239): A link enters service after a BEACON and a START have been accepted. -/
  | linkEnterService (side : Side) (p : Fin 64) (l : LinkId)
  /-- LINK_LEAVE_SERVICE (R253): A link leaves service and its waiting records are rerouted by the partner path. -/
  | linkLeaveService (side : Side) (p : Fin 64) (l : LinkId)
  /-- LINK_HOLD_EXPIRY (R253): A held link becomes out of service after 100 µs. -/
  | linkHoldExpiry (side : Side) (p : Fin 64) (l : LinkId)
  /-- BODY_INGEST (R307): A counter-epoch or other body completes at ingest, is decompressed, written to history and may start a vector. -/
  | bodyIngest (p : Fin 64)
  /-- FEATURE_CUTOFF (R307): A die's cut-off passes before its body completes, and its vectors start with missing fields. -/
  | featureCutoff (p : Fin 64)
  /-- VECTOR_START (R320): A front stage half starts its next vector by fixed priority. -/
  | vectorStart (half : Fin 2)
  /-- VECTOR_COMPLETE (R318): A vector is complete and its bins cross to the clusters as work items. -/
  | vectorComplete (half : Fin 2)
  /-- WORK_DISPATCH (R361): A cluster sequencer dispatches the next work item by telemetry-first order. -/
  | workDispatch (c : Fin 64)
  /-- DESCRIPTOR_COMPLETE (R359): A tartlet descriptor completes and the next queued descriptor may start. -/
  | descriptorComplete (t : Fin 4096)
  /-- TARTLET_ECC_ERROR (R326): An uncorrectable tartlet memory error ends the work item with ST_HW_FAULT. -/
  | tartletEccError (t : Fin 4096) (region : MemRegion) (addr : Nat)
  /-- SEQUENCE_STEP (R397): A sequence applies its operations to a score block when its previous step is done. -/
  | sequenceStep (idx : Fin 65536)
  /-- STREAM_CHUNK_LOADED (R384): A streamed chunk reaches the cluster caches and is copied to stream slots for its pass. -/
  | streamChunkLoaded (m : ModelKey)
  /-- STREAM_PASS_START (R384): A streaming pass starts over up to 4 ready work items of a model. -/
  | streamPassStart (m : ModelKey)
  /-- PLACE_COPY_COMPLETE (R380): The copy of a new placement into its slots is complete. -/
  | placeCopyComplete (m : ModelKey)
  /-- PLACEMENT_EFFECTIVE (R380): A new placement takes effect at its tick and telemetry sequence entries are allocated. -/
  | placementEffective (m : ModelKey)
  /-- UNLOAD_EFFECTIVE (R382): A model passes to UNLOADING and is freed when its work completes. -/
  | unloadEffective (m : ModelKey)
  /-- FEATURE_MAP_EFFECTIVE (R321): An unstaged feature map takes effect at its tick. -/
  | featureMapEffective (m : ModelKey)
  /-- LOAD_TIMEOUT (R374): A load that has received no chunk for 1 s is discarded. -/
  | loadTimeout (m : ModelKey)
  /-- REPLICA_DIGEST_SCAN (R401): At each digest interval the replicas of a model are scanned with SCAN descriptors. -/
  | replicaDigestScan (m : ModelKey)
  /-- REPLICA_DIGEST_COMPLETE (R402): The digest values are compared and a differing replica is taken out, reported and reloaded. -/
  | replicaDigestComplete (m : ModelKey) (found : List SlotFault)
  /-- REQUEST_RECEIVE (R388): A tenant request is metered and admitted through the steps of R388. -/
  | requestReceive (q : RequestIn)
  /-- RESPONSE_STORE_EXPIRY (R390): A stored response passes 10 ms after completion and no longer answers duplicates. -/
  | responseStoreExpiry
  /-- BUCKET_REFILL (R455): At each whole microsecond every policer, fallback and shaper bucket adds its rate. -/
  | bucketRefill
  /-- POLICER_MEMORY_ERROR (R458): An uncorrectable policer memory error switches contexts to the fallback bucket while the memory is rewritten. -/
  | policerMemoryError (addr : Word)
  /-- EGRESS_SELECT (R461): The line is free and the port chooses the next eligible frame by priority and DRR. -/
  | egressSelect (port : Fin 17)
  /-- GATE_ENTRY_BOUNDARY (R467): A gate-list entry boundary applies the new gate mask. -/
  | gateEntryBoundary (port : Fin 16)
  /-- GATE_LIST_ACTIVATION (R464): A pending gate list takes effect at its first cycle start at or after its activation time. -/
  | gateListActivation (port : Fin 16)
  /-- PORT_HELLO_SEND (R441): A spare-mode port sends a port control HELLO every 1 ms. -/
  | portHelloSend (port : Fin 16)
  /-- PORT_CONTROL_RECEIVE (R447): A port control frame (HELLO or swap operation) is taken. -/
  | portControlReceive (port : Fin 16) (op lane : Byte)
  /-- SPARE_FALLBACK_TIMEOUT (R441): No HELLO within 10 ms of link-up, so the port runs without spare mode. -/
  | spareFallbackTimeout (port : Fin 16)
  /-- FEC_WINDOW_END (R443): The 1 ms FEC window of a fabric port ends and its count restarts. -/
  | fecWindowEnd (port : Fin 16) (uncorrectable : Nat)
  /-- PORT_RETRAIN (R443): A fabric port retrains, and its class-0 frames take the partner path. -/
  | portRetrain (port : Fin 16) (cause : PortCause)
  /-- PORT_OUTAGE_TIMEOUT (R444): A port out of service for 100 µs sends classes 1 and 2 by the partner path and drops 3 to 7. -/
  | portOutageTimeout (port : Fin 16)
  /-- PORT_IN_SERVICE (R443): A retrained fabric port returns to service. -/
  | portInService (port : Fin 16)
  /-- PORT_SWAP_TIMEOUT (R445): A fabric port swap that has not matched within 200 µs is abandoned. -/
  | portSwapTimeout (port : Fin 16)
  /-- LOCAL_CONTRIBUTION_CUTOFF (R420): At tick + 5.5 µs a member forms its local contribution and sends it. -/
  | localContributionCutoff (g : BitVec 24)
  /-- REDUCTION_FRAME_RECEIVE (R418): A reduction frame is checked and taken as an up, exchange, down or report frame. -/
  | reductionFrameReceive (source : Word) (frame : Bytes)
  /-- NODE_FOLD (R421): A node folds when all children have arrived or its cut-off passes, and forwards the fold. -/
  | nodeFold (g : BitVec 24) (close : BitVec 64) (pass : Fin 3) (level : Fin 5)
  /-- STRAGGLER_CUTOFF (R428): The straggler pass of a close begins at tick + 41 µs with each member's best named dies. -/
  | stragglerCutoff (g : BitVec 24) (close : BitVec 64)
  /-- CLOSE_ABANDON (R423): A close without its summary 100 µs after its tick, or displaced by a ninth, is abandoned. -/
  | closeAbandon (g : BitVec 24) (close : BitVec 64)
  /-- GROUP_FENCE_TICK (R434): At the fence tick the member's generation advances. -/
  | groupFenceTick (g : BitVec 24)
  /-- GROUP_CHANGE_EFFECTIVE (R435): A join, leave or configuration takes effect at its close tick. -/
  | groupChangeEffective (g : BitVec 24)
  /-- EPOCH_TICK (R17): An aggregator epoch tick starts the epoch's telemetry work and the tick freeze. -/
  | epochTick
  /-- EPOCH_CHANGE_ACTIVATION (R19): A pending epoch takes effect at its activation second and its replaced SET_EPOCHs complete. -/
  | epochChangeActivation
  /-- PROFILE_CHANGE_EFFECTIVE (R33): A profile change takes effect at its tick and clusters change partition. -/
  | profileChangeEffective
  /-- THERMAL_CROSSING (R39): The hottest island crosses Tj 100 °C or 95 °C. -/
  | thermalCrossing (island : Fin 97) (tj : BitVec 16)
  /-- THERMAL_HOLD_ENTRY (R39): The aggregator enters profile H at the first tick at least 2 µs after the crossing. -/
  | thermalHoldEntry
  /-- THERMAL_HOLD_RETURN (R40): After 10 s at or below 95 °C the aggregator returns to the commanded profile. -/
  | thermalHoldReturn
  /-- LEND_CLUSTERS_OFF (R41): In H, the former lend clusters switch off when their last lend request completes. -/
  | lendClustersOff
  /-- CLUSTER_POWER_UP (R282): The power controller switches cluster domains on in groups of 8. -/
  | clusterPowerUp
  /-- CLUSTER_RELOAD_COMPLETE (R282): A returned cluster's resident trees are reloaded and it takes work again. -/
  | clusterReloadComplete (c : Fin 64)
  /-- POWER_WINDOW (R32): Each 1 ms window the aggregator holds its average power within the cap. -/
  | powerWindow (avg : BitVec 16)
  /-- THERMAL_TRIP (R602): An island reaches Tj 115 °C: RELINQUISH, all switched domains off, THERMTRIP_N low. -/
  | thermalTrip (island : Fin 97)
  /-- THERMTRIP_RELEASE (R603): After 10 s at or below 95 °C, THERMTRIP_N is released. -/
  | thermtripRelease
  /-- TRIP_RAIL_RESTORE (R603): VDD_HUB has been in regulation for 1 ms after a trip, and boot stages 1 to 9 run. -/
  | tripRailRestore
  /-- SELECTION_EVALUATION (R66): Once per microsecond the service-time selection state machine is evaluated. -/
  | selectionEvaluation
  /-- WAIT_TO_RESTORE_EXPIRY (R67): The wait-to-restore time expires and the return to the better domain may begin. -/
  | waitToRestoreExpiry
  /-- RESIDUAL_REACHES_ZERO (R62): The slewed residual reaches zero and SLEW is cleared. -/
  | residualReachesZero (part : Part)
  /-- DOMAIN_WATCHDOG_EXPIRY (R60): No write has reached a domain within its watchdog period, so it is marked unqualified. -/
  | domainWatchdogExpiry (d : Fin 2)
  /-- PPS_SILENCE_TIMEOUT (R60): A bound 1PPS input has been silent for 1.5 s, so its domain is marked unqualified. -/
  | ppsSilenceTimeout (d : Fin 2)
  /-- PPS_PULSE (R599): A 1PPS pulse is stamped and paired with its ToD message. -/
  | ppsPulse (i : Fin 2) (phase : Fin 8)
  /-- TOD_MESSAGE (R599): A ToD message arrives and is checked against its pulse window. -/
  | todMessage (i : Fin 2) (msg : Bytes)
  /-- PTP_MESSAGE_RECEIVE (R71): A PTP event or general message is timestamped and handled, or discarded and counted. -/
  | ptpMessageReceive (port : Fin 17) (m : PtpMessage)
  /-- PTP_MESSAGE_SEND (R71): A port sends Sync, Delay_Req or Announce at its message rate. -/
  | ptpMessageSend (port : Fin 17) (kind : PtpSend)
  /-- ESMC_RECEIVE (R73): An ESMC message updates a candidate's quality level and the reference selection. -/
  | esmcReceive (port : Fin 16) (ql : Byte)
  /-- FREQ_REFERENCE_CHANGE (R73): A frequency candidate gains or loses signal and the time PLL reference is selected again. -/
  | freqReferenceChange (cand : Byte) (lossOfSignal : Bool)
  /-- TRIGGER_EDGE (R83): A trigger output edge occurs at its programmed instant. -/
  | triggerEdge (part : Part) (i : Fin 16)
  /-- CLAIM_SEND (R30): A claiming aggregator sends CLAIM on both paths every 2 µs. -/
  | claimSend
  /-- CLAIM_RECEIVE (R30): A CLAIM from the partner settles the roles by OID. -/
  | claimReceive (path : PairPath) (item : Bytes)
  /-- CLAIM_TIMEOUT (R30): No partner notice after 50 ms or 250 ms by PAIR_SEL, so the aggregator becomes active. -/
  | claimTimeout
  /-- HEARTBEAT_SEND (R486): Each aggregator sends a HEARTBEAT on both paths every 2 µs. -/
  | heartbeatSend
  /-- HEARTBEAT_RECEIVE (R486): A HEARTBEAT is taken for phase lock, selection state and role checks. -/
  | heartbeatReceive (path : PairPath) (item : Bytes)
  /-- TAKEOVER_NOTICE_RECEIVE (R30): A TAKEOVER notice is received and the receiver adopts standby and the TERM. -/
  | takeoverNoticeReceive (path : PairPath) (item : Bytes)
  /-- RELINQUISH_RECEIVE (R494): A RELINQUISH notice makes the standby declare the active lost at once. -/
  | relinquishReceive (path : PairPath) (item : Bytes)
  /-- ACTIVE_LOST (R494): Three heartbeat slots are missed on every path and the active is declared lost. -/
  | activeLost
  /-- MIRROR_ENTRY_RECEIVE (R489): The standby applies a mirror entry in MSEQ order and acknowledges it. -/
  | mirrorEntryReceive (entry : Bytes)
  /-- MIRROR_ACK_RECEIVE (R490): The active takes an ACK entry and releases withheld replies, effects and posts. -/
  | mirrorAckReceive (mseq : BitVec 64)
  /-- MIRROR_GAP_TIMEOUT (R491): The partner link has been out of service for 10 µs, so MIRRORED clears and withheld items are released. -/
  | mirrorGapTimeout
  /-- CHECKPOINT_START (R492): The active starts a checkpoint copy with PREPARE and its sections. -/
  | checkpointStart
  /-- CHECKPOINT_COMMIT_RECEIVE (R492): The standby checks the digests, makes the sections live and applies the held entries. -/
  | checkpointCommitReceive (c : Word) (digests : List (Nat × BitVec 64))
  /-- CHECKPOINT_ABORT (R493): A copy is discarded when the active fails or the partner link is down for 100 µs. -/
  | checkpointAbort
  /-- DEADLOCK_SCAN (R483): Every 10 µs the sync unit scans the wait-for relation for cycles. -/
  | deadlockScan
  /-- WAIT_TIMEOUT (R474): A blocking take's timeout expires and the waiter ends with reason 1. -/
  | waitTimeout (o : BitVec 15) (r : Requester) (tag : Word)
  /-- ORDERED_POST_APPLY (R482): An ordered post is applied once its covered sentences have completed. -/
  | orderedPostApply (r : Requester) (tag : Word)
  /-- ORDERED_POST_TIMEOUT (R482): The BEHIND sentence has not completed within 10 ms, so the post completes with ST_STATE. -/
  | orderedPostTimeout (r : Requester) (tag : Word)
  /-- HANG_HANDLING_ENTRY (R498): A watchdog, descriptor, table-ECC or crossing cause starts hang handling and last words. -/
  | hangHandlingEntry (cause : HangCause) (unit : Word)
  /-- LAST_WORDS_COMPLETE (R500): Last words are copied and whole-chip reset is asserted. -/
  | lastWordsComplete (partnerCopy : Bool)
  /-- READMISSION (R501): A returning aggregator is re-admitted as standby at the tick after its checkpoint COMMIT. -/
  | readmission
  /-- POR_RELEASE (R597): POR_N rises, the straps are sampled and the boot starts. -/
  | porRelease (straps : Straps)
  /-- BOOT_STAGE_COMPLETE (R296): A boot stage ends and the next begins, or a failure halts the boot. -/
  | bootStageComplete (r : StageResult)
  /-- MARGIN_PLAN_SCHEDULED (R509): The daily margin planner run starts at its second of the TAI day. -/
  | marginPlanScheduled
  /-- MARGIN_PLAN_COMPLETE (R510): The plan is complete and its changes are logged for application at the next tick. -/
  | marginPlanComplete
  /-- MARGIN_PLAN_APPLY (R511): At the tick, FSTEP increases take effect and the changed rails are written by PMBus. -/
  | marginPlanApply (acked : List (Nat × Bool))
  /-- FSTEP_DECREASE (R511): At the first tick 1 ms after the last rail write, FSTEP decreases take effect. -/
  | fstepDecrease
  /-- AGEING_SAMPLE (R507): At every whole second each powered island's monitors are sampled. -/
  | ageingSample (samples : List IslandSample)
  /-- MARGIN_REFRESH (R515): Each second the link and optical margins are refreshed and alarms recorded. -/
  | marginRefresh (readings : List MarginReading)
  /-- AGEING_WEEK (R514): At each week's end the ageing log is extended and end of life projected. -/
  | ageingWeek
  /-- SCREEN_TEST_OUTCOME (R521): A screen test ends on a cluster, yielding reports and retiring a failing cluster. -/
  | screenTestOutcome (r : ScreenOutcome)
  /-- RECORD_ACCEPT (R573): The recorder accepts a queued record, gives it a SEQ and places or drops it. -/
  | recordAccept
  /-- PERSISTENCE_WRITE (R577): The firmware programs queued persisted records into the flash persistence log. -/
  | persistenceWrite (n : Nat)
  /-- RELEASE_EXPIRY (R552): An outstanding key release expires 10 s after BEGIN. -/
  | releaseExpiry (id : Word)
  /-- KEY_REVOKE_EFFECTIVE (R556): At the revoke tick the context's models are unloaded and its sequences closed. -/
  | keyRevokeEffective (slot : BitVec 10)
  /-- DEBUG_AUTH_EXPIRY (R559): A debug authorisation reaches NOT_AFTER and hub trace sources are disabled. -/
  | debugAuthExpiry
  /-- PIN_EFFECTIVE (R529): A behaviour pin takes effect at its tick. -/
  | pinEffective (part : Part)
  /-- MERGE_FILL_THRESHOLD (R223): The merge-buffer fill crosses a threshold and sources are dropped or readmitted. -/
  | mergeFillThreshold (part : Part)
  /-- TRACE_RECORD_TIMEOUT (R268): A trace record is closed 1 µs after its first clause. -/
  | traceRecordTimeout (p : Fin 64)
  /-- TRACE_RECORD_RECEIVE (R229): The active writes a received trace record's clauses to the DTC stream's sink ring. -/
  | traceRecordReceive (p : Fin 64) (body : Bytes)
  /-- SINK_RING_POLL (R228): While a sink ring lacks room, the read offset is read again each microsecond. -/
  | sinkRingPoll (stream : Fin 65) (readOffset : BitVec 64)
  /-- MSPI_TRANSACTION (R608): An SPI transaction between a fall and a rise of MS_CS_N reads or writes words. -/
  | mspiTransaction (t : SpiTransaction)
  /-- FLASH_READ (R611): MSPI command 0x01 reads LEN flash bytes into the buffer. -/
  | flashRead
  /-- FLASH_PROGRAM (R611): MSPI command 0x02 programs LEN buffer bytes to a permitted erased range. -/
  | flashProgram (ok : Bool)
  /-- FLASH_ERASE (R611): MSPI command 0x03 erases a permitted 4 KiB sector under the erase journal. -/
  | flashErase (ok : Bool)
  /-- FUSE_OWNER (R611): MSPI command 0x04 programs the owner key hash and OWNER_LOCKED. -/
  | fuseOwner (vqps verified : Bool)
  /-- FUSE_DEBUG_DISABLE (R611): MSPI command 0x05 programs DEBUG_DISABLED. -/
  | fuseDebugDisable (vqps verified : Bool)
  /-- MSPI_COMMAND_DONE (R610): An MSPI command ends, sets DONE and RESULT, and drives MS_IRQ_N low. -/
  | mspiCommandDone
  /-- CHECK_VALUE_SCAN_COMPLETE (R583): A check-value unit 0 to 5 passes the last byte of its range, or meets a failed host read, and CHECK_VALUE sends its final reply. -/
  | checkValueScanComplete (unit : Fin 6) (data : Bytes) (failAddr : Option (BitVec 64))
  /-- COMPRESSION_ENGINE_COMPLETE (R584): A compression engine finishes, rejects or overflows its stream, and COMPRESS or DECOMPRESS sends its final reply. -/
  | compressionEngineComplete (engine : Fin 4) (source : Bytes)
  /-- STORE_PAGE_ZEROING_COMPLETE (R556): The zeroing of a context's freed model-store pages completes, the pages return to the pool and, on revoke, the memory key is destroyed and KEY_REVOKE completes. -/
  | storePageZeroingComplete (ctx : BitVec 10)
  /-- SELF_COUNTER_BANK_WRITTEN (R568): Writing a freeze into the tick or hold bank finishes, GQ_SC_GEN becomes even and release is allowed again. -/
  | selfCounterBankWritten (bank : Fin 2)
  /-- POLICER_REWRITE_COMPLETE (R458): The rewrite of the policer memory from the mirrored configuration ends, and contexts return from fallback metering to full policer buckets. -/
  | policerRewriteComplete
  /-- SLOT_RELOAD_COMPLETE (R402): A tree slot or weight region reloaded from the model store after a digest mismatch or an uncorrectable error is written and rescanned, and returns to service. -/
  | slotReloadComplete (t : Fin 4096) (bank : Fin 4) (slot : Fin 25)
  /-- TRACE_SOURCE_CYCLE (R218): A control core cycle presents enable, branch outcomes, an indirect target, PC or context, and the source emits BR, IND, CYC or FS clauses into its FIFO. -/
  | traceSourceCycle (part : Part) (src : Fin 68) (cy : TraceCycle)
  /-- TRACE_MERGER_TURN (R221): The merger takes up to 16 clauses from the next non-empty source FIFO, inserting SRC and TS, into the merge buffer. -/
  | traceMergerTurn (part : Part)
  /-- TAP_GROUP_CLOCK_EDGE (R173): At an adp_tap_clk edge of a live group, each code adds 0 to 4 increments to its counter. -/
  | tapGroupClockEdge (p : Fin 64) (g : Fin 64) (codes : List (BitVec 3))
  /-- POR_N_ASSERT (R603): POR_N is pulled low, giving the aggregator a cold reset that clears the key vault, sync objects and a trip shutdown. -/
  | porNAssert
  /-- PCIE_PERST_RELEASE (R288): PERST_N is deasserted and the PCIe endpoint becomes configuration-ready within 100 ms. -/
  | pciePerstRelease
  /-- TAP_INSTRUCTION_UPDATE (R613): The JTAG TAP loads an instruction, which acts only while TEST_EN is high and DEBUG_DISABLED is 0, and otherwise acts as BYPASS. -/
  | tapInstructionUpdate (ir : TapInstruction)
  /-- ESMC_SEND (R73): The firmware sends an ESMC message with the quality level on each fabric port at its G.8264 interval. -/
  | esmcSend (port : Fin 16)
  /-- TRB_UNMAPPED_READ (R162): A TRB read of an unmapped offset returns zero with adp_trb_err and increments ADP_TRB_ERR. -/
  | trbUnmappedRead (p : Fin 64) (off : BitVec 16)
deriving DecidableEq, Repr

end Sys2Proof
end

