-- ==== Sys2Proof/Config.lean ====
section
/-! DEFINITION. The free values: constants without a body, so that nothing can evaluate them and every statement holds for every
value. Each is applied to State's counter `free` (a fresh value each time) or to what it depends on. Log entries 20 to 29 name them. -/

namespace Sys2Proof.Config
open Sys2Proof

/-- What the random bit generator draws (R549, R551). -/
opaque random : Nat → Nat → Bytes
/-- The 96-byte ECDSA P-384 signature made with key k over data, at draw n (FIPS 186-5). -/
opaque sign : Nat → Bytes → Nat → Bytes
/-- Whether an ECDSA P-384 signature of data verifies under a public key. -/
opaque verify : Bytes → Bytes → Bytes → Bool
/-- The 96-byte public key of a drawn ephemeral key pair, and of the identity key derived from a device secret (R550). -/
opaque publicKey : Nat → Bytes
opaque identityKey : Bytes → Bytes
/-- SHA-384. -/
opaque sha384 : Bytes → Bytes
/-- Unwrapping of a key blob under the KEK of R551: none where the tag fails. -/
opaque unwrap : Nat → Bytes → Bytes → Option Bytes
/-- What an HBM stack holds at a physical address after reset n, until something is written there (R286). -/
opaque hbmByte : Nat → Nat → Byte
/-- How many transfers the crossing of a number can hold (R278). -/
opaque crossingDepth : Nat → Nat
/-- At draw n, in one cycle, of an engine: whether it has work queued, where State holds no such queue; whether its work advances; whether a reason
holds that the spec ties to no state (R363, R565, R566). -/
opaque engineQueued : Nat → Nat → Bool
opaque engineAdvances : Nat → Nat → Bool
opaque engineWaits : Nat → Nat → Nat → Bool
/-- The match a compressor tries at a byte, length in [15:0] and distance in [31:16], and a block's length less one: free within R267. -/
opaque deflateMatch : Nat → Nat → BitVec 32
opaque deflateBlock : Nat → Nat → BitVec 14
/-- The stream that a faulty compressor puts out at draw n; none where it works. The comparisons of R268 and R584 look for it. -/
opaque compressorFault : Nat → Option Bytes
/-- The FEC symbol corrections of a fabric port's lane, which no command brings, at draw n (R469). -/
opaque fecSymbols : Nat → Nat → BitVec 32
/-- Words that a command leaves open. -/
opaque freeWord : Nat → BitVec 64
/-- The key of a named die that has none (R416), by its OID. -/
opaque rankKey : Nat → BitVec 64
/-- The one-way delay in ns that the partner aggregator measures on its link to a DTC (R252, R262), at draw n. -/
opaque partnerDelay : Nat → BitVec 32
/-- The rate in ns/s at which a standby's phase lock takes up a measured offset (R69), at draw n. -/
opaque lockRate : Nat → BitVec 32
/-- The order of choices that an implementation makes (the alternate BMCA's port state, stepsRemoved; R71). -/
opaque bmcaState : Nat → Bytes → Byte

/-- Whether "the lowest row that holds" of R219 is the last of the table, or the first. -/
opaque lowestRowIsLast : Bool
/-- Whether LANE_SWAP of the lane that is the spare already gets ST_STATE, or changes nothing and gets ST_OK: R273 says both. -/
opaque retireSpareRefused : Bool

/-- The number by which a record names its n-th cause, where the spec lists the causes without numbers (R575). -/
opaque causeCode : Nat → Nat → Byte
/-- The increment that the firmware's servo sends to a DTC (R79), at draw n. -/
opaque servoIncrement : Nat → BitVec 64

/-- What a fuse word's six reads give when it is read again (R523), at draw n: word, read 2i normal and 2i + 1 margin of copy i. -/
opaque fuseRead : Nat → Nat → Nat → Word
/-- An island's delay coefficient in 0.01 ps/degC from the fuse calibration words, whose places the spec does not give (R508). -/
opaque delayCoefficient : Nat → BitVec 32
/-- The nominal clock in 10 kHz of an island whose clock a lane rate sets (R277). -/
opaque laneClock : Nat → BitVec 32
/-- The weeks remaining of a DTC channel whose week-0 value is 0 (R514). -/
opaque weeksOfZero : Nat → BitVec 16
/-- What a guard field shows of an island without a guard (R508, R532). -/
opaque noGuard : Nat → BitVec 16
/-- A flash byte of a region whose layout the spec does not give, at draw n (R605). -/
opaque flashByte : Nat → Nat → Byte

/-- The sign and payload of the NaN that a binary32 operation makes (R338 leaves them open). -/
opaque nanBits : Word

end Sys2Proof.Config
end

