-- ==== Sys2Proof/Machine/Tbl.lean ====
section
/-! DEFINITION. Sparse tables: the one form in which State keeps data found by a number (counters, routing entries,
tag-store slots, flash bytes). A table lists (key, value) pairs with keys strictly rising; what an unlisted key holds is given
where the table is read, and a write of that value removes the entry, so that equal tables are equal data. -/

namespace Sys2Proof

/-- A sparse table: keys strictly rising (`Tbl.wf`). -/
abbrev Tbl (α : Type) := List (Nat × α)

/-- The value listed at key k, if any. -/
def Tbl.find? {α : Type} (k : Nat) : Tbl α → Option α
  | [] => none
  | (k', v) :: t => if k' = k then some v else if k < k' then none else Tbl.find? k t

/-- The value at key k, d where k is not listed. -/
def Tbl.get {α : Type} (d : α) (k : Nat) (t : Tbl α) : α := (Tbl.find? k t).getD d

/-- Remove key k. -/
def Tbl.erase {α : Type} (k : Nat) : Tbl α → Tbl α
  | [] => []
  | (k', v) :: t => if k' = k then t else if k < k' then (k', v) :: t else (k', v) :: Tbl.erase k t

/-- List key k with value v. -/
def Tbl.insert {α : Type} (k : Nat) (v : α) : Tbl α → Tbl α
  | [] => [(k, v)]
  | (k', v') :: t =>
    if k' = k then (k, v) :: t else if k < k' then (k, v) :: (k', v') :: t else (k', v') :: Tbl.insert k v t

/-- Write v at key k of a table whose unlisted keys hold d. -/
def Tbl.set {α : Type} [DecidableEq α] (d : α) (k : Nat) (v : α) (t : Tbl α) : Tbl α :=
  if v = d then Tbl.erase k t else Tbl.insert k v t

/-- Keys strictly rising from lo on. -/
def Tbl.risingFrom {α : Type} (lo : Nat) : Tbl α → Bool
  | [] => true
  | (k, _) :: t => decide (lo ≤ k) && Tbl.risingFrom (k + 1) t

/-- The canonical form of a table whose unlisted keys hold d: keys strictly rising, no entry equal to d. -/
def Tbl.wf {α : Type} [DecidableEq α] (d : α) (t : Tbl α) : Bool :=
  Tbl.risingFrom 0 t && t.all (fun e => decide (e.2 ≠ d))

end Sys2Proof
end

