-- ==== Sys2Proof/Machine/StateTime.lean ====
section
/-! DEFINITION. State of fleet time (chapter 02): domains, the service timebase, triggers and captures, PTP and frequency
references, the DTC's copy of service time. A timebase is a count of 2^-48 ns since the PTP epoch (R51 splits it into SEC, NSEC
and a 48-bit fraction). Instants measured by R616 are counts of nanoseconds of the part's own duration clock. -/

namespace Sys2Proof.Machine
open Sys2Proof

/-- What a domain is bound to (R59). -/
inductive Binding where
  | unbound
  | ptp (domainNumber : Byte)
  | pps (input : Fin 2)
deriving DecidableEq, Repr

/-- One timebase domain, A or B (R51, R52, R59, R60, R90). -/
structure Domain where
  qualified : Bool := false
  hostDisciplines : Bool := false
  cls : Nat := 0
  binding : Binding := .unbound
  watchdogMs : Nat := 2000
  lastWrite : Nat := 0
  lastPulse : Nat := 0
  base : Nat := 0
  incr : BitVec 64 := 0x0001000000000000#64
  wasSet : Bool := false
deriving DecidableEq, Repr

/-- The states of the selection state machine (R66). -/
inductive SelState where
  | init
  | track
  | switch
  | hold
deriving DecidableEq, Repr

/-- The service timebase and its selection (R62 to R68). `followed` is the followed domain in TRACK, the target in SWITCH.
`svc` is service time, `validAt` the instant at which it became valid; `residual` is in 2^-48 ns; `slewRem` is the part of the slew not yet a whole unit, in 1/10^9 of one.
`lastEval` is the number of the microsecond after that of the last evaluation. `lock` is what the standby's phase lock has still to take up, in 2^-48 ns, at `lockRate` ns/s
(R69), `lockRem` the part of that not yet a whole unit. -/
structure Selection where
  st : SelState := .init
  followed : Fin 2 := 0
  mode : Nat := 0
  preferred : Fin 2 := 0
  wtrSec : Nat := 60
  slewRate : Nat := 100
  svc : Nat := 0
  validAt : Nat := 0
  valid : Bool := false
  hold : Bool := false
  slew : Bool := false
  residual : Int := 0
  slewRem : Nat := 0
  runIncr : Int := 281474976710656
  holdQual : Nat := 0
  betterSince : Option Nat := none
  wtrExpired : Bool := false
  forced : Bool := false
  lastEval : Nat := 0
  lock : Int := 0
  lockRate : Nat := 0
  lockRem : Nat := 0
deriving DecidableEq, Repr

/-- A trigger program as written (R83). -/
structure TrigProg where
  mode : Nat := 0
  activeLow : Bool := false
  start : Stamp := ⟨0, 0, 0, 0⟩
  periodNs : Word := 0
  periodFrac : BitVec 16 := 0
  width : Word := 0
deriving DecidableEq, Repr

/-- A program that a later one replaces (R85): the index of its next edge, and the instant from which its successor governs. -/
structure OldProg where
  prog : TrigProg
  next : Nat
  until_ : Nat
deriving DecidableEq, Repr

/-- A trigger output: the program in force, the instant (1/65,536 ns of service time) from which it governs, the index of its
next edge, the replaced programs that may still have edges, oldest first, and the ends of the pulses in progress (R85). -/
structure Trigger where
  prog : TrigProg := {}
  governsFrom : Nat := 0
  nextEdge : Nat := 0
  olds : List OldProg := []
  pulses : List Nat := []
  level : Bool := false
  waiting : Bool := false
deriving DecidableEq, Repr

/-- A capture input (R87): chosen edges [0] rising, [1] falling, the queue of up to 16 stamps, the overflow count. -/
structure Capture where
  edges : Nat := 0
  queue : List Stamp := []
  overflow : Nat := 0
deriving DecidableEq, Repr

/-- PTP on one port (R71, R72, R90). `params` are the bytes 0 to 7 of SET_PTP_PORT as set. -/
structure PtpPort where
  params : Bytes := [0, 0, 0, 128, 0, 0, 0, 0]
  state : Byte := 3
  stepsRemoved : Byte := 0
  discards : Nat := 0
  pathDelay : Int := 0
  offset : Int := 0
  t1 : Int := 0
  t2 : Int := 0
  t3 : Int := 0
  sent : Nat := 0
deriving DecidableEq, Repr

/-- One frequency reference candidate (R73): its loss of signal and its quality level. -/
structure FreqCand where
  los : Bool := false
  ql : Byte := 0
deriving DecidableEq, Repr

/-- An asymmetry register (R75): the value written last, the value that stamps use, and the values written since with the instants from which
stamps use them, oldest first (R76). -/
structure Asym where
  reg : Word := 0
  old : Word := 0
  changes : List (Nat × Word) := []
deriving DecidableEq, Repr

/-- One 1PPS input and its ToD (R599): pulses, discards, and the stamp of the last pulse awaiting its message. -/
structure PpsInput where
  pulses : Nat := 0
  lastStamp : Option Stamp := none
  lastAt : Nat := 0
  unused : Nat := 0
  discarded : Nat := 0
  lastSeconds : BitVec 64 := 0
deriving DecidableEq, Repr

/-- Time of the aggregator. `clock` is the duration clock of R616 in 2^-48 ns. -/
structure AggTime where
  clock : Nat := 0
  domA : Domain := {}
  domB : Domain := {}
  sel : Selection := {}
  utcOffset : BitVec 16 := 0
  asym : Tbl Asym := []
  trig : Tbl Trigger := []
  cap : Tbl Capture := []
  ptp : Tbl PtpPort := []
  freqQl : Bool := false
  freqList : List Byte := [255]
  freq : Tbl FreqCand := []
  freqSel : Byte := 255
  pps : Tbl PpsInput := []
  latch : Stamp := ⟨0, 0, 0, 0⟩
  esmcSent : Nat := 0
deriving DecidableEq, Repr

/-- The DTC's copy of service time (R77 to R80). `cycle` counts the nanoseconds of the current adp_ref_clk period, `validAt` is the instant at
which the copy became valid. The slew rate of R79 stays at its default: R79 calls it settable, and no verb or register of the spec sets it (DESIGN
CHOICE, log entry 301). -/
structure DtcTime where
  clock : Nat := 0
  cycle : Nat := 0
  time : Nat := 0
  incr : BitVec 64 := 0
  valid : Bool := false
  validAt : Nat := 0
  hold : Bool := false
  residual : Int := 0
  slewRate : Nat := 1000
  slewRem : Nat := 0
  lastRecord : Nat := 0
  recordSinceHold : Bool := false
  dom : Nat := 2
  qual : Nat := 0
  srcHold : Bool := false
  latch : Stamp := ⟨0, 0, 0, 0⟩
  asymA : Asym := {}
  asymB : Asym := {}
  trig : Tbl Trigger := []
  cap : Tbl Capture := []
deriving DecidableEq, Repr

end Sys2Proof.Machine
end

