-- ==== Sys2Proof/Machine/StateCore.lean ====
section
/-! DEFINITION. State of the verb language (chapter 03), the epoch and the profile (chapter 01), the device windows and queue
pairs (chapter 08), security (chapter 16) and observability (chapter 17). Durations are in nanoseconds of the duration clock of
R616; instants of service time are in 2^-48 ns. -/

namespace Sys2Proof.Machine
open Sys2Proof

/-! ## Outputs -/

/-- Where something that the device emits goes. -/
inductive Chan where
  | reply (part : Part) (req : Requester)
  | hostWrite (addr : Nat)
  | hostRead (addr len : Nat)
  | msix (vector : Nat)
  | ethernet (port : Nat) (cls : Nat) (dst : Nat) (vlan : Option Nat) (etherType : Nat)
  | partnerLink (kind : Nat)
  | dtcLink (side : Side) (p : Fin 64) (l : LinkId)
  | laneWords (side : Side) (p : Fin 64) (l : LinkId) (lane : Nat)
  | linkControl (side : Side) (p : Fin 64) (l : LinkId) (op : Nat)
  | dtcVerb (side : Side) (p : Fin 64) (l : LinkId)
  | lanes (w : LanePlace) (op : Nat) (lane : Nat)
  | notice (path : PairPath)
  | mirror (mseq : Nat) (typ : Nat)
  | hostMemory (p : Fin 64) (addr len : Nat)
  | hubMemory (space : Nat) (addr len : Nat)
  | pmbus (rail : Nat) (tenthMv : Nat)
  | trigger (part : Part) (i : Nat) (level : Bool)
  | ptp (port : Nat) (kind : PtpSend)
  | esmc (port : Nat)
  | dtcReset (p : Fin 64) (soft : Bool)
  | dtcIrq (p : Fin 64) (bit : Nat)
  | thermtrip (low : Bool)
  | mspiIrq (low : Bool)
  | spi
  | chipReset
  | lastWords (complete : Bool)
  | trbRead (p : Fin 64) (err : Bool)
  | trbWrite (p : Fin 64) (err : Bool)
  | barRead (off : Nat)
  | copyPage (m : ModelKey)
deriving DecidableEq, Repr

/-- One thing emitted: where to, and its bytes. -/
structure Output where
  chan : Chan
  data : Bytes := []
deriving DecidableEq, Repr

/-! ## The verb language -/

/-- A final reply (R96): status, results and the CSTAMP count. -/
structure Reply where
  status : Nat
  results : Bytes := []
  cstamp : Nat := 0
deriving DecidableEq, Repr

/-- How far a sentence of a tag window has come. `admitted`: past step 7, not yet started (a transport's row took it in).
`held`: its effect is withheld until mirror entry `mseq` is acknowledged (R490). `running`: started, no final reply yet.
`forwarded`: sent to the DTC of port p under forwarding tag `ftag`. `ended`: its final reply is stored and waits for its mirror entry (R490) or for
room in the completion ring (R123), so that it is still in flight (R105, R107). `done`: its final reply has been sent. -/
inductive Phase where
  | admitted
  | held (mseq : Nat)
  | running
  | forwarded (p : Fin 64) (ftag : Nat)
  | ended
  | done
deriving DecidableEq, Repr

/-- A queue pair's result buffer for one sentence (R121). -/
structure ResultBuffer where
  addr : Nat
  size : Nat
  writable : Bool
  sqHead : Nat
deriving DecidableEq, Repr

/-- One entry of a tag window (R104 to R108). `since` is the nanosecond at which it passed step 7, `startCs` that instant as a
CSTAMP count (R105). -/
structure TagEntry where
  x : Sentence
  verb : Nat
  phase : Phase
  since : Nat
  startCs : Nat
  reply : Option Reply := none
  buf : Option ResultBuffer := none
  link : Option LinkId := none
deriving DecidableEq, Repr

/-- Whom a later final reply answers: the requester and its tag. -/
structure Ticket where
  req : Requester
  tag : Word
deriving DecidableEq, Repr

/-- A staged set (R110): its number, its changes as verb code and sentence in staging order, and the nanosecond of its opening
or last joining. -/
structure StageSet where
  num : Nat
  changes : List (Nat × Sentence) := []
  last : Nat
deriving DecidableEq, Repr

/-- A committed set waiting for its tick (R113): its COMMIT, when that was accepted, the not-before instant, and after
preparation its nanosecond and the refusal status of each change (0 where not refused). -/
structure CommitWait where
  set : StageSet
  ticket : Ticket
  accepted : Nat
  notBefore : Nat
  prepared : Option (Nat × List Nat) := none
deriving DecidableEq, Repr

/-- The staging state of one requester (R110 to R116). -/
structure Staging where
  opened : Option StageSet := none
  committed : Option CommitWait := none
  expired : Bool := false
deriving DecidableEq, Repr

/-- The saturating counts of one transport (R133, GET_VERB_COUNTERS). -/
structure VerbCounters where
  hcrc : Nat := 0
  crc : Nat := 0
  busy : Nat := 0
  violations : Nat := 0
  stageExpired : Nat := 0
  frames : Nat := 0
deriving DecidableEq, Repr

/-- An EtherType in force and the one that replaces it from an instant on (R125). -/
structure EtherSetting where
  cur : Nat := 0x88B5
  next : Nat := 0x88B5
  since : Nat := 0
deriving DecidableEq, Repr

/-- A sentence forwarded to a DTC and not yet answered (R126, R127, R258): its forwarding tag, whom the reply answers, the link
it went on, when it was sent, its verb, its bytes as sent, and whether ST_ACCEPTED has come back. -/
structure Forwarded where
  ftag : Nat
  ticket : Ticket
  link : LinkId
  sentAt : Nat
  since : Nat
  verb : Nat
  bytes : Bytes
  answered : Bool := false
deriving DecidableEq, Repr

/-- A sentence that the aggregator forwards to several DTCs and answers once all have replied (R184): the ticket, the ports still
to answer with the forwarding tags used, the first failing status in port order with its port, and for a staged change the CSTAMP count of its
tick (R98). -/
structure Gather where
  ticket : Ticket
  waits : List (Nat × Nat)
  failed : Option (Nat × Nat) := none
  results : Bytes := []
  tickCs : Option Nat := none
deriving DecidableEq, Repr

/-- The verb language at the aggregator. `tags` is the tag store, newest first. `waiting` are the Ethernet sentences that wait to
be fetched, oldest first. `transit` are tags of sentences passed on for another OID, with the OID their replies go to (R449); `transitRq` those of requests. -/
structure VerbState where
  tags : List TagEntry := []
  staging : Tbl Staging := []
  setNumber : Nat := 1
  counters : Tbl VerbCounters := []
  etFabric : EtherSetting := {}
  etMgmt : EtherSetting := {}
  waiting : List (Requester × Bytes) := []
  nextFtag : Tbl Nat := []
  forwarded : Tbl (List Forwarded) := []
  keptOid : Tbl Nat := []
  knownOid : Tbl Nat := []
  violationAt : Tbl Nat := []
  transit : List (Word × Word) := []
  transitRq : List (Word × Word) := []
  gathers : List Gather := []
deriving DecidableEq, Repr

/-! ## Epoch and profile -/

/-- The four profiles (R31). -/
inductive Profile where
  | w
  | b
  | l
  | h
deriving DecidableEq, Repr

/-- A pending epoch change (R19, R20): the epoch, its activation second, its SET_EPOCH and those it replaced. -/
structure PendingEpoch where
  epoch : Nat
  second : Nat
  tickets : List Ticket
deriving DecidableEq, Repr

/-- A pending profile change (R33, R37): the profile, the nanosecond acceptance + 2 us from which a tick applies it, the same as a service instant
where time was valid (0 otherwise; R38), its ticket. -/
structure PendingProfile where
  profile : Profile
  due : Nat
  at_ : Nat := 0
  ticket : Ticket
deriving DecidableEq, Repr

/-- Epoch, profile and thermal hold. `tj` is in 0.125 degC per island. `hotNs` is the nanosecond at which the hottest island crossed
100 degC (R39), `coolNs` that at which it fell to 95 degC (R40). `powerAvg` is in 0.1 W; `lendSlowed` says that lend clocks are lowered, `capSlowed`
that the 380 W cap of profile H holds clocks down (R32). `former` is the profile in force before H; `passed` gives the clusters that passed from
telemetry to lend with the tick, in ns, at which they did (R35). -/
structure SysState where
  epoch : Nat := 10000
  pendingEpoch : Option PendingEpoch := none
  profile : Profile := .b
  commanded : Profile := .b
  lastOther : Profile := .b
  thermal : Bool := false
  pendingProfile : List PendingProfile := []
  tj : Tbl (BitVec 16) := []
  hotNs : Option Nat := none
  coolNs : Option Nat := none
  lastTick : Nat := 0
  powerAvg : Nat := 0
  lendSlowed : Bool := false
  capSlowed : Bool := false
  former : Profile := .b
  passed : Tbl Nat := []
deriving DecidableEq, Repr

/-! ## Device windows, queue pairs, power domains -/

/-- One queue pair (R294, R295). `inFlight` counts the fetched sentences whose completion is not written; `held` are completions
that wait for room (R123): results write and completion entry. -/
structure Qp where
  sqBase : Nat := 0
  cqBase : Nat := 0
  msiEn : Bool := false
  enable : Bool := false
  enabled : Bool := false
  err : Bool := false
  errKind : Nat := 0
  sqHead : Nat := 0
  sqTail : Nat := 0
  cqHead : Nat := 0
  cqPos : Nat := 0
  phase : Bool := true
  stopped : Bool := false
  inFlight : Nat := 0
  held : List (Nat × Bytes × Bytes) := []
deriving DecidableEq, Repr

/-- An entry of the MSI-X table of BAR2 and its pending bit (R288). The layout and the mask bit set at reset are those of PCI Express (PRESUMED, log
entry 323). -/
structure MsixEntry where
  addr : BitVec 64 := 0
  data : Word := 0
  control : Word := 1
  pending : Bool := false
deriving DecidableEq, Repr

/-- The device window, the queue pairs and the power domains (R279, R282, R291, R294 to R296). `domains` has bit n for switched
domain n; `reload` the clusters that wait for their trees; `powerUp` those the controller still has to switch on. `irqAt` is the nanosecond of the
last event of each bit of GQ_IRQ_STATUS (R291). -/
structure DevState where
  oid : Word := 0
  scratch : Word := 0
  irqStatus : BitVec 5 := 0
  irqEn : BitVec 5 := 0
  irqAt : Tbl Nat := []
  msix : Tbl MsixEntry := []
  fwReady : Bool := false
  service : Bool := false
  fault : Nat := 0
  stage : Nat := 0
  halted : Bool := false
  qp : Tbl Qp := []
  rotation : Nat := 0
  ethTurn : Bool := false
  domains : BitVec 96 := 0
  reload : BitVec 64 := 0
  powerUp : BitVec 64 := 0
  powerUps : Tbl Nat := []
  pcieUp : Bool := false
  pinned : Nat := 0
  pinNext : Option (Nat × Nat × List Ticket) := none
  dtcPins : Tbl Nat := []
deriving DecidableEq, Repr

/-! ## Security -/

/-- A requester entry of the access map (R542). -/
structure MapRequester where
  kind : Nat
  planes : BitVec 3
  ctx : Nat
  first : Nat
  last : Nat
deriving DecidableEq, Repr

/-- A window entry of the access map (R542): `range` holds bytes 4 to 11. -/
structure MapWindow where
  ctx : Nat
  kind : Nat
  rights : BitVec 2
  range : BitVec 64
deriving DecidableEq, Repr

/-- One slot of the key vault (R549). Keys are named by what made them: `weightKey` is the unwrapped key, `memKey` the draw of
the random bit generator that gave the memory key. -/
structure KeySlot where
  keyId : Word := 0
  weightKey : Bytes := []
  memKey : Option Nat := none
  state : Nat := 0
  revokeDue : Nat := 0
  revokeTick : Nat := 0
  unloaded : Nat := 0
  ticket : Option Ticket := none
deriving DecidableEq, Repr

/-- An outstanding key release (R551, R552). `draw` names the ephemeral key pair. -/
structure Release where
  id : Word
  ctx : BitVec 10
  since : Nat
  draw : Nat
deriving DecidableEq, Repr

/-- A debug authorisation in force (R559). -/
structure DebugAuth where
  scope : Byte
  notAfter : Nat
deriving DecidableEq, Repr

/-- Security state (chapter 16). `failedWords` are access-map memory words that failed in both copies, as (table, entry);
`auxKey` is the screen-pack key of the running firmware. -/
structure SecState where
  requesters : List MapRequester := []
  windows : List MapWindow := []
  mapVersion : Word := 0
  defaultMap : Bool := false
  locked : Bool := false
  failedWords : List (Nat × Nat) := []
  vault : Tbl KeySlot := []
  releases : List Release := []
  m0 : Bytes := []
  m1 : Bytes := []
  m2 : Bytes := []
  m3 : Bytes := []
  m4 : Bytes := []
  svn1 : Nat := 0
  svn2 : Nat := 0
  level : Byte := 3
  auxKey : Bytes := []
  boots : Nat := 0
  debugAuth : Option DebugAuth := none
  lastSerial : Option Nat := none
deriving DecidableEq, Repr

/-! ## Observability -/

/-- A record as a subsystem raises it (R572 without SEQ). -/
structure RawRecord where
  stamp : Stamp
  severity : Nat
  source : Nat
  code : Nat
  ctx : Nat
  flags : Nat
  oid : Nat
  data : Bytes
deriving DecidableEq, Repr

/-- A record that the recorder holds. -/
structure Record where
  seq : Word
  raw : RawRecord
deriving DecidableEq, Repr

/-- What an engine counts of its island's cycles (R565): those in which its work advanced, the stalled ones by reason code, and the code of the last
stalled cycle. -/
structure EngineCount where
  busy : Nat := 0
  stalls : Tbl Nat := []
  last : Nat := 0
deriving DecidableEq, Repr

/-- One bank of the self counters (R568): the counts copied, the domains on and the power-up counts at the freeze. -/
structure SelfBank where
  valid : Bool := false
  stamp : Nat := 0
  counts : Tbl EngineCount := []
  cycles : Tbl Nat := []
  domains : BitVec 96 := 0
  powerUps : Tbl Nat := []
  previous : Tbl Nat := []
  writing : Bool := false
deriving DecidableEq, Repr

/-- A scan of a check-value unit 0 to 5 (R582, R583): its sentence and parameters. -/
structure UnitScan where
  ticket : Ticket
  params : Bytes
deriving DecidableEq, Repr

/-- Observability state (chapter 17). `queues` are the 13 source queues, `early` the early buffer, `recs` the held records,
newest first, `pqueue` the persistence queue, oldest first, `plog` the persistence log in flash, newest first. `counts` are the engines' counts since
their islands were powered up, `cycles` the islands' cycles since then, in 1/100,000 of a cycle. -/
structure ObsState where
  nextSeq : Word := 1
  queues : Tbl (List RawRecord) := []
  early : List RawRecord := []
  recs : List Record := []
  cursor : Word := 0
  drops : Nat := 0
  qdrops : Nat := 0
  pdrops : Nat := 0
  pqueue : List Record := []
  plog : List Record := []
  gen : Word := 0
  counts : Tbl EngineCount := []
  cycles : Tbl Nat := []
  tick : SelfBank := {}
  hold : SelfBank := {}
  held : Bool := false
  holdCause : BitVec 2 := 0
  holdSeverity : Nat := 0
  holdSeq : Word := 0
  ignored : Nat := 0
  lastFreeze : Nat := 0
  units : Tbl (Option UnitScan) := []
  engines : Tbl (Option UnitScan) := []
deriving DecidableEq, Repr

end Sys2Proof.Machine
end

