-- ==== Sys2Proof/Machine/StateDtc.lean ====
section
/-! DEFINITION. State of a DTC (chapters 04 to 07), of one end of a telemetry link, of a trace merger and its sources, and of
the aggregator's side of a DTC port. SEQ numbers are 32-bit; instants of durations are in nanoseconds (R616). -/

namespace Sys2Proof.Machine
open Sys2Proof

/-! ## Links -/

/-- GET_LINK_STATUS byte 0 (R272). A held link is retraining within its first 100 us (R253). -/
inductive LinkState where
  | down
  | training
  | inService
  | held
  | test
deriving DecidableEq, Repr

/-- One physical lane of a link end. As received: lock, eye margin, margin alarm, PRBS31 errors and the register of the PRBS31 checker (R159), the
PHY latencies sampled at lock, the consecutive training blocks found, and the role its last block named. As sent: the register of its PRBS31
sequence (R238), which starts with all bits set (DESIGN CHOICE, log entry 321). -/
structure Lane where
  lock : Bool := false
  margin : Byte := 0
  alarm : Bool := false
  prbsErrors : Nat := 0
  prbsRx : Option (BitVec 31) := none
  prbsTx : BitVec 31 := 0x7FFFFFFF
  txlat : BitVec 16 := 0
  rxlat : BitVec 16 := 0
  blocks : Nat := 0
  role : Nat := 3
deriving DecidableEq, Repr

/-- Which physical lane plays which role (R236). -/
structure LaneMap where
  even : Nat := 0
  odd : Nat := 1
  spare : Nat := 2
deriving DecidableEq, Repr

/-- A swap in progress at one end (R265): none; its receiver asked for lane x; it mirrors; its transmitter drives x on the spare. -/
inductive Swap where
  | none
  | asked (lane : Nat) (ticket : Option Ticket)
  | mirroring (lane : Nat) (since : Nat) (ticket : Option Ticket)
deriving DecidableEq, Repr

/-- A record whose segments a link end is sending: the whole record, the bytes of it sent, and for a trace record its number. -/
structure TxOpen where
  data : Bytes
  sent : Nat
  num : Nat := 0
deriving DecidableEq, Repr

/-- One end of a telemetry link, as receiver and as transmitter (R236 to R246, R253, R263 to R265). `scrEven` and `scrOdd` are the scramblers of the
words it sends (R237); `firstIdle`: its first frame after training is still to be sent (R239). -/
structure LinkEnd where
  st : LinkState := .down
  testMode : Nat := 0
  outOfService : Bool := false
  heldSince : Nat := 0
  lanes : Tbl Lane := []
  rxMap : LaneMap := {}
  txMap : LaneMap := {}
  aligned : Bool := false
  alignedIn : Nat := 0
  good : BitVec 3 := 7
  framing : Bool := false
  firstIdle : Bool := false
  scrEven : BitVec 58 := 0
  scrOdd : BitVec 58 := 0
  beaconOk : Bool := false
  startOk : Bool := false
  hcrc : Nat := 0
  fcrc : Nat := 0
  ftype : Nat := 0
  delineation : Nat := 0
  retrains : Nat := 0
  swaps : Nat := 0
  window : Nat := 0
  limit : Nat := 64
  windowIndex : Nat := 0
  hcrcRun : Nat := 0
  rxSwap : Swap := .none
  txSwap : Swap := .none
  ignoredSwaps : Nat := 0
  autoSwap : Bool := true
  threshold : Nat := 32
  rxSeq : Option Word := none
  txSeq : Word := 0
  records : Tbl Bytes := []
  incomplete : Nat := 0
  badSegments : Nat := 0
  ctrlOut : List Bytes := []
  txOpen : Tbl TxOpen := []
deriving DecidableEq, Repr

/-- A BEACON as the DTC accepted it (R260), with the nanosecond of its arrival. -/
structure BeaconIn where
  active : Bool
  term : Word
  epoch : Nat
  pending : Nat
  activation : Nat
  floor : Nat
  oid : Word
deriving DecidableEq, Repr

/-- What the DTC keeps per link besides the link end: journal progress (R248, R252), START owed (R255), echo (R261), records of
class VERB waiting, the latest BEACON. `sentTo` is the SEQ after the last frame sent first on this link; `partnerDelay` is the draw of the one-way
delay that the partner has measured on the link since it returned an echo there, none before (R252). -/
structure DtcLink where
  e : LinkEnd := {}
  resume : Option Word := none
  resetOwed : Bool := true
  sentTo : Word := 0
  acked : Word := 0
  ackedAt : Nat := 0
  sentAt : Tbl Nat := []
  again : List Word := []
  echo : Option (Byte × Stamp) := none
  echoAt : Nat := 0
  partnerDelay : Option Nat := none
  replies : List Bytes := []
  sentences : List Bytes := []
  traceOut : List (Nat × Bytes) := []
  beacon : Option BeaconIn := none
  futureAcks : Nat := 0
  optPower : BitVec 16 := 0
  optValid : Bool := false
deriving DecidableEq, Repr

/-- A journalled frame: its SEQ and its payload of 244 bytes or fewer (R249). -/
structure JFrame where
  seq : Word
  payload : Bytes
deriving DecidableEq, Repr

/-- A record body that waits to be framed (R247): its class, and what is left of its record; `started` once its FIRST segment is
built; `reserved` frames are held for it (R254). -/
structure Waiting where
  cls : Nat
  data : Bytes
  started : Bool := false
  reserved : Nat := 0
deriving DecidableEq, Repr

/-- The journal (R247 to R255). `frames` are those not released, oldest first; `flagsSeen` is FLAGS [15:8] of the time copy at the last cycle
(R246). -/
structure Journal where
  running : Bool := false
  nextSeq : Word := 0
  frames : List JFrame := []
  waiting : List Waiting := []
  baseOwed : Bool := true
  flagsSeen : Nat := 0
  base : Option Stamp := none
  resent : Nat := 0
  dropped : Nat := 0
  compFail : Nat := 0
deriving DecidableEq, Repr

/-! ## Trace -/

/-- A clause on its way (R208, R210): its bytes, the CSTAMP count of its cycle (R214), the flushes that made it, and whether it
begins a full stop (its OVF, its CYC or the FS itself). -/
structure TraceClause where
  bytes : Bytes
  cs : Nat := 0
  marks : List Nat := []
  fs : Bool := false
deriving DecidableEq, Repr

/-- One trace source (R207, R218 to R226). `openBr` are the outcomes collected, oldest first, with the cycles of its first and last
outcome and the count of the last; `lastClause` is the cycle of the previous BR, IND or FS; `clauses` counts since the last FS, taken
at nanosecond `lastFs`; `dropped` holds the reason for which a drop began and the clauses lost, `dropAt` the nanosecond at which it began, `readmit`
that it ends at the next traced cycle; `flushOwed` are the flushes whose full stop is due at the end of the next cycle; `lost` counts since reset. -/
structure TraceSource where
  enabled : Bool := false
  cyc : Bool := false
  prio : Nat := 0
  openBr : List Bool := []
  brFirst : Nat := 0
  brLast : Nat := 0
  brAt : Nat := 0
  cycle : Nat := 0
  lastClause : Nat := 0
  lastTarget : BitVec 64 := 0
  lastCtx : Word := 0
  lastPc : BitVec 64 := 0
  prevEn : Bool := false
  clauses : Nat := 0
  lastFs : Nat := 0
  fifo : List TraceClause := []
  dropped : Option (Nat × Nat) := none
  dropAt : Nat := 0
  readmit : Bool := false
  flushOwed : List Nat := []
  enableOwed : Bool := false
  lost : Nat := 0
deriving DecidableEq, Repr

/-- A TRACE_FLUSH not yet complete: its mark, the clauses it made, and the trace records that carry some of them and are not sent. -/
structure FlushWait where
  ticket : Ticket
  mark : Nat
  count : Nat
  recs : List Nat := []
deriving DecidableEq, Repr

/-- A merger with its sources and its merge buffer (R208, R221 to R224). `buffer` holds clauses, oldest first; `credit` is what the
drain may still take, in quarter bytes; `lastTs` the nanosecond of the last TS. `record` is the body being built at a DTC without its
header (R227, R268), `unsent` the clause bytes of the records closed and not yet sent on any link. -/
structure TraceUnit where
  sources : Tbl TraceSource := []
  pointer : Nat := 0
  current : Option Nat := none
  lastTs : Option Nat := none
  buffer : List TraceClause := []
  credit : Nat := 0
  fillFloor : Nat := 0
  floor : Nat := 0
  recSeq : Nat := 0
  record : Bytes := []
  recMarks : List Nat := []
  recordAt : Nat := 0
  unsent : List (Nat × Nat) := []
  bytesSent : Nat := 0
  flush : List FlushWait := []
  nextMark : Nat := 1
deriving DecidableEq, Repr

/-- A sink ring in tray-host memory (R228 to R230); `ovfs` are the reasons of the OVFs to insert before the next record. `src` is the source to which
the stream's next clause belongs, as far as the clauses so far tell; `all`: the ring's last SRC is an inserted SRC 255 (R217). -/
structure Sink where
  addr : Nat := 0
  size : Nat := 0
  pair : Nat := 0
  wr : Nat := 0
  rd : Nat := 0
  ovfs : List Nat := []
  src : Option Nat := none
  all : Bool := false
  inserted : Nat := 0
  written : Nat := 0
  lastSeq : Option Nat := none
deriving DecidableEq, Repr

/-! ## Collection -/

/-- A counter set (R179): ranges as (first, count), set ID, capture freeze input (255 none). -/
structure CounterSet where
  ranges : List (Nat × Nat) := [(0, 4096)]
  id : Nat := 0
  capture : Nat := 255
deriving DecidableEq, Repr

/-- The reduction configuration (R187, R192). -/
structure Reduction where
  id : Nat := 0
  w : Nat := 0
  ranges : List (Nat × Nat) := []
  periodUs : Nat := 100
deriving DecidableEq, Repr

/-- One histogram metric's configuration (R189). -/
structure HistConfig where
  kind : Nat := 0
  shift : Nat := 0
  source : Nat := 0
  code : Nat := 0
deriving DecidableEq, Repr

/-- One histogram being filled (R189 to R191). -/
structure Histogram where
  buckets : Tbl Nat := []
  samples : Nat := 0
  epochs : Nat := 0
  w : Nat := 0
deriving DecidableEq, Repr

/-- Per listed counter of a window: least, greatest and sum of the deltas (R187). -/
structure WindowEntry where
  least : Nat := 0
  greatest : Nat := 0
  sum : Nat := 0
deriving DecidableEq, Repr

/-- A configuration change and the service instant of its activation, none while time is not valid (R180). -/
inductive ConfigChange where
  | set (c : CounterSet)
  | reduction (r : Reduction)
  | histogram (metric : Nat) (h : HistConfig)
deriving DecidableEq, Repr

/-- One sensor channel (R147, R148, R193, R194). -/
structure Sensor where
  word : BitVec 20 := 0
  stale : Bool := false
  lastAt : Nat := 0
  seen : Nat := 0
  least : BitVec 16 := 0
  greatest : BitVec 16 := 0
  lastValue : BitVec 16 := 0
  alarmSeen : Bool := false
  faultSeen : Bool := false
  alarmPending : Bool := false
  alarmed : Bool := false
deriving DecidableEq, Repr

/-- An event-ring entry (R195): the side word's AGED bit, the whole count, code and data. -/
structure RingEntry where
  aged : Bool
  count : Nat
  code : BitVec 16
  data : BitVec 16
deriving DecidableEq, Repr

/-- The event ring of one host unit: entries newest first. -/
structure EventRing where
  entries : List RingEntry := []
  total : Nat := 0
deriving DecidableEq, Repr

/-- The hang detector (R198, R199). `relation` is the wait-for relation found last under the condition, as (queue, waits on). -/
structure HangDetector where
  relation : List (Nat × Nat) := []
  run : Nat := 0
  raised : Bool := false
  holds : Bool := false
  seq : Nat := 0
  record : Bytes := []
  lastEval : Nat := 0
deriving DecidableEq, Repr

/-- The configuration of a check-value unit (R200). -/
structure CheckConfig where
  w : Nat := 32
  poly : Nat := 0x1EDC6F41
  init : Nat := 0xFFFFFFFF
  xor : Nat := 0xFFFFFFFF
  refin : Bool := true
  refout : Bool := true
deriving DecidableEq, Repr

/-- A running scan of host memory (R202, R203): the address of the next byte wanted, bytes done, and the unit's register. -/
structure Scan where
  ticket : Ticket
  start : Nat
  len : Nat
  done : Nat
  reg : Nat
  nextReq : Nat
deriving DecidableEq, Repr

/-- A host-memory read request outstanding (R152): address, beats, beats returned, when it was issued or last answered, and whether its
timeout has been taken (R153). -/
structure HmRequest where
  addr : Nat
  beats : Nat
  got : Nat
  since : Nat
  late : Bool := false
deriving DecidableEq, Repr

/-- The counters and the freeze bank (R173 to R178); `frozenAt` and `tickedAt` are the cycles of the last off-tick and tick freeze,
`lastTick` and `lastIdx` the instant of the last tick and its EPOCH_INDEX. -/
structure Counting where
  counters : Tbl Nat := []
  freeze : Tbl Nat := []
  freezeCs : Nat := 0
  freezeKind : Nat := 0
  freezeSet : Nat := 0
  previous : Tbl Nat := []
  firstTick : Bool := true
  newSet : Bool := true
  frozenAt : Option Nat := none
  frozenIn : Nat := 255
  tickedAt : Option Nat := none
  snapshotPending : Bool := false
  snapshot : Option Bytes := none
  ignored : Nat := 0
  tapErr : Bool := false
  alive : BitVec 64 := 0
  aliveAll : BitVec 64 := 0
  set : CounterSet := {}
  red : Reduction := {}
  hist : Tbl HistConfig := []
  pending : List (Option Nat × ConfigChange) := []
  window : Tbl WindowEntry := []
  windowEpochs : Nat := 0
  windowW : Nat := 0
  hists : Tbl Histogram := []
  lastTick : Nat := 0
  lastIdx : Nat := 0
  lastEpoch : Nat := 10000
deriving DecidableEq, Repr

/-- The mailbox (R164 to R166). -/
structure Mailbox where
  len : BitVec 9 := 0
  busy : Bool := false
  done : Bool := false
  overrun : Bool := false
  discard : Bool := false
  rspLen : Nat := 0
  req : Tbl Byte := []
  rsp : Bytes := []
deriving DecidableEq, Repr

/-- One DTC. `ties` are the static ports (R142). The error counts survive a DTC reset (R167). `irqAt` is the nanosecond of the last event of each bit
of ADP_IRQ_STATUS (R163). -/
structure Dtc where
  ties : DtcTies := ⟨0, false, false, false, 0, false, 100⟩
  attached : Bool := false
  oid : Word := 0
  oidBad : Bool := true
  pinned : Byte := 0
  pinNext : Option (Nat × Nat × Ticket) := none
  ready : Bool := false
  scratch : Word := 0
  irqStatus : BitVec 9 := 0
  irqEn : BitVec 9 := 0
  irqAt : Tbl Nat := []
  capDly : Byte := 0
  trigDly : Byte := 0
  tapErrGroup : Nat := 0
  tapErrCount : Nat := 0
  eccCe : Nat := 0
  eccUe : Nat := 0
  trbErr : Nat := 0
  mb : Mailbox := {}
  time : DtcTime := {}
  epoch : Nat := 10000
  cnt : Counting := {}
  sensors : Tbl Sensor := []
  sensorPeriod : Nat := 0
  queues : Tbl (Option QueueState) := []
  rings : Tbl EventRing := []
  hang : HangDetector := {}
  check : CheckConfig := {}
  scan : Option Scan := none
  hm : List HmRequest := []
  hmBlocked : Bool := false
  tags : List TagEntry := []
  cntLink : VerbCounters := {}
  cntMailbox : VerbCounters := {}
  la : DtcLink := {}
  lb : DtcLink := {}
  journal : Journal := {}
  compEnable : Bool := false
  compMask : BitVec 5 := 0
  trace : TraceUnit := {}
deriving DecidableEq, Repr

/-! ## The aggregator's side of a DTC port -/

/-- The aggregator's side of one DTC port (R251, R260 to R262, R272). Delay and offset are in 1/65,536 ns. `t1s` are the T1
stamps of the latest exchanges; `jbase` is the BASE before the FIRST segment of each class's record (R246). `lastBeacon` counts 2 us of service time
(`beaconTimed`) or from `firstFrame`, the first frame sent on the link (R256). `sets` are the two set lists kept for decoding (R183). `bodies` are bodies delivered and not yet
ingested, as (class, record, instant); `instants` holds the instant of the last record ingested of each class (R50, R246); `cfg` is the collection load as configured through this aggregator (R185). -/
structure AggPort where
  e : LinkEnd := {}
  next : Word := 0
  hasState : Bool := false
  hold : List JFrame := []
  jopen : Tbl Bytes := []
  lastResume : Word := 0xFFFFFFFF
  delay : Int := 0
  measured : Bool := false
  offset : Int := 0
  offsets : Nat := 0
  disciplined : Nat := 0
  dups : Nat := 0
  missingAsked : Nat := 0
  asked : List (Word × Nat) := []
  rejected : Nat := 0
  unknownSet : Nat := 0
  verbOut : List Bytes := []
  replyOut : List Bytes := []
  exchange : Byte := 0
  t1s : List (Byte × Stamp) := []
  beacons : Nat := 0
  lastBeacon : Nat := 0
  beaconTimed : Bool := false
  firstFrame : Nat := 0
  ackDue : Bool := false
  base : Option Stamp := none
  jbase : Tbl (Option Stamp) := []
  sets : List CounterSet := []
  reds : List Reduction := []
  bodies : List (Nat × Bytes × Option Stamp) := []
  instants : Tbl (Option Stamp) := []
  cfgSet : CounterSet := {}
  cfgRed : Reduction := {}
  cfgHist : Tbl HistConfig := []
  optPower : BitVec 16 := 0
  optValid : Bool := false
deriving DecidableEq, Repr

end Sys2Proof.Machine
end

