-- ==== Sys2Proof/Machine/Operands.lean ====
section
/-! DEFINITION. Operand forms: multi-byte fields most significant byte first (R9), the fields of sentences, stamps, ranges and
windows, and the sign forms of 64-bit amounts. -/

namespace Sys2Proof.Machine
open Sys2Proof

/-- v in n bytes, most significant first (R9). -/
def be : Nat → Nat → Bytes
  | 0, _ => []
  | n + 1, v => BitVec.ofNat 8 (v >>> (8 * n)) :: be n v

/-- The number whose bytes are bs, most significant first. -/
def ofBe (bs : Bytes) : Nat := bs.foldl (fun a b => a * 256 + b.toNat) 0

/-- The n bytes at offset off; bytes past the end are missing. -/
def sub (bs : Bytes) (off n : Nat) : Bytes := (bs.drop off).take n

/-- The n-byte field at offset off. -/
def fld (bs : Bytes) (off n : Nat) : Nat := ofBe (sub bs off n)

/-- The byte at offset i, zero past the end. -/
def byteAt (bs : Bytes) (i : Nat) : Nat := (bs.getD i 0).toNat

/-- n zero bytes. -/
def zeros (n : Nat) : Bytes := List.replicate n 0

/-- bs followed by zero bytes to length n, cut there. -/
def padTo (n : Nat) (bs : Bytes) : Bytes := (bs ++ zeros (n - bs.length)).take n

/-- bs followed by zero bytes to a multiple of 4 (R124). -/
def pad4 (bs : Bytes) : Bytes := bs ++ zeros ((4 - bs.length % 4) % 4)

/-- All n bytes at offset off are zero: a reserved field (R10). -/
def zeroAt (bs : Bytes) (off n : Nat) : Bool := fld bs off n == 0

/-- Replace the bytes at offset off by new ones. -/
def putAt (bs : Bytes) (off : Nat) (new : Bytes) : Bytes := bs.take off ++ new ++ bs.drop (off + new.length)

/-- bs in pieces of n bytes, the last possibly shorter (fuel: the length). -/
def chunksAux (n : Nat) : Nat → Bytes → List Bytes
  | 0, _ => []
  | _, [] => []
  | k + 1, b :: bs => ((b :: bs).take n) :: chunksAux n k ((b :: bs).drop n)

/-- bs in pieces of n bytes. -/
def chunks (n : Nat) (bs : Bytes) : List Bytes := chunksAux n bs.length bs

/-- The signed value of an n-bit field. -/
def toSigned (bits v : Nat) : Int := if v < 2 ^ (bits - 1) then (v : Int) else (v : Int) - (2 ^ bits : Nat)

/-- The n-bit two's complement form of z. -/
def ofSigned (bits : Nat) (z : Int) : Nat := (z % ((2 ^ bits : Nat) : Int)).toNat

/-- A 64-bit signed amount of bytes (R55, R90). -/
def sfld64 (bs : Bytes) (off : Nat) : Int := toSigned 64 (fld bs off 8)

/-- The full stamp at offset off (R46). -/
def stampAt (bs : Bytes) (off : Nat) : Stamp :=
  ⟨BitVec.ofNat 64 (fld bs off 8), BitVec.ofNat 32 (fld bs (off + 8) 4), BitVec.ofNat 16 (fld bs (off + 12) 2),
   BitVec.ofNat 16 (fld bs (off + 14) 2)⟩

/-- A full stamp in 16 bytes (R46). -/
def stampBytes (t : Stamp) : Bytes :=
  be 8 t.sec.toNat ++ be 4 t.nsec.toNat ++ be 2 t.frac.toNat ++ be 2 t.flags.toNat

/-- The zero stamp: an activation or not-before that names no instant (R113, R180). -/
def Stamp.zero : Stamp := ⟨0, 0, 0, 0⟩

/-- Ranges of 4 bytes: first, count (R205). -/
def rangesAt (bs : Bytes) (off n : Nat) : List (Nat × Nat) :=
  (List.range n).map fun i => (fld bs (off + 4 * i) 2, fld bs (off + 4 * i + 2) 2)

/-- The counters that ranges list, ascending (R179): those of 0 to 4,095 inside some range. -/
def rangeMembers (rs : List (Nat × Nat)) : List Nat :=
  (List.range 4096).filter fun c => rs.any fun r => r.1 ≤ c && c < r.1 + r.2

/-- How many counters ranges hold. -/
def rangeTotal (rs : List (Nat × Nat)) : Nat := (rs.map (·.2)).foldl (· + ·) 0

/-- Two ranges share no counter. -/
def rangesDisjoint : List (Nat × Nat) → Bool
  | [] => true
  | r :: rs => rs.all (fun q => r.1 + r.2 ≤ q.1 || q.1 + q.2 ≤ r.1) && rangesDisjoint rs

/-- Every range has a counter, none passes 4,095, none overlap (R179). -/
def rangesValid (rs : List (Nat × Nat)) : Bool :=
  rs.all (fun r => 1 ≤ r.2 && r.1 + r.2 ≤ 4096) && rangesDisjoint rs

end Sys2Proof.Machine

namespace Sys2Proof

/-- REPLY of R93. -/
def Sentence.wantsAll (x : Sentence) : Bool := x.flags.getLsbD 0
/-- STAGED of R93. -/
def Sentence.staged (x : Sentence) : Bool := x.flags.getLsbD 2
/-- PRIV of R93. -/
def Sentence.priv (x : Sentence) : Bool := x.flags.getLsbD 3
/-- The ticket of a sentence: whom its later final reply answers. -/
def Sentence.ticket (x : Sentence) : Machine.Ticket := ⟨x.req, x.tag⟩
/-- A byte of the parameters. -/
def Sentence.b (x : Sentence) (i : Nat) : Nat := Machine.byteAt x.params i
/-- A field of the parameters. -/
def Sentence.f (x : Sentence) (off n : Nat) : Nat := Machine.fld x.params off n

/-- The parameter length (PLEN). -/
def Sentence.plen (x : Sentence) : Nat := x.params.length

end Sys2Proof

namespace Sys2Proof.Machine
open Sys2Proof

/-- The requester's place in the order of R118, also its number in tables: queue pairs, partner, Ethernet, DTC ports; at a DTC
the pair, then the mailbox. -/
def reqKey : Requester → Nat
  | .qp n => n.val
  | .partner => 64
  | .eth o => 65 + o.toNat
  | .dtcPort p => 65 + 2 ^ 32 + p.val
  | .pair => 2 ^ 33
  | .mailbox => 2 ^ 33 + 1

/-- The transport of a requester as GET_VERB_COUNTERS numbers it (R133): 0 PCIe, 1 Ethernet, 2 link, 3 mailbox. The partner link
counts with the links (DEDUCED; log entry 12). -/
def reqTransport : Requester → Nat
  | .qp _ => 0
  | .eth _ => 1
  | .mailbox => 3
  | .partner => 2
  | .dtcPort _ => 2
  | .pair => 2

/-- The requester kind and index of R542 and R617. -/
def reqKind : Requester → Nat × Nat
  | .qp n => (0, n.val)
  | .eth o => (1, o.toNat)
  | .dtcPort p => (3, p.val)
  | _ => (2, 0)

/-- The code of a profile (R31). -/
def Profile.code : Profile → Nat
  | .w => 0 | .b => 1 | .l => 2 | .h => 3
/-- The profile of a code. -/
def Profile.ofCode : Nat → Option Profile
  | 0 => some .w | 1 => some .b | 2 => some .l | 3 => some .h | _ => none

end Sys2Proof.Machine
end

