-- ==== Sys2Proof/Machine/Flags.lean ====
section
/-! DEFINITION. Computed conditions and check values: saturating and serial counts, the check-value unit of R200 with the CRCs of
R94 and R241, the flag word of a stamp (R47) and the CSTAMP count (R98). -/

namespace Sys2Proof.Machine
open Sys2Proof

/-- A saturating count of w bits, one more. -/
def satInc (w n : Nat) : Nat := if n + 1 < 2 ^ w then n + 1 else 2 ^ w - 1

/-- A saturating count of w bits, k more. -/
def satAdd (w n k : Nat) : Nat := if n + k < 2 ^ w then n + k else 2 ^ w - 1

/-- a is after b in serial-number arithmetic (R250). -/
def seqAfter (a b : Word) : Bool := let d := (a - b).toNat; 1 ≤ d && d ≤ 2 ^ 31 - 1

/-- Ceiling of a / b. -/
def ceilDiv (a b : Nat) : Nat := (a + b - 1) / b

/-- The low n bits of v in reverse order (R200). -/
def reflect (n v : Nat) : Nat :=
  (List.range n).foldl (fun a i => if v.testBit i then a ||| (1 <<< (n - 1 - i)) else a) 0

/-- One bit through the check-value unit. -/
def checkBit (c : CheckConfig) (b : Nat) (reg i : Nat) : Nat :=
  let fb := (reg.testBit (c.w - 1)) != (b.testBit i)
  let r := (reg <<< 1) % 2 ^ c.w
  if fb then r ^^^ c.poly else r

/-- One byte through the check-value unit (R200). -/
def checkByte (c : CheckConfig) (reg : Nat) (b : Byte) : Nat :=
  let v := if c.refin then reflect 8 b.toNat else b.toNat
  [7, 6, 5, 4, 3, 2, 1, 0].foldl (fun r i => checkBit c v r i) reg

/-- The register before the first byte. -/
def checkStart (c : CheckConfig) : Nat := if c.refout then reflect c.w c.init else c.init

/-- The result from the register. -/
def checkEnd (c : CheckConfig) (reg : Nat) : Nat := (if c.refout then reflect c.w reg else reg) ^^^ c.xor

/-- The check value of a run of bytes (R200). -/
def checkValueOf (c : CheckConfig) (bs : Bytes) : Nat := checkEnd c (bs.foldl (checkByte c) (checkStart c))

/-- P, I and X have no bits at or above w, and w is 1 to 64 (R200). -/
def CheckConfig.valid (c : CheckConfig) : Bool :=
  1 ≤ c.w && c.w ≤ 64 && c.poly < 2 ^ c.w && c.init < 2 ^ c.w && c.xor < 2 ^ c.w

/-- CRC-32C (R94). -/
def crc32c (bs : Bytes) : Nat := checkValueOf {} bs

/-- The CRC of link-frame headers (R241). -/
def crc16Config : CheckConfig := { w := 16, poly := 0x1021, init := 0xFFFF, xor := 0, refin := false, refout := false }

/-- The 64-bit configuration of R201, for digests. -/
def crc64Config : CheckConfig :=
  { w := 64, poly := 0x42F0E1EBA9EA3693, init := 0xFFFFFFFFFFFFFFFF, xor := 0xFFFFFFFFFFFFFFFF, refin := true, refout := true }

/-- A digest under the 64-bit configuration. -/
def crc64 (bs : Bytes) : Nat := checkValueOf crc64Config bs

/-- One nanosecond in units of 2^-48 ns. -/
def unit : Nat := 2 ^ 48

/-- The base of CSTAMP counts, 2020-01-01 TAI (R98). -/
def cstampBase : Nat := 1577836800

/-- The nanoseconds of a timebase count. -/
def nsOf (t : Nat) : Nat := t / unit

/-- A timebase count as seconds, nanoseconds and a fraction truncated to 125 ps (R51, R53), with a flag word. -/
def stampOf (t : Nat) (flags : Nat) : Stamp :=
  ⟨BitVec.ofNat 64 (nsOf t / 1000000000), BitVec.ofNat 32 (nsOf t % 1000000000),
   BitVec.ofNat 16 ((t % unit / 2 ^ 45) * 2 ^ 13), BitVec.ofNat 16 flags⟩

/-- A stamp as the device emits it: the reserved FLAGS bits are zero, whatever a sender put there (R10, R47). -/
def emittedStamp (t : Stamp) : Stamp := { t with flags := t.flags &&& 0xFF00 }

/-- The timebase count that a stamp names, its fraction in full. -/
def ofStamp (t : Stamp) : Nat := (t.sec.toNat * 1000000000 + t.nsec.toNat) * unit + t.frac.toNat * 2 ^ 32

/-- The same instant in 1/65,536 ns, as PTP and time transfer count it. -/
def stampFrac (t : Stamp) : Nat := (t.sec.toNat * 1000000000 + t.nsec.toNat) * 65536 + t.frac.toNat

/-- The CSTAMP count of an instant of a time that is valid or not (R98). -/
def cstampOf (valid : Bool) (t : Nat) : Nat :=
  if !valid then 0
  else if nsOf t / 1000000000 < cstampBase then 1
  else (nsOf t / 1000000000 - cstampBase) * 8000000000 + (nsOf t % 1000000000) * 8 + t % unit / 2 ^ 45

/-- A flag word (R47). -/
def flagWord (valid hold slew : Bool) (dom qual : Nat) : Nat :=
  (if valid then 0x8000 else 0) + (if hold then 0x4000 else 0) + (if slew then 0x2000 else 0) + (dom % 4) * 0x800 + (qual % 8) * 0x100

/-- A status code calls for a reply even where the requester wants none: class 0x01xx or 0x02xx (R93). -/
def statusReported (st : Nat) : Bool := st / 256 == 1 || st / 256 == 2

/-- The sentence enters the tag window with this status (R100). ST_LENGTH at step 3 and ST_VERSION for FORMAT are decided where
the bytes arrive, before any entry. -/
def statusRecorded (st : Nat) : Bool := st != 0x0100 && st != 0x0105 && st != 0x0201

end Sys2Proof.Machine
end

