-- ==== Sys2Proof/Machine/Deflate.lean ====
section
/-! DEFINITION. The decompressor of R269: DEFLATE (RFC 1951) restricted to stored and fixed-Huffman blocks, with the rejections that R269
and R584 list, its output kept newest byte first while it grows; and the compressor of R267, whose choice of matches and block ends is free. -/

namespace Sys2Proof.Machine
open Sys2Proof

/-- The bits of a stream, least significant bit of each byte first (RFC 1951). -/
def bitsOf (bs : Bytes) : List Bool := (bs.map fun b => (List.range 8).map fun i => b.getLsbD i).flatten

/-- The number whose bits these are, least significant first. -/
def numOf : List Bool → Nat
  | [] => 0
  | b :: bs => (if b then 1 else 0) + 2 * numOf bs

/-- The number whose bits these are, most significant first: a Huffman code. -/
def codeOf (bs : List Bool) : Nat := bs.foldl (fun a b => 2 * a + (if b then 1 else 0)) 0

/-- Take n bits. -/
def takeBits (n : Nat) (bs : List Bool) : Option (List Bool × List Bool) :=
  if n ≤ bs.length then some (bs.take n, bs.drop n) else none

/-- One literal or length symbol of the fixed Huffman code. -/
def fixedSymbol (bs : List Bool) : Option (Nat × List Bool) :=
  match takeBits 7 bs with
  | none => none
  | some (a, r) =>
    let c := codeOf a
    if c ≤ 0x17 then some (256 + c, r)
    else match r with
      | [] => none
      | b1 :: r1 =>
        let c8 := 2 * c + (if b1 then 1 else 0)
        if 0x30 ≤ c8 && c8 ≤ 0xBF then some (c8 - 0x30, r1)
        else if 0xC0 ≤ c8 && c8 ≤ 0xC7 then some (280 + (c8 - 0xC0), r1)
        else match r1 with
          | [] => none
          | b2 :: r2 =>
            let c9 := 2 * c8 + (if b2 then 1 else 0)
            if 0x190 ≤ c9 && c9 ≤ 0x1FF then some (144 + (c9 - 0x190), r2) else none

/-- Extra bits and base of a length code 257 to 285; none for 286 and 287. -/
def lengthCode (c : Nat) : Option (Nat × Nat) :=
  if c < 257 || 285 < c then none
  else if c = 285 then some (0, 258)
  else
    let k := c - 257
    if k < 8 then some (0, 3 + k) else let e := k / 4 - 1; some (e, 3 + (4 + k % 4) * 2 ^ e)

/-- Extra bits and base of a distance code 0 to 29; none for 30 and 31. -/
def distanceCode (c : Nat) : Option (Nat × Nat) :=
  if 29 < c then none
  else if c < 4 then some (0, 1 + c) else let e := c / 2 - 1; some (e, 1 + (2 + c % 2) * 2 ^ e)

/-- Copy n bytes from distance d back. -/
def copyBack (d : Nat) : Nat → Bytes → Bytes
  | 0, out => out
  | n + 1, out => copyBack d n (out.getD (d - 1) 0 :: out)

/-- The symbols of a fixed-Huffman block, up to its end code (fuel: the bits left). `maxDist` is the longest distance allowed. -/
def fixedBlock (maxDist : Nat) : Nat → List Bool → Bytes → Option (List Bool × Bytes)
  | 0, _, _ => none
  | f + 1, bs, out =>
    match fixedSymbol bs with
    | none => none
    | some (sym, r) =>
      if sym < 256 then fixedBlock maxDist f r (BitVec.ofNat 8 sym :: out)
      else if sym = 256 then some (r, out)
      else match lengthCode sym with
        | none => none
        | some (le, lb) =>
          match takeBits le r with
          | none => none
          | some (lx, r1) => match takeBits 5 r1 with
            | none => none
            | some (dc, r2) => match distanceCode (codeOf dc) with
              | none => none
              | some (de, db) => match takeBits de r2 with
                | none => none
                | some (dx, r3) =>
                  let d := db + numOf dx
                  if maxDist < d || out.length < d then none else fixedBlock maxDist f r3 (copyBack d (lb + numOf lx) out)

/-- A stored block: skip to a byte boundary, LEN and NLEN complements, then the bytes. -/
def storedBlock (bs : List Bool) (out : Bytes) : Option (List Bool × Bytes) :=
  let r := bs.drop (bs.length % 8)
  match takeBits 32 r with
  | none => none
  | some (h, r1) =>
    let len := numOf (h.take 16)
    if len + numOf (h.drop 16) != 65535 then none
    else match takeBits (8 * len) r1 with
      | none => none
      | some (d, r2) =>
        some (r2, (List.range len).foldl (fun o i => BitVec.ofNat 8 (numOf ((d.drop (8 * i)).take 8)) :: o) out)

/-- Blocks up to the one with BFINAL; no byte may follow it (fuel: the bits). -/
def inflateBlocks (maxDist : Nat) : Nat → List Bool → Bytes → Option Bytes
  | 0, _, _ => none
  | f + 1, bs, out =>
    match takeBits 3 bs with
    | none => none
    | some (h, r) =>
      let res := match numOf (h.drop 1) with
        | 0 => storedBlock r out
        | 1 => fixedBlock maxDist (r.length + 1) r out
        | _ => none
      match res with
      | none => none
      | some (r1, out1) =>
        if h.headD false then (if r1.length < 8 then some out1.reverse else none) else inflateBlocks maxDist f r1 out1

/-- Decompress a stream whose output must have `len` bytes; none where R269 rejects it. -/
def inflate (maxDist len : Nat) (stream : Bytes) : Option Bytes :=
  let bits := bitsOf stream
  match inflateBlocks maxDist (bits.length + 1) bits [] with
  | some out => if out.length = len then some out else none
  | none => none

/-! ## The compressor (R267) -/

/-- The n bits of a number, most significant first: a Huffman code. -/
def codeBits (n v : Nat) : List Bool := (List.range n).map fun i => v.testBit (n - 1 - i)
/-- The n bits of a number, least significant first. -/
def plainBits (n v : Nat) : List Bool := (List.range n).map v.testBit

/-- The fixed Huffman code of a literal or length symbol. -/
def symbolBits (c : Nat) : List Bool :=
  if c < 144 then codeBits 8 (0x30 + c)
  else if c < 256 then codeBits 9 (0x190 + (c - 144))
  else if c < 280 then codeBits 7 (c - 256)
  else codeBits 8 (0xC0 + (c - 280))

/-- The last code of a table whose base does not exceed v, with its extra bits: the code and v's place above the base. -/
def codeFor (table : Nat → Option (Nat × Nat)) (codes : List Nat) (v : Nat) : Option (Nat × List Bool) :=
  (codes.reverse.findSome? fun c => match table c with
    | some (e, b) => if b ≤ v then some (c, plainBits e (v - b)) else none
    | none => none)

/-- A match of a length and a distance. -/
def matchBits (len dist : Nat) : List Bool :=
  match codeFor lengthCode (if len = 258 then [285] else (List.range 28).map (257 + ·)) len, codeFor distanceCode (List.range 30) dist with
  | some (c, x), some (k, y) => symbolBits c ++ x ++ codeBits 5 k ++ y
  | _, _ => []

/-- A match may stand at byte i of a body: 3 to 258 bytes up to `stop`, from at most 4,096 back in this body, and the same bytes there. -/
def matchAt (body : Bytes) (i stop len dist : Nat) : Bool :=
  3 ≤ len && len ≤ 258 && 1 ≤ dist && dist ≤ 4096 && dist ≤ i && i + len ≤ stop &&
    (List.range len).all fun k => body.getD (i + k) 0 == body.getD (i + k - dist) 0

/-- The symbols of the bytes from i up to `stop` (fuel: their number): a match where the free choice names one that fits, else a literal. -/
def deflateSymbols (draw : Nat) (body : Bytes) (stop : Nat) : Nat → Nat → List Bool
  | 0, _ => []
  | f + 1, i =>
    if stop ≤ i then []
    else
      let m := Config.deflateMatch draw i
      let len := m.toNat % 65536
      let dist := m.toNat / 65536
      if matchAt body i stop len dist then matchBits len dist ++ deflateSymbols draw body stop f (i + len)
      else symbolBits (body.getD i 0).toNat ++ deflateSymbols draw body stop f (i + 1)

/-- Fixed-Huffman blocks of 1 to 16,384 bytes from i on, each ended by the end-of-block code (fuel: the bytes). -/
def deflateBlocks (draw : Nat) (body : Bytes) : Nat → Nat → List Bool
  | 0, _ => []
  | f + 1, i =>
    if body.length ≤ i then []
    else
      let stop := min body.length (i + 1 + (Config.deflateBlock draw i).toNat)
      [false, true, false] ++ deflateSymbols draw body stop (stop - i) i ++ symbolBits 256 ++ deflateBlocks draw body f stop

/-- Bits packed into bytes from bit 0 up, the last byte padded with zeros. -/
def packBits (bs : List Bool) : Bytes :=
  (List.range (ceilDiv bs.length 8)).map fun i => BitVec.ofNat 8 (numOf ((bs.drop (8 * i)).take 8))

/-- The stream of a body: its blocks, then the flush, an empty stored block with BFINAL = 1 and the bytes 00 00 FF FF (R267). -/
def deflate (draw : Nat) (body : Bytes) : Bytes :=
  packBits (deflateBlocks draw body body.length 0 ++ [true, false, false]) ++ [0, 0, 0xFF, 0xFF]

/-- What a compressor puts out: the stream, or what a fault of the compressor makes of it (R268, R584). -/
def compressorStream (draw : Nat) (body : Bytes) : Bytes := (Config.compressorFault draw).getD (deflate draw body)

end Sys2Proof.Machine
end

