-- ==== Sys2Proof/Machine/Float.lean ====
section
/-! DEFINITION. Arithmetic of chapters 09 to 12: IEEE 754 binary32 with round to nearest, ties to even, computed on exact dyadic numbers
and rounded once; binary16, BF16, E4M3 and E5M2; the canonical sum (R338), LOGISTIC (R343), EXP2N (R344). A float is its 32 bits. -/

namespace Sys2Proof.Machine
open Sys2Proof

/-- A value: NaN, an infinity, or (−1)^neg · m · 2^e exactly. -/
inductive Fp where
  | nan
  | inf (neg : Bool)
  | fin (neg : Bool) (m : Nat) (e : Int)
deriving DecidableEq, Repr

/-- The NaN that an operation makes: its sign and payload are open, its quiet bit is set (log entry 40). -/
def nan32 : Word := 0x7FC00000 ||| (Config.nanBits &&& 0x803FFFFF)
/-- The NaN that the spec names (R343, R344, R345, R356). -/
def canonicalNan : Word := 0x7FC00000

def fpNeg (a : Word) : Bool := a.getLsbD 31
def isNan (a : Word) : Bool := 0x7F800000 < (a.toNat % 2 ^ 31)
def isInf (a : Word) : Bool := a.toNat % 2 ^ 31 == 0x7F800000
def nonFinite (a : Word) : Bool := 0x7F800000 ≤ (a.toNat % 2 ^ 31)

/-- A small format with `eb` exponent bits, `fb` fraction bits and this bias, without its special values. -/
def decodeFinite (eb fb bias v : Nat) : Fp :=
  let f := v % 2 ^ fb
  let e := v / 2 ^ fb % 2 ^ eb
  let neg := v.testBit (eb + fb)
  if e = 0 then .fin neg f (1 - (bias : Int) - fb) else .fin neg (f + 2 ^ fb) ((e : Int) - bias - fb)

/-- The value of binary32 bits. -/
def fp (a : Word) : Fp := if isNan a then .nan else if isInf a then .inf (fpNeg a) else decodeFinite 8 23 127 a.toNat

/-- m · 2^e in units of 2^q, rounded to nearest, ties to even. -/
def roundTo (m : Nat) (e q : Int) : Nat :=
  if q ≤ e then m <<< (e - q).toNat
  else
    let s := (q - e).toNat
    let r := m >>> s
    let rest := m - (r <<< s)
    let half := 1 <<< (s - 1)
    if half < rest || (rest = half && r % 2 = 1) then r + 1 else r

/-- m · 2^e in a format with fb fraction bits, least exponent emin of a unit and this number of unit steps up to infinity: the magnitude
bits, possibly past the greatest finite ones. -/
def roundMag (fb : Nat) (emin : Int) (m : Nat) (e : Int) : Nat :=
  if m = 0 then 0
  else
    let q := max ((Nat.log2 m : Int) + e - fb) emin
    (q - emin).toNat * 2 ^ fb + roundTo m e q

/-- Round an exact value to binary32. -/
def round32 (neg : Bool) (m : Nat) (e : Int) : Word :=
  let mag := min (roundMag 23 (-149) m e) 0x7F800000
  BitVec.ofNat 32 (mag + if neg then 2 ^ 31 else 0)

def infOf (neg : Bool) : Word := if neg then 0xFF800000 else 0x7F800000

/-- Round a value. -/
def Fp.bits : Fp → Word
  | .nan => nan32
  | .inf n => infOf n
  | .fin n m e => round32 n m e

/-- The exact sum; an exact zero is +0 unless both are −0. -/
def Fp.add : Fp → Fp → Fp
  | .nan, _ => .nan
  | _, .nan => .nan
  | .inf a, .inf b => if a = b then .inf a else .nan
  | .inf a, _ => .inf a
  | _, .inf b => .inf b
  | .fin na ma ea, .fin nb mb eb =>
    let e := min ea eb
    let a : Int := (ma <<< (ea - e).toNat : Nat)
    let b : Int := (mb <<< (eb - e).toNat : Nat)
    let s := (if na then -a else a) + (if nb then -b else b)
    .fin (if s = 0 then na && nb else decide (s < 0)) s.natAbs e

/-- The exact product. -/
def Fp.mul : Fp → Fp → Fp
  | .nan, _ => .nan
  | _, .nan => .nan
  | .inf a, .inf b => .inf (a != b)
  | .inf a, .fin b m _ => if m = 0 then .nan else .inf (a != b)
  | .fin a m _, .inf b => if m = 0 then .nan else .inf (a != b)
  | .fin a ma ea, .fin b mb eb => .fin (a != b) (ma * mb) (ea + eb)

/-- The quotient to 64 bits and a sticky bit: enough to round it once. -/
def Fp.div : Fp → Fp → Fp
  | .nan, _ => .nan
  | _, .nan => .nan
  | .inf _, .inf _ => .nan
  | .inf a, .fin b _ _ => .inf (a != b)
  | .fin a _ _, .inf b => .fin (a != b) 0 0
  | .fin a ma ea, .fin b mb eb =>
    if mb = 0 then (if ma = 0 then .nan else .inf (a != b))
    else
      let n := ma <<< 64
      .fin (a != b) (2 * (n / mb) + (if n % mb = 0 then 0 else 1)) (ea - eb - 65)

def Fp.neg : Fp → Fp
  | .nan => .nan
  | .inf a => .inf (!a)
  | .fin a m e => .fin (!a) m e

def fadd (a b : Word) : Word := ((fp a).add (fp b)).bits
def fsub (a b : Word) : Word := ((fp a).add (fp b).neg).bits
def fmul (a b : Word) : Word := ((fp a).mul (fp b)).bits
def fdiv (a b : Word) : Word := ((fp a).div (fp b)).bits
/-- a · b + c with one rounding. -/
def fma (a b c : Word) : Word := (((fp a).mul (fp b)).add (fp c)).bits

/-- Order keys of numbers: −0 equals +0. -/
def fkey (a : Word) : Int := let m : Int := (a.toNat % 2 ^ 31 : Nat); if fpNeg a then -m else m
def fle (a b : Word) : Bool := !isNan a && !isNan b && decide (fkey a ≤ fkey b)
def flt (a b : Word) : Bool := !isNan a && !isNan b && decide (fkey a < fkey b)
/-- The order in which −0 lies below +0 (R356, R396). -/
def totalLe (a b : Word) : Bool := if fkey a = fkey b then fpNeg a || !fpNeg b else decide (fkey a < fkey b)
/-- maximumNumber and minimumNumber of IEEE 754-2019 (R396). -/
def fmaxNum (a b : Word) : Word := if isNan a then (if isNan b then nan32 else b) else if isNan b then a else if totalLe a b then b else a
def fminNum (a b : Word) : Word := if isNan a then (if isNan b then nan32 else b) else if isNan b then a else if totalLe a b then a else b

/-- An integer in binary32. -/
def ofInt32 (z : Int) : Word := round32 (decide (z < 0)) z.natAbs 0
def ofNat32 (n : Nat) : Word := round32 false n 0

/-- floor(a · 2^k) of a finite value. -/
def floorScaled (v : Fp) (k : Nat) : Option Int :=
  match v with
  | .fin n m e =>
    let e1 := e + k
    let z : Int := if n then -(m : Int) else m
    some (if 0 ≤ e1 then z * (2 ^ e1.toNat : Nat) else z / ((2 ^ (-e1).toNat : Nat) : Int))
  | _ => none

/-- A value rounded to an integer, ties to even. -/
def roundInt (v : Fp) : Option Int :=
  match v with
  | .fin n m e => let r : Int := (roundTo m e 0 : Nat); some (if n then -r else r)
  | _ => none

/-! ## Conversions (R315, R329, R348, R350) -/

def fromHalf (v : Nat) : Word := if v / 1024 % 32 = 31 then (if v % 1024 = 0 then infOf (v.testBit 15) else nan32) else (decodeFinite 5 10 15 v).bits
def fromBf16 (v : Nat) : Word := BitVec.ofNat 32 (v * 65536)

/-- BF16 bits are a NaN or an infinity. -/
def bf16Special (v : Nat) : Bool := v / 128 % 256 == 255
def halfSpecial (v : Nat) : Bool := v / 1024 % 32 == 31
def e4m3Special (v : Nat) : Bool := v % 128 == 127
def e5m2Special (v : Nat) : Bool := 124 ≤ v % 128

def fromE4m3 (v : Nat) : Word := if e4m3Special v then nan32 else (decodeFinite 4 3 7 v).bits
def fromE5m2 (v : Nat) : Word :=
  if v % 128 = 124 then infOf (v.testBit 7) else if e5m2Special v then nan32 else (decodeFinite 5 2 15 v).bits

/-- To INT8: rounded, saturated, NaN gives 0; and whether it saturated. -/
def toInt8 (a : Word) : Nat × Bool :=
  match fp a with
  | .nan => (0, false)
  | .inf n => (if n then 0x80 else 0x7F, true)
  | v => let z := (roundInt v).getD 0
         if z < -128 then (0x80, true) else if 127 < z then (0x7F, true) else (ofSigned 8 z, false)

/-- To BF16: infinite results saturate to ±0x7F7F, a NaN becomes 0x7FC0; and whether it saturated. -/
def toBf16 (a : Word) : Nat × Bool :=
  match fp a with
  | .nan => (0x7FC0, false)
  | .inf n => (if n then 0xFF7F else 0x7F7F, true)
  | .fin n m e =>
    let mag := roundMag 7 (-133) m e
    let sat := 0x7F80 ≤ mag
    ((if sat then 0x7F7F else mag) + (if n then 0x8000 else 0), sat)

def toE4m3 (a : Word) : Nat :=
  match fp a with
  | .nan => 0x7F
  | .inf n => if n then 0xFE else 0x7E
  | .fin n m e => min 0x7E (roundMag 3 (-9) m e) + if n then 0x80 else 0

def toE5m2 (a : Word) : Nat :=
  match fp a with
  | .nan => 0x7E
  | .inf n => if n then 0xFB else 0x7B
  | .fin n m e => min 0x7B (roundMag 2 (-16) m e) + if n then 0x80 else 0

/-! ## The canonical sum (R338) -/

def pairUp : List Word → List Word
  | a :: b :: t => fadd a b :: pairUp t
  | l => l

def foldPairs : Nat → List Word → Word
  | 0, l => l.headD 0
  | f + 1, l => foldPairs f (pairUp l)

/-- The power-of-two exponent of a length. -/
def log2Ceil (n : Nat) : Nat := if n ≤ 1 then 0 else Nat.log2 (n - 1) + 1

/-- The sum over the complete binary tree padded with +0. -/
def canon (v : List Word) : Word :=
  let k := log2Ceil v.length
  foldPairs k (v ++ List.replicate (2 ^ k - v.length) 0)

/-! ## LOGISTIC and EXP2N -/

def sigmaLow0 : List Nat :=
  [2, 2, 2, 2, 2, 2, 2, 2, 2, 3, 3, 3, 3, 3, 3, 3, 3, 3, 3, 3, 4, 4, 4, 4, 4, 4, 4, 4, 5, 5, 5, 5, 5, 5, 5, 6, 6, 6, 6, 6, 7, 7, 7,
   7, 7, 8, 8, 8, 8, 9, 9, 9, 10, 10, 10, 11, 11, 11, 12, 12, 12, 13, 13, 14]
def sigmaLow1 : List Nat :=
  [14, 14, 15, 15, 16, 16, 17, 17, 18, 18, 19, 20, 20, 21, 22, 22, 23, 24, 24, 25, 26, 27, 28, 29, 30, 30, 31, 32, 33, 35, 36, 37,
   38, 39, 40, 42, 43, 44, 46, 47, 49, 50, 52, 53, 55, 57, 59, 61, 63, 65, 67, 69, 71, 73, 75, 78, 80, 83, 85, 88, 91, 94, 97, 100]
def sigmaLow2 : List Nat :=
  [103, 106, 110, 113, 117, 121, 124, 128, 132, 137, 141, 145, 150, 155, 160, 165, 170, 175, 181, 187, 193, 199, 205, 212, 218, 225,
   232, 240, 247, 255, 263, 272, 280, 289, 298, 308, 318, 328, 338, 349, 360, 371, 383, 395, 408, 421, 434, 448, 462, 477, 492, 507,
   523, 540, 557, 575, 593, 612, 631, 651, 672, 693, 716, 738]
def sigmaLow3 : List Nat :=
  [762, 786, 811, 837, 863, 890, 919, 948, 978, 1009, 1041, 1074, 1108, 1143, 1180, 1217, 1256, 1296, 1337, 1379, 1423, 1468, 1515,
   1563, 1612, 1664, 1716, 1771, 1827, 1885, 1945, 2007, 2070, 2136, 2204, 2274, 2346, 2420, 2497, 2576, 2658, 2742, 2830, 2919,
   3012, 3108, 3206, 3308, 3413, 3521, 3633, 3748, 3867, 3990, 4117, 4247, 4382, 4521, 4665, 4813, 4965, 5123, 5285, 5453]
def sigmaLow4 : List Nat :=
  [5626, 5805, 5989, 6179, 6375, 6577, 6786, 7001, 7224, 7453, 7689, 7933, 8185, 8445, 8712, 8989, 9274, 9568, 9872, 10185, 10508,
   10841, 11185, 11540, 11906, 12284, 12674, 13076, 13490, 13918, 14360, 14815, 15285, 15770, 16270, 16786, 17318, 17867, 18434,
   19018, 19621, 20243, 20885, 21547, 22230, 22935, 23662, 24412, 25186, 25984, 26807, 27657, 28533, 29438, 30370, 31333, 32325,
   33349, 34406, 35496, 36620, 37780, 38976, 40210]
def sigmaLow5 : List Nat :=
  [41484, 42797, 44152, 45550, 46992, 48479, 50013, 51596, 53229, 54913, 56650, 58442, 60291, 62197, 64164, 66193, 68286, 70444,
   72671, 74967, 77336, 79779, 82299, 84898, 87579, 90344, 93196, 96138, 99171, 102300, 105527, 108855, 112287, 115827, 119478,
   123243, 127125, 131129, 135258, 139516, 143906, 148434, 153103, 157917, 162881, 168000, 173278, 178719, 184330, 190115, 196080,
   202229, 208568, 215104, 221842, 228788, 235949, 243330, 250938, 258781, 266865, 275197, 283785, 292636]
def sigmaLow6 : List Nat :=
  [301759, 311160, 320848, 330832, 341120, 351722, 362645, 373900, 385496, 397443, 409751, 422431, 435492, 448946, 462804, 477077,
   491778, 506917, 522507, 538560, 555091, 572110, 589633, 607672, 626241, 645356, 665029, 685277, 706115, 727557, 749621, 772321,
   795674, 819698, 844408, 869823, 895959, 922836, 950470, 978881, 1008087, 1038107, 1068960, 1100667, 1133245, 1166717, 1201101,
   1236418, 1272689, 1309934, 1348175, 1387431, 1427725, 1469077, 1511510, 1555043, 1599699, 1645498, 1692462, 1740613, 1789971,
   1840557, 1892393, 1945498]
def sigmaLow7 : List Nat :=
  [1999893, 2055598, 2112633, 2171018, 2230770, 2291908, 2354452, 2418416, 2483820, 2550678, 2619006, 2688818, 2760128, 2832950,
   2907294, 2983171, 3060592, 3139565, 3220098, 3302196, 3385864, 3471106, 3557924, 3646319, 3736288, 3827831, 3920942, 4015616,
   4111844, 4209618, 4308926, 4409754, 4512088, 4615911, 4721203, 4827943, 4936108, 5045674, 5156612, 5268894, 5382488, 5497362,
   5613479, 5730803, 5849295, 5968912, 6089613, 6211351, 6334081, 6457754, 6582320, 6707726, 6833920, 6960848, 7088452, 7216675,
   7345459, 7474745, 7604472, 7734578, 7865002, 7995680, 8126549, 8257547]
def sigmaLow8 : List Nat :=
  [8388608]
/-- T[j] of R343 for j up to 512; T[1024 − j] = 2^24 − T[j]. -/
def sigmaLow (j : Nat) : Nat :=
  match j / 64 with
  | 0 => sigmaLow0.getD (j % 64) 0
  | 1 => sigmaLow1.getD (j % 64) 0
  | 2 => sigmaLow2.getD (j % 64) 0
  | 3 => sigmaLow3.getD (j % 64) 0
  | 4 => sigmaLow4.getD (j % 64) 0
  | 5 => sigmaLow5.getD (j % 64) 0
  | 6 => sigmaLow6.getD (j % 64) 0
  | 7 => sigmaLow7.getD (j % 64) 0
  | 8 => sigmaLow8.getD (j % 64) 0
  | _ => 0

def exp2Entry0 : List Nat :=
  [16777216, 16731851, 16686609, 16641490, 16596492, 16551616, 16506861, 16462228, 16417715, 16373322, 16329050, 16284897, 16240863,
   16196949, 16153153, 16109476, 16065917, 16022476, 15979152, 15935945, 15892855, 15849882, 15807025, 15764283, 15721658, 15679147,
   15636752, 15594471, 15552304, 15510252, 15468313, 15426487, 15384775, 15343175, 15301688, 15260313, 15219050, 15177899, 15136859,
   15095929, 15055111, 15014403, 14973805, 14933316, 14892937, 14852668, 14812507, 14772455, 14732511, 14692675, 14652947, 14613326,
   14573813, 14534406, 14495106, 14455912, 14416824, 14377841, 14338964, 14300193, 14261526, 14222963, 14184505, 14146151]
def exp2Entry1 : List Nat :=
  [14107901, 14069754, 14031710, 13993769, 13955931, 13918195, 13880561, 13843028, 13805598, 13768268, 13731039, 13693911, 13656884,
   13619956, 13583129, 13546401, 13509772, 13473242, 13436812, 13400479, 13364245, 13328109, 13292070, 13256129, 13220286, 13184539,
   13148888, 13113335, 13077877, 13042515, 13007249, 12972078, 12937002, 12902021, 12867135, 12832343, 12797645, 12763041, 12728530,
   12694113, 12659789, 12625557, 12591419, 12557372, 12523418, 12489555, 12455784, 12422104, 12388516, 12355018, 12321610, 12288294,
   12255067, 12221930, 12188882, 12155924, 12123055, 12090275, 12057584, 12024981, 11992466, 11960039, 11927700, 11895448]
def exp2Entry2 : List Nat :=
  [11863283, 11831206, 11799215, 11767310, 11735492, 11703760, 11672114, 11640553, 11609078, 11577687, 11546382, 11515161, 11484025,
   11452973, 11422004, 11391120, 11360319, 11329601, 11298967, 11268415, 11237946, 11207559, 11177254, 11147032, 11116891, 11086831,
   11056853, 11026956, 10997140, 10967404, 10937749, 10908174, 10878679, 10849263, 10819928, 10790671, 10761494, 10732395, 10703375,
   10674434, 10645571, 10616786, 10588079, 10559449, 10530897, 10502422, 10474024, 10445703, 10417458, 10389290, 10361198, 10333182,
   10305242, 10277377, 10249587, 10221873, 10194234, 10166669, 10139179, 10111763, 10084422, 10057154, 10029960, 10002839]
def exp2Entry3 : List Nat :=
  [9975792, 9948818, 9921917, 9895089, 9868333, 9841650, 9815039, 9788499, 9762032, 9735636, 9709311, 9683058, 9656875, 9630764,
   9604722, 9578752, 9552851, 9527021, 9501261, 9475570, 9449948, 9424396, 9398913, 9373499, 9348154, 9322877, 9297668, 9272528,
   9247455, 9222451, 9197514, 9172644, 9147842, 9123107, 9098438, 9073837, 9049301, 9024833, 9000430, 8976093, 8951823, 8927617,
   8903477, 8879403, 8855394, 8831449, 8807569, 8783754, 8760003, 8736317, 8712694, 8689136, 8665641, 8642209, 8618841, 8595536,
   8572295, 8549116, 8525999, 8502945, 8479954, 8457025, 8434157, 8411352]
def exp2Entry4 : List Nat :=
  [8388608]
/-- X[j] of R344. -/
def exp2Entry (j : Nat) : Nat :=
  match j / 64 with
  | 0 => exp2Entry0.getD (j % 64) 0
  | 1 => exp2Entry1.getD (j % 64) 0
  | 2 => exp2Entry2.getD (j % 64) 0
  | 3 => exp2Entry3.getD (j % 64) 0
  | 4 => exp2Entry4.getD (j % 64) 0
  | _ => 0

def sigmaEntry (j : Nat) : Nat := if j ≤ 512 then sigmaLow j else 2 ^ 24 - sigmaLow (1024 - j)

def logistic (z : Word) : Word :=
  if isNan z then canonicalNan
  else
    let q : Int := if fle 0x41800000 z then 2 ^ 24 else if flt z 0xC1800000 then -(2 ^ 24) else (floorScaled (fp z) 20).getD 0
    let r := (q + 2 ^ 24).toNat
    let i := r / 2 ^ 15
    let f := r % 2 ^ 15
    let y := if i = 1024 then sigmaEntry 1024 else sigmaEntry i + (sigmaEntry (i + 1) - sigmaEntry i) * f / 2 ^ 15
    round32 false y (-24)

def exp2n (u : Word) : Word :=
  if isNan u then canonicalNan
  else if fle 0x42000000 u then 0
  else
    let p : Nat := ((floorScaled (fp u) 24).getD 0).toNat
    let n : Nat := p / 2 ^ 24
    let i : Nat := p / 2 ^ 16 % 256
    let h : Nat := p % 2 ^ 16
    let m : Nat := exp2Entry i - (exp2Entry i - exp2Entry (i + 1)) * h / 2 ^ 16
    round32 false m (-24 - (n : Int))

end Sys2Proof.Machine
end

