-- ==== Sys2Proof/Machine/Aes.lean ====
section
/-! DEFINITION. The ciphers that chapter 16 names by their standards: AES-256 (FIPS 197), the XTS mode of IEEE 1619 in units of 64 bytes (R555) and the
GCM mode with a 12-byte IV (NIST SP 800-38D) that seals images (R554). -/

namespace Sys2Proof.Machine
open Sys2Proof

/-! ## AES-256 -/

/-- Multiply by x in the field of AES. -/
def xtime (b : Byte) : Byte := (b <<< 1) ^^^ (if b.msb then 0x1B else 0)
def gmul (a b : Byte) : Byte :=
  ((List.range 8).foldl (fun (p : Byte × Byte) i => (if b.getLsbD i then p.1 ^^^ p.2 else p.1, xtime p.2)) (0, a)).1
/-- The inverse, as power 254; 0 has 0. -/
def ginv (a : Byte) : Byte := ((List.range 7).foldl (fun (p : Byte × Byte) _ => let q := gmul p.2 p.2; (gmul p.1 q, q)) (1, a)).1

def sBox (a : Byte) : Byte :=
  let b := ginv a
  b ^^^ b.rotateLeft 1 ^^^ b.rotateLeft 2 ^^^ b.rotateLeft 3 ^^^ b.rotateLeft 4 ^^^ 0x63
def sBoxInverse (a : Byte) : Byte := ginv (a.rotateLeft 1 ^^^ a.rotateLeft 3 ^^^ a.rotateLeft 6 ^^^ 0x05)

def xorBytes (a b : Bytes) : Bytes := List.zipWith (· ^^^ ·) a b

/-- Word i of the key schedule, from the words before it, newest first. -/
def scheduleWord (ws : List Bytes) (i : Nat) : Bytes :=
  let t := ws.getD 0 []
  let u :=
    if i % 8 = 0 then
      let r := (t.drop 1 ++ t.take 1).map sBox
      xorBytes r ((List.range (i / 8 - 1)).foldl (fun c _ => xtime c) 1 :: zeros 3)
    else if i % 8 = 4 then t.map sBox else t
  xorBytes (ws.getD 7 []) u

/-- The 15 round keys of a key of 32 bytes. -/
def roundKeys (key : Bytes) : List Bytes :=
  chunks 16 (((List.range 52).foldl (fun ws i => scheduleWord ws (i + 8) :: ws) (chunks 4 (padTo 32 key)).reverse).reverse).flatten

/-- Row r of column c moves from (forwards) or to (backwards) column c + r. -/
def shiftRows (back : Bool) (b : Bytes) : Bytes :=
  (List.range 16).map fun i =>
    let r := i % 4
    let c := i / 4
    b.getD (r + 4 * ((if back then c + 4 - r else c + r) % 4)) 0

/-- Multiply each column by the circulant matrix whose first row is `m`. -/
def mixColumns (m : List Byte) (b : Bytes) : Bytes :=
  (List.range 16).map fun i =>
    (List.range 4).foldl (fun a j => a ^^^ gmul (m.getD ((j + 4 - i % 4) % 4) 0) (b.getD (4 * (i / 4) + j) 0)) 0

/-- Encrypt and decrypt one block of 16 bytes. -/
def aesEncrypt (key block : Bytes) : Bytes :=
  let ks := roundKeys key
  (ks.drop 1).zipIdx.foldl (fun b k =>
    let t := shiftRows false (b.map sBox)
    xorBytes (if k.2 = 13 then t else mixColumns [2, 3, 1, 1] t) k.1) (xorBytes block (ks.getD 0 []))
def aesDecrypt (key block : Bytes) : Bytes :=
  let ks := (roundKeys key).reverse
  (ks.drop 1).zipIdx.foldl (fun b k =>
    let t := xorBytes ((shiftRows true b).map sBoxInverse) k.1
    if k.2 = 13 then t else mixColumns [14, 11, 13, 9] t) (xorBytes block (ks.getD 0 []))

/-! ## XTS in units of 64 bytes (R555) -/

/-- The tweak of the next block: times the primitive element, least significant byte first. -/
def nextTweak (t : Bytes) : Bytes :=
  let n := ofBe t.reverse * 2
  (be 16 (if n < 2 ^ 128 then n else (n - 2 ^ 128) ^^^ 0x87)).reverse

/-- The masks of the four blocks of the unit at a physical address, under the second half of the key. -/
def unitTweaks (key : Bytes) (address : Nat) : List Bytes :=
  let t := aesEncrypt (sub key 32 32) ((be 16 address).reverse)
  [t, nextTweak t, nextTweak (nextTweak t), nextTweak (nextTweak (nextTweak t))]

/-- A unit under a cipher of one block. -/
def xtsUnit (cipher : Bytes → Bytes → Bytes) (key : Bytes) (address : Nat) (b : Bytes) : Bytes :=
  (List.zipWith (fun t c => xorBytes (cipher (key.take 32) (xorBytes c t)) t) (unitTweaks key address) (chunks 16 b)).flatten

def xtsEncrypt (key : Bytes) (address : Nat) (b : Bytes) : Bytes := xtsUnit aesEncrypt key address b
def xtsDecrypt (key : Bytes) (address : Nat) (b : Bytes) : Bytes := xtsUnit aesDecrypt key address b

/-! ## GCM (R554) -/

/-- The product in the field of GHASH, whose bits count from the most significant. -/
def ghashMul (x y : Nat) : Nat :=
  ((List.range 128).foldl (fun (p : Nat × Nat) i =>
    (if x.testBit (127 - i) then p.1 ^^^ p.2 else p.1, if p.2.testBit 0 then (p.2 / 2) ^^^ (0xE1 * 2 ^ 120) else p.2 / 2)) (0, y)).1

/-- Zero bytes to a multiple of 16. -/
def pad16 (b : Bytes) : Bytes := b ++ zeros ((16 - b.length % 16) % 16)

def ghash (h : Nat) (data : Bytes) : Nat := (chunks 16 data).foldl (fun y b => ghashMul (y ^^^ ofBe b) h) 0

/-- What counter mode makes of bytes under a 12-byte IV, the counter starting at 2. -/
def gcmStream (key iv data : Bytes) : Bytes :=
  ((chunks 16 data).zipIdx.map fun b => xorBytes b.1 (aesEncrypt key (padTo 12 iv ++ be 4 (b.2 + 2)))).flatten

/-- The tag of a ciphertext with additional data. -/
def gcmTag (key iv aad ct : Bytes) : Bytes :=
  let h := ofBe (aesEncrypt key (zeros 16))
  be 16 (ghash h (pad16 aad ++ pad16 ct ++ be 8 (8 * aad.length) ++ be 8 (8 * ct.length)) ^^^ ofBe (aesEncrypt key (padTo 12 iv ++ be 4 1)))

end Sys2Proof.Machine
end

