-- ==== Sys2Proof/Machine/StatePair.lean ====
section
/-! DEFINITION. State of the sync unit and of the pair (chapter 14): sync objects and their waiters, the deadlock detector, held
doorbell posts, ordered posts, pair notices, the mirror stream, checkpoints, last words. -/

namespace Sys2Proof.Machine
open Sys2Proof

/-- One entry of a waiter list (R473, R474): the agent (its 16-bit ID and the source OID of agent 0x1000), n, the nanosecond of
acceptance, the timeout in us (0 none), and the sentence. -/
structure Waiter where
  agent : Nat
  oid : Word
  n : Nat
  since : Nat
  timeoutUs : Nat
  ticket : Ticket
  ctx : Nat
deriving DecidableEq, Repr

/-- One sync object (R471). WAITERS and HEAD_N are computed from `waiters`. -/
structure SyncObject where
  count : Nat := 0
  limit : Nat := 0
  level : Nat := 0
  producer : Nat := 0
  consumer : Nat := 0
  producerOid : Word := 0
  ctx : Nat := 0
  vector : Nat := 0
  inited : Bool := false
  faulted : Bool := false
  hseq : Nat := 0
  waiters : List Waiter := []
deriving DecidableEq, Repr

/-- An ordered post in flight (R482): the post, BEHIND, the tags of the earlier sentences it waits for, its acceptance. -/
structure OrderedPost where
  x : Sentence
  object : Nat
  n : Nat
  behind : Word
  earlier : List Word
  since : Nat
deriving DecidableEq, Repr

/-- A doorbell post held by the standby (R480). -/
structure HeldPost where
  object : Nat
  seq : Nat
  n : Nat
deriving DecidableEq, Repr

/-- The sync unit. `cycle` is the wait-for cycle found at the last scan, as (object, ticket) pairs. -/
structure SyncState where
  objects : Tbl SyncObject := []
  ordered : List OrderedPost := []
  heldPosts : List HeldPost := []
  heldDrops : Nat := 0
  repeats : Nat := 0
  refused : Nat := 0
  cycle : List (Nat × Ticket) := []
  lastScan : Nat := 0
  hangSeq : Nat := 0
  hang : Bytes := []
deriving DecidableEq, Repr

/-- A pair notice as it was last received on a path (R485), and what the path showed (R486, R494). `heardAt` is the nanosecond of the last thing
received on it. -/
structure PathState where
  heard : Bool := false
  tsend : Stamp := ⟨0, 0, 0, 0⟩
  trecv : Stamp := ⟨0, 0, 0, 0⟩
  delay : Int := 0
  offset : Int := 0
  lastSlot : Nat := 0
  heardAt : Nat := 0
deriving DecidableEq, Repr

/-- What waits for an acknowledgement of the standby (R490): a reply to send, or a sentence to take effect. -/
inductive Withheld where
  | reply (ticket : Ticket)
  | effect (verb : Nat) (x : Sentence)
  | response (index : Nat)
deriving DecidableEq, Repr

/-- The header and the halves of last words (R499): magic present, the bytes of the header, whether the copy is complete, the
sync table, the recorder tail, and the scratch prefixes as non-zero bytes by offset. -/
structure LastWords where
  present : Bool := false
  complete : Bool := false
  header : Bytes := []
  objects : Tbl Bytes := []
  records : List Bytes := []
  scratch : Tbl Byte := []
deriving DecidableEq, Repr

/-- A copy in progress (R492, R493): at the active the sections sent; at the standby the sections staged as bytes, and the
entries held. -/
structure CopyState where
  number : Nat
  sections : Tbl Bytes := []
  held : List Bytes := []
  since : Nat := 0
deriving DecidableEq, Repr

/-- A sentence of a type-3 entry without its type-5 entry (R489, R495): its verb, its forwarding tag (0 none), whether it has taken effect here or has
a type-4 entry, and the final reply that its effect implies, where known. -/
structure Mirrored where
  verb : Nat
  x : Sentence
  ftag : Nat
  effect : Bool := false
  reply : Option Reply := none
deriving DecidableEq, Repr

/-- The pair (R30, R485 to R502). `tried` is the number of the last copy begun, `commitMseq` the entry that carries its COMMIT; `accepted`
are oldest first. -/
structure PairState where
  claiming : Bool := true
  standby : Bool := false
  partnerUp : Bool := false
  partnerDownSince : Option Nat := none
  term : Word := 0
  firstClaim : Option Nat := none
  lastClaim : Nat := 0
  heardAny : Bool := false
  partnerOid : Word := 0
  answersFor : Option Word := none
  partnerRole : Nat := 255
  partnerFlags : Nat := 0
  lost : Bool := false
  link : PathState := {}
  fabric : PathState := {}
  lastBeat : Nat := 0
  mirrored : Bool := false
  checkpoint : Nat := 0
  copy : Option CopyState := none
  tried : Nat := 0
  commitMseq : Nat := 0
  recovering : Bool := false
  mseqNext : Nat := 1
  mseqAcked : Nat := 0
  mseqApplied : Nat := 0
  unacked : List (Nat × Nat × Bytes) := []
  withheld : List (Nat × Withheld) := []
  resent : Nat := 0
  takeovers : Nat := 0
  lastTakeover : Stamp := ⟨0, 0, 0, 0⟩
  accepted : List Mirrored := []
  hangCause : Option HangCause := none
  readmitDue : Option Nat := none
  own : LastWords := {}
  partner : LastWords := {}
deriving DecidableEq, Repr

end Sys2Proof.Machine
end

