-- ==== Sys2Proof/Machine/StateNet.lean ====
section
/-! DEFINITION. State of the ports and the traffic manager (chapter 13). Bucket tokens are in 10^-6 packet (R455). -/

namespace Sys2Proof.Machine
open Sys2Proof

/-- GET_PORT_STATUS byte 0 (R469). -/
inductive PortState where
  | down
  | training
  | inService
  | retraining
  | disabled
deriving DecidableEq, Repr

/-- A frame in an egress queue: where it goes and its body from the shim on (R446); `len` counts from the destination address
through the FCS. `timing` marks PTP and ESMC frames, which are not rerouted (R444); `group` marks frames one frame may carry. -/
structure QFrame where
  dst : Nat
  vlan : Option Nat
  etherType : Nat
  body : Bytes
  len : Nat
  timing : Bool := false
  dest : Nat := 0
deriving DecidableEq, Repr

/-- An egress queue with its shaper, weight and drop counts (R460 to R462, R466). -/
structure EgressQueue where
  frames : List QFrame := []
  weight : Nat := 1
  deficit : Nat := 0
  rate : Nat := 0
  burst : Nat := 1
  tokens : Nat := 0
  tailDrops : Nat := 0
  windowDrops : Nat := 0
  next : Option (Nat × Nat) := none
  nextWeight : Option Nat := none
deriving DecidableEq, Repr

/-- A gate list (R463): base as a service-time count, cycle, entries (mask, duration), the base stamp as sent, and its activation time
while it is pending, then the instant at which it took effect. A pending list without entries removes the list in force. -/
structure GateList where
  base : Nat
  cycle : Nat
  entries : List (Nat × Nat)
  activation : Nat
  stamp : Stamp
deriving DecidableEq, Repr

/-- One port (R439 to R445, R460 to R467). Ports 0 to 15 are the fabric ports, 16 the management port, 17 the partner link.
`roles` are the physical lanes of roles 0 to 3 and of the spare as received, `txRoles` as sent.
`serving` is the weighted queue being served in its turn (R461). `lineFree` is the service instant at which the line is free. -/
structure Port where
  st : PortState := .down
  enabled : Bool := false
  spareMode : Bool := false
  mac : Nat := 0
  fallback : Bool := false
  helloSeen : Bool := false
  upSince : Nat := 0
  lastHello : Nat := 0
  roles : List Nat := [0, 1, 2, 3, 4]
  txRoles : List Nat := [0, 1, 2, 3, 4]
  lanes : Tbl Lane := []
  threshold : Nat := 32
  limit : Nat := 16
  window : Nat := 0
  windowIndex : Nat := 0
  fec : Nat := 0
  retrains : Nat := 0
  swaps : Nat := 0
  rxSwap : Swap := .none
  txSwap : Swap := .none
  ignoredSwaps : Nat := 0
  outSince : Nat := 0
  outage : Bool := false
  sent : Nat := 0
  received : Nat := 0
  discards : Nat := 0
  noRoute : Nat := 0
  rerouted : Nat := 0
  outageDrops : Nat := 0
  queues : Tbl EgressQueue := []
  rotation : Nat := 3
  serving : Option Nat := none
  gate : Option GateList := none
  gatePending : Option GateList := none
  mask : Nat := 255
  lastBoundary : Nat := 0
  lineFree : Nat := 0
deriving DecidableEq, Repr

/-- A policer configuration (R454 to R459). -/
structure PolicerConfig where
  mode : Nat := 0
  respClass : Option Nat := none
  cir : Nat := 0
  pir : Nat := 1
  cbs : Nat := 1
  pbs : Nat := 1
  fbRate : Nat := 1000000
  fbBurst : Nat := 256
deriving DecidableEq, Repr

/-- A context's policer: configuration in force and the one of the next refill, tokens (`used` counts below full, so that a full
bucket is the default), counts. -/
structure Policer where
  cfg : PolicerConfig := {}
  next : Option PolicerConfig := none
  usedC : Nat := 0
  usedP : Nat := 0
  usedF : Nat := 0
  green : Nat := 0
  yellow : Nat := 0
  red : Nat := 0
  fallback : Nat := 0
deriving DecidableEq, Repr

/-- Ports, routes and policers. A routing entry or a next-hop entry of 0 is not listed (R450). -/
structure NetState where
  ports : Tbl Port := []
  routes : Tbl (BitVec 32) := []
  hops : Tbl (BitVec 64) := []
  policers : Tbl Policer := []
  rewriting : Bool := false
  lastRefill : Nat := 0
deriving DecidableEq, Repr

end Sys2Proof.Machine
end

