-- ==== Sys2Proof/Machine/StatePhys.lean ====
section
/-! DEFINITION. State of the package (chapter 18): straps, boot configuration, boot flash, management SPI, thermal trip, TAP. -/

namespace Sys2Proof.Machine
open Sys2Proof

/-- A command of the management SPI port that runs (R610, R611), or `none` once it has ended and its result is not yet shown. -/
structure MspiRun where
  cmd : Nat
  result : Option Nat := none
deriving DecidableEq, Repr

/-- The management SPI port (R608 to R611). -/
structure Mspi where
  badop : Nat := 0
  partials : Nat := 0
  extra : Nat := 0
  run : Option MspiRun := none
  done : Bool := false
  overrun : Bool := false
  result : Nat := 0
  addr : Nat := 0
  len : Nat := 0
  buffer : Tbl Byte := []
deriving DecidableEq, Repr

/-- The four HBM stacks (R284 to R287, R555) as they hold their bytes, encrypted: `cells` are those written since the last reset, by physical address,
`zeroed` the model-store pages overwritten with zeros under the operator's key, and `gen` numbers the resets: what else the stacks hold is undefined
after each. -/
structure HbmState where
  cells : Tbl Byte := []
  zeroed : List Nat := []
  gen : Nat := 0
deriving DecidableEq, Repr

/-- The package. `bootCfg` is the boot configuration copy in use, empty for the default of R607. A flash byte that is not listed
reads 0xFF: erased. -/
structure PhysState where
  straps : Straps := ⟨0, false, false⟩
  bootCfg : Bytes := []
  cfgDefault : Bool := false
  flash : Tbl Byte := []
  mspi : Mspi := {}
  tripped : Bool := false
  tripShutdown : Bool := false
  thermtrip : Bool := false
  tap : TapInstruction := .idcode
  porLow : Bool := true
deriving DecidableEq, Repr

end Sys2Proof.Machine
end

