-- ==== Sys2Proof/Machine/StateArray.lean ====
section
/-! DEFINITION. State of the data plane: dies as the front stage sees them (chapter 09), the tartlet array (chapter 10), models,
sequences and requests (chapter 11), reduction groups (chapter 12). A model is numbered 65,536 · context + model ID. -/

namespace Sys2Proof.Machine
open Sys2Proof

/-- What a scoring is for: one die's telemetry, or the request of one entry of the active request table. -/
inductive WorkSrc where
  | die (p : Nat)
  | request (idx : Nat)
deriving DecidableEq, Repr

/-! ## Front stage -/

/-- A tick whose vectors a die still has to start (R307): EPOCH_INDEX, the epoch in force, the tick's service instant, and the models
that score at it, each with the map and the number of the placement in force (R115, R321). -/
structure TickWait where
  index : Nat
  epoch : Nat
  instant : Nat
  models : List (Nat × Bytes × Nat)
deriving DecidableEq, Repr

/-- A die's telemetry as ingest left it (R183, R304, R306, R307). `bodies` are the last counter-epoch bodies by EPOCH_INDEX, newest first;
`lastReset` and `lastChange` are EPOCH_INDEXes + 1 of the last reset and of the activation tick of the last reduction change; `redId` is
the last REDUCTION_ID known. `week` holds, per path-delay channel, the sum and number of this week's VALUEs (R513). `history` is the history ring, newest first. -/
structure Die where
  waits : List TickWait := []
  bodies : List (Nat × Bytes) := []
  window : Option (Nat × Bytes) := none
  hists : Tbl (Nat × Bytes) := []
  sensors : Tbl Bytes := []
  ageing : Bytes := []
  week : Tbl (Nat × Nat) := []
  lastReset : Nat := 0
  lastChange : Nat := 0
  redId : Nat := 0
  late : Nat := 0
  history : List Bytes := []
  faults : List Bytes := []
  hangs : List Bytes := []
deriving DecidableEq, Repr

/-- A vector to build (R318 to R321): the map and the placement's number bound to it as it is admitted (R115), and for a die its tick. -/
structure VecJob where
  src : WorkSrc
  model : Nat
  map : Bytes
  tick : Nat := 0
  epoch : Nat := 0
  order : Nat := 0
  gen : Nat := 0
deriving DecidableEq, Repr

/-- A built vector (R316): bins, dense values, flag word, and the lowest invalid feature where the scoring ends there. -/
structure Vec where
  bins : Bytes
  dense : Bytes
  denseType : Nat
  flags : Nat
  invalid : Option Nat
deriving DecidableEq, Repr

/-- One front stage half. -/
structure Half where
  telemetry : List VecJob := []
  requests : List VecJob := []
  busy : Option (VecJob × Vec × Nat) := none
deriving DecidableEq, Repr

/-! ## Tartlets -/

/-- What the directory records for one slot (R325): the model, the tree (or weight bank), the mode 0 tree, 1 stream, 2 weight. -/
structure SlotDir where
  model : Nat
  tree : Nat
  mode : Nat
deriving DecidableEq, Repr

/-- A descriptor in a tartlet's queue: its work item and its 64 bytes. -/
structure Descriptor where
  work : Nat
  bytes : Bytes
deriving DecidableEq, Repr

/-- One tartlet: its descriptor queue, its scratch with the context that last wrote each 64-byte line (R360), the corrected count (R326),
and the slots that await their reload, as bank · 32 + slot. -/
structure Tartlet where
  queue : List Descriptor := []
  scratch : Tbl Byte := []
  tags : Tbl Nat := []
  corrected : Nat := 0
  bad : List Nat := []
deriving DecidableEq, Repr

/-- A transfer that a crossing has accepted (R278): the work item, and the nanosecond by which it is delivered. -/
structure Transfer where
  work : Nat
  due : Nat
deriving DecidableEq, Repr

/-- A work item (R398): one scoring on one replica. `crossing` are the clusters to which its vector is still on the way, `todo` the tartlets whose
descriptors have not all completed, `undispatched` the clusters that have not been given theirs; `tick` is the EPOCH_INDEX of a die's scoring, `order` the admission order. -/
structure Work where
  id : Nat
  src : WorkSrc
  model : Nat
  replica : Nat
  tick : Nat
  epoch : Nat
  order : Nat
  vec : Vec
  undispatched : List Nat
  todo : List Nat
  nonFinite : Bool := false
  pass : Bool := false
  gen : Nat := 0
  crossing : List Nat := []
deriving DecidableEq, Repr

/-! ## Models -/

/-- A load in progress (R374). -/
structure LoadState where
  received : Bytes
  total : Nat
  last : Nat
deriving DecidableEq, Repr

/-- Where one tree, or one weight bank, lies in every replica: tartlet position in the group, bank, first slot, slots taken. -/
structure SlotPlace where
  pos : Nat
  bank : Nat
  slot : Nat
  len : Nat
  tree : Nat
deriving DecidableEq, Repr

/-- A placement (R379 to R383). -/
structure Placement where
  mask : Nat := 0
  replicas : Nat := 1
  mode : Nat := 0
  intervalMs : Nat := 1000
  slots : List SlotPlace := []
  seqBase : Nat := 0xFFFFFFFF
deriving DecidableEq, Repr

/-- A placement whose copy runs or waits for its tick (R380). -/
structure NextPlace where
  plan : Placement
  ticket : Ticket
  staged : Bool
  copied : Bool := false
  copiedAt : Nat := 0
deriving DecidableEq, Repr

/-- A model's baseline (R429): a constant or a group followed, and the values set, newest first, each with the service instant from which it
is in force. -/
structure Baseline where
  group : Option Nat := none
  values : List (Nat × Word) := []
deriving DecidableEq, Repr

/-- A streamed pass (R384): the work items it serves and the chunk it has reached. -/
structure StreamPass where
  works : List Nat
  chunk : Nat
deriving DecidableEq, Repr

/-- A model (R365 to R384, R401, R402). `st` is the code of R366; `image` is its plaintext as the engines read it, and `at_` are the pages of the
model store in which it lies encrypted, in order; `gen` numbers the placement in force; `old` are placements replaced, each
with its number, whose slots are freed when what is bound to them has completed (R115, R380). -/
structure Model where
  st : Nat := 0
  image : Bytes := []
  at_ : List Nat := []
  load : Option LoadState := none
  map : Bytes := []
  mapNext : Option (Bytes × Nat) := none
  mapLoad : Option LoadState := none
  place : Option Placement := none
  gen : Nat := 0
  next : Option NextPlace := none
  old : List (Placement × Nat) := []
  unloadAt : Option Nat := none
  suspended : Bool := false
  out : List Nat := []
  digests : List Nat := []
  lastScan : Nat := 0
  scannedAt : Nat := 0
  scanning : Bool := false
  mismatches : Nat := 0
  baseline : Baseline := {}
  pass : Option StreamPass := none
deriving DecidableEq, Repr

/-! ## Sequences and requests -/

/-- An entry of the active sequence table (R393, R394). `order` are the requests admitted for it whose step is not taken, oldest first. -/
structure SeqEntry where
  isOpen : Bool := false
  gen : Nat := 0
  model : Nat := 0
  port : Option Nat := none
  steps : Nat := 0
  state : Bytes := []
  order : List Nat := []
  closing : Option Ticket := none
deriving DecidableEq, Repr

/-- An entry of the active request table (R389): `mseq` is its type-1 mirror entry, `resp` the response formed and withheld (R490). -/
structure ReqEntry where
  req : Requester
  port : Nat
  header : Bytes
  payload : Bytes
  buf : Option ResultBuffer
  model : Nat
  order : Nat
  mseq : Nat := 0
  resp : Option Bytes := none
deriving DecidableEq, Repr

/-- A completed response (R390). -/
structure Stored where
  req : Requester
  tenant : Nat
  tag : Word
  bytes : Bytes
  since : Nat
deriving DecidableEq, Repr

/-- A score block that waits for its sequence step. -/
structure Scored where
  src : WorkSrc
  model : Nat
  tick : Nat
  epoch : Nat
  flags : Nat
  block : Bytes
  seq : Nat
deriving DecidableEq, Repr

/-! ## Reduction -/

/-- A neighbour (R436): its position, relation (0 parent, 1 child, 2 exchange peer), level and the OIDs of its pair. -/
structure Neighbour where
  pos : Nat
  rel : Nat
  level : Nat
  oid : Word
  oid2 : Word
deriving DecidableEq, Repr

/-- What is measured of a neighbour (R421, R433): arrival minus TSEND of its last down or exchange frame, the delay and offset of a child in
1/16 ns, its reach, and its highest format level. -/
structure Measured where
  pos : Nat
  tdown : Int := 0
  delay : Option Int := none
  theta : Int := 0
  reach : Nat := 0
  maxLevel : Nat := 3
deriving DecidableEq, Repr

/-- The counts of a contribution (R417). `cut` says that a list of the straggler pass was full, so that `named` is not known (R430). -/
structure FoldCounts where
  counted : Nat := 0
  missing : Nat := 0
  exclConfig : Nat := 0
  exclVersion : Nat := 0
  suspect : Nat := 0
  late : Nat := 0
  invalid : Nat := 0
  named : Nat := 0
  cut : Bool := false
deriving DecidableEq, Repr

/-- A fold: counts, section bytes in the format of R413 or R416, the offset section of R433, the lowest
highest-supported level of the subtree (R432). -/
structure Fold where
  counts : FoldCounts := {}
  section_ : Bytes := []
  offsets : List (Nat × Int) := []
  maxLevel : Nat := 3
deriving DecidableEq, Repr

/-- One node of the member for one pass of a close (R408, R421): level, the children that have arrived with their folds, whether it has
folded. -/
structure NodeFold where
  pass : Nat
  level : Nat
  arrived : List (Nat × Fold) := []
  done : Bool := false
  result : Fold := {}
deriving DecidableEq, Repr

/-- A contribution whose fragments have not all arrived (R417): its direction, pass and sender, its header and its fragments by index. -/
structure Partial where
  dir : Nat
  pass : Nat
  pos : Nat
  header : Bytes
  parts : Tbl Bytes
deriving DecidableEq, Repr

/-- A close in flight (R419 to R428). Its period covers the ticks after service instant `since` up to `instant`. `keys` are the dies' close
keys, `drift` the ports whose drift operation raised an alarm, `judged` the ports compared already. -/
structure Close where
  index : Nat
  instant : Nat
  since : Nat
  gen : Nat
  config : Bytes := []
  neighbours : List Neighbour := []
  early : Bool := false
  timeReport : Bool := false
  level : Nat := 3
  own : Option Fold := none
  nodes : List NodeFold := []
  frags : List Partial := []
  keys : Tbl Int := []
  drift : List Nat := []
  classes : Tbl Nat := []
  summary : Bytes := []
  payload : Bytes := []
  named : List Bytes := []
  passTwo : Bool := false
  finalList : Option Bytes := none
  applied : Bool := false
  judged : List Nat := []
deriving DecidableEq, Repr

/-- A retained close (R438). -/
structure Retained where
  gen : Nat
  index : Nat
  summary : Bytes
  payload : Option Bytes
  final : Bytes
deriving DecidableEq, Repr

/-- A change of a group that waits for its close tick (R434, R435). -/
inductive GroupChange where
  | join (pos gen : Nat) (neighbours : List Neighbour)
  | leave
  | config (params : Bytes)
  | fence (gen : Nat)
deriving DecidableEq, Repr

/-- A change with the nanosecond and the service instant from which a close tick applies it. -/
structure GroupPending where
  change : GroupChange
  due : Nat
  at_ : Nat := 0
  ticket : Option Ticket
deriving DecidableEq, Repr

/-- A reduction group (R407 to R438). `config` are the parameters of the GROUP_SET in force, empty before one; `verdicts` are the verdict
records not folded yet, each behind its tick's instant in ns; `runs` the naming runs by port; `fence` the nanosecond of the last fence tick; `lateNamed` entries for the next pass, each before
its close's instant in ns. -/
structure Group where
  gen : Nat := 1
  genOwed : Bool := false
  fence : Nat := 0
  config : Bytes := []
  joined : Bool := false
  pos : Nat := 0
  neighbours : List Neighbour := []
  measured : List Measured := []
  pending : List GroupPending := []
  closes : List Close := []
  retained : List Retained := []
  verdicts : List Bytes := []
  runs : Tbl Nat := []
  lateNamed : List Bytes := []
  level : Nat := 3
  nextLevel : Nat := 3
  defaulted : Bool := false
  lastClose : Nat := 0
  lastComplete : Nat := 0
  offset : Int := 0
  suspect : Bool := false
  suspects : Bytes := []
  abandoned : Nat := 0
  stale : Nat := 0
  unknown : Nat := 0
  discards : Nat := 0
  trouble : Nat := 0
deriving DecidableEq, Repr

/-! ## The data plane -/

/-- The data plane of the aggregator. `heldWork` are scorings of requests that wait for a replica (R400, R402). `orderNext` numbers admissions, `workNext` work items; `crossings` are the
crossings from front stage half h to cluster c, number 64 h + c, oldest transfer first (R278); `zeroing` are the pages of a context being
zeroed (R287); `reqDiscards` counts requests of R388 step 1 and duplicates in flight (R390); `swept` is the nanosecond to which completed
responses have been dropped. -/
structure DataPlane where
  dies : Tbl Die := []
  half0 : Half := {}
  half1 : Half := {}
  tartlets : Tbl Tartlet := []
  directory : Tbl SlotDir := []
  works : List Work := []
  heldWork : List (VecJob × Vec) := []
  workNext : Nat := 1
  crossings : Tbl (List Transfer) := []
  scored : List Scored := []
  models : Tbl Model := []
  zeroing : Tbl (List Nat) := []
  seqs : Tbl SeqEntry := []
  requests : Tbl ReqEntry := []
  orderNext : Nat := 1
  stored : List Stored := []
  jobs : Tbl Nat := []
  reqBadHcrc : Nat := 0
  reqDiscards : Nat := 0
  groups : Tbl Group := []
  redDiscards : Nat := 0
  lastTick : Nat := 0
  lastIndex : Nat := 0
deriving DecidableEq, Repr

end Sys2Proof.Machine
end

