-- ==== Sys2Proof/Machine/StateRel.lean ====
section
/-! DEFINITION. State of reliability (chapter 15): ageing monitors, the margin planner and its log, margins, silent-error reports, screen packs, fuse
words. Delays normalised to 105 degC are in 1/800 ps. What chapter 15 keeps in flash logs without a byte layout is held here as data. -/

namespace Sys2Proof.Machine
open Sys2Proof

/-- What the fuse controller knows of a word that did not read alike (R522, R523): marginal at boot, marginal in service, drifted, and the
disagreeing reads, bit 2i normal and bit 2i + 1 margin of copy i. -/
structure FuseMark where
  boot : Bool := false
  service : Bool := false
  drifted : Bool := false
  reads : Nat := 0
deriving DecidableEq, Repr

/-- One island (R507 to R511): the latest sample, the steps in force, the D105 values of the last 24 h by second, newest first, and the runs since
its last VSTEP increase, 7 standing for 7 or more. -/
structure Island where
  sampled : Bool := false
  ro : BitVec 16 := 0
  delay : BitVec 16 := 0
  tj : BitVec 16 := 0
  volt : BitVec 16 := 0
  vstep : Nat := 0
  fstep : Nat := 0
  eol : Bool := false
  hist : List (Nat × Int) := []
  quiet : Nat := 7
deriving DecidableEq, Repr

/-- What a run decided for one island (R510): the new steps, whether END_OF_LIFE is set by it, the guard in 0.01 %. -/
structure PlanChange where
  island : Nat
  vstep : Nat
  fstep : Nat
  eol : Bool
  guard : Option Int
deriving DecidableEq, Repr

/-- A planner run (R509 to R511): whether it applies, its sentence if any, the plan with the nanosecond of its completion, the (VSTEP, FSTEP) of the islands before it, and the nanosecond of the
last rail write once the tick of step 1 has passed. -/
structure PlanRun where
  apply : Bool
  ticket : Option Ticket
  plan : Option (List PlanChange × Nat) := none
  before : List (Nat × Nat) := []
  wrote : Option Nat := none
deriving DecidableEq, Repr

/-- One margin of R515: current value, values of the last 24 h by second, least since first service, alarm, and the second + 1 of its last record. -/
structure Margin where
  current : Nat := 0
  day : List (Nat × Nat) := []
  least : Option Nat := none
  alarm : Bool := false
  alarmAt : Nat := 0
deriving DecidableEq, Repr

/-- A series of the ageing log (R513): the OID of its DTC, 0 for an island, and its weekly values, newest first. An island's values are VSTEPs, a
channel's are 1/65,536 of the VALUE's unit. -/
structure Series where
  oid : Nat := 0
  values : List Nat := []
deriving DecidableEq, Repr

/-- A screen pack that runs (R519 to R521): `todo` are the (cluster, test number) pairs still to run, `fails` the (tartlet, failing tests) counts of this
run, `bad` the clusters on which a test failed, `unclean` those on which a test was skipped, `clusters` the mask. -/
structure ScreenRun where
  ticket : Ticket
  pack : Nat
  todo : List (Nat × Nat)
  ran : Nat := 0
  passed : Nat := 0
  failed : Nat := 0
  skipped : Nat := 0
  first : Option (Nat × Nat) := none
  fails : Tbl Nat := []
  bad : List Nat := []
  unclean : List Nat := []
  clusters : List Nat := []
deriving DecidableEq, Repr

/-- Reliability. `fuses` are the programmed words, `latched` the values accepted at boot (R522). `rails` are the stored setpoints of rails 0 to 19 above
nominal, in 2.5 mV steps. `marginLog` and `reports` are newest first. `packs` are the packs in SCR by PACK_ID; `retired` are (cluster, pack) pairs of
failed runs (R521). -/
structure RelState where
  fuses : Tbl Word := []
  latched : Tbl Word := []
  marks : Tbl FuseMark := []
  bootTj : Nat := 0
  rereadTj : Nat := 0
  rereadAt : Nat := 0
  islands : Tbl Island := []
  schedule : Nat := 7200
  run : Option PlanRun := none
  rails : Tbl Nat := []
  marginLog : List Bytes := []
  marginSeq : Nat := 1
  series : Tbl Series := []
  margins : Tbl Margin := []
  reports : List Bytes := []
  reportSeq : Nat := 1
  repeats : Tbl Nat := []
  packs : Tbl Bytes := []
  screen : Option ScreenRun := none
  lastPass : Tbl Nat := []
  retired : List (Nat × Nat) := []
deriving DecidableEq, Repr

end Sys2Proof.Machine
end

