-- ==== Sys2Proof/Machine/State.lean ====
section
/-! DEFINITION. The state of the block: the queue of waiting commands, the aggregator under study, the DTCs of its 64 ports, and
the model's own two fields, `out` (everything emitted, newest first) and `free` (the counter of free values). -/

namespace Sys2Proof.Machine
open Sys2Proof

/-- Why the block stops. No command of the table ends in a fault: the spec answers every error with a status, a count, a record
or a reset. `impossible` is raised by no meaning (safe: nothing can be proved from it). -/
inductive Fault where
  | impossible
deriving DecidableEq, Repr

/-- Why a command has no meaning. -/
inductive Refusal where
  /-- A row of the table not modelled yet; raised only by the dispatcher's own arms (safe). -/
  | notModelled (mnemonic : String)
deriving DecidableEq, Repr

/-- The state of the block. -/
structure State where
  pending : List Instr := []
  free : Nat := 0
  out : List Output := []
  time : AggTime := {}
  sys : SysState := {}
  verbs : VerbState := {}
  dev : DevState := {}
  sec : SecState := {}
  obs : ObsState := {}
  phys : PhysState := {}
  hbm : HbmState := {}
  net : NetState := {}
  data : DataPlane := {}
  rel : RelState := {}
  sync : SyncState := {}
  pair : PairState := {}
  hub : TraceUnit := {}
  sinks : Tbl Sink := []
  ports : Tbl AggPort := []
  dtcs : Tbl Dtc := []
deriving DecidableEq, Repr

/-- The machine right after a cold reset: every field at the value the spec gives, or at the value a log entry names. -/
def State.reset : State := {}

end Sys2Proof.Machine
end

