-- ==== Sys2Proof/Machine/Status.lean ====
section
/-! DEFINITION. The status codes of R100. -/

namespace Sys2Proof.Machine.St

def ok : Nat := 0x0000
def accepted : Nat := 0x0001
def duplicate : Nat := 0x0002
def busy : Nat := 0x0100
def length : Nat := 0x0101
def param : Nat := 0x0102
def unknownVerb : Nat := 0x0103
def state : Nat := 0x0104
def stageExpired : Nat := 0x0105
def featureInvalid : Nat := 0x0106
def version : Nat := 0x0107
def staleGeneration : Nat := 0x0108
def hwFault : Nat := 0x0200
def crc : Nat := 0x0201

end Sys2Proof.Machine.St
end

