-- ==== Sys2Proof/Machine/Ops.lean ====
section
/-! DEFINITION. The named operations over State that every family uses: time views, outputs, interrupts, event records, the
mirror stream, routing to an egress queue, replies and tag windows. -/

namespace Sys2Proof.Machine
open Sys2Proof

/-! ## Access to the parts -/

def State.dtc (s : State) (p : Fin 64) : Dtc := Tbl.get {} p.val s.dtcs
def State.setDtc (s : State) (p : Fin 64) (d : Dtc) : State := { s with dtcs := Tbl.set {} p.val d s.dtcs }
def State.port (s : State) (p : Fin 64) : AggPort := Tbl.get {} p.val s.ports
def State.setPort (s : State) (p : Fin 64) (a : AggPort) : State := { s with ports := Tbl.set {} p.val a s.ports }
def State.onDtc (s : State) (p : Fin 64) (f : Dtc → Dtc) : State := s.setDtc p (f (s.dtc p))
def State.onPort (s : State) (p : Fin 64) (f : AggPort → AggPort) : State := s.setPort p (f (s.port p))
def State.netPort (s : State) (n : Nat) : Port := Tbl.get {} n s.net.ports
def State.setNetPort (s : State) (n : Nat) (q : Port) : State :=
  { s with net := { s.net with ports := Tbl.set {} n q s.net.ports } }
def Dtc.link (d : Dtc) : LinkId → DtcLink
  | .a => d.la
  | .b => d.lb
def Dtc.setLink (d : Dtc) (l : LinkId) (k : DtcLink) : Dtc :=
  match l with
  | .a => { d with la := k }
  | .b => { d with lb := k }

/-- Every port number of a tray. -/
def allPorts : List (Fin 64) := List.finRange 64

/-- The command's effect leaves the queue alone: the step owns it. -/
def finish (s t : State) : Host.Outcome State Fault Refusal := .next { t with pending := s.pending }

/-! ## Time views (R46, R47, R68, R98, R616) -/

/-- The aggregator's duration clock in nanoseconds (R616). -/
def State.now (s : State) : Nat := s.time.clock / unit
/-- Service time at the aggregator in 2^-48 ns. -/
def State.svc (s : State) : Nat := s.time.sel.svc
/-- Service time in whole nanoseconds. -/
def State.svcNs (s : State) : Nat := nsOf s.time.sel.svc
def State.timeValid (s : State) : Bool := s.time.sel.valid
def State.domain (s : State) (d : Fin 2) : Domain := if d = 0 then s.time.domA else s.time.domB
def State.setDomain (s : State) (d : Fin 2) (v : Domain) : State :=
  if d = 0 then { s with time := { s.time with domA := v } } else { s with time := { s.time with domB := v } }

/-- FLAGS of service time (R47, R68). -/
def State.svcFlags (s : State) : Nat :=
  let k := s.time.sel
  match k.st with
  | .init => flagWord false false false 2 0
  | .hold => flagWord k.valid true k.slew 2 k.holdQual
  | _ => flagWord k.valid false k.slew k.followed.val (s.domain k.followed).cls

def State.stamp (s : State) : Stamp := stampOf s.svc s.svcFlags
def State.cs (s : State) : Nat := cstampOf s.timeValid s.svc

def Dtc.now (d : Dtc) : Nat := d.time.clock / unit
/-- No link of the DTC is in service: no aggregator is present (R81). -/
def Dtc.alone (d : Dtc) : Bool := d.la.e.st != .inService && d.lb.e.st != .inService

/-- FLAGS of the DTC's copy: DOM, QUAL and the holdover of its source are those of T1 in the latest time record it took, DOM 0b10
before any, while the copy is not valid and with no aggregator present (R47, R80, R81; DEDUCED, log entry 13). -/
def Dtc.flags (d : Dtc) : Nat :=
  if !d.time.valid then flagWord false false (d.time.residual != 0) 2 0
  else flagWord d.time.valid (d.time.hold || d.time.srcHold) (d.time.residual != 0) (if d.alone then 2 else d.time.dom) d.time.qual
def Dtc.stamp (d : Dtc) : Stamp := stampOf d.time.time d.flags
def Dtc.cs (d : Dtc) : Nat := cstampOf d.time.valid d.time.time

/-- The period of adp_ref_clk in ns (R139). -/
def refPeriod (t : DtcTies) : Nat := 1000 / t.refMHz
/-- The instant of a DTC's copy at its present nanosecond: adp_fine_clk divides the adp_ref_clk cycle in progress (R77, R139). -/
def Dtc.instant (d : Dtc) : Nat := d.time.time + d.time.cycle * d.time.incr.toNat / refPeriod d.ties

/-- CSTAMP counts of the part that executes a sentence. -/
def State.csOf (s : State) : Part → Nat
  | .agg => s.cs
  | .dtc p => (s.dtc p).cs
def State.nowOf (s : State) : Part → Nat
  | .agg => s.now
  | .dtc p => (s.dtc p).now

/-- The first epoch tick at or after service instant t, for epoch e in ns (R17). -/
def tickAtOrAfter (e t : Nat) : Nat := ceilDiv (ceilDiv t unit) e * e * unit

/-- 2 us in 2^-48 ns: the distance R33, R113, R180 and others ask for. -/
def twoUs : Nat := 2000 * unit

/-- The service instant of nanosecond `n` of the duration clock, not before time became valid (R616). -/
def State.svcAt (s : State) (n : Nat) : Nat :=
  max s.time.sel.validAt (((s.svc : Int) + ((n * unit : Nat) : Int) - (s.time.clock : Int)).toNat)

/-- The first epoch tick at or after service instant `a`, once service time has reached it. -/
def State.tickFrom (s : State) (a : Nat) : Option Nat :=
  if !s.timeValid then none
  else
    let t := tickAtOrAfter s.sys.epoch a
    if t ≤ s.svc then some t else none

/-- The first epoch tick at or after nanosecond `n`, once service time has reached it (R616). -/
def State.dueTick (s : State) (n : Nat) : Option Nat := s.tickFrom (s.svcAt n)

/-- EPOCH_INDEX of a tick at service instant t (R181). -/
def epochIndex (e t : Nat) : Nat := nsOf t / e

/-! ## Outputs, interrupts, free values -/

def State.emit (s : State) (c : Chan) (data : Bytes := []) : State := { s with out := ⟨c, data⟩ :: s.out }

/-- Draw one free value: the number of the draw, and the state with the counter advanced. -/
def State.draw (s : State) : Nat × State := (s.free, { s with free := s.free + 1 })

def State.vector (s : State) (n : Nat) : MsixEntry := Tbl.get {} n s.dev.msix
def State.setVector (s : State) (n : Nat) (e : MsixEntry) : State := { s with dev := { s.dev with msix := Tbl.set {} n e s.dev.msix } }

/-- Signal MSI-X vector n: its message goes out, or its pending bit is set while it is masked (R288, R289). -/
def State.signal (s : State) (n : Nat) : State :=
  let e := s.vector n
  if e.control.getLsbD 0 then s.setVector n { e with pending := true }
  else s.emit (.msix n) (be 8 e.addr.toNat ++ be 4 e.data.toNat)

/-- A device event sets its bit of GQ_IRQ_STATUS, and signals vector 64 + bit where enabled (R289, R291). -/
def State.irq (s : State) (bit : Nat) : State :=
  let m : BitVec 5 := BitVec.ofNat 5 (1 <<< bit)
  let t := { s with dev := { s.dev with irqStatus := s.dev.irqStatus ||| m, irqAt := Tbl.insert bit s.now s.dev.irqAt } }
  if s.dev.irqEn &&& m = m then t.signal (64 + bit) else t

/-- The bits whose event came in this cycle: a write of the same cycle leaves them set (R163, R291). -/
def freshBits (n : Nat) (at_ : Tbl Nat) (now : Nat) : BitVec n :=
  (List.range n).foldl (fun m i => if Tbl.find? i at_ = some now then m ||| BitVec.ofNat n (1 <<< i) else m) 0

/-- The same for a DTC's ADP_IRQ_STATUS, whose interrupt is the level of R139 (adp_irq). -/
def Dtc.irq (d : Dtc) (bit : Nat) : Dtc :=
  { d with irqStatus := d.irqStatus ||| BitVec.ofNat 9 (1 <<< bit), irqAt := Tbl.insert bit d.now d.irqAt }

/-! ## Event records (R572 to R575) -/

/-- A record as raised: stamp of service time now, no SEQ yet. -/
def State.rawRecord (s : State) (source code severity ctx : Nat) (data : Bytes) (flags : Nat := 0) (oid : Option Word := none) :
    RawRecord :=
  { stamp := s.stamp, severity := severity, source := source, code := code, ctx := ctx, flags := flags,
    oid := ((oid.getD s.dev.oid).toNat), data := padTo 28 data }

/-- Put a record before the recorder: into the early buffer before stage 6 (64 records), else into its subsystem's queue of 16,
where a record that finds the queue full is dropped and counted (R573, R574). -/
def State.enqueueRecord (s : State) (r : RawRecord) : State :=
  if s.dev.stage < 6 then
    if s.obs.early.length < 64 then
      { s with obs := { s.obs with early := s.obs.early ++ [{ r with flags := r.flags ||| 8 }] } }
    else { s with obs := { s.obs with qdrops := satInc 32 s.obs.qdrops } }
  else
    let q := Tbl.get [] r.source s.obs.queues
    if q.length < 16 then { s with obs := { s.obs with queues := Tbl.set [] r.source (q ++ [r]) s.obs.queues } }
    else { s with obs := { s.obs with qdrops := satInc 32 s.obs.qdrops } }

/-- Raise a record of R575. -/
def State.raise (s : State) (source code severity : Nat) (data : Bytes) (ctx : Nat := 0xFFFF) (oid : Option Word := none) : State :=
  s.enqueueRecord (s.rawRecord source code severity ctx data 0 oid)

/-- Raise a continued group: DATA over several records, CONTINUED set in all but the last (R573). -/
def State.raiseGroup (s : State) (source code severity : Nat) (data : Bytes) (ctx : Nat := 0xFFFF) : State :=
  let cs := chunks 28 data
  cs.zipIdx.foldl (fun t c =>
    t.enqueueRecord (t.rawRecord source code severity ctx c.1 (if c.2 + 1 < cs.length then 4 else 0))) s

/-! ## Roles and the mirror stream (R30, R489, R490) -/

/-- The role is settled and active. -/
def State.active (s : State) : Bool := !s.pair.claiming && !s.pair.standby
/-- The active mirrors: a standby has the whole state (R490, R491). -/
def State.mirrors (s : State) : Bool := s.active && s.pair.mirrored

/-- Send a mirror entry and keep it until acknowledged (R489, R491), while the standby has the state or a copy of it runs (R492). -/
def State.mirror (s : State) (typ : Nat) (body : Bytes) : State :=
  if s.active && (s.pair.mirrored || s.pair.copy.isSome) then
    let m := s.pair.mseqNext
    let c := match s.pair.copy with | some k => k.number | none => s.pair.checkpoint
    let bytes := be 8 m ++ be 4 c ++ be 1 typ ++ be 1 0 ++ be 2 body.length ++ body
    { s with
      pair := { s.pair with mseqNext := m + 1, unacked := s.pair.unacked ++ [(m, typ, bytes)] }
      out := if s.pair.partnerUp then ⟨.mirror m typ, bytes⟩ :: s.out else s.out }
  else s

/-- The MSEQ of the entry sent last. -/
def State.lastMseq (s : State) : Nat := s.pair.mseqNext - 1

/-- A sync object's record (R471). -/
def SyncObject.record (o : SyncObject) : Bytes :=
  be 4 o.count ++ be 4 o.limit ++ be 4 o.level ++ be 2 o.producer ++ be 2 o.consumer ++ be 4 o.producerOid.toNat ++ be 2 o.ctx ++ be 2 o.vector ++
    be 2 o.waiters.length ++ be 1 ((if o.inited then 1 else 0) + (if o.faulted then 2 else 0)) ++ be 1 o.hseq ++
    be 4 ((o.waiters.head?.map (·.n)).getD 0)

def State.object (s : State) (i : Nat) : SyncObject := Tbl.get {} i s.sync.objects
def State.setObject (s : State) (i : Nat) (o : SyncObject) : State :=
  { s with sync := { s.sync with objects := Tbl.set {} i o s.sync.objects } }

/-! ## Routing to an egress queue (R449 to R452, R460) -/

/-- Whether the aggregator answers for an OID (R130, R449 item 1). -/
def State.isOwn (s : State) (o : Word) : Bool := o == s.dev.oid || s.pair.answersFor == some o

/-- The DTC port of an attached OID (R136, R449 item 2). -/
def State.dtcOf (s : State) (o : Word) : Option (Fin 64) :=
  allPorts.find? fun p => Tbl.get 0 p.val s.verbs.knownOid == o.toNat && o != 0

/-- The routing entry of an OID: EGRESS and the next-hop entry (R449 item 3, R450, R451). -/
def State.route (s : State) (o : Word) : Option (Nat × BitVec 64) :=
  let e := Tbl.get 0 (o.toNat % 2 ^ 20) s.net.routes
  if e.getLsbD 31 && (e.extractLsb' 19 12).toNat == o.toNat / 2 ^ 20 then
    some ((e.extractLsb' 14 5).toNat, Tbl.get 0 (e.extractLsb' 0 12).toNat s.net.hops)
  else none

/-- The size of a frame with this body: 14 bytes of header, 4 of tag if any, 4 of FCS, at least 64 (R446). -/
def frameLen (vlan : Option Nat) (body : Bytes) : Nat := max 64 (18 + (if vlan.isSome then 4 else 0) + body.length)

/-- A frame for the partner path (R444, R451): its body crosses the partner link; without that link it is dropped and counted at
port 17. -/
def State.toPartner (s : State) (f : QFrame) : State :=
  if s.pair.partnerUp then s.emit (.partnerLink (byteAt f.body 4)) f.body
  else
    let q := s.netPort 17
    s.setNetPort 17 { q with outageDrops := satInc 64 q.outageDrops }

/-- A port control frame: link-local, never rerouted (R447). -/
def QFrame.linkLocal (f : QFrame) : Bool := f.etherType == 0x88B6 && byteAt f.body 4 == 6

/-- The class-0 frames of a port that retrains take the partner path while that is in service (R444). -/
def State.classZeroMoves (s : State) (q : Port) (f : QFrame) : Bool :=
  (q.st == .retraining || q.outage) && s.pair.partnerUp && !f.linkLocal && !f.timing

/-- Put a frame in the queue of its class at a port, dropped and counted where the queue holds 1,024 frames or 4 MiB (R460). While the
port is out of service, class 0 takes the partner path at once, classes 1 and 2 after 100 us, and classes 3 to 7 are then dropped
(R444). -/
def State.enqueue (s : State) (port cls : Nat) (f : QFrame) : State :=
  let q := s.netPort port
  if port = 17 then s.toPartner f
  else if q.st == .retraining && f.timing then s.setNetPort port { q with outageDrops := satInc 64 q.outageDrops }
  else if cls = 0 && s.classZeroMoves q f then (s.setNetPort port { q with rerouted := satInc 64 q.rerouted }).toPartner f
  else if q.outage && (cls = 1 || cls = 2) && s.pair.partnerUp then s.toPartner f
  else if q.outage && 3 ≤ cls then s.setNetPort port { q with outageDrops := satInc 64 q.outageDrops }
  else
    let e := Tbl.get {} cls q.queues
    let bytes := e.frames.foldl (fun a g => a + g.len) 0
    let e' := if e.frames.length < 1024 && bytes + f.len ≤ 4194304 then { e with frames := e.frames ++ [f] }
              else { e with tailDrops := satInc 32 e.tailDrops }
    s.setNetPort port { q with queues := Tbl.set {} cls e' q.queues }

/-- Queue a frame body of a class for an OID by its routing entry; false without a route. -/
def State.sendTo (s : State) (o : Word) (cls etherType : Nat) (body : Bytes) : State × Bool :=
  match s.route o with
  | none => (s, false)
  | some (eg, hop) =>
    let vlan := if hop.getLsbD 15 then some ((7 - cls) * 8192 + (hop.extractLsb' 0 12).toNat) else none
    (s.enqueue eg cls { dst := (hop.extractLsb' 16 48).toNat, vlan := vlan, etherType := etherType, body := body,
                        len := frameLen vlan body, dest := o.toNat }, true)

/-- The sentence EtherType that a frame is sent with now (R125). -/
def EtherSetting.at (e : EtherSetting) (now : Nat) : Nat := if e.since ≤ now then e.next else e.cur

/-- The sentence EtherType in force at a port (R125). -/
def State.sentenceType (s : State) (port : Nat) : Nat := (if port = 16 then s.verbs.etMgmt else s.verbs.etFabric).at s.now

/-- The sentence EtherType of a frame for an OID: that of the port by which it leaves. -/
def State.typeTo (s : State) (o : Word) : Nat := s.sentenceType ((s.route o).map (·.1) |>.getD 17)

/-- The source OID of replies to sentences for a TARGET: a new active answers for the former active with that OID (R130). -/
def State.sourceOf (s : State) (target : Word) : Word := if s.pair.answersFor == some target then target else s.dev.oid

/-- The shim of R124. -/
def shim (src : Word) (kind count : Nat) : Bytes := be 4 src.toNat ++ be 1 kind ++ be 1 count ++ be 2 0

/-! ## Replies (R96, R120 to R123) -/

/-- A reply's bytes (R96). -/
def replyBytes (tag : Word) (st : Nat) (results : Bytes) (cstamp : Nat) : Bytes :=
  be 4 tag.toNat ++ be 2 st ++ be 2 results.length ++ be 8 cstamp ++ results

/-- A record header of R245 with its body. -/
def recordBytes (flags : Nat) (offset : Nat) (body : Bytes) : Bytes :=
  be 2 body.length ++ be 1 flags ++ be 1 0 ++ be 4 offset ++ body

def State.qp (s : State) (n : Fin 64) : Qp := Tbl.get {} n.val s.dev.qp
def State.setQp (s : State) (n : Fin 64) (q : Qp) : State := { s with dev := { s.dev with qp := Tbl.set {} n.val q s.dev.qp } }

/-- The completion ring is full (R295). -/
def Qp.full (q : Qp) : Bool := (q.cqPos + 1) % 4096 == q.cqHead

/-- Write one completion: the results, then the entry with the phase bit, then the vector where enabled (R122, R123, R294). -/
def State.complete (s : State) (n : Fin 64) (addr : Nat) (results entry : Bytes) : State :=
  let q := s.qp n
  let flags := byteAt entry 19 / 2 * 2 + (if q.phase then 1 else 0)
  let s1 := if results.isEmpty then s else s.emit (.hostWrite addr) results
  let s2 := s1.emit (.hostWrite (q.cqBase + 32 * q.cqPos)) (putAt entry 19 (be 1 flags))
  let s3 := if q.msiEn then s2.signal n.val else s2
  let wrap := q.cqPos + 1 == 4096
  let left := q.inFlight - 1
  s3.setQp n { q with cqPos := (q.cqPos + 1) % 4096, phase := if wrap then !q.phase else q.phase, inFlight := left,
                      enabled := q.enable || left != 0 }

/-- Send a completion, or hold it while the ring is full (R123). -/
def State.offer (s : State) (n : Fin 64) (addr : Nat) (results entry : Bytes) : State :=
  let q := s.qp n
  if q.full || !q.held.isEmpty then s.setQp n { q with held := q.held ++ [(addr, results, entry)] }
  else s.complete n addr results entry

/-- The completion entry of a reply (R122), its phase bit filled in when it is written. -/
def completionEntry (n sqHead : Nat) (truncated : Bool) (header : Bytes) : Bytes :=
  header ++ be 2 sqHead ++ be 1 n ++ be 1 (if truncated then 2 else 0) ++ zeros 12

/-- The link on which the DTC last served a port's sentence: the followed link (R129, R256). -/
def Dtc.followed (d : Dtc) : LinkId :=
  let key (k : DtcLink) : Nat := match k.beacon with
    | some b => if k.e.st == .inService && b.active then b.term.toNat + 1 else 0
    | none => 0
  if key d.lb > key d.la then .b else if key d.la > 0 then .a
  else if d.la.e.st == .inService then .a else if d.lb.e.st == .inService then .b else .a

/-- The DTC follows a link: it is in service, and its BEACON ranks first (R256). -/
def Dtc.follows (d : Dtc) (l : LinkId) : Bool := (d.link l).e.st == .inService && d.followed == l

/-- The BEACON of the followed link; none where no link is followed. -/
def Dtc.ruling (d : Dtc) : Option BeaconIn := if d.follows d.followed then (d.link d.followed).beacon else none

/-- An item that no route takes is discarded and counted at a port (R452). -/
def State.countNoRoute (s : State) (port : Nat) : State :=
  let q := s.netPort port
  s.setNetPort port { q with noRoute := satInc 64 q.noRoute }

/-- Queue a frame body for an OID; without a route it is discarded and counted at a port. -/
def State.sendOr (s : State) (port : Nat) (o : Word) (cls etherType : Nat) (body : Bytes) : State :=
  let r := s.sendTo o cls etherType body
  if r.2 then r.1 else s.countNoRoute port

/-- Hand reply bytes to the transport of a requester at the aggregator (R120, R124, R129), with `src` as the source OID of a frame. A reply to an OID
without a route is counted at port 17, which the aggregator's own items are taken to come from. A reply to a DTC whose link has left service goes
through the partner (R129). -/
def State.transmit (s : State) (req : Requester) (buf : Option ResultBuffer) (src : Word) (bytes : Bytes) : State :=
  match req with
  | .qp n =>
    match buf with
    | some b =>
      let results := bytes.drop 16
      s.offer n b.addr (results.take b.size) (completionEntry n.val b.sqHead (b.size < results.length) (bytes.take 16))
    | none => s.emit (.reply .agg (.qp n)) bytes
  | .eth o => s.sendOr 17 o 2 (s.typeTo o) (shim src 2 1 ++ pad4 bytes)
  | .dtcPort p =>
    if (s.port p).e.st == .inService || (s.port p).e.st == .held then s.onPort p fun a => { a with replyOut := a.replyOut ++ [recordBytes 2 0 bytes] }
    else s.emit (.dtcVerb .agg p .a) (recordBytes 2 0 bytes)
  | .partner => s.emit (.partnerLink 2) (shim src 2 1 ++ pad4 bytes)
  | .pair => s.emit (.reply .agg .pair) bytes
  | .mailbox => s.emit (.reply .agg .mailbox) bytes

/-- Hand reply bytes to the transport of a DTC's requester: a VERB record upstream on the followed link, or the mailbox. -/
def State.transmitDtc (s : State) (p : Fin 64) (req : Requester) (bytes : Bytes) : State :=
  s.onDtc p fun d =>
    match req with
    | .mailbox =>
      let d1 := { d with mb := { d.mb with busy := false, done := true, rsp := bytes, rspLen := bytes.length } }
      d1.irq 0
    | _ =>
      let l := d.followed
      let k := d.link l
      d.setLink l { k with replies := k.replies ++ [recordBytes 2 0 bytes] }

/-! ## Tag windows (R104 to R108) -/

/-- The tag window entries of a part, newest first. -/
def State.tagsOf (s : State) : Part → List TagEntry
  | .agg => s.verbs.tags
  | .dtc p => (s.dtc p).tags
def State.setTags (s : State) (w : Part) (ts : List TagEntry) : State :=
  match w with
  | .agg => { s with verbs := { s.verbs with tags := ts } }
  | .dtc p => s.onDtc p fun d => { d with tags := ts }

def TagEntry.is (e : TagEntry) (req : Requester) (tag : Word) : Bool := e.x.req == req && e.x.tag == tag
def TagEntry.inFlight (e : TagEntry) : Bool := e.phase != .done

/-- The entries still in their windows at nanosecond `now`. At the aggregator an entry leaves after 10 s once 1,024 newer entries
of its requester exist (R104), at a DTC once 64 newer ones do (R108); an entry in flight stays. The 10 s count from step 7, at which the sentence
is recorded (DESIGN CHOICE, log entry 313). -/
def pruneAux (w : Part) (now : Nat) : List TagEntry → List TagEntry → List TagEntry
  | _, [] => []
  | newer, e :: es =>
    let n := (newer.filter fun d => d.x.req == e.x.req).length
    let keep := e.inFlight || match w with
      | .agg => now < e.since + 10000000000 || n < 1024
      | .dtc _ => n < 64
    if keep then e :: pruneAux w now (e :: newer) es else pruneAux w now newer es

/-- Reclaim the oldest entry more than 10 s old while the store is full (R104, R106). -/
def dropOldest (now : Nat) : List TagEntry → List TagEntry
  | [] => []
  | e :: es =>
    if (es.any fun d => !d.inFlight && d.since + 10000000000 < now) then e :: dropOldest now es
    else if !e.inFlight && e.since + 10000000000 < now then es else e :: es

/-- The window as a new sentence finds it. -/
def window (w : Part) (now : Nat) (ts : List TagEntry) : List TagEntry := pruneAux w now [] ts

/-- The window with a place for a sentence that needs a new entry (R104). -/
def makeRoom (w : Part) (now : Nat) (ts : List TagEntry) : List TagEntry :=
  match w with
  | .agg => if ts.length < 2097152 then ts else dropOldest now ts
  | .dtc _ => ts

def findTag (ts : List TagEntry) (req : Requester) (tag : Word) : Option TagEntry := ts.find? fun e => e.is req tag

/-- Change the entry of a requester's tag. -/
def updTag (ts : List TagEntry) (req : Requester) (tag : Word) (f : TagEntry → TagEntry) : List TagEntry :=
  ts.map fun e => if e.is req tag then f e else e

/-- The counters of a transport at a part (R133, R136). -/
def State.bumpCounter (s : State) (w : Part) (req : Requester) (f : VerbCounters → VerbCounters) : State :=
  match w with
  | .agg =>
    let k := reqTransport req
    { s with verbs := { s.verbs with counters := Tbl.set {} k (f (Tbl.get {} k s.verbs.counters)) s.verbs.counters } }
  | .dtc p => s.onDtc p fun d =>
    if req == .mailbox then { d with cntMailbox := f d.cntMailbox } else { d with cntLink := f d.cntLink }

/-- Hand the bytes of a reply to a sentence to its transport. -/
def State.deliver (s : State) (x : Sentence) (buf : Option ResultBuffer) (bytes : Bytes) : State :=
  match x.part with
  | .agg => s.transmit x.req buf (s.sourceOf x.target) bytes
  | .dtc p => s.transmitDtc p x.req bytes

/-- The mailbox exchange ends without a reply (R166). -/
def Dtc.mailboxSilent (d : Dtc) : Dtc := Dtc.irq { d with mb := { d.mb with busy := false, done := true, rsp := [], rspLen := 0 } } 0

/-- A reply of one sentence on its transport: sent where R93 allows. Where R93 sends none, a mailbox exchange ends all the same (R166), that of a
DTC-originated sentence as well (log entry 76). -/
def State.quickReply (s : State) (x : Sentence) (buf : Option ResultBuffer) (st : Nat) (results : Bytes) (cstamp : Nat) : State :=
  let s1 := if st == St.busy then s.bumpCounter x.part x.req fun c => { c with busy := satInc 64 c.busy }
            else if st == St.stageExpired then s.bumpCounter x.part x.req fun c => { c with stageExpired := satInc 64 c.stageExpired }
            else s
  if x.wantsAll || statusReported st then s1.deliver x buf (replyBytes x.tag st results cstamp)
  else match x.part, x.req with
    | .dtc p, .mailbox => s1.onDtc p Dtc.mailboxSilent
    | .agg, .dtcPort p => s1.onDtc p fun d => if d.mb.busy then d.mailboxSilent else d
    | .agg, .qp n => match buf with
      | some _ => let q := s1.qp n; s1.setQp n { q with inFlight := q.inFlight - 1, enabled := q.enable || q.inFlight != 1 }
      | none => s1
    | _, _ => s1

/-- The final reply of a tag waits for room in its requester's completion ring (R123). -/
def State.inRing (s : State) (t : Ticket) : Bool :=
  match t.req with
  | .qp n => (s.qp n).held.any fun h => fld h.2.2 0 4 == t.tag.toNat && fld h.2.2 4 2 != St.accepted && fld h.2.2 4 2 != St.duplicate
  | _ => false

/-- The final reply of a sentence has been sent: its entry is done, or gone where R100 does not record the status. -/
def State.settle (s : State) (w : Part) (t : Ticket) (st : Nat) : State :=
  if s.inRing t then s
  else if statusRecorded st then s.setTags w (updTag (s.tagsOf w) t.req t.tag fun e => { e with phase := .done })
  else s.setTags w ((s.tagsOf w).filter fun e => !e.is t.req t.tag)

/-- Send a stored final reply on its transport. -/
def State.sendStored (s : State) (w : Part) (t : Ticket) : State :=
  match findTag (s.tagsOf w) t.req t.tag with
  | some e => match e.reply with
    | some r => (s.quickReply e.x e.buf r.status r.results r.cstamp).settle w t r.status
    | none => s
  | none => s

/-- The unit byte of record 0x0004: the SUBUNIT of the sentence. -/
def State.hwFaultRecord (s : State) (x : Sentence) (verb : Nat) : State :=
  s.raise 1 0x0004 4 (be 2 verb ++ be 4 x.tag.toNat ++ be 4 (reqKey x.req % 2 ^ 32) ++ be 2 x.subunit.toNat) x.tenant.toNat

/-- End a sentence with its final reply (R96 to R100): recorded where R100 says so, otherwise its entry is removed; ST_HW_FAULT
writes a record (R101), and so does a failed write of results, which gives that status (R295); at an active that mirrors, the reply waits for its type-5 entry (R490). -/
def State.finalAt (s : State) (w : Part) (t : Ticket) (st : Nat) (results : Bytes) (cstamp : Nat) : State :=
  match findTag (s.tagsOf w) t.req t.tag with
  | none => s
  | some e =>
    let bad := match e.buf with
      | some b => !b.writable && !results.isEmpty
      | none => false
    let st := if bad then St.hwFault else st
    let results := if bad then [] else results
    let s1 := if st == St.hwFault && w == .agg then s.hwFaultRecord e.x e.verb else s
    let s2 := s1.setTags w (updTag (s1.tagsOf w) t.req t.tag fun e => { e with phase := .ended, reply := some ⟨st, results, cstamp⟩ })
    if statusRecorded st && w == .agg && s2.mirrors then
      let s3 := s2.mirror 5 (be 5 (reqKey t.req) ++ replyBytes t.tag st results cstamp)
      { s3 with pair := { s3.pair with withheld := s3.pair.withheld ++ [(s3.lastMseq, .reply t)] } }
    else s2.sendStored w t

/-- The final reply of a sentence, with the present instant as CSTAMP. -/
def State.final (s : State) (w : Part) (t : Ticket) (st : Nat) (results : Bytes := []) : State :=
  s.finalAt w t st results (s.csOf w)

/-- ST_ACCEPTED (R99) with CSTAMP count c: sent where the requester wants it; the sentence stays in flight. -/
def State.acceptedAt (s : State) (x : Sentence) (buf : Option ResultBuffer) (c : Nat) : State :=
  let s1 := s.setTags x.part (updTag (s.tagsOf x.part) x.req x.tag fun e => { e with phase := .running })
  if x.wantsAll then
    match x.part, x.req with
    | .agg, .qp n => match buf with
      | some _ => (s1.setQp n { s1.qp n with inFlight := (s1.qp n).inFlight + 1 }).deliver x buf (replyBytes x.tag St.accepted [] c)
      | none => s1.deliver x buf (replyBytes x.tag St.accepted [] c)
    | .dtc _, .mailbox => s1
    | _, _ => s1.deliver x buf (replyBytes x.tag St.accepted [] c)
  else s1

/-- ST_ACCEPTED now. -/
def State.acceptedReply (s : State) (x : Sentence) (buf : Option ResultBuffer) : State := s.acceptedAt x buf (s.csOf x.part)

end Sys2Proof.Machine
end

