-- ==== Sys2Proof/Machine/Slots.lean ====
section
/-! DEFINITION. Models and tartlet slots as every family sees them: the model table, the clusters of each partition (R276, R377, R378),
the directory of tree slots and weight banks (R325), and a placement's slots taken and given back (R379, R380). -/

namespace Sys2Proof.Machine
open Sys2Proof

/-! ## Models -/

/-- The model of a number. -/
def State.model (s : State) (k : Nat) : Model := Tbl.get {} k s.data.models
def State.setModel (s : State) (k : Nat) (m : Model) : State := { s with data := { s.data with models := Tbl.set {} k m s.data.models } }

/-- The number of model `id` of context c (R365), and its parts. -/
def modelNum (c id : Nat) : Nat := c * 65536 + id
def modelCtx (k : Nat) : Nat := k / 65536
def modelId (k : Nat) : Nat := k % 65536

/-- The model serves: its placement is in force, also while a new one is copied (R380). -/
def Model.serving (m : Model) : Bool := m.place.isSome && (m.st == 3 || m.st == 4)

/-! ## Tartlets -/

def State.tartlet (s : State) (t : Nat) : Tartlet := Tbl.get {} t s.data.tartlets
def State.setTartlet (s : State) (t : Nat) (v : Tartlet) : State :=
  { s with data := { s.data with tartlets := Tbl.set {} t v s.data.tartlets } }

/-! ## Partitions (R276, R31) -/

/-- The bound on k of a profile's telemetry partition. -/
def telemetryBound : Profile → Nat
  | .w => 12
  | .b => 6
  | _ => 2

/-- A cluster of the telemetry partition of a profile. -/
def inTelemetry (p : Profile) (c : Nat) : Bool := c % 16 < telemetryBound p

/-- Island n is powered; the always-on domain always is (R280). -/
def State.powered (s : State) (n : Nat) : Bool := n == 96 || s.dev.domains.getLsbD n
/-- Work may run on a cluster: its domain is on and its trees are loaded (R282). -/
def State.clusterUp (s : State) (c : Nat) : Bool := s.dev.domains.getLsbD c && !s.dev.reload.getLsbD c

/-- A cluster of the lend partition in force. In profile H no cluster is, but requests accepted before the change complete on the former lend
clusters until those switch off (R41). A cluster that a pending SET_PROFILE passes to telemetry takes no lend work from its acceptance on (R33). -/
def State.inLend (s : State) (c : Nat) : Bool :=
  if s.sys.profile == .h then !inTelemetry s.sys.former c && s.clusterUp c
  else !inTelemetry s.sys.profile c &&
    match s.sys.pendingProfile.getLast? with
    | some p => p.profile == .h || !inTelemetry p.profile c
    | none => true

/-! ## Clocks of the islands (R277) -/

/-- The nominal clock in 10 kHz (R277). -/
def islandClock (i : Nat) : Nat :=
  if i < 64 then 150000
  else if i < 68 then 160000
  else if i < 72 then 100000
  else if i < 81 then (Config.laneClock i).toNat
  else match i with
    | 81 | 91 | 92 | 96 => 100000
    | 88 | 94 => 160000
    | 90 => 200000
    | 93 => 32227
    | _ => 150000

/-- FIXED_CLOCK: the islands marked "no" in R277. -/
def fixedClock (i : Nat) : Bool := (64 ≤ i && i ≤ 81) || i == 88 || i == 93 || i == 94 || i == 96

/-- The clock in force in 10 kHz: 60 % of the nominal one in profile H, but for the islands marked "no" (R41, R277). -/
def State.clockOf (s : State) (i : Nat) : Nat := if s.sys.profile == .h && !fixedClock i then islandClock i * 60 / 100 else islandClock i

/-- The nanoseconds that n cycles of island i take. -/
def State.cyclesOf (s : State) (i n : Nat) : Nat := ceilDiv (n * 100000) (s.clockOf i)

/-! ## Slots -/

/-- The clusters of a mask, ascending. -/
def maskClusters (mask : Nat) : List Nat := (List.range 64).filter fun c => mask.testBit c

/-- The clusters of replica r of a placement (R379). -/
def Placement.clusters (p : Placement) (r : Nat) : List Nat :=
  let cs := maskClusters p.mask
  let n := cs.length / p.replicas
  (cs.drop (r * n)).take n

/-- The tartlets of replica r, ascending. -/
def Placement.tartlets (p : Placement) (r : Nat) : List Nat :=
  ((p.clusters r).map fun c => (List.range 64).map fun i => 64 * c + i).flatten

/-- The directory's key of a slot. -/
def slotKey (t bank slot : Nat) : Nat := (t * 4 + bank) * 25 + slot

/-- The keys of every slot that a placement takes, with the tree of each: mode 1 is stream, 2 weight. -/
def Placement.keys (p : Placement) : List (Nat × Nat) :=
  ((List.range p.replicas).map fun r =>
    let ts := p.tartlets r
    (p.slots.map fun q => (List.range q.len).map fun i => (slotKey (ts.getD q.pos 0) q.bank (q.slot + i), q.tree)).flatten).flatten

/-- Write a placement's slots into the directory. -/
def State.takeSlots (s : State) (k : Nat) (p : Placement) (mode : Nat) : State :=
  { s with data := { s.data with directory := p.keys.foldl (fun d e => Tbl.insert e.1 ⟨k, e.2, mode⟩ d) s.data.directory } }

/-- Give a placement's slots back. -/
def State.freeSlots (s : State) (p : Placement) : State :=
  { s with data := { s.data with directory := p.keys.foldl (fun d e => Tbl.erase e.1 d) s.data.directory } }

/-- Release the sequence entries from base on (R381, R382). The generation stays with the entry (R394). -/
def State.freeTelemetrySeqs (s : State) (base : Nat) : State :=
  if base = 0xFFFFFFFF then s
  else { s with data := { s.data with seqs := (List.range 64).foldl (fun t i =>
    Tbl.set {} (base + i) { gen := (Tbl.get ({} : SeqEntry) (base + i) t).gen } t) s.data.seqs } }

/-- Give up a placement that waits (R380): its slots, and the sequence entries it reserved. -/
def State.dropNext (s : State) (k : Nat) : State :=
  let m := s.model k
  match m.next with
  | none => s
  | some n =>
    let s1 := s.freeSlots n.plan
    let s2 := if (m.place.map (·.seqBase)).getD 0xFFFFFFFF = n.plan.seqBase then s1 else s1.freeTelemetrySeqs n.plan.seqBase
    s2.setModel k { m with next := none, st := if m.st = 3 then (if m.place.isSome then 4 else 2) else m.st }

/-- A staged change ends without effect: the copy that a staged PLACE_MODEL started is given up, and a staged last chunk ends its load
(R112, R375, R380). -/
def State.dropStaged (s : State) (verb : Nat) (x : Sentence) : State :=
  let k := modelNum x.tenant.toNat (x.f 0 2)
  let m := s.model k
  if verb = 0x0502 then
    match m.next with
    | some n => if n.staged && n.ticket == x.ticket then s.dropNext k else s
    | none => s
  else if verb = 0x0503 then s.setModel k { m with mapLoad := none }
  else s

end Sys2Proof.Machine
end

