-- ==== Sys2Proof/Machine/Hbm.lean ====
section
/-! DEFINITION. The HBM (R284 to R287, R555): its stacks and regions, the pages of the model store, and its contents, which lie encrypted in units of
64 bytes. A byte that nothing has written since the last reset is a free value (R286). -/

namespace Sys2Proof.Machine
open Sys2Proof

/-! ## Stacks and regions (R284, R285) -/

/-- The regions, each with the physical address and the size it has on one stack, in MiB. The addresses follow the table's order (log entry 324). -/
inductive HbmRegion where
  | fw | tag | jrn | seq | req | lw | red | scr | ckp | model | hist
deriving DecidableEq, Repr

def hbmRegions : List (HbmRegion × Nat × Nat) :=
  [(.fw, 0, 2048), (.tag, 2048, 8448), (.jrn, 10496, 1024), (.seq, 11520, 64), (.req, 11584, 256), (.lw, 11840, 64), (.red, 11904, 256), (.scr, 12160, 256),
   (.ckp, 12416, 2048), (.model, 14464, 10112), (.hist, 24576, 12288), (.model, 36864, 12288), (.model, 49152, 24576), (.model, 73728, 24576)]

def mib : Nat := 1048576
def pageBytes : Nat := 2 * mib
/-- The pages of the model store, and how many of them lie on stack 0. -/
def storePages : Nat := 35776
def firstPages : Nat := 5056

/-- The stack of a physical address. -/
def stackOf (a : Nat) : Nat := a / (24576 * mib)

/-- The region of a physical address. -/
def regionOf (a : Nat) : Option HbmRegion := (hbmRegions.find? fun r => r.2.1 * mib ≤ a && a < (r.2.1 + r.2.2) * mib).map (·.1)

/-- The physical address of page n of the model store, and the page of an address. -/
def pageAddr (n : Nat) : Nat := if n < firstPages then (14464 + 2 * n) * mib else (36864 + 2 * (n - firstPages)) * mib
def pageAt (a : Nat) : Option Nat :=
  if regionOf a = some .model then
    some (if stackOf a = 0 then a / pageBytes - 7232 else a / pageBytes - 18432 + firstPages)
  else none

/-- A fill of cluster c's cache from an image at an address crosses the hub only where the image lies on another tile's stack (R275). -/
def fillThroughHub (c a : Nat) : Bool := stackOf a != c / 16

/-! ## Pages and their owners (R287) -/

/-- The pages of a model, in the image's order, and those of a context that are being overwritten. -/
def State.storeOwners (s : State) : List (Nat × List Nat) :=
  (s.data.models.map fun e => (modelCtx e.1, e.2.at_)) ++ s.data.zeroing

/-- The context that owns a page. -/
def State.pageOwner (s : State) (n : Nat) : Option Nat := (s.storeOwners.find? fun e => e.2.contains n).map (·.1)

/-- The lowest k free pages. -/
def State.freePages (s : State) (k : Nat) : List Nat :=
  let used := (s.storeOwners.map (·.2)).flatten
  ((List.range (used.length + k)).filter fun n => !used.contains n).take k

/-! ## Contents (R555) -/

/-- A memory key; a slot without one has zeros (log entry 325). -/
def State.memKey (s : State) (slot : Nat) : Bytes :=
  match (Tbl.get {} slot s.sec.vault).memKey with
  | some d => padTo 64 (Config.random d 64)
  | none => zeros 64

/-- The key of the unit at a physical address: that of the page's owner, else slot 0's. -/
def State.unitKey (s : State) (a : Nat) : Bytes := s.memKey (((pageAt a).bind s.pageOwner).getD 0)

/-- The 64 bytes as they lie in the stack at unit u: written ones, zeros under the operator's key in a page that was overwritten, else free values. -/
def State.rawUnit (s : State) (u : Nat) : Bytes :=
  let blank : Bytes :=
    if ((pageAt (64 * u)).map s.hbm.zeroed.contains).getD false then xtsEncrypt (s.memKey 0) (64 * u) (zeros 64)
    else (List.range 64).map fun i => Config.hbmByte s.hbm.gen (64 * u + i)
  (List.range 64).map fun i => (Tbl.find? (64 * u + i) s.hbm.cells).getD (blank.getD i 0)

/-! The half of the last-words region that an address lies in, and what that half holds (R499). Beyond its content a half holds what lies in the
stack. -/

/-- Byte o of a half, where the half gives one. -/
def LastWords.byte (w : LastWords) (o : Nat) : Option Byte :=
  if !w.present then none
  else if o < 0x1000 then some (w.header.getD o 0)
  else if o < 0x101000 then some ((Tbl.get [] ((o - 0x1000) / 32) w.objects).getD (o % 32) 0)
  else if o < 0x141000 then some ((w.records.getD ((o - 0x101000) / 64) []).getD (o % 64) 0)
  else if o < 0x1141000 then some (Tbl.get 0 (o - 0x141000) w.scratch)
  else none

def lwBase : Nat := 11840 * mib
def State.lastWordsByte (s : State) (a : Nat) : Option Byte :=
  if regionOf a = some .lw then
    let o := a - lwBase
    if o < 32 * mib then s.pair.own.byte o else s.pair.partner.byte (o - 32 * mib)
  else none

/-- The plaintext of a unit. -/
def State.plainUnit (s : State) (u : Nat) : Bytes :=
  (xtsDecrypt (s.unitKey (64 * u)) (64 * u) (s.rawUnit u)).zipIdx.map fun b => (s.lastWordsByte (64 * u + b.2)).getD b.1

/-- n plaintext bytes from physical address a on. -/
def State.hbmRead (s : State) (a n : Nat) : Bytes :=
  sub ((List.range ((a % 64 + n + 63) / 64)).map fun i => s.plainUnit (a / 64 + i)).flatten (a % 64) n

/-- Replace the plaintext of a unit. -/
def State.putUnit (s : State) (u : Nat) (b : Bytes) : State :=
  let raw := xtsEncrypt (s.unitKey (64 * u)) (64 * u) b
  { s with hbm := { s.hbm with cells := raw.zipIdx.foldl (fun t e => Tbl.insert (64 * u + e.2) e.1 t) s.hbm.cells } }

/-- Write plaintext bytes from physical address a on: each unit they touch is read, changed and encrypted again. -/
def State.hbmWrite (s : State) (a : Nat) (bs : Bytes) : State :=
  if bs.isEmpty then s
  else
    let first := a / 64
    let count := (a % 64 + bs.length + 63) / 64
    let old := ((List.range count).map fun i => s.plainUnit (first + i)).flatten
    (chunks 64 (putAt old (a % 64) bs)).zipIdx.foldl (fun t b => t.putUnit (first + b.2) b.1) s

/-- What a cold start or a whole-chip reset leaves: undefined contents (R286). -/
def HbmState.lost (h : HbmState) : HbmState := { gen := h.gen + 1 }

/-! ## The model store -/

/-- Pages that a model's image holds, or the image being loaded: a sealed one counts with its plaintext (R554). -/
def isSealed (b : Bytes) : Bool := fld b 0 4 == 0x4F534531
def LoadState.stored (l : LoadState) : Nat := if isSealed l.received then min (l.received.length - 64) (l.total - 80) else l.received.length
def Model.pages (m : Model) : Nat := ceilDiv (max m.image.length ((m.load.map LoadState.stored).getD 0)) pageBytes

/-- Put bytes of model k's image at an offset into its pages, which grow by the lowest free ones. -/
def State.storeImage (s : State) (k off : Nat) (bs : Bytes) : State :=
  let m := s.model k
  let m1 := { m with at_ := m.at_ ++ s.freePages (m.pages - m.at_.length) }
  let s1 := s.setModel k m1
  (List.range ((off + bs.length) / pageBytes + 1)).foldl (fun t j =>
    let lo := max off (j * pageBytes)
    let hi := min (off + bs.length) ((j + 1) * pageBytes)
    if hi ≤ lo then t else t.hbmWrite (pageAddr (m1.at_.getD j 0) + (lo - j * pageBytes)) (sub bs (lo - off) (hi - lo))) s1

/-- Pages of a context go to be overwritten (R287). -/
def State.zeroPages (s : State) (c : Nat) (ps : List Nat) : State :=
  { s with data := { s.data with zeroing := Tbl.set [] c (Tbl.get [] c s.data.zeroing ++ ps) s.data.zeroing } }

/-- The pages of a context that were being overwritten hold zeros and are free. -/
def State.pagesZeroed (s : State) (c : Nat) : State :=
  let ps := Tbl.get [] c s.data.zeroing
  let out (a : Nat) : Bool := ((pageAt a).map fun n => ps.contains n).getD false
  { s with
    data := { s.data with zeroing := Tbl.set [] c [] s.data.zeroing }
    hbm := { s.hbm with cells := s.hbm.cells.filter fun e => !out e.1, zeroed := s.hbm.zeroed ++ ps.filter fun n => !s.hbm.zeroed.contains n } }

end Sys2Proof.Machine
end

