-- ==== Sys2Proof/Machine/Lanes.lean ====
section
/-! DEFINITION. Words on the lanes of a telemetry link (R237, R238): the split of a frame onto the two data lanes, their scramblers, and the
PRBS31 sequence of training blocks with its checker. -/

namespace Sys2Proof.Machine
open Sys2Proof

/-- The 32-bit words of a byte string, each with its first byte in [31:24]. -/
def wordsOf (bs : Bytes) : List Word := (List.range (bs.length / 4)).map fun i => BitVec.ofNat 32 (fld bs (4 * i) 4)

def bytesOf (ws : List Word) : Bytes := (ws.map fun w => be 4 w.toNat).flatten

/-- Every second word of a frame: those on the even-word lane, and from the second on those on the odd-word lane (R237). -/
def alternate : List Word → List Word
  | [] => []
  | [w] => [w]
  | w :: _ :: ws => w :: alternate ws

/-- One word through the scrambler x^58 + x^39 + 1, bit [31] first (R237). The register holds the last 58 bits sent, the latest in bit 0. -/
def scramble (r : BitVec 58) (w : Word) : BitVec 58 × Word :=
  let out := w ^^^ (r >>> 7).setWidth 32 ^^^ (r >>> 26).setWidth 32
  ((r <<< 32) ||| out.setWidth 58, out)

/-- The descrambler that undoes it; its register holds the last 58 bits received. -/
def descramble (r : BitVec 58) (w : Word) : BitVec 58 × Word :=
  ((r <<< 32) ||| w.setWidth 58, w ^^^ (r >>> 7).setWidth 32 ^^^ (r >>> 26).setWidth 32)

/-- A run of words through a register machine: the register after, and the words that come out. -/
def throughWords {r : Type} (f : r → Word → r × Word) : r → List Word → r × List Word
  | x, [] => (x, [])
  | x, w :: ws =>
    let a := f x w
    let b := throughWords f a.1 ws
    (b.1, a.2 :: b.2)

/-- Sixteen bits of the PRBS31 sequence, x^31 + x^28 + 1; the register holds the last 31 bits, the latest in bit 0 (PRESUMED, log entry 321). -/
def prbsHalf (r : BitVec 31) : BitVec 31 × BitVec 16 :=
  let h : BitVec 16 := (r >>> 12).setWidth 16 ^^^ (r >>> 15).setWidth 16
  ((r <<< 16) ||| h.setWidth 31, h)

/-- One word of the PRBS31 sequence, inverted as ITU-T O.150 sends it (PRESUMED, log entry 321). -/
def prbsWord (r : BitVec 31) : BitVec 31 × Word :=
  let a := prbsHalf r
  let b := prbsHalf a.1
  (b.1, ~~~(a.2 ++ b.2))

def prbsWords : Nat → BitVec 31 → BitVec 31 × List Word
  | 0, r => (r, [])
  | n + 1, r =>
    let a := prbsWord r
    let b := prbsWords n a.1
    (b.1, a.2 :: b.2)

/-- The number of bits set in a word. -/
def onesIn (w : Word) : Nat := ((List.range 32).filter fun i => w.getLsbD i).length

/-- The PRBS31 checker (R159): without a register it takes its first word as it comes; after that every bit that differs from the sequence is an
error (DESIGN CHOICE, log entry 322). -/
def prbsCheck : Option (BitVec 31) → List Word → Option (BitVec 31) × Nat
  | r, [] => (r, 0)
  | none, w :: ws => prbsCheck (some ((~~~w).setWidth 31)) ws
  | some r, w :: ws =>
    let a := prbsWord r
    let b := prbsCheck (some a.1) ws
    (b.1, onesIn (a.2 ^^^ w) + b.2)

end Sys2Proof.Machine
end

