-- ==== Sys2Proof/Machine/Admission.lean ====
section
/-! DEFINITION. Admission of sentences: the steps of R102 at the aggregator and at a DTC, the access map (R542 to R547), violations
(R109), staging (R110), forwarding to a DTC (R126), the standby's table (R130) and what is withheld for the mirror (R490). A verb is
described once by a `Verb`; its meaning is a body that runs at step 14. -/

namespace Sys2Proof.Machine
open Sys2Proof

/-- What a standby does with a verb addressed to it (R130). -/
inductive Standby where
  | own
  | refuse
  | carry
deriving DecidableEq, Repr

/-- A resource that a sentence touches (R546 item 4): its kind of R542 or R617, the indices, and whether it is written. -/
structure Touch where
  kind : Nat
  idx : List Nat
  write : Bool
deriving DecidableEq, Repr

/-- What a verb's body answers at step 14: a final reply now, a final reply with a CSTAMP of its own, ST_ACCEPTED with the final
reply to come, nothing yet, or that the body has sent its reply itself. -/
inductive Answer where
  | final (st : Nat) (results : Bytes := [])
  | finalAt (st : Nat) (results : Bytes) (cstamp : Nat)
  | accepted
  | later
  | done
deriving DecidableEq, Repr

/-- One verb of R133: code, plane, which parts and transports run it, its lengths (R615), its checks of step 11, what it touches
(R546), the length of its zero-filled result (R109), whether it answers ST_ACCEPTED, and what the standby does. `minLevel` is the
behaviour level from which it exists (R528). `nonIdem` verbs have their effect withheld (R490); a verb with `standbyHub` runs at the standby for
SUBUNIT 0 only. -/
structure Verb where
  code : Nat
  mgmt : Bool := false
  agg : Bool := true
  dtc : Bool := false
  mailbox : Nat := 0
  stageable : Bool := false
  subMin : Nat := 0
  subMax : Nat := 0
  minLen : Nat := 0
  maxLen : Nat := 0
  check : Part → Sentence → Bool := fun _ _ => true
  touches : State → Sentence → List Touch := fun _ _ => []
  zeroLen : Part → Sentence → Nat := fun _ _ => 0
  deferred : Sentence → Bool := fun _ => false
  standby : Standby := .refuse
  standbyHub : Bool := false
  nonIdem : Bool := false
  syncEntry : Bool := false
  minLevel : Nat := 2

/-- What a standby does with a sentence of the verb. -/
def Verb.atStandby (v : Verb) (x : Sentence) : Standby := if v.standbyHub && x.subunit != 0 then .refuse else v.standby

/-- The behaviour level in force at the aggregator and at a DTC (R529, R530). -/
def State.level (s : State) : Part → Nat
  | .agg => if s.dev.pinned = 0 then 3 else s.dev.pinned
  | .dtc p => if (s.dtc p).pinned = 0 then 3 else (s.dtc p).pinned.toNat

/-- The sentence's bytes as it travels (R92). -/
def sentenceBytes (verb : Nat) (x : Sentence) (tag target : Word) (subunit : Nat) : Bytes :=
  let h := be 1 1 ++ be 1 x.flags.toNat ++ be 2 verb ++ be 4 tag.toNat ++ be 4 target.toNat ++ be 2 subunit
    ++ be 2 x.tenant.toNat ++ be 2 x.params.length ++ be 4 (crc32c x.params) ++ zeros 6
  h ++ be 4 (crc32c h) ++ x.params

/-! ## The access map -/

/-- The requester entry that decides: the first whose kind and range contain the requester (R543); none where that entry, or one
before it, has failed in both copies (R545). -/
def State.mapEntry (s : State) (req : Requester) : Option MapRequester :=
  let k := reqKind req
  match s.sec.requesters.zipIdx.find? fun e => e.1.kind == k.1 && e.1.first ≤ k.2 && k.2 ≤ e.1.last with
  | none => none
  | some e => if s.sec.failedWords.any (fun w => w.1 == 0 && w.2 ≤ e.2) then none else some e.1

/-- Context c holds a window of the kind covering index i with the right (R542, R543). -/
def State.holds (s : State) (c kind i : Nat) (write : Bool) : Bool :=
  c == 0 || s.sec.windows.zipIdx.any fun e =>
    let w := e.1
    w.ctx == c && w.kind == kind && w.rights.getLsbD (if write then 1 else 0) && !s.sec.failedWords.contains (1, e.2) &&
      match kind with
      | 3 => w.range.getLsbD i
      | 4 => true
      | _ => (w.range.extractLsb' 32 32).toNat ≤ i && i ≤ (w.range.extractLsb' 0 32).toNat

/-- The first resource that is not covered, as kind and index (R617): kind 6 a context named, kind 7 one reserved to context 0. -/
def State.uncovered (s : State) (c : Nat) : List Touch → Option (Nat × Nat)
  | [] => none
  | t :: ts =>
    let bad := match t.kind with
      | 6 => if c == 0 then none else t.idx.find? (· != c)
      | 7 => if c == 0 then none else some 0
      | 8 => if c == 0 then none else t.idx.head?
      | k => t.idx.find? fun i => !s.holds c k i t.write
    match bad with
    | some i => some (if t.kind == 8 then 1 else t.kind, i)
    | none => s.uncovered c ts

/-- Step 12 (R546): none where the sentence is permitted, else the kind and index of R617 that say why not. -/
def State.denied (s : State) (v : Verb) (x : Sentence) : Option (Nat × Nat) :=
  match s.mapEntry x.req with
  | none => some (0, 0)
  | some e =>
    if !e.planes.getLsbD (if v.mgmt then 1 else 0) then some (0, 0)
    else if e.ctx != 0xFFFF && e.ctx != x.tenant.toNat then some (0, 0)
    else if v.mgmt && x.tenant != 0 then some (0, 0)
    else s.uncovered x.tenant.toNat (v.touches s x)

/-- Count a violation and write record 0x0003, at most once per second per requester (R547, R617). -/
def State.violation (s : State) (req : Requester) (tenant verb model : Nat) (res : Nat × Nat) : State :=
  let s1 := s.bumpCounter .agg req fun c => { c with violations := satInc 64 c.violations }
  let k := reqKey req
  let last := Tbl.get 0 k s.verbs.violationAt
  if last == 0 || last + 1000000000 ≤ s.now + 1 then
    let rk := reqKind req
    let data := be 1 rk.1 ++ be 1 res.1 ++ be 2 tenant ++ be 4 rk.2 ++ be 2 verb ++ be 2 model ++ be 4 res.2
    let s2 := s1.enqueueRecord (s1.rawRecord 11 0x0003 2 tenant data 2)
    { s2 with verbs := { s2.verbs with violationAt := Tbl.set 0 k (s.now + 1) s2.verbs.violationAt } }
  else s1

/-! ## Steps 5 to 7 -/

/-- The staging state of a requester. -/
def State.stagingOf (s : State) (r : Requester) : Staging := Tbl.get {} (reqKey r) s.verbs.staging
def State.setStaging (s : State) (r : Requester) (v : Staging) : State :=
  { s with verbs := { s.verbs with staging := Tbl.set {} (reqKey r) v s.verbs.staging } }

/-- The in-flight bounds of R107. -/
def inFlightFull (w : Part) (req : Requester) (ts : List TagEntry) : Bool :=
  let fl := ts.filter (·.inFlight)
  let mine := fl.filter fun e => e.x.req == req
  match w with
  | .agg => 256 ≤ mine.length || 4096 ≤ fl.length
  | .dtc _ => (if req == .mailbox then 1 else 16) ≤ mine.length || 17 ≤ fl.length

/-- Steps 5 to 7 of R102 for a sentence that arrives: the state after, and whether it passed. -/
def State.takeIn (s : State) (verb : Nat) (x : Sentence) (buf : Option ResultBuffer) : State × Bool :=
  let st := s.stagingOf x.req
  if x.part == .agg && st.expired then
    ((s.setStaging x.req { st with expired := false }).quickReply x buf St.stageExpired [] (s.csOf x.part), false)
  else
    let now := s.nowOf x.part
    let ts := window x.part now (s.tagsOf x.part)
    match findTag ts x.req x.tag with
    | some e =>
      let r : Reply := match e.reply, e.inFlight with
        | some r, false => ⟨St.duplicate, be 2 r.status ++ be 2 0 ++ r.results, r.cstamp⟩
        | _, _ => ⟨St.duplicate, be 2 St.accepted ++ be 2 0, e.startCs⟩
      ((s.setTags x.part ts).quickReply x buf r.status r.results r.cstamp, false)
    | none =>
      let ts := makeRoom x.part now ts
      if inFlightFull x.part x.req ts || (x.part == .agg && 2097152 ≤ ts.length) then
        ((s.setTags x.part ts).quickReply x buf St.busy [] (s.csOf x.part), false)
      else
        let e : TagEntry := { x := x, verb := verb, phase := .admitted, since := now, startCs := s.csOf x.part, buf := buf }
        (s.setTags x.part (e :: ts), true)

/-- The entry of a sentence that a transport's row has admitted and that has not started. -/
def State.isAdmitted (s : State) (verb : Nat) (x : Sentence) : Bool :=
  match findTag (s.tagsOf x.part) x.req x.tag with
  | some e => e.phase == .admitted && e.verb == verb && e.x == x
  | none => false

def State.bufOf (s : State) (w : Part) (t : Ticket) : Option ResultBuffer :=
  match findTag (s.tagsOf w) t.req t.tag with
  | some e => e.buf
  | none => none

/-! ## Order (R117, R118) -/

/-- What a sentence acts on, as a kind and an index: sync objects, models, sequences, groups, routes, policers, ports, the collection of DTC ports and
vault slots. A verb not named here acts on nothing that a pending sentence of its requester could hold; its chapter says what it does while another of
its kind is pending (R19, R37, R116, R205; DEDUCED, log entry 315). -/
def resourceKeys (code : Nat) (x : Sentence) : List (Nat × Nat) :=
  match code with
  | 0x0800 | 0x0801 | 0x0802 | 0x0803 => [(1, x.f 0 4)]
  | 0x0500 | 0x0501 | 0x0502 | 0x0503 | 0x0504 => [(2, x.tenant.toNat * 65536 + x.f 0 2)]
  | 0x0505 => [(3, x.f 0 4)]
  | 0x0600 | 0x0601 | 0x0602 | 0x0603 | 0x0606 => [(4, x.f 0 4)]
  | 0x0700 => [(5, x.f 0 4)]
  | 0x0702 => [(6, x.f 0 2)]
  | 0x0703 | 0x0704 | 0x0705 => [(7, x.b 0)]
  | 0x0200 | 0x0203 | 0x0204 => if x.subunit = 0 then (List.range 64).map fun p => (8, p + 1) else [(8, x.subunit.toNat)]
  | 0x0A02 | 0x0A03 => [(9, x.b 0)]
  | _ => []

/-- Two sentences act on the same resource in R118's sense: a resource of `resourceKeys`, or one setting that both write. -/
def sameResource (c : Nat) (x : Sentence) (d : Nat) (y : Sentence) : Bool :=
  if (resourceKeys c x).isEmpty then c == d && x.subunit == y.subunit else (resourceKeys c x).any (resourceKeys d y).contains

/-- The entries of a window older than the entry of a tag (the list is newest first). -/
def olderThan (ts : List TagEntry) (req : Requester) (tag : Word) : List TagEntry := (ts.dropWhile fun e => !e.is req tag).drop 1

/-- A sentence past step 7 may not start yet: an earlier sentence of its requester has not started, or is accepted and pending on a resource that this
one acts on (R117; one that joins a staged set acts on nothing yet, R116), or a sentence of a lower requester index admitted in the same nanosecond
for the same resource has not started (R118). -/
def State.mustWait (s : State) (code : Nat) (x : Sentence) : Bool :=
  let older := (olderThan (s.tagsOf x.part) x.req x.tag).filter fun e => e.x.req == x.req
  let here (y : Sentence) : Bool := x.part == .agg && (s.isOwn x.target == s.isOwn y.target)
  (older.any fun e => e.phase == .admitted) ||
    (!x.staged && older.any fun e => e.inFlight && e.reply.isNone && here e.x && (resourceKeys e.verb e.x).any (resourceKeys code x).contains) ||
    (s.tagsOf x.part).any fun e => e.phase == .admitted && e.since == s.nowOf x.part && reqKey e.x.req < reqKey x.req &&
      e.x.target == x.target && sameResource code x e.verb e.x

/-! ## Step 14: the body and its answer -/

/-- Give a sentence its answer (R99, R102). -/
def State.giveAnswer (s : State) (x : Sentence) (a : Answer) : State :=
  match a with
  | .final st res => s.final x.part x.ticket st res
  | .finalAt st res c => s.finalAt x.part x.ticket st res c
  | .accepted => s.acceptedReply x (s.bufOf x.part x.ticket)
  | .done => s
  | .later => s.setTags x.part (updTag (s.tagsOf x.part) x.req x.tag fun e => { e with phase := .running })

/-- Run the body and give its answer. -/
def State.execute (s : State) (body : Sentence → State → State × Answer) (x : Sentence) : State := (body x s).1.giveAnswer x (body x s).2

/-- The body of a type-3 entry: requester, forwarding tag (0 none), sentence. -/
def acceptedEntry (verb : Nat) (x : Sentence) (ftag : Nat) : Bytes :=
  be 5 (reqKey x.req) ++ be 4 ftag ++ sentenceBytes verb x x.tag x.target x.subunit.toNat

/-- The body of a type-4 entry: requester, TAG, and the final reply that the effect implies, where it is known at once. -/
def effectEntry (x : Sentence) (a : Answer) : Bytes :=
  be 5 (reqKey x.req) ++ be 4 x.tag.toNat ++ (match a with
    | .final st res => be 2 st ++ res
    | .finalAt st res _ => be 2 st ++ res
    | _ => [])

/-- Start a permitted sentence: at an active that mirrors, a type-3 entry, and for a verb whose effect is withheld a type-4 or
type-6 entry first; its effect then waits for the acknowledgement (R489, R490). -/
def State.start (s : State) (v : Verb) (body : Sentence → State → State × Answer) (x : Sentence) : State :=
  if s.mirrors then
    let s1 := s.mirror 3 (acceptedEntry v.code x 0)
    if v.nonIdem || v.syncEntry then
      let o := x.f 0 4
      let entry := if v.syncEntry then be 4 o ++ ((body x s1).1.object o).record else effectEntry x (body x s1).2
      let s2 := s1.mirror (if v.syncEntry then 6 else 4) entry
      let s3 := s2.setTags .agg (updTag (s2.tagsOf .agg) x.req x.tag fun e => { e with phase := .held s2.lastMseq })
      { s3 with pair := { s3.pair with withheld := s3.pair.withheld ++ [(s3.lastMseq, .effect v.code x)] } }
    else s1.execute body x
  else s.execute body x

/-! ## Staging (R110, R111) -/

/-- The body of a type-7 entry (R489): set number, 0 discard, 1 commit, 2 change, 3 opened, the requester, and for a change or a commit its
sentence. -/
def setEntry (num op : Nat) (x : Sentence) (code : Nat) : Bytes :=
  be 4 num ++ be 1 op ++ be 5 (reqKey x.req) ++ be 4 code ++
    (if op = 1 || op = 2 then sentenceBytes (code % 65536) x x.tag x.target x.subunit.toNat else [])

/-- Join the requester's open set, or open one; a set of 64 changes is full: ST_BUSY (R110). -/
def State.joinSet (s : State) (v : Verb) (x : Sentence) (violating : Bool) : State :=
  let st := s.stagingOf x.req
  let code := if violating then 0x10000 else v.code
  match st.opened with
  | none =>
    let g : StageSet := ⟨s.verbs.setNumber, [(code, x)], s.now⟩
    let s1 := s.setStaging x.req { st with opened := some g }
    let s2 := { s1 with verbs := { s1.verbs with setNumber := s.verbs.setNumber + 1 } }
    (s2.mirror 7 (setEntry g.num 2 x code)).acceptedReply x (s.bufOf .agg x.ticket)
  | some g =>
    if 64 ≤ g.changes.length then s.final .agg x.ticket St.busy
    else ((s.setStaging x.req { st with opened := some { g with changes := g.changes ++ [(code, x)], last := s.now } }).mirror 7
      (setEntry g.num 2 x code)).acceptedReply x (s.bufOf .agg x.ticket)

/-! ## Step 12's silence (R109) -/

/-- Answer a violating sentence as a permitted one would be answered, with zero-filled results and no effect. -/
def State.silent (s : State) (v : Verb) (x : Sentence) (res : Nat × Nat) (zl : Nat) : State :=
  let s1 := s.violation x.req x.tenant.toNat v.code 0 res
  if x.staged && v.stageable && (s.dtcOf x.target).isNone then s1.joinSet v x true
  else
    let s2 := if v.deferred x then s1.acceptedReply x (s1.bufOf .agg x.ticket) else s1
    s2.final .agg x.ticket St.ok (zeros zl)

/-! ## The steps at each part -/

/-- Step 9 (R93, R95): reserved flags, PRIV, TARGET, TENANT, SUBUNIT, STAGED. R93 gives the reserved flags as zero and R102 checks the header's fields
against R93, so one that is set is refused with ST_PARAM (DESIGN CHOICE, log entry 314: R10 lets a receiver ignore reserved bits). -/
def headerValid (v : Verb) (x : Sentence) : Bool :=
  x.flags.toNat / 16 == 0 && x.priv == v.mgmt && x.target != 0 && x.target != 0xFFFFFFFF && x.tenant.toNat < 1024 &&
    v.subMin ≤ x.subunit.toNat && x.subunit.toNat ≤ v.subMax && (!x.staged || v.stageable)

/-- Step 9 at a DTC: SUBUNIT is 0; the mailbox takes TENANT 0 and any PRIV (R128); a link's sentence must name the DTC's own OID,
but for SET_OID and GET_VERSION (R126, R143). -/
def dtcHeaderForm (v : Verb) (x : Sentence) : Bool :=
  x.flags.toNat / 16 == 0 && x.target != 0 && x.target != 0xFFFFFFFF && x.subunit == 0 && !x.staged &&
    (if x.req == .mailbox then x.tenant == 0 else x.tenant.toNat < 1024 && x.priv == v.mgmt)

def dtcHeaderValid (v : Verb) (d : Dtc) (x : Sentence) : Bool :=
  dtcHeaderForm v x &&
    (if d.oidBad then v.code == 0x0005 && x.req == .pair
     else x.target == d.oid || (x.req == .pair && (v.code == 0x0001 || (v.code == 0x0005 && x.f 0 4 == x.target.toNat))))

/-- Steps 8 to 14 of a sentence for the aggregator itself. -/
def State.runOwn (s : State) (v : Verb) (body : Sentence → State → State × Answer) (x : Sentence) : State :=
  let t := x.ticket
  if !v.agg then s.final .agg t St.unknownVerb
  else if s.level .agg < v.minLevel then s.final .agg t St.version
  else if !headerValid v x then s.final .agg t St.param
  else if v.maxLen < x.plen then s.final .agg t St.length
  else if x.plen < v.minLen || !v.check .agg x then s.final .agg t St.param
  else match s.denied v x with
    | some res => s.silent v x res (v.zeroLen .agg x)
    | none =>
      if s.pair.standby && v.atStandby x == .refuse then s.final .agg t St.state
      else if s.pair.standby && x.req != .partner && v.atStandby x == .carry then
        (s.setTags .agg (updTag (s.tagsOf .agg) x.req x.tag fun e => { e with phase := .running })).emit (.partnerLink 1) (shim s.dev.oid 1 1 ++
          pad4 (sentenceBytes v.code x x.tag x.target x.subunit.toNat))
      else if x.staged then s.joinSet v x false
      else s.start v body x

/-- A VERB record for a DTC port: sent on this aggregator's link, or through the partner while that link is out of service (R258). -/
def State.sendVerb (s : State) (p : Fin 64) (bytes : Bytes) : State :=
  if (s.port p).e.st == .inService || (s.port p).e.st == .held then
    s.onPort p fun a => { a with verbOut := a.verbOut ++ [recordBytes 0 0 bytes] }
  else s.emit (.dtcVerb .agg p .a) bytes

/-- Keep the counter set of a SET_COUNTER_SET that passes to a DTC: the two most recent ones decode its bodies (R183). -/
def AggPort.keepSet (a : AggPort) (verb : Nat) (x : Sentence) : AggPort :=
  if verb != 0x0200 then a
  else
    let k : CounterSet := ⟨rangesAt x.params 24 (x.f 18 2), x.f 16 2, x.b 20⟩
    if a.sets.head? == some k then a else { a with sets := (k :: a.sets).take 2 }

/-- Forward a sentence to the DTC of port p under a new forwarding tag, which is mirrored (R126). The sentences that the aggregator makes itself carry
SUBUNIT 0; their type-3 entry names no requester and carries the port as SUBUNIT, so that the standby keeps the tag and nothing else. -/
def State.forward (s : State) (p : Fin 64) (verb : Nat) (x : Sentence) (target : Word) (subunit : Nat := 0) (client : Bool := false) : State × Nat :=
  let f := Tbl.get 1 p.val s.verbs.nextFtag
  let bytes := sentenceBytes verb x (BitVec.ofNat 32 f) target subunit
  let own := (s.port p).e.st == .inService || (s.port p).e.st == .held
  let w : Forwarded := ⟨f, x.ticket, if own then .a else .b, s.now, s.now, verb, bytes, false⟩
  let q := Tbl.get [] p.val s.verbs.forwarded
  let s0 := { s with verbs := { s.verbs with nextFtag := Tbl.set 1 p.val (f + 1) s.verbs.nextFtag,
                                             forwarded := Tbl.set [] p.val (q ++ [w]) s.verbs.forwarded } }
  let s1 := s0.onPort p fun a => a.keepSet verb x
  let s2 := s1.mirror 3 (acceptedEntry verb (if client then x else { x with req := .pair, target := target, subunit := BitVec.ofNat 16 (p.val + 1) }) f)
  (s2.sendVerb p bytes, f)

/-- A sentence for an attached DTC: steps 8 and 12 of R126 (a denied one gets zeros of the length that the DTC's own checks of its form leave it,
R109), then forwarded, by either role, since R130 speaks of sentences addressed to the
standby's own OID (log entry 60); its reply is the DTC's. -/
def State.runForward (s : State) (v : Verb) (p : Fin 64) (x : Sentence) : State :=
  match s.denied v x with
  | some res =>
    let form := v.dtc && dtcHeaderForm v x && x.plen ≤ v.maxLen && v.minLen ≤ x.plen && v.check (.dtc p) x
    s.silent v x res (if form then v.zeroLen (.dtc p) x else 0)
  | none =>
    let r := s.forward p v.code x x.target x.subunit.toNat true
    r.1.setTags .agg (updTag (r.1.tagsOf .agg) x.req x.tag fun e => { e with phase := .forwarded p r.2 })

/-- A sentence for another part of the fabric: routed on, or ST_PARAM without a route (R127, R449, R452). -/
def State.passOnSentence (s : State) (verb : Nat) (x : Sentence) : State :=
  let r := s.sendTo x.target 2 (s.typeTo x.target)
    (shim s.dev.oid 1 1 ++ pad4 (sentenceBytes verb x x.tag x.target x.subunit.toNat))
  if r.2 then r.1.setTags .agg (updTag (r.1.tagsOf .agg) x.req x.tag fun e => { e with phase := .running })
  else s.final .agg x.ticket St.param

/-- Steps 8 to 14 at the aggregator: its own sentences, those of an attached DTC, and those routed on (R449, R452, R127). -/
def State.runAgg (s : State) (v : Verb) (body : Sentence → State → State × Answer) (x : Sentence) : State :=
  if x.target == 0 || x.target == 0xFFFFFFFF || s.isOwn x.target then s.runOwn v body x
  else match s.dtcOf x.target with
    | some p => s.runForward v p x
    | none => s.passOnSentence v.code x

/-- Steps 8 to 14 at a DTC (R102, R128, R133, R136). -/
def State.runDtc (s : State) (v : Verb) (body : Sentence → State → State × Answer) (p : Fin 64) (x : Sentence) : State :=
  let d := s.dtc p
  let t := x.ticket
  let noLink := d.la.e.st != .inService && d.lb.e.st != .inService
  if !v.dtc || (x.req == .mailbox && v.mailbox == 0) then s.final x.part t St.unknownVerb
  else if s.level (.dtc p) < v.minLevel then s.final x.part t St.version
  else if !dtcHeaderValid v d x then s.final x.part t St.param
  else if v.maxLen < x.plen then s.final x.part t St.length
  else if x.plen < v.minLen || !v.check x.part x then s.final x.part t St.param
  else if x.req == .mailbox && v.mailbox == 1 && !noLink then s.final x.part t St.state
  else s.execute body x

/-- A verb's command: the sentence a transport has admitted runs from step 8, any other from step 5 (R102). Before FW_READY the
command processor runs no sentence, before adp_ready the DTC none (R295, R168). One that must wait for another stays admitted, and its row starts
it later. -/
def State.runSentence (s : State) (v : Verb) (body : Sentence → State → State × Answer) (x : Sentence) : State :=
  let ready := match x.part with
    | .agg => s.dev.fwReady
    | .dtc p => (s.dtc p).ready
  if !ready then s
  else
    let r := if s.isAdmitted v.code x then (s, true) else s.takeIn v.code x none
    if !r.2 || r.1.mustWait v.code x then r.1
    else match x.part with
      | .agg => r.1.runAgg v body x
      | .dtc p => r.1.runDtc v body p x

/-- The verb codes of R133. -/
def knownVerbs : List Nat :=
  List.range 6 ++ (List.range 15).map (0x100 + ·) ++ (List.range 10).map (0x200 + ·) ++ (List.range 4).map (0x300 + ·) ++
  (List.range 5).map (0x400 + ·) ++ (List.range 8).map (0x500 + ·) ++ (List.range 7).map (0x600 + ·) ++
  (List.range 8).map (0x700 + ·) ++ (List.range 8).map (0x800 + ·) ++ (List.range 7).map (0x900 + ·) ++
  (List.range 6).map (0xA00 + ·) ++ (List.range 5).map (0xB00 + ·) ++ (List.range 4).map (0xC00 + ·) ++
  (List.range 4).map (0xF00 + ·)

end Sys2Proof.Machine
end

