-- ==== Sys2Proof/Machine/Device.lean ====
section
/-! DEFINITION. Device verbs (class 0x00) and staging verbs (class 0x0F) of R133 to R136 and R110 to R116. -/

namespace Sys2Proof.Machine
open Sys2Proof

/-- The version register of both parts (R2, R3). -/
def versionRegister : Nat := 0x03020003

def nopBody (_ : Sentence) (s : State) : State × Answer := (s, .final St.ok)

/-- GET_VERSION (R133). The table knows role 0, active, and 1, standby: a part whose role is not settled reports 0 (DESIGN CHOICE, log entry 318). -/
def getVersionBody (x : Sentence) (s : State) : State × Answer :=
  match x.part with
  | .agg => (s, .final St.ok (be 4 versionRegister ++ be 1 s.dev.pinned ++ be 1 1 ++ be 1 (if s.pair.standby then 1 else 0) ++ be 1 0 ++
      be 4 s.dev.oid.toNat))
  | .dtc p => (s, .final St.ok (be 4 versionRegister ++ be 1 (s.dtc p).pinned.toNat ++ be 1 0 ++ be 1 255 ++ be 1 0 ++ be 4 (s.dtc p).oid.toNat))

def getCapsBody (x : Sentence) (s : State) : State × Answer :=
  match x.part with
  | .agg => (s, .final St.ok (be 2 1024 ++ be 2 256 ++ be 2 4096 ++ be 2 64 ++ be 2 4096 ++ be 2 4092 ++ zeros 4))
  | .dtc _ => (s, .final St.ok (be 2 64 ++ be 2 16 ++ be 2 17 ++ be 2 0 ++ be 2 256 ++ be 2 264 ++ zeros 4))

/-- The six counts of GET_VERB_COUNTERS. -/
def VerbCounters.bytes (c : VerbCounters) : Bytes :=
  be 8 c.hcrc ++ be 8 c.crc ++ be 8 c.busy ++ be 8 c.violations ++ be 8 c.stageExpired ++ be 8 c.frames

def getVerbCountersBody (x : Sentence) (s : State) : State × Answer :=
  match x.part with
  | .agg => (s, .final St.ok (Tbl.get {} (x.b 0) s.verbs.counters).bytes)
  | .dtc p => (s, .final St.ok (if x.b 0 = 2 then (s.dtc p).cntLink.bytes else (s.dtc p).cntMailbox.bytes))

/-- The EtherTypes that SET_TRANSPORT accepts (R125). -/
def etherTypeAllowed (v : Nat) : Bool :=
  0x0600 ≤ v && ! [0x0800, 0x86DD, 0x8100, 0x8809, 0x88A8, 0x88B6, 0x88F7].contains v

/-- A new EtherType, in force 1 us after acceptance (R125). -/
def EtherSetting.write (e : EtherSetting) (now v : Nat) : EtherSetting := { cur := e.at now, next := v, since := now + 1000 }

def setTransportBody (x : Sentence) (s : State) : State × Answer :=
  let v := x.f 0 2
  let m := x.b 2
  ({ s with verbs := { s.verbs with
      etFabric := if m % 2 = 1 then s.verbs.etFabric.write s.now v else s.verbs.etFabric
      etMgmt := if m / 2 % 2 = 1 then s.verbs.etMgmt.write s.now v else s.verbs.etMgmt } }, .final St.ok)

/-- SET_OID: the aggregator's own OID, or a SET_OID forwarded to a DTC with TARGET the new OID and kept for its port (R136); at the
DTC, ADP_OID until the next reset, and OID_BAD clears. -/
def setOidBody (x : Sentence) (s : State) : State × Answer :=
  let v := BitVec.ofNat 32 (x.f 0 4)
  match x.part with
  | .agg =>
    if h : 1 ≤ x.subunit.toNat ∧ x.subunit.toNat ≤ 64 then
      let p : Fin 64 := ⟨x.subunit.toNat - 1, by omega⟩
      let s1 := { s with verbs := { s.verbs with keptOid := Tbl.set 0 p.val v.toNat s.verbs.keptOid } }
      ((s1.forward p 0x0005 x v).1, .later)
    else ({ s with dev := { s.dev with oid := v } }, .final St.ok (be 4 s.dev.oid.toNat))
  | .dtc p => (s.onDtc p fun d => { d with oid := v, oidBad := false }, .final St.ok (be 4 (s.dtc p).oid.toNat))

def vNop : Verb := { code := 0x0000, dtc := true, mailbox := 2, standby := .own }
def vGetVersion : Verb := { code := 0x0001, dtc := true, mailbox := 2, standby := .own, zeroLen := fun _ _ => 12 }
def vGetCaps : Verb := { code := 0x0002, dtc := true, mailbox := 2, standby := .own, zeroLen := fun _ _ => 16 }
def vGetVerbCounters : Verb :=
  { code := 0x0003, mgmt := true, dtc := true, mailbox := 2, standby := .own, minLen := 4, maxLen := 4, zeroLen := fun _ _ => 48
    check := fun w x => x.b 0 ≤ 3 && match w with
      | .agg => true
      | .dtc _ => 2 ≤ x.b 0 }
def vSetTransport : Verb :=
  { code := 0x0004, mgmt := true, standby := .own, minLen := 4, maxLen := 4, check := fun _ x => etherTypeAllowed (x.f 0 2) }
def vSetOid : Verb :=
  { code := 0x0005, mgmt := true, dtc := true, standby := .own, subMax := 64, minLen := 4, maxLen := 4, zeroLen := fun _ _ => 4
    check := fun _ x => x.f 0 4 != 0 && x.f 0 4 != 0xFFFFFFFF }

def execNop (x : Sentence) (s : State) := finish s (s.runSentence vNop nopBody x)
def execGetVersion (x : Sentence) (s : State) := finish s (s.runSentence vGetVersion getVersionBody x)
def execGetCaps (x : Sentence) (s : State) := finish s (s.runSentence vGetCaps getCapsBody x)
def execGetVerbCounters (x : Sentence) (s : State) := finish s (s.runSentence vGetVerbCounters getVerbCountersBody x)
def execSetTransport (x : Sentence) (s : State) := finish s (s.runSentence vSetTransport setTransportBody x)
def execSetOid (x : Sentence) (s : State) := finish s (s.runSentence vSetOid setOidBody x)

/-! ## Staging -/

/-- STAGE opens a set; ST_STATE if one is open (R133). -/
def stageBody (x : Sentence) (s : State) : State × Answer :=
  let g := s.stagingOf x.req
  match g.opened with
  | some _ => (s, .final St.state)
  | none =>
    let n := s.verbs.setNumber
    let s1 := s.setStaging x.req { g with opened := some ⟨n, [], s.now⟩ }
    (({ s1 with verbs := { s1.verbs with setNumber := n + 1 } }).mirror 7 (setEntry n 3 x 0x0F00), .final St.ok (be 4 n))

/-- COMMIT (R113, R116): ST_BUSY while a committed set waits, ST_STATE with no set open, ST_PARAM for a not-before stamp more than
1 s ahead. While service time is not valid there is no instant to hold the stamp against, and it is taken without that check (DESIGN CHOICE, log
entry 319). -/
def commitBody (x : Sentence) (s : State) : State × Answer :=
  let g := s.stagingOf x.req
  let nb := stampAt x.params 0
  let t := if nb = Stamp.zero then 0 else ofStamp nb
  if g.committed.isSome then (s, .final St.busy)
  else match g.opened with
    | none => (s, .final St.state)
    | some set =>
      if s.timeValid && s.svc + 1000000000 * unit < t then (s, .final St.param)
      else
        let s1 := s.setStaging x.req { g with opened := none, committed := some ⟨set, x.ticket, s.now, t, none⟩ }
        (s1.mirror 7 (setEntry set.num 1 x 0x0F01), .accepted)

/-- End every change of a set with one status (R112, R135). -/
def State.endChanges (s : State) (st : Nat) (cs : List (Nat × Sentence)) : State :=
  cs.foldl (fun t c => (t.dropStaged c.1 c.2).final .agg c.2.ticket st) s

/-- DISCARD releases the open set; a committed set is untouched (R135). -/
def discardBody (x : Sentence) (s : State) : State × Answer :=
  let g := s.stagingOf x.req
  match g.opened with
  | none => (s, .final St.ok (zeros 4))
  | some set =>
    let s1 := (s.setStaging x.req { g with opened := none }).endChanges St.state set.changes
    (s1.mirror 7 (setEntry set.num 0 x 0x0F02), .final St.ok (be 2 set.changes.length ++ be 2 0))

/-- GET_STAGED (R133): the milliseconds until expiry are whole ones, rounded down (DESIGN CHOICE, log entry 317). -/
def getStagedBody (x : Sentence) (s : State) : State × Answer :=
  match (s.stagingOf x.req).opened with
  | none => (s, .final St.ok (zeros 12))
  | some set => (s, .final St.ok (be 4 set.num ++ be 2 set.changes.length ++ be 2 0 ++ be 4 ((set.last + 100000000 - s.now) / 1000000)))

def vStage : Verb := { code := 0x0F00, nonIdem := true, zeroLen := fun _ _ => 4 }
def vCommit : Verb :=
  { code := 0x0F01, nonIdem := true, minLen := 16, maxLen := 16, zeroLen := fun _ _ => 24, deferred := fun _ => true
    check := fun _ x => x.f 8 4 < 1000000000 }
def vDiscard : Verb := { code := 0x0F02, zeroLen := fun _ _ => 4 }
def vGetStaged : Verb := { code := 0x0F03, zeroLen := fun _ _ => 12 }

def execStage (x : Sentence) (s : State) := finish s (s.runSentence vStage stageBody x)
def execCommit (x : Sentence) (s : State) := finish s (s.runSentence vCommit commitBody x)
def execDiscard (x : Sentence) (s : State) := finish s (s.runSentence vDiscard discardBody x)
def execGetStaged (x : Sentence) (s : State) := finish s (s.runSentence vGetStaged getStagedBody x)

/-- STAGE_EXPIRY (R112): due 100 ms after the set's opening or last joining; its changes end with ST_STAGE_EXPIRED, and the next
sentence of the requester gets it too. -/
def execStageExpiry (r : Requester) (s : State) := finish s (
  let g := s.stagingOf r
  match g.opened with
  | none => s
  | some set =>
    if set.last + 100000000 ≤ s.now then
      ((s.setStaging r { g with opened := none, expired := true }).endChanges St.stageExpired set.changes).mirror 7 (be 4 set.num ++ be 1 0 ++ be 5 (reqKey r) ++ be 4 0)
    else s)

end Sys2Proof.Machine
end

