-- ==== Sys2Proof/Machine/Transport.lean ====
section
/-! DEFINITION. Sentences as they arrive in bytes: steps 1 to 8 of R102 on every transport, the queue pairs (R119 to R123, R294, R295),
the mailbox (R165, R166), and the replies of DTCs (R126, R127, R129, R258). -/

namespace Sys2Proof
open Sys2Proof.Machine (fld sub)

/-- A field of a submission entry in the host's byte order (R121; the size goes with the address fields, DEDUCED, log entry 316). -/
def HostEntry.field (e : HostEntry) (o n : Nat) : Nat := fld (if e.hostBig then sub e.entry o n else (sub e.entry o n).reverse) 0 n
/-- The layout of a submission entry (R121). -/
def HostEntry.header (e : HostEntry) : Bytes := e.entry.take 32
def HostEntry.paramAddr (e : HostEntry) : Nat := e.field 32 8
def HostEntry.resultAddr (e : HostEntry) : Nat := e.field 40 8
def HostEntry.resultSize (e : HostEntry) : Nat := e.field 48 4

end Sys2Proof

namespace Sys2Proof.Machine
open Sys2Proof

/-- The sentence of a 32-byte header and its parameters (R92). -/
def parseSentence (w : Part) (req : Requester) (h params : Bytes) : Sentence :=
  { part := w, req := req, flags := BitVec.ofNat 8 (byteAt h 1), tag := BitVec.ofNat 32 (fld h 4 4),
    target := BitVec.ofNat 32 (fld h 8 4), subunit := BitVec.ofNat 16 (fld h 12 2), tenant := BitVec.ofNat 16 (fld h 14 2),
    params := params }

/-- Step 1: HCRC over bytes 0 to 27. -/
def headerGood (h : Bytes) : Bool := h.length == 32 && fld h 28 4 == crc32c (h.take 28)

/-- Note the link on which a DTC's sentence arrived (R257). -/
def State.noteLink (s : State) (w : Part) (t : Ticket) (l : Option LinkId) : State :=
  match l with
  | none => s
  | some _ => s.setTags w (updTag (s.tagsOf w) t.req t.tag fun e => { e with link := l })

/-- Steps 1 to 8 for arriving bytes (R102). `params` is none where a DMA read failed (R295). A sentence that passes stays admitted:
its verb's own row starts it. A mailbox sentence of a DTC with OID_BAD takes the same steps in the same order, so that one that an earlier step refuses
gets that step's status and every other ST_PARAM at step 9 (R102, R143; DEDUCED, log entry 320). A code that R133 does not list has no row and ends here with ST_UNKNOWN_VERB. -/
def State.receive (s : State) (w : Part) (req : Requester) (h : Bytes) (params : Option Bytes) (buf : Option ResultBuffer)
    (link : Option LinkId := none) : State :=
  if !headerGood h then
    let s1 := s.bumpCounter w req fun c => { c with hcrc := satInc 64 c.hcrc }
    match w, req with
    | .dtc p, .mailbox => s1.onDtc p fun d =>
        Dtc.irq { d with mb := { d.mb with busy := false, done := true, discard := true, rspLen := 0, rsp := [] } } 0
    | .agg, .qp n => let q := s1.qp n; s1.setQp n { q with inFlight := q.inFlight - 1, enabled := q.enable || q.inFlight != 1 }
    | _, _ => s1
  else
    let ps := params.getD []
    let x := parseSentence w req h ps
    let verb := fld h 2 2
    let cs := s.csOf w
    if byteAt h 0 != 1 then s.quickReply x buf St.version [] cs
    else if 4096 < fld h 16 2 || (params.isSome && fld h 16 2 != ps.length) then s.quickReply x buf St.length [] cs
    else if params.isNone && fld h 16 2 != 0 then (if w == .agg then s.hwFaultRecord x verb else s).quickReply x buf St.hwFault [] cs
    else if fld h 18 4 != crc32c ps then
      (s.bumpCounter w req fun c => { c with crc := satInc 64 c.crc }).quickReply x buf St.crc [] cs
    else
      let r := s.takeIn verb x buf
      if !r.2 then r.1
      else
        let s1 := r.1.noteLink w x.ticket link
        if knownVerbs.contains verb then s1
        else if w == .agg && !s1.isOwn x.target && (s1.dtcOf x.target).isNone && x.target != 0 && x.target != 0xFFFFFFFF then
          s1.passOnSentence verb x
        else s1.final w x.ticket St.unknownVerb

/-! ## Queue pairs -/

/-- The queue pair has an entry to fetch (R295). -/
def Qp.waiting (q : Qp) : Bool := q.enable && !q.stopped && q.sqHead != q.sqTail

/-- The queue pair at or after the rotation pointer that has an entry (R119). -/
def State.nextQp (s : State) : Option (Fin 64) :=
  let ready := allPorts.filter fun n => (s.qp n).waiting
  match ready.find? fun n => s.dev.rotation ≤ n.val with
  | some n => some n
  | none => ready.head?

/-- Take an entry of queue pair n whose parameters are `len` bytes (R119, R121): the head moves on, the rotation pointer passes it, and the
parameters are read from host memory. -/
def State.takeQpEntry (s : State) (n : Fin 64) (e : HostEntry) (len : Nat) : State :=
  let q := s.qp n
  let s1 := s.setQp n { q with sqHead := (q.sqHead + 1) % 4096, inFlight := q.inFlight + 1 }
  let s2 := { s1 with dev := { s1.dev with rotation := (n.val + 1) % 64 } }
  if len = 0 then s2 else s2.emit (.hostRead e.paramAddr len)

/-- Fetch the entry of queue pair n. -/
def State.fetchQp (s : State) (n : Fin 64) (e : HostEntry) : State :=
  let s1 := s.takeQpEntry n e (fld e.header 16 2)
  s1.receive .agg (.qp n) e.header (if fld e.header 16 2 = 0 then some [] else e.params)
    (some ⟨e.resultAddr, e.resultSize, e.resultWritable, (s1.qp n).sqHead⟩)

/-- Fetch the Ethernet sentence that has waited longest (R119). -/
def State.fetchEth (s : State) : State :=
  match s.verbs.waiting with
  | [] => s
  | w :: ws =>
    ({ s with verbs := { s.verbs with waiting := ws } }).receive .agg w.1 (w.2.take 32)
      (some ((w.2.drop 32).take (fld w.2 16 2))) none

/-- QP_ENABLE (R295): positions to 0, phase to 1. Writing 1 to an enabled queue pair restarts it in the same way. -/
def execQpEnable (n : Fin 64) (msiEn : Bool) (s : State) := finish s (
  let q := s.qp n
  if s.dev.halted then s
  else s.setQp n { q with msiEn := msiEn, enable := true, enabled := true, sqHead := 0, sqTail := 0, cqHead := 0, cqPos := 0, phase := true,
                          stopped := false })

/-- QP_DISABLE (R295): fetching stops; ENABLED reads 0 after the last completion. -/
def execQpDisable (n : Fin 64) (msiEn : Bool) (s : State) := finish s (
  let q := s.qp n
  if s.dev.halted then s
  else s.setQp n { q with msiEn := msiEn, enable := false, enabled := q.inFlight != 0 || !q.held.isEmpty })

/-- An error of a queue pair (R294): ERR, its kind, and GQ_IRQ_STATUS.QP_ERR. -/
def State.qpError (s : State) (n : Fin 64) (kind : Nat) : State :=
  (s.setQp n { s.qp n with err := true, errKind := kind }).irq 4

def execQpSqTailDoorbell (n : Fin 64) (v : Word) (s : State) := finish s (
  if s.dev.halted then s
  else if (s.qp n).enabled then s.setQp n { s.qp n with sqTail := v.toNat % 4096 } else s.qpError n 2)

/-- The final reply of a held completion has been sent (R107). -/
def State.landed (s : State) (n : Fin 64) (entry : Bytes) : State :=
  let t : Ticket := ⟨.qp n, BitVec.ofNat 32 (fld entry 0 4)⟩
  match findTag s.verbs.tags t.req t.tag with
  | some e => match e.phase, e.reply with
    | .ended, some r => if s.pair.withheld.any (fun w => w.2 == .reply t) then s else s.settle .agg t r.status
    | _, _ => s
  | none => s

/-- Write the completions held for a queue pair while its ring has room (R123; fuel: those held). -/
def State.releaseHeld (s : State) (n : Fin 64) : Nat → State
  | 0 => s
  | f + 1 =>
    let q := s.qp n
    match q.held with
    | [] => s
    | h :: hs => if q.full then s else (((s.setQp n { q with held := hs }).complete n h.1 h.2.1 h.2.2).landed n h.2.2).releaseHeld n f

def execQpCqHeadDoorbell (n : Fin 64) (v : Word) (s : State) := finish s (
  if s.dev.halted then s
  else if (s.qp n).enabled then
    let s1 := s.setQp n { s.qp n with cqHead := v.toNat % 4096 }
    s1.releaseHeld n (s1.qp n).held.length
  else s.qpError n 2)

/-- SUBMISSION_READ_FAIL (R295): fetching stops, ERR kind 1. -/
def execSubmissionReadFail (n : Fin 64) (s : State) := finish s (
  if (s.qp n).waiting then (s.setQp n { s.qp n with stopped := true }).qpError n 1 else s)

/-! ## The mailbox -/

/-- End an exchange without a sentence taken (R166). -/
def Dtc.mailboxDiscard (d : Dtc) : Dtc :=
  Dtc.irq { d with mb := { d.mb with busy := false, done := true, discard := true, rspLen := 0, rsp := [] } } 0

/-- A GO with LEN (R165, R166): steps 1 to 8; a sentence for another TARGET goes upstream on the followed link (R129). -/
def State.mailboxGo (s : State) (p : Fin 64) (len : Nat) : State :=
  let d := s.dtc p
  if !d.ready then s
  else if d.mb.busy then s.setDtc p { d with mb := { d.mb with overrun := true } }
  else
    let d1 := { d with mb := { d.mb with len := BitVec.ofNat 9 len, done := false, busy := true, rsp := [], rspLen := 0 } }
    if len < 32 || 288 < len then s.setDtc p d1.mailboxDiscard
    else
      let bytes := (List.range len).map fun k => Tbl.get 0 k d.mb.req
      let h := bytes.take 32
      let ps := bytes.drop 32
      let x := parseSentence (.dtc p) .mailbox h ps
      let s1 := s.setDtc p d1
      if headerGood h && byteAt h 0 == 1 && fld h 16 2 == ps.length && fld h 18 4 == crc32c ps && x.target != d.oid && !d.oidBad then
        let l := d.followed
        if (d.link l).e.st == .inService then
          s1.onDtc p fun e => e.setLink l { e.link l with sentences := (e.link l).sentences ++ [recordBytes 0 0 bytes] }
        else s1.quickReply x none St.state [] (s.csOf (.dtc p))
      else s1.receive (.dtc p) .mailbox h (some ps) none

def execMailboxGo (p : Fin 64) (len : BitVec 9) (s : State) := finish s ((s.mailboxGo p len.toNat).emit (.trbWrite p false))

/-- DTC_ORIGINATED_REPLY (R129, R165): the reply is placed in ADP_MB_RSP and completes the exchange. ST_ACCEPTED leaves the
mailbox BUSY until the final reply, as for a sentence that the DTC executes itself (log entry 64). -/
def State.takeOriginatedReply (s : State) (p : Fin 64) (reply : Bytes) : State :=
  let d := s.dtc p
  if d.ready && d.mb.busy && fld reply 4 2 != St.accepted then s.transmitDtc p .mailbox (reply.take 284) else s

def execDtcOriginatedReply (p : Fin 64) (_l : LinkId) (reply : Bytes) (s : State) := finish s (s.takeOriginatedReply p reply)

/-! ## Replies of DTCs to forwarded sentences -/

/-- Take a forwarded sentence off its port's list. -/
def State.dropForward (s : State) (p : Fin 64) (ftag : Nat) : State :=
  let q := (Tbl.get [] p.val s.verbs.forwarded).filter fun w => w.ftag != ftag
  { s with verbs := { s.verbs with forwarded := Tbl.set [] p.val q s.verbs.forwarded } }

/-- One DTC of a sentence for several has answered: the final reply goes out when all have (R184). -/
def State.gathered (s : State) (g : Gather) (p st : Nat) : State :=
  let f := if st == St.ok then g.failed else match g.failed with
    | some (q, t) => if p < q then some (p, st) else some (q, t)
    | none => some (p, st)
  let g1 := { g with waits := g.waits.filter (fun w => w.1 != p), failed := f }
  let rest := s.verbs.gathers.filter fun h => h.ticket != g.ticket
  if g1.waits.isEmpty then
    let s1 := { s with verbs := { s.verbs with gathers := rest } }
    let cs := g1.tickCs.getD s1.cs
    match g1.failed with
    | none => s1.finalAt .agg g.ticket St.ok g1.results cs
    | some (q, t) => s1.finalAt .agg g.ticket t (be 2 q) cs
  else { s with verbs := { s.verbs with gathers := rest ++ [g1] } }

/-- The final reply of a forwarded sentence: whoever it answers gets it with the original TAG (R126); the firmware's own sentences
(GET_VERSION, SET_OID, pins of R136 and R530) have no ticket in a window and only update the port. -/
def State.answerForward (s : State) (p : Fin 64) (w : Forwarded) (st : Nat) (results : Bytes) (cstamp : Nat) : State :=
  let s1 := s.dropForward p w.ftag
  match s1.verbs.gathers.find? fun g => g.ticket == w.ticket && g.waits.any (fun v => v == (p.val, w.ftag)) with
  | some g => s1.gathered g p.val st
  | none => s1.finalAt .agg w.ticket st results cstamp

/-! ## What replies of DTCs teach (R136, R183, R306) -/

/-- The change that a sentence asks for. -/
def changeOf (verb : Nat) (x : Sentence) : ConfigChange :=
  if verb = 0x0200 then .set ⟨rangesAt x.params 24 (x.f 18 2), x.f 16 2, x.b 20⟩
  else if verb = 0x0203 then .reduction ⟨x.f 16 2, x.f 18 2, rangesAt x.params 32 (x.f 24 2), x.f 20 4⟩
  else .histogram (x.b 16) ⟨x.b 17, x.b 18, x.f 20 2, x.f 22 2⟩

/-- A configuration with one change made. -/
def withChange (c : CounterSet × Reduction × Tbl HistConfig) : ConfigChange → CounterSet × Reduction × Tbl HistConfig
  | .set s => (s, c.2.1, c.2.2)
  | .reduction r => (c.1, r, c.2.2)
  | .histogram m h => (c.1, c.2.1, Tbl.set {} m h c.2.2)

/-- The configuration of a port as made through this aggregator, with a change. -/
def AggPort.configured (a : AggPort) (ch : ConfigChange) : AggPort :=
  let c := withChange (a.cfgSet, a.cfgRed, a.cfgHist) ch
  let reds := match ch with
    | .reduction k => if a.reds.head? == some k then a.reds else (k :: a.reds).take 2
    | _ => a.reds
  { a with reds := reds, cfgSet := c.1, cfgRed := c.2.1, cfgHist := c.2.2 }

def State.die (s : State) (p : Nat) : Die := Tbl.get {} p s.data.dies
def State.setDie (s : State) (p : Nat) (d : Die) : State := { s with data := { s.data with dies := Tbl.set {} p d s.data.dies } }

/-- A reduction change at a DTC: the EPOCH_INDEX after that of its activation tick, taken from the CSTAMP of the reply; a CSTAMP of 0 places
it before every tick (R306). -/
def State.noteChange (s : State) (p : Fin 64) (verb cs : Nat) : State :=
  if verb = 0x0200 then s
  else
    let d := s.die p.val
    let first := if cs ≤ 1 then 0 else (cstampBase * 1000000000 + cs / 8) / s.sys.epoch + 1
    s.setDie p.val { d with lastChange := first, redId := (s.port p).cfgRed.id }

/-- The DTC's OID, learnt from the reply to GET_VERSION (R136), and the collection configuration that a DTC has taken (R183). -/
def State.learn (s : State) (p : Fin 64) (w : Forwarded) (st : Nat) (results : Bytes) (cs : Nat) : State :=
  if w.verb = 0x0001 && st = St.ok && 12 ≤ results.length then
    { s with verbs := { s.verbs with knownOid := Tbl.set 0 p.val (fld results 8 4) s.verbs.knownOid } }
  else if (w.verb = 0x0200 || w.verb = 0x0203 || w.verb = 0x0204) && st = St.ok then
    let x := parseSentence .agg .pair (w.bytes.take 32) (w.bytes.drop 32)
    (s.onPort p fun a => a.configured (changeOf w.verb x)).noteChange p w.verb cs
  else s

/-- A reply has arrived: the sentence is not sent again (R258). -/
def State.markAnswered (s : State) (p : Fin 64) (ftag : Nat) : State :=
  let q := (Tbl.get [] p.val s.verbs.forwarded).map fun w => if w.ftag == ftag then { w with answered := true } else w
  { s with verbs := { s.verbs with forwarded := Tbl.set [] p.val q s.verbs.forwarded } }

/-- FORWARDED_REPLY_RECEIVE (R126, R258): ST_ACCEPTED is passed on and the final reply awaited; ST_DUPLICATE delivers the stored
status and results as the final reply, unless it stores ST_ACCEPTED. A reply to a sentence that the partner forwarded goes to the
partner (R243). -/
def State.takeForwardedReply (s : State) (p : Fin 64) (reply : Bytes) : State :=
  let ftag := fld reply 0 4
  let st := fld reply 4 2
  let results := sub reply 16 (fld reply 6 2)
  let cs := fld reply 8 8
  match (Tbl.get [] p.val s.verbs.forwarded).find? fun w => w.ftag == ftag with
  | none => s.emit (.partnerLink 2) (shim s.dev.oid 2 1 ++ pad4 reply)
  | some w =>
    if st == St.accepted then
      let s1 := s.markAnswered p ftag
      match findTag s.verbs.tags w.ticket.req w.ticket.tag with
      | some e => if e.x.wantsAll then s1.deliver e.x e.buf (replyBytes e.x.tag St.accepted [] cs) else s1
      | none => s1
    else if st == St.duplicate then
      if fld results 0 2 == St.accepted then s.markAnswered p ftag
      else (s.learn p w (fld results 0 2) (results.drop 4) cs).answerForward p w (fld results 0 2) (results.drop 4) cs
    else (s.learn p w st results cs).answerForward p w st results cs

def execForwardedReplyReceive (p : Fin 64) (_l : LinkId) (reply : Bytes) (s : State) := finish s (s.takeForwardedReply p reply)

/-- The measured one-way delay of a port in ns, 50 us until the first measurement (R252, R262). -/
def AggPort.delayNs (a : AggPort) : Nat := if a.measured then (a.delay / 65536).toNat else 50000

/-- The one-way delay that the partner has measured on a DTC's other link: a free value, none before its first measurement (log entry 33). -/
def Dtc.partnerNs (d : Dtc) : Option Nat := d.lb.partnerDelay.map fun n => (Config.partnerDelay n).toNat

/-- The d of R252 on a DTC's link: what its aggregator last measured there, 50 us until the first measurement. -/
def State.linkDelay (s : State) (p : Fin 64) : LinkId → Nat
  | .a => (s.port p).delayNs
  | .b => ((s.dtc p).partnerNs).getD 50000

/-- The longer measured one-way delay of a DTC's two links, none before a measurement (R270, R307). -/
def State.longerDelay (s : State) (p : Fin 64) : Option Nat :=
  match (if (s.port p).measured then some (s.port p).delayNs else none), (s.dtc p).partnerNs with
  | some a, some b => some (max a b)
  | some a, none => some a
  | none, b => b

/-- FORWARD_RESEND_TIMEOUT (R258): due 2d + 10 us after the last sending where no reply has come; sent again with the same forwarding tag. -/
def execForwardResendTimeout (p : Fin 64) (ftag : Word) (s : State) := finish s (
  let q := Tbl.get [] p.val s.verbs.forwarded
  match q.find? fun w => w.ftag == ftag.toNat with
  | none => s
  | some w =>
    if !w.answered && w.sentAt + 2 * (s.port p).delayNs + 10000 ≤ s.now then
      let q1 := q.map fun v => if v.ftag == w.ftag then { v with sentAt := s.now } else v
      ({ s with verbs := { s.verbs with forwarded := Tbl.set [] p.val q1 s.verbs.forwarded } }).sendVerb p w.bytes
    else s)

/-- A link end has been out of service for 10 ms. -/
def LinkEnd.longDown (e : LinkEnd) (now : Nat) : Bool := e.st != .inService && e.heldSince + 10000000 ≤ now

/-- FORWARD_LINK_TIMEOUT (R127): due 10 ms after forwarding when neither link of the DTC has been up since. The aggregator's own end tells of its own
link, the DTC's end of the other (log entry 14). -/
def execForwardLinkTimeout (p : Fin 64) (ftag : Word) (s : State) := finish s (
  match (Tbl.get [] p.val s.verbs.forwarded).find? fun w => w.ftag == ftag.toNat with
  | none => s
  | some w =>
    if (s.port p).e.longDown s.now && (s.dtc p).lb.e.longDown (s.dtc p).now && w.since + 10000000 ≤ s.now then
      s.answerForward p w St.hwFault [] s.cs
    else s)

end Sys2Proof.Machine
end

