-- ==== Sys2Proof/Machine/Collection.lean ====
section
/-! DEFINITION. Collection on the die (chapter 05) and the DTC's ports that feed it (chapter 04): counters and freezes, windows and
histograms, sensors, event rings, the hang detector, scans of host memory, and the collection verbs at both parts. -/

namespace Sys2Proof.Machine
open Sys2Proof

/-! ## Bodies into the journal (R254) -/

/-- The frames a body can take together with a BASE (R254). -/
def bodyFrames (len : Nat) : Nat := ceilDiv (8 + len) 240 + 1

/-- Free frames less those reserved. -/
def Journal.free (j : Journal) : Nat := 512 - j.frames.length - (j.waiting.map (·.reserved)).foldl (· + ·) 0

/-- Produce a record of a class: it waits to be framed, or is dropped and counted where the journal has no room (R254). -/
def Journal.produce (j : Journal) (cls : Nat) (body : Bytes) : Journal :=
  if bodyFrames body.length ≤ j.free then
    { j with waiting := j.waiting ++ [{ cls := cls, data := body, reserved := bodyFrames body.length }] }
  else { j with dropped := satInc 64 j.dropped }

def Dtc.produce (d : Dtc) (cls : Nat) (body : Bytes) : Dtc := { d with journal := d.journal.produce cls body }

/-- A FAULT record (R246): kind 1 SRAM, 2 host-memory timeout. -/
def Dtc.fault (d : Dtc) (kind inst count : Nat) : Dtc :=
  d.produce 0x16 (stampBytes d.stamp ++ be 1 kind ++ be 1 inst ++ be 2 count ++ zeros 4)

/-! ## Counters (R144, R145, R173) -/

def wrap48 (n : Nat) : Nat := n % 2 ^ 48
def Dtc.counter (d : Dtc) (c : Nat) : Nat := Tbl.get 0 c d.cnt.counters
def Dtc.addCounter (d : Dtc) (c n : Nat) : Dtc :=
  { d with cnt := { d.cnt with counters := Tbl.set 0 c (wrap48 (d.counter c + n)) d.cnt.counters } }

/-- An invalid code of group g (R144): counted, and ADP_IRQ_STATUS.TAP_ERR. -/
def Dtc.tapError (d : Dtc) (g : Nat) : Dtc :=
  Dtc.irq { d with tapErrCount := satInc 16 d.tapErrCount, tapErrGroup := g, cnt := { d.cnt with tapErr := true } } 5

/-- One code of one line: 0 to 4 increments, 5 to 7 as 4 with an error. -/
def Dtc.tapCode (d : Dtc) (g l code : Nat) : Dtc :=
  let d1 := if 4 < code then d.tapError g else d
  if code = 0 then d1 else d1.addCounter (64 * g + l) (min code 4)

def Dtc.alive (d : Dtc) (g : Nat) : Bool := d.cnt.alive.getLsbD g

def execTapCodeInvalid (p g line : Fin 64) (code : BitVec 3) (s : State) := finish s (s.onDtc p fun d =>
  if d.ready && d.alive g.val && 4 < code.toNat then d.tapCode g.val line.val code.toNat else d)

/-- TAP_GROUP_CLOCK_EDGE (R173): code l of the list is adp_tap_evt[3l+2:3l]. -/
def execTapGroupClockEdge (p g : Fin 64) (codes : List (BitVec 3)) (s : State) := finish s (s.onDtc p fun d =>
  if d.ready && d.alive g.val then ((codes.take 64).zipIdx).foldl (fun e c => e.tapCode g.val c.2 c.1.toNat) d else d)

/-- TAP_ALIVE_CHANGE (R145): a group not alive at any time of the epoch loses its ALIVE bit for it (R181). -/
def execTapAliveChange (p g : Fin 64) (alive : Bool) (s : State) := finish s (s.onDtc p fun d =>
  let m : BitVec 64 := BitVec.ofNat 64 (1 <<< g.val)
  if alive then { d with cnt := { d.cnt with alive := d.cnt.alive ||| m } }
  else { d with cnt := { d.cnt with alive := d.cnt.alive &&& ~~~m, aliveAll := d.cnt.aliveAll &&& ~~~m } })

/-! ## Histograms (R189 to R191) -/

/-- The bucket of a sample (R190). -/
def bucketOf (shift v : Nat) : Nat :=
  let x := v >>> shift
  if x < 8 then x
  else
    let e := Nat.log2 x
    if 33 < e then 255 else 8 * (e - 2) + (x >>> (e - 3)) % 8

def Histogram.add (h : Histogram) (shift v : Nat) : Histogram :=
  let b := bucketOf shift v
  { h with buckets := Tbl.set 0 b (satInc 32 (Tbl.get 0 b h.buckets)) h.buckets, samples := satInc 32 h.samples }

/-- One sample to one metric. -/
def Dtc.sampleMetric (d : Dtc) (m : Nat × HistConfig) (v : Nat) : Dtc :=
  { d with cnt := { d.cnt with hists := Tbl.set {} m.1 ((Tbl.get {} m.1 d.cnt.hists).add m.2.shift v) d.cnt.hists } }

/-- Give a sample to every enabled metric of a kind and source (R189); nothing while W is 0 (R187). -/
def Dtc.sample (d : Dtc) (kind source code v : Nat) : Dtc :=
  if d.cnt.red.w = 0 then d
  else d.cnt.hist.foldl (fun e m =>
    if m.2.kind = kind && m.2.source = source && (kind != 3 || m.2.code = code) then e.sampleMetric m v else e) d

/-- The body of R191. -/
def histogramBody (idx metric : Nat) (c : HistConfig) (h : Histogram) : Bytes :=
  be 8 idx ++ be 1 metric ++ be 1 c.kind ++ be 1 c.shift ++ be 1 (if h.epochs < h.w then 1 else 0) ++ be 2 c.source ++
    be 2 (if c.kind = 3 then c.code else 0) ++ be 4 h.samples ++ zeros 4 ++
    ((List.range 256).map fun b => be 4 (Tbl.get 0 b h.buckets)).flatten

/-! ## Sensors (R147, R148, R192 to R194) -/

/-- Thermal channels compare as signed, the others as unsigned (R194). -/
def sensorLt (chan : Nat) (a b : BitVec 16) : Bool := if chan < 16 then a.slt b else a.ult b

def Sensor.take (k : Sensor) (chan now : Nat) (w : BitVec 20) : Sensor :=
  let v := w.extractLsb' 0 16
  let alarm := w.getLsbD 19 && chan < 32
  let k1 := { k with word := w, stale := false, lastAt := now }
  if w.getLsbD 18 then { k1 with faultSeen := true }
  else { k1 with
    seen := if k.seen < 255 then k.seen + 1 else 255, lastValue := v,
    least := if k.seen = 0 || sensorLt chan v k.least then v else k.least,
    greatest := if k.seen = 0 || sensorLt chan k.greatest v then v else k.greatest,
    alarmSeen := k.alarmSeen || alarm, alarmPending := k.alarmPending || (alarm && !k.alarmed) }

def Dtc.sensor (d : Dtc) (c : Nat) : Sensor := Tbl.get {} c d.sensors
def Dtc.setSensor (d : Dtc) (c : Nat) (k : Sensor) : Dtc := { d with sensors := Tbl.set {} c k d.sensors }

/-- SENSOR_SAMPLE: a sample of an unused channel, or of channels 32 to 63 on the bus while the RPD macro drives them, is ignored. -/
def execSensorSample (p chan : Fin 64) (word : BitVec 20) (fromRpd : Bool) (s : State) := finish s (s.onDtc p fun d =>
  let c := chan.val
  if !d.ready || !d.ties.snsUsed.getLsbD c || (32 ≤ c && d.ties.rpd != fromRpd) || (c < 32 && fromRpd) then d
  else
    let d1 := d.setSensor c ((d.sensor c).take c d.now word)
    if word.getLsbD 18 then d1
    else
      let v := (word.extractLsb' 0 16).toNat
      d1.sample 2 c 0 (if c < 16 then (v + 0x8000) % 65536 else v))

/-- The minimum interval of a channel in ns (R147). -/
def sensorInterval (c : Nat) : Nat := if c < 32 then 100000 else 1000000000

def execSensorStale (p chan : Fin 64) (s : State) := finish s (s.onDtc p fun d =>
  let c := chan.val
  let k := d.sensor c
  if d.ready && d.ties.snsUsed.getLsbD c && !k.stale && k.lastAt + 4 * sensorInterval c ≤ d.now then
    (d.setSensor c { k with stale := true, alarmPending := k.alarmPending || !k.alarmed }).irq 6
  else d)

/-- A channel's 8 bytes in a sensor body (R194). -/
def Sensor.bytes (k : Sensor) : Bytes :=
  be 2 k.lastValue.toNat ++ be 2 k.least.toNat ++ be 2 k.greatest.toNat ++
    be 1 ((if k.alarmSeen then 1 else 0) + (if k.faultSeen then 2 else 0) + (if k.stale then 4 else 0) + (if k.seen = 0 then 8 else 0)) ++
    be 1 k.seen

/-- Statistics restart after a body (R194). -/
def Sensor.restart (k : Sensor) : Sensor :=
  { k with seen := 0, least := 0, greatest := 0, lastValue := 0, alarmSeen := false, faultSeen := false }

/-- A sensor body of the chosen channels (R194), unused ones left out (R192), and the statistics restarted. -/
def Dtc.sensorBody (d : Dtc) (idx kind : Nat) (chans : List Nat) : Dtc :=
  let mask := chans.foldl (fun m c => m + 2 ^ c) 0
  let body := be 8 idx ++ be 8 mask ++ be 1 kind ++ zeros 7 ++ (chans.map fun c => (d.sensor c).bytes).flatten
  (chans.foldl (fun e c => e.setSensor c (e.sensor c).restart) d).produce 0x14 body

/-! ## Queue states and the hang detector (R150, R198, R199) -/

def execQueueStateUpdate (p : Fin 64) (q : Fin 256) (st : QueueState) (s : State) := finish s (s.onDtc p fun d =>
  if d.ready then { d with queues := Tbl.set none q.val (some st) d.queues } else d)

/-- The live queues with what they wait on. -/
def Dtc.liveQueues (d : Dtc) : List (Nat × QueueState) :=
  d.queues.filterMap fun e => match e.2 with
    | some k => if k.live then some (e.1, k) else none
    | none => none

/-- Follow the waits n times from a queue; none where a queue on the way does not wait. -/
def follow (rel : List (Nat × Nat)) : Nat → Nat → Option Nat
  | 0, q => some q
  | n + 1, q => match rel.find? fun e => e.1 == q with
    | some e => follow rel n e.2
    | none => none

/-- The queues that lie on a cycle of the relation. -/
def onCycle (rel : List (Nat × Nat)) : List Nat :=
  (rel.map (·.1)).filter fun q => (List.range rel.length).any fun n => follow rel (n + 1) q == some q

/-- The hang condition (R198): a queue is live, and every live queue waits on a live queue. -/
def hangCondition (live : List (Nat × QueueState)) : Bool :=
  !live.isEmpty && live.all fun e => e.2.wait && live.any fun f => f.1 == e.2.on.toNat

/-- The record of R199. -/
def hangRecord (d : Dtc) (live : List (Nat × QueueState)) (rel : List (Nat × Nat)) (seq : Nat) : Bytes :=
  let cyc := onCycle rel
  let q := cyc.foldl min 255
  let on := ((rel.find? fun e => e.1 == q).map (·.2)).getD 0
  let ctx := match live.find? fun e => e.1 == q with
    | some e => e.2.ctx.toNat
    | none => 0
  stampBytes d.stamp ++ be 2 seq ++ be 1 q ++ be 1 on ++ be 2 ctx ++ be 2 live.length ++ be 2 cyc.length ++ zeros 6 ++
    be 32 (cyc.foldl (fun m c => m + 2 ^ c) 0)

/-- HANG_EVALUATION: once per microsecond; raised at the fourth consecutive evaluation with an unchanged relation. -/
def execHangEvaluation (p : Fin 64) (s : State) := finish s (s.onDtc p fun d =>
  if !d.ready || d.now / 1000 ≤ d.hang.lastEval then d
  else
    let live := d.liveQueues
    let h : HangDetector := { d.hang with lastEval := d.now / 1000 }
    if !hangCondition live then { d with hang := { h with relation := [], run := 0, raised := false, holds := false } }
    else
      let rel : List (Nat × Nat) := live.map fun e => (e.1, e.2.on.toNat)
      let run := if rel == h.relation then h.run + 1 else 1
      let h1 := { h with relation := rel, run := run, holds := true }
      if 4 ≤ run && !h.raised then
        let seq := h.seq + 1
        let r := hangRecord d live rel seq
        (Dtc.irq { d with hang := { h1 with raised := true, seq := seq, record := r } } 1).produce 0x15 r
      else { d with hang := h1 })

/-! ## Host events (R151, R195 to R197) -/

def execHostEvent (p unit : Fin 64) (code data : BitVec 16) (s : State) := finish s (s.onDtc p fun d =>
  if !d.ready then d
  else
    let r := Tbl.get {} unit.val d.rings
    let e : RingEntry := ⟨!d.time.valid, d.cs, code, data⟩
    let d1 := { d with rings := Tbl.set {} unit.val { entries := (e :: r.entries).take 64, total := (r.total + 1) % 2 ^ 32 } d.rings }
    d1.sample 3 unit.val code.toNat data.toNat)

/-- EVENT_RING_AGE_CHECK (R196): AGED on every entry more than 2^46 units old. -/
def execEventRingAgeCheck (p : Fin 64) (s : State) := finish s (s.onDtc p fun d =>
  { d with rings := d.rings.map fun r => (r.1, { r.2 with
      entries := r.2.entries.map fun e => if d.time.valid && e.count + 2 ^ 46 < d.cs then { e with aged := true } else e }) })

/-! ## SRAM errors (R158) -/

/-- SRAM_ECC_ERROR (R158): a corrected error counts in ADP_ECC.CE, an uncorrectable one in UE, with the interrupt and a FAULT record. -/
def execSramEccError (p : Fin 64) (hit : EccHit) (s : State) := finish s (s.onDtc p fun d =>
  if !d.ready then d
  else if hit.corrected then { d with eccCe := satInc 16 d.eccCe }
  else
    let d1 := Dtc.irq { d with eccUe := satInc 16 d.eccUe } 7
    d1.fault 1 hit.inst.val d1.eccUe)

/-! ## Host memory and scans (R152, R153, R200 to R203) -/

/-- Read requests for the beats still to ask for: none crosses 4 KiB, at most 16 are outstanding (R152). The addresses asked for
go out on adp_hm. -/
def issueReads (end_ now : Nat) : Nat → Nat → List HmRequest → List HmRequest × Nat
  | 0, a, q => (q, a)
  | f + 1, a, q =>
    if end_ ≤ a || 16 ≤ q.length then (q, a)
    else
      let n := min (64 - a % 4096 / 64) (ceilDiv (end_ - a) 64)
      issueReads end_ now f (a + 64 * n) (q ++ [⟨a, n, 0, now, false⟩])

/-- Issue what the running scan may ask for now; not while a timed-out or ended scan's requests are outstanding (R153). -/
def State.issueScan (s : State) (p : Fin 64) : State :=
  let d := s.dtc p
  match d.scan with
  | none => s
  | some k =>
    if d.hmBlocked then s
    else
      let r := issueReads (k.start + k.len) d.now 16 k.nextReq d.hm
      let fresh := r.1.drop d.hm.length
      let s1 := s.setDtc p { d with hm := r.1, scan := some { k with nextReq := r.2 } }
      fresh.foldl (fun t q => t.emit (.hostMemory p q.addr (64 * q.beats))) s1

/-- End the running scan with a status (R202, R203): the check value of a scan that did not end is a free value of w bits. -/
def State.endScan (s : State) (p : Fin 64) (st : Nat) (fail : Option Nat) : State :=
  let d := s.dtc p
  match d.scan with
  | none => s
  | some k =>
    let r := s.draw
    let v := if st = St.ok then checkEnd d.check k.reg else (Config.freeWord r.1).toNat % 2 ^ d.check.w
    let s1 := r.2.setDtc p { d with scan := none, hmBlocked := !d.hm.isEmpty }
    s1.final (.dtc p) k.ticket st (be 8 v ++ be 8 k.done ++ be 8 (fail.getD (2 ^ 64 - 1)))

/-- HM_RESPONSE_BEAT: the beat of the oldest outstanding request. -/
def execHmResponseBeat (p : Fin 64) (data : Bytes) (last err : Bool) (s : State) := finish s (
  let d := s.dtc p
  match d.hm with
  | [] => s
  | q :: qs =>
    if !d.ready then s
    else
      let addr := q.addr + 64 * q.got
      let hm := if last || q.got + 1 = q.beats then qs else { q with got := q.got + 1, since := d.now } :: qs
      let s1 := s.setDtc p { d with hm := hm, hmBlocked := d.hmBlocked && !hm.isEmpty }
      if d.hmBlocked then s1.issueScan p
      else match d.scan with
        | none => s1
        | some k =>
          if err then s1.endScan p St.hwFault (some addr)
          else
            let lo := max addr k.start
            let hi := min (addr + 64) (k.start + k.len)
            let bs := sub (padTo 64 data) (lo - addr) (hi - lo)
            let k1 := { k with done := k.done + (hi - lo), reg := bs.foldl (checkByte d.check) k.reg }
            let s2 := s1.setDtc p { s1.dtc p with scan := some k1 }
            if k1.done = k.len then s2.endScan p St.ok none else s2.issueScan p)

/-- HM_RESPONSE_TIMEOUT (R153): due when the oldest response has been outstanding for 1 ms, whether a scan runs or its requests outlive it. -/
def execHmResponseTimeout (p : Fin 64) (s : State) := finish s (
  let d := s.dtc p
  match d.hm with
  | [] => s
  | q :: _ =>
    if d.ready && !q.late && q.since + 1000000 ≤ d.now then
      let d1 := (Dtc.irq { d with hmBlocked := true, hm := d.hm.set 0 { q with late := true } } 8).fault 2 0 1
      let s1 := (s.setDtc p d1).endScan p St.hwFault none
      s1.onDtc p fun e => { e with hmBlocked := true }
    else s)

/-! ## Freezes (R174 to R178) -/

/-- The values of the counter set, ascending. -/
def setMembers (c : CounterSet) : List Nat := rangeMembers c.ranges

/-- A snapshot body of the freeze bank (R182), its stamp the freeze instant t. -/
def snapshotBody (d : Dtc) (t kind capture : Nat) : Bytes :=
  let m := setMembers d.cnt.set
  (if d.time.valid then stampBytes (stampOf t d.flags) else zeros 16) ++ be 2 d.cnt.set.id ++ be 1 kind ++ be 1 capture ++
    be 2 m.length ++ zeros 2 ++ (m.map fun c => be 6 (Tbl.get 0 c d.cnt.freeze)).flatten

/-- Set MERGED in the counter-epoch body of index idx that waits and is not begun (R177). -/
def Journal.mergeEpoch (j : Journal) (idx : Nat) : Journal :=
  { j with waiting := j.waiting.map fun w =>
      if w.cls == 0x10 && !w.started && fld w.data 0 8 == idx then
        { w with data := w.data.take 11 ++ be 1 (byteAt w.data 11 ||| 8) ++ w.data.drop 12 }
      else w }

/-- The latest epoch tick of the DTC's copy (R17). -/
def Dtc.tickNow (d : Dtc) : Nat := d.time.time / unit / d.epoch * d.epoch * unit

/-- A tick that falls in the cycle in progress and has not run yet. -/
def Dtc.tickComing (d : Dtc) : Bool := d.time.valid && d.cnt.lastTick < d.tickNow && d.time.time - d.tickNow < d.time.incr.toNat

/-- An off-tick freeze at instant t, in the same cycle as a tick freeze or not (whichever of the two rows runs first, the tick is the instant): one freeze and a snapshot that is pending until its body
is wholly journalled (R177, R178). -/
def Dtc.freezeNow (d : Dtc) (t kind capture : Nat) : Dtc :=
  let t := if d.tickComing then d.tickNow else t
  if d.cnt.tickedAt == some d.now then
    let d1 := { d with journal := d.journal.mergeEpoch d.cnt.lastIdx
                       cnt := { d.cnt with freezeKind := kind + 4, snapshotPending := true, frozenAt := some d.now, frozenIn := capture } }
    { d1 with cnt := { d1.cnt with snapshot := some (snapshotBody d1 d.cnt.lastTick (kind + 4) capture) } }
  else
    let d1 := { d with cnt := { d.cnt with freeze := d.cnt.counters, freezeCs := cstampOf d.time.valid t, freezeKind := kind,
                                           freezeSet := d.cnt.set.id, snapshotPending := true, frozenAt := some d.now, frozenIn := capture } }
    { d1 with cnt := { d1.cnt with snapshot := some (snapshotBody d1 t kind capture) } }

/-- A freeze of the given kind falls in the cycle of a pending freeze of the other kind alone, whose body is not begun (R177). -/
def Dtc.joins (d : Dtc) (kind : Nat) : Bool :=
  d.cnt.snapshotPending && d.cnt.snapshot.isSome && d.cnt.frozenAt == some d.now && d.cnt.freezeKind % 4 == 3 - kind

/-- Both kinds in one snapshot (R177): KIND holds both bits, CAPTURE names the input. -/
def Dtc.joinFreeze (d : Dtc) (capture : Nat) : Dtc :=
  let k := d.cnt.freezeKind / 4 * 4 + 3
  { d with cnt := { d.cnt with freezeKind := k, frozenIn := capture,
                               snapshot := d.cnt.snapshot.map fun b => b.take 18 ++ be 1 k ++ be 1 capture ++ b.drop 20 } }

/-- A capture stamp: the phase of the edge within its nanosecond, CAP_DLY earlier (R53, R157, R600), flags of the part. -/
def captureStamp (t phase dly flags : Nat) : Stamp := stampOf (t + phase * 2 ^ 45 - dly * 2 ^ 45) flags

def Capture.take (c : Capture) (rising : Bool) (t : Stamp) : Capture :=
  if (if rising then c.edges % 2 = 1 else 2 ≤ c.edges) then
    if c.queue.length < 16 then { c with queue := c.queue ++ [t] } else { c with overflow := satInc 16 c.overflow }
  else c

/-- CAPTURE_EDGE (R87, R174): queued where the input stamps that edge; at a DTC it also freezes the counters when the counter set
selects the input, or is counted as ignored while a snapshot is pending. -/
def execCaptureEdge (part : Part) (i : Fin 16) (rising : Bool) (phase : Fin 8) (s : State) := finish s (
  match part with
  | .agg =>
    if 8 ≤ i.val then s
    else
      let c := Tbl.get {} i.val s.time.cap
      let st := captureStamp s.svc phase.val (fld s.phys.bootCfg (28 + i.val) 1) s.svcFlags
      { s with time := { s.time with cap := Tbl.set {} i.val (c.take rising st) s.time.cap } }
  | .dtc p => s.onDtc p fun d =>
    if !d.ready then d
    else
      let c := Tbl.get {} i.val d.time.cap
      let st := captureStamp d.instant phase.val d.capDly.toNat d.flags
      let d1 := { d with time := { d.time with cap := Tbl.set {} i.val (c.take rising st) d.time.cap } }
      if d.cnt.set.capture = i.val && (if rising then c.edges % 2 = 1 else 2 ≤ c.edges) then
        if d1.joins 2 then d1.joinFreeze i.val
        else if d.cnt.snapshotPending then { d1 with cnt := { d1.cnt with ignored := satInc 16 d1.cnt.ignored } }
        else d1.freezeNow (ofStamp st) 2 i.val
      else d1)

/-! ## Windows (R187, R188) and configuration changes (R180) -/

/-- Windows and histograms close with bodies of the present configuration; a window that covered no epoch is not emitted. -/
def Dtc.closeWindow (d : Dtc) (idx : Nat) : Dtc :=
  let c := d.cnt
  let d1 :=
    if c.windowEpochs = 0 then d
    else
      let m := rangeMembers c.red.ranges
      let body := be 8 idx ++ be 2 c.red.id ++ be 2 c.windowEpochs ++ be 2 m.length ++
        be 1 (if c.windowEpochs < c.windowW then 1 else 0) ++ zeros 1 ++
        (m.map fun i => let w := Tbl.get {} i c.window; be 6 w.least ++ be 6 w.greatest ++ be 8 w.sum).flatten
      d.produce 0x12 body
  let d2 := c.hist.foldl (fun e k =>
    let h := Tbl.get {} k.1 c.hists
    if k.2.kind = 0 || h.epochs = 0 then e else e.produce 0x13 (histogramBody idx k.1 k.2 { h with w := if h.w = 0 then c.red.w else h.w })) d1
  { d2 with cnt := { d2.cnt with window := [], windowEpochs := 0, hists := [] } }

/-- Close the histogram of one metric (R180: a SET_HISTOGRAM that changes an enabled metric). -/
def Dtc.closeHistogram (d : Dtc) (idx metric : Nat) : Dtc :=
  let h := Tbl.get {} metric d.cnt.hists
  let c := Tbl.get {} metric d.cnt.hist
  let d1 := if c.kind = 0 || h.epochs = 0 then d else d.produce 0x13 (histogramBody idx metric c { h with w := d.cnt.red.w })
  { d1 with cnt := { d1.cnt with hists := Tbl.set {} metric {} d1.cnt.hists } }

/-- One change takes effect at a tick of index idx; a SET_HISTOGRAM that changes nothing closes nothing (R180). -/
def Dtc.applyChange (d : Dtc) (idx : Nat) : ConfigChange → Dtc
  | .set c => { d with cnt := { d.cnt with set := c, newSet := true } }
  | .reduction r =>
    let d1 := if r.w != d.cnt.red.w || r.ranges != d.cnt.red.ranges then d.closeWindow idx else d
    { d1 with cnt := { d1.cnt with red := r } }
  | .histogram m h =>
    let h := if h.kind = 0 then {} else h
    if Tbl.get {} m d.cnt.hist = h then d
    else
      let d1 := d.closeHistogram idx m
      { d1 with cnt := { d1.cnt with hist := Tbl.set {} m h d1.cnt.hist } }

/-- The pending changes whose tick is t or earlier, in order (R180): those of the counter set before the bodies of the tick, which follow
the new set, the others after its windows and histograms have closed. -/
def Dtc.activate (d : Dtc) (t idx : Nat) (counters : Bool) : Dtc :=
  let isSet (e : Option Nat × ConfigChange) : Bool := match e.2 with | .set _ => true | _ => false
  let due := d.cnt.pending.filter fun e => (match e.1 with | some u => u ≤ t | none => false) && isSet e == counters
  let rest := d.cnt.pending.filter fun e => !((match e.1 with | some u => u ≤ t | none => false) && isSet e == counters)
  due.foldl (fun e c => e.applyChange idx c.2) { d with cnt := { d.cnt with pending := rest } }

/-! ## The epoch tick (R174 to R177, R181, R187, R192) -/

/-- One epoch into the window accumulators and the kind-1 histograms: one sample per metric and tick (R189). -/
def Dtc.accumulate (d : Dtc) (delta : Nat → Nat) : Dtc :=
  if d.cnt.red.w = 0 then d
  else
    let m := rangeMembers d.cnt.red.ranges
    let first := d.cnt.windowEpochs = 0
    let win := m.foldl (fun t i =>
      let w := Tbl.get {} i t
      let v := delta i
      Tbl.set ({} : WindowEntry) i
        { least := if first || v < w.least then v else w.least, greatest := if first || w.greatest < v then v else w.greatest,
          sum := (w.sum + v) % 2 ^ 64 } t) d.cnt.window
    let d1 := { d with cnt := { d.cnt with window := win, windowEpochs := d.cnt.windowEpochs + 1,
                                           windowW := if first then d.cnt.red.w else d.cnt.windowW } }
    let on := d1.cnt.hist.filter fun k => k.2.kind != 0
    let d2 := on.foldl (fun e k => if k.2.kind = 1 then e.sampleMetric k (delta k.2.source) else e)
      { d1 with cnt := { d1.cnt with hists := on.foldl (fun t k =>
          let h := Tbl.get {} k.1 t
          Tbl.set {} k.1 { h with epochs := h.epochs + 1, w := if h.epochs = 0 then d.cnt.red.w else h.w } t) d1.cnt.hists } }
    d2

/-- The counter-epoch body of a tick (R181). -/
def epochBody (d : Dtc) (idx : Nat) (merged : Bool) (delta : Nat → Nat) : Bytes :=
  let c := d.cnt
  let m := setMembers c.set
  let fl := (if c.firstTick then 1 else 0) + (if c.newSet || c.firstTick then 2 else 0) + (if d.time.hold then 4 else 0) +
    (if merged then 8 else 0) + (if c.tapErr then 16 else 0)
  be 8 idx ++ be 2 c.set.id ++ be 2 fl ++ be 2 m.length ++ zeros 2 ++ be 8 (c.aliveAll &&& c.alive).toNat ++
    (m.map fun i => be 6 (delta i)).flatten

/-- The sensor bodies of a tick: alarms, the period's channels 0 to 31, and the ageing channels at a whole second (R192, R193). -/
def Dtc.sensorBodies (d : Dtc) (t idx : Nat) : Dtc :=
  let used := (List.range 64).filter fun c => d.ties.snsUsed.getLsbD c
  let alarms := used.filter fun c => (d.sensor c).alarmPending
  let d1 := if alarms.isEmpty then d else d.sensorBody idx 4 alarms
  let d2 := alarms.foldl (fun e c => e.setSensor c { e.sensor c with alarmPending := false, alarmed := true }) d1
  let per := nsOf t / (d.cnt.red.periodUs * 1000) * (d.cnt.red.periodUs * 1000)
  let d3 := if d.sensorPeriod < per then
      let e := d2.sensorBody idx 1 (used.filter (· < 32))
      (used.foldl (fun f c => f.setSensor c { f.sensor c with alarmed := false }) { e with sensorPeriod := per })
    else d2
  if nsOf t % 1000000000 = 0 then d3.sensorBody idx 2 (used.filter (32 ≤ ·)) else d3

/-- DTC_EPOCH_TICK: due at the first tick of the DTC's copy of service time after the last one; ticks never occur while time is not
valid (R175). The epoch in force at the tick is the one that ends at it; a pending epoch's second is a tick of both (R19). -/
def Dtc.epochTick (d : Dtc) : Dtc :=
  let t := d.tickNow
  if !d.ready || !d.time.valid || t ≤ d.cnt.lastTick then d
  else
    let idx := epochIndex d.epoch t
    let d0 := d.activate t idx true
    let prev := d0.cnt.previous
    let delta (i : Nat) : Nat := wrap48 (d0.counter i + 2 ^ 48 - Tbl.get 0 i prev)
    let both := d0.cnt.snapshotPending && d0.cnt.snapshot.isSome && d0.cnt.frozenAt == some d0.now
    let d1 := d0.produce 0x10 (epochBody d0 idx both delta)
    let d2 := d1.accumulate delta
    let next := match d.ruling with
      | some b => if b.pending != 0 && b.activation * 1000000000 * unit ≤ t then b.pending else d.epoch
      | none => d.epoch
    let closes := d2.cnt.red.w != 0 && (idx % d2.cnt.red.w = 0 || d2.cnt.firstTick || d2.epoch != d2.cnt.lastEpoch || next != d2.epoch)
    let d3 := if closes then d2.closeWindow idx else d2
    let d4 := (d3.activate t idx false).sensorBodies t idx
    let d5 := { d4 with
      cnt := { d4.cnt with
        freeze := d4.cnt.counters, freezeCs := cstampOf true t, freezeKind := 4 + (if both then d4.cnt.freezeKind % 4 else 0),
        freezeSet := d4.cnt.set.id, previous := d4.cnt.counters, firstTick := false, newSet := false, tapErr := false,
        aliveAll := d4.cnt.alive, lastTick := t, lastIdx := idx, lastEpoch := next, tickedAt := some d.now },
      epoch := next }
    if both then { d5 with cnt := { d5.cnt with snapshot := some (snapshotBody d5 t d5.cnt.freezeKind d5.cnt.frozenIn) } } else d5

/-! ## Collection load (R185, R186, R270) -/

/-- The collection load in bytes per epoch. -/
def collectionLoad (c : CounterSet) (r : Reduction) (hist : Tbl HistConfig) : Nat :=
  6 * rangeTotal c.ranges + (if r.w = 0 then 0 else ceilDiv (20 * rangeTotal r.ranges + 1024 * (hist.filter fun h => h.2.kind != 0).length) r.w)

/-- The epochs that R16 allows, ascending: the divisors of 10^9 from 1,000 up. -/
def allowedEpochs : List Nat :=
  let twos := (List.range 10).map (2 ^ ·)
  let fives := (List.range 10).map (5 ^ ·)
  let all := (twos.map fun a => fives.map (a * ·)).flatten
  all.filter fun e => 1000 ≤ e

/-- The smallest allowed epoch at or above n (R16). -/
def epochAtLeast (n : Nat) : Nat := (allowedEpochs.filter (n ≤ ·)).foldl min 1000000000

/-- The collection minimum (R185). -/
def collectionMinimum (c : CounterSet) (r : Reduction) (hist : Tbl HistConfig) : Nat :=
  epochAtLeast (max 1000 (ceilDiv (collectionLoad c r hist * 5000) 24576))

/-- The reach minimum of a port from the longer delay (R270). -/
def reachMinimum (load delayNs : Nat) : Nat := epochAtLeast (ceilDiv ((ceilDiv load 240 + 2) * (2 * delayNs + 2000)) 448)

/-! ## Collection verbs (R179, R180, R187, R189, R205, R206) -/

/-- W and the histograms fit: no metric is enabled while W is 0 (R189). -/
def histConsistent (c : CounterSet × Reduction × Tbl HistConfig) : Bool := c.2.1.w != 0 || c.2.2.all fun h => h.2.kind == 0

/-- A pending change is in force at a tick; one without a tick waits for time to become valid, when all such changes take the same one (R180). -/
def inForceAt (t : Option Nat) (e : Option Nat × ConfigChange) : Bool :=
  match e.1, t with
  | some u, some v => u ≤ v
  | some _, none => true
  | none, some _ => false
  | none, none => true

/-- The configuration that stands at a tick, of pending changes in their order. -/
def Dtc.standing (d : Dtc) (pending : List (Option Nat × ConfigChange)) (t : Option Nat) : CounterSet × Reduction × Tbl HistConfig :=
  (pending.filter (inForceAt t)).foldl (fun c e => withChange c e.2) (d.cnt.set, d.cnt.red, d.cnt.hist)

/-- The first epoch tick of the DTC at or after an instant, on the grid in force and, from a pending epoch's second on, on the new one (R19). -/
def Dtc.tickAfter (d : Dtc) (t : Nat) : Nat :=
  let u := tickAtOrAfter d.epoch t
  match d.ruling with
  | some b =>
    let a := b.activation * 1000000000 * unit
    if b.pending != 0 && a < u then max a (tickAtOrAfter b.pending t) else u
  | none => u

/-- The epoch in force or pending at a DTC, the smaller (R186). -/
def Dtc.leastEpoch (d : Dtc) : Nat :=
  match d.ruling with
  | some b => if b.pending != 0 then min d.epoch b.pending else d.epoch
  | none => d.epoch

/-- The tick that a change asks for: its stamp's, with a stamp of zero the first at least 2 us away, and none while time is not valid. -/
def Dtc.askedTick (d : Dtc) (act : Stamp) : Option Nat :=
  if act != Stamp.zero then some (ofStamp act) else if d.time.valid then some (d.tickAfter (d.time.time + twoUs)) else none

/-- The pending changes, in the order of their ticks, with one more. -/
def Dtc.pendingWith (d : Dtc) (due : Option Nat) (ch : ConfigChange) : List (Option Nat × ConfigChange) :=
  d.cnt.pending.takeWhile (inForceAt due) ++ [(due, ch)] ++ d.cnt.pending.dropWhile (inForceAt due)

/-- The collection minimum of a configuration (R185). -/
def planMinimum (c : CounterSet × Reduction × Tbl HistConfig) : Nat := collectionMinimum c.1 c.2.1 c.2.2

/-- With one more change, the configuration that would stand at its tick, or one that would stand at a later tick of a pending change, does not fit the
epoch or itself (R186, R189). -/
def Dtc.overloads (d : Dtc) (due : Option Nat) (ch : ConfigChange) : Bool :=
  ((due :: (d.cnt.pending.map (·.1)).filter fun u => !inForceAt due (u, ch)).map (d.standing (d.pendingWith due ch))).any fun c =>
    !histConsistent c || d.leastEpoch < planMinimum c

/-- A SET_COUNTER_SET, SET_REDUCTION or SET_HISTOGRAM at the DTC (R180, R186). -/
def Dtc.configure (d : Dtc) (verb : Nat) (x : Sentence) : Option (Dtc × Nat × Nat) × Nat :=
  let act := stampAt x.params 0
  let t := ofStamp act
  let ch := changeOf verb x
  let due := d.askedTick act
  if act != Stamp.zero && !d.time.valid then (none, St.state)
  else if act != Stamp.zero && (t % (d.epoch * unit) != 0 || t < d.time.time + twoUs) then (none, St.param)
  else if d.overloads due ch then (none, St.state)
  else
    let cs := match due with | some u => cstampOf true u | none => 0
    let pending := d.pendingWith due ch
    (some ({ d with cnt := { d.cnt with pending := pending } }, planMinimum (d.standing pending due), cs), St.ok)

/-- The ports that SUBUNIT names: 0 every attached DTC, n port n − 1 (R184). -/
def State.addressed (s : State) (x : Sentence) : List (Fin 64) :=
  if x.subunit = 0 then allPorts.filter fun p => Tbl.get 0 p.val s.verbs.knownOid != 0
  else allPorts.filter fun p => p.val + 1 == x.subunit.toNat

/-- The counter-set minimum of a port (R20, R270). -/
def State.portMinimum (s : State) (p : Fin 64) (c : CounterSet × Reduction × Tbl HistConfig) : Nat :=
  max (planMinimum c) (((s.longerDelay p).map fun d => reachMinimum (collectionLoad c.1 c.2.1 c.2.2) d).getD 0)

/-- The DTC-port group of a port is switched off (R279). -/
def State.groupOff (s : State) (p : Fin 64) : Bool := !s.powered (68 + p.val / 16)

/-- Forward a sentence to several DTCs and wait for all (R184). With no DTC addressed it completes at once; a port whose group is off refuses it
(R281). -/
def State.forwardAll (s : State) (verb : Nat) (x : Sentence) (ps : List (Fin 64)) (results : Bytes) : State × Answer :=
  if ps.isEmpty then (s, .final St.ok results)
  else if ps.any s.groupOff then (s, .final St.state)
  else
    let r := ps.foldl (fun (a : State × List (Nat × Nat)) p =>
      let f := a.1.forward p verb x (BitVec.ofNat 32 (Tbl.get 0 p.val a.1.verbs.knownOid))
      (f.1, a.2 ++ [(p.val, f.2)])) (s, [])
    ({ r.1 with verbs := { r.1.verbs with gathers := ⟨x.ticket, r.2, none, results, none⟩ :: r.1.verbs.gathers } }, .later)

/-- The checks of R186 and R189 that the aggregator makes as the DTC would, for every port addressed, and that the port's group is on (R281); `set` holds the changes checked
together, those of one staged set or the sentence alone. -/
def State.configRefused (s : State) (verb : Nat) (x : Sentence) (set : List (Nat × Sentence) := [(verb, x)]) : Bool :=
  let least := match s.sys.pendingEpoch with
    | some e => min s.sys.epoch e.epoch
    | none => s.sys.epoch
  (s.addressed x).any fun p =>
    let a := s.port p
    let plan := set.foldl (fun c e => if e.1 / 256 = 2 && (s.addressed e.2).contains p then withChange c (changeOf e.1 e.2) else c)
      (a.cfgSet, a.cfgRed, a.cfgHist)
    s.groupOff p || !histConsistent plan || least < s.portMinimum p plan

/-- The aggregator's form (R184): the parameters checked as the DTC would, then forwarded with an activation stamp of zero. The result is the
greatest collection minimum of the ports (R185, R205); the reach minimum of R270 only bounds the epoch. -/
def State.configAll (s : State) (verb : Nat) (x : Sentence) (set : List (Nat × Sentence) := [(verb, x)]) : State × Answer :=
  let act := stampAt x.params 0
  let t := ofStamp act
  if act != Stamp.zero && !s.timeValid then (s, .final St.state)
  else if act != Stamp.zero && (t % (s.sys.epoch * unit) != 0 || t < s.svc + twoUs) then (s, .final St.param)
  else if s.configRefused verb x set then (s, .final St.state)
  else
    let ps := s.addressed x
    let ch := changeOf verb x
    let s1 := ps.foldl (fun t p => t.onPort p fun a => a.configured ch) s
    let m := ps.foldl (fun n p => max n (let a := s1.port p; planMinimum (a.cfgSet, a.cfgRed, a.cfgHist))) 0
    s1.forwardAll verb { x with params := zeros 16 ++ x.params.drop 16, subunit := 0, flags := x.flags &&& 0xFB } ps (be 4 m)

def configBody (verb : Nat) (x : Sentence) (s : State) : State × Answer :=
  match x.part with
  | .agg => s.configAll verb x
  | .dtc p =>
    match (s.dtc p).configure verb x with
    | (some r, _) => (s.setDtc p r.1, .finalAt St.ok (be 4 r.2.1) r.2.2)
    | (none, st) => (s, .final st)

/-- The DTC ports a collection sentence addresses (R546). -/
def portsTouched (w : Bool) (s : State) (x : Sentence) : List Touch :=
  match s.dtcOf x.target with
  | some p => [⟨5, [p.val], w⟩]
  | none => [⟨5, if x.subunit = 0 then List.range 64 else [x.subunit.toNat - 1], w⟩]

def counterSetValid (x : Sentence) : Bool :=
  let n := x.f 18 2
  x.f 8 4 < 1000000000 && x.f 16 2 != 0 && n ≤ 58 && (x.b 20 < 16 || x.b 20 == 255) && x.plen == 24 + 4 * n && rangesValid (rangesAt x.params 24 n)

def reductionValid (x : Sentence) : Bool :=
  let n := x.f 24 2
  let rs := rangesAt x.params 32 n
  let per := x.f 20 4
  x.f 8 4 < 1000000000 && x.f 16 2 != 0 && x.f 18 2 ≤ 1024 && 10 ≤ per && per ≤ 1000000 && 1000000 % per == 0 && n ≤ 56 &&
    x.plen == 32 + 4 * n && rangesValid rs && rangeTotal rs ≤ 256

def histogramValid (x : Sentence) : Bool :=
  let k := x.b 17
  x.f 8 4 < 1000000000 && x.b 16 < 64 && k ≤ 3 && x.b 18 ≤ 31 && (k == 0 || x.f 20 2 < (if k == 1 then 4096 else 64))

/-- READ_COUNTERS (R205): kind and stamp of the freeze bank, or a live read. -/
def readCountersBody (x : Sentence) (s : State) : State × Answer :=
  match x.part with
  | .agg => (s, .final St.unknownVerb)
  | .dtc p =>
    let d := s.dtc p
    let live := x.b 4 = 1
    let bank := if live then d.cnt.counters else d.cnt.freeze
    let n := x.f 2 2
    (s, .final St.ok (be 8 (if live then d.cs else d.cnt.freezeCs) ++ be 1 (if live then 0 else d.cnt.freezeKind) ++ zeros 1 ++
      be 2 (if live then d.cnt.set.id else d.cnt.freezeSet) ++ be 2 d.cnt.ignored ++ be 2 n ++
      ((List.range n).map fun i => be 6 (Tbl.get 0 (x.f 0 2 + i) bank)).flatten))

/-- FREEZE_COUNTERS (R177, R178): ST_BUSY while a snapshot is pending, but for one that a capture edge of this cycle began. -/
def freezeCountersBody (x : Sentence) (s : State) : State × Answer :=
  match x.part with
  | .agg => (s, .final St.unknownVerb)
  | .dtc p =>
    let d := s.dtc p
    if d.cnt.snapshotPending && !d.joins 1 then (s, .final St.busy)
    else
      let e := if d.joins 1 then d.joinFreeze d.cnt.frozenIn else d.freezeNow d.time.time 1 255
      (s.setDtc p e, .final St.ok (be 8 e.cnt.freezeCs ++ be 2 e.cnt.freezeSet ++ zeros 2))

/-- The ADP_SNS_LAST word of a channel (R171); an unused channel reads zero (R148). -/
def Dtc.snsLast (d : Dtc) (c : Nat) : Nat :=
  if d.ties.snsUsed.getLsbD c then (if (d.sensor c).stale then 2 ^ 31 else 0) + (d.sensor c).word.toNat else 0

def readSensorsBody (x : Sentence) (s : State) : State × Answer :=
  match x.part with
  | .agg => (s, .final St.unknownVerb)
  | .dtc p =>
    let d := s.dtc p
    (s, .final St.ok (be 8 d.cs ++ be 1 (x.b 0) ++ be 1 (x.b 1) ++ zeros 6 ++
      ((List.range (x.b 1)).map fun i =>
        let k := d.sensor (x.b 0 + i)
        be 4 (d.snsLast (x.b 0 + i)) ++ be 2 k.least.toNat ++ be 2 k.greatest.toNat).flatten))

/-- One event-ring entry as READ_EVENT_RING gives it (R195, R205). -/
def RingEntry.bytes (e : RingEntry) : Bytes :=
  be 2 ((if e.aged then 0x8000 else 0) + e.count / 2 ^ 32 % 2 ^ 15) ++ be 4 (e.count % 2 ^ 32) ++ be 2 e.code.toNat ++ be 2 e.data.toNat

def readEventRingBody (x : Sentence) (s : State) : State × Answer :=
  match x.part with
  | .agg => (s, .final St.unknownVerb)
  | .dtc p =>
    let r := Tbl.get {} (x.b 0) (s.dtc p).rings
    let es := (r.entries.drop (x.b 1)).take (x.b 2)
    (s, .final St.ok (be 8 ((r.entries.head?.map (·.count)).getD 0) ++ be 4 r.total ++ be 1 es.length ++ zeros 3 ++ (es.map (·.bytes)).flatten))

/-- READ_HANG: the latest record, and whether the condition holds on the queues as they are now (R199). -/
def readHangBody (x : Sentence) (s : State) : State × Answer :=
  match x.part with
  | .agg => (s, .final St.unknownVerb)
  | .dtc p =>
    let d := s.dtc p
    (s, .final St.ok (padTo 64 d.hang.record ++ be 1 (if hangCondition d.liveQueues then 1 else 0) ++ zeros 3))

def setCheckValueBody (x : Sentence) (s : State) : State × Answer :=
  match x.part with
  | .agg => (s, .final St.unknownVerb)
  | .dtc p =>
    if (s.dtc p).scan.isSome then (s, .final St.state)
    else (s.onDtc p fun d =>
      { d with check := { w := x.b 0, poly := x.f 8 8, init := x.f 16 8, xor := x.f 24 8, refin := x.b 1 % 2 = 1, refout := x.b 1 / 2 % 2 = 1 } },
      .final St.ok)

/-- SCAN with operation 0 (R202, R203). -/
def scanStartBody (x : Sentence) (s : State) : State × Answer :=
  match x.part with
  | .agg => (s, .final St.unknownVerb)
  | .dtc p =>
    let d := s.dtc p
    let a := x.f 8 8
    let n := x.f 16 8
    if d.scan.isSome then (s, .final St.busy)
    else if n = 0 then (s, .final St.ok (be 8 (d.check.init ^^^ d.check.xor) ++ be 8 0 ++ be 8 (2 ^ 64 - 1)))
    else
      let k : Scan := ⟨x.ticket, a, n, 0, checkStart d.check, a / 64 * 64⟩
      ((s.setDtc p { d with scan := some k, hmBlocked := !d.hm.isEmpty }).issueScan p, .accepted)

/-- SCAN with operation 1 (R203). -/
def scanAbortBody (x : Sentence) (s : State) : State × Answer :=
  match x.part with
  | .agg => (s, .final St.unknownVerb)
  | .dtc p => if (s.dtc p).scan.isNone then (s, .final St.state) else (s.endScan p St.state none, .final St.ok)

/-- SCAN's check of step 11: the lengths of the two operations, and start + length at most 2^64 (R202, R205). -/
def scanValid (x : Sentence) : Bool :=
  (x.b 0 == 0 && x.plen == 24 && x.f 8 8 + x.f 16 8 ≤ 2 ^ 64) || (x.b 0 == 1 && x.plen == 8)

def checkConfigOf (x : Sentence) : CheckConfig :=
  { w := x.b 0, poly := x.f 8 8, init := x.f 16 8, xor := x.f 24 8, refin := x.b 1 % 2 = 1, refout := x.b 1 / 2 % 2 = 1 }

def vSetCounterSet : Verb := { code := 0x0200, dtc := true, mailbox := 1, stageable := true, subMax := 64, minLen := 24, maxLen := 256, check := fun _ x => counterSetValid x, touches := portsTouched true, zeroLen := fun _ _ => 4 }
def vReadCounters : Verb := { code := 0x0201, agg := false, dtc := true, mailbox := 1, minLen := 8, maxLen := 8, touches := portsTouched false, check := fun _ x => x.f 0 2 < 4096 && 1 ≤ x.f 2 2 && x.f 2 2 ≤ 40 && x.f 0 2 + x.f 2 2 ≤ 4096 && x.b 4 ≤ 1, zeroLen := fun _ x => 16 + 6 * x.f 2 2 }
def vFreezeCounters : Verb := { code := 0x0202, agg := false, dtc := true, mailbox := 1, touches := portsTouched true, zeroLen := fun _ _ => 12, nonIdem := true }
def vSetReduction : Verb := { code := 0x0203, dtc := true, stageable := true, subMax := 64, minLen := 32, maxLen := 256, check := fun _ x => reductionValid x, touches := portsTouched true, zeroLen := fun _ _ => 4 }
def vSetHistogram : Verb := { code := 0x0204, dtc := true, stageable := true, subMax := 64, minLen := 24, maxLen := 24, check := fun _ x => histogramValid x, touches := portsTouched true, zeroLen := fun _ _ => 4 }
def vReadSensors : Verb := { code := 0x0205, agg := false, dtc := true, mailbox := 1, minLen := 4, maxLen := 4, touches := portsTouched false, check := fun _ x => 1 ≤ x.b 1 && x.b 1 ≤ 30 && x.b 0 + x.b 1 ≤ 64, zeroLen := fun _ x => 16 + 8 * x.b 1 }
def vReadEventRing : Verb := { code := 0x0206, agg := false, dtc := true, minLen := 4, maxLen := 4, touches := portsTouched false, check := fun _ x => x.b 0 < 64 && x.b 1 < 64 && 1 ≤ x.b 2 && x.b 2 ≤ 24, zeroLen := fun _ _ => 16 }
def vReadHang : Verb := { code := 0x0207, agg := false, dtc := true, touches := portsTouched false, zeroLen := fun _ _ => 68 }
def vSetCheckValue : Verb := { code := 0x0208, agg := false, dtc := true, mailbox := 1, minLen := 32, maxLen := 32, touches := portsTouched true, check := fun _ x => (checkConfigOf x).valid }
def vScan : Verb := { code := 0x0209, agg := false, dtc := true, mailbox := 1, minLen := 8, maxLen := 24, touches := portsTouched true, check := fun _ x => scanValid x, zeroLen := fun _ x => if x.b 0 = 0 then 24 else 0, deferred := fun x => x.b 0 = 0 && x.f 16 8 != 0, nonIdem := true }

def execSetCounterSet (x : Sentence) (s : State) := finish s (s.runSentence vSetCounterSet (configBody 0x0200) x)
def execReadCounters (x : Sentence) (s : State) := finish s (s.runSentence vReadCounters readCountersBody x)
def execFreezeCounters (x : Sentence) (s : State) := finish s (s.runSentence vFreezeCounters freezeCountersBody x)
def execSetReduction (x : Sentence) (s : State) := finish s (s.runSentence vSetReduction (configBody 0x0203) x)
def execSetHistogram (x : Sentence) (s : State) := finish s (s.runSentence vSetHistogram (configBody 0x0204) x)
def execReadSensors (x : Sentence) (s : State) := finish s (s.runSentence vReadSensors readSensorsBody x)
def execReadEventRing (x : Sentence) (s : State) := finish s (s.runSentence vReadEventRing readEventRingBody x)
def execReadHang (x : Sentence) (s : State) := finish s (s.runSentence vReadHang readHangBody x)
def execSetCheckValue (x : Sentence) (s : State) := finish s (s.runSentence vSetCheckValue setCheckValueBody x)
/-- The body of SCAN by its operation byte. -/
def scanBody (x : Sentence) (s : State) : State × Answer := if x.b 0 = 0 then scanStartBody x s else scanAbortBody x s
/-- The row of one operation: a sentence whose form byte names another operation is not this row's and changes nothing. -/
def State.formRow (s : State) (x : Sentence) (here : Bool) (t : State) : State := if here || x.params.isEmpty then t else s
def execScanStart (x : Sentence) (s : State) := finish s (s.formRow x (x.b 0 != 1) (s.runSentence vScan scanBody x))
def execScanAbort (x : Sentence) (s : State) := finish s (s.formRow x (x.b 0 == 1) (s.runSentence vScan scanBody x))

end Sys2Proof.Machine
end

