-- ==== Sys2Proof/Machine/Integration.lean ====
section
/-! DEFINITION. The DTC on its host die (chapter 04): the register map of the TRB, its accesses (R161 to R166, R170, R171), resets
(R167, R168). -/

namespace Sys2Proof.Machine
open Sys2Proof

/-! ## Resets -/

/-- The DTC right after a reset with its static ports as sampled (R142, R143, R167). -/
def Dtc.fresh (ties : DtcTies) : Dtc :=
  { ties := ties, attached := true, oid := ties.oid, oidBad := ties.oid == 0 || ties.oid == 0xFFFFFFFF }

/-- A DTC reset keeps the error counts (R167). -/
def Dtc.softReset (d : Dtc) (ties : DtcTies) : Dtc :=
  { Dtc.fresh ties with tapErrGroup := d.tapErrGroup, tapErrCount := d.tapErrCount, eccCe := d.eccCe, eccUe := d.eccUe, trbErr := d.trbErr }

def State.resetDtc (s : State) (p : Fin 64) (ties : DtcTies) : State :=
  (s.onDtc p fun d => d.softReset ties).emit (.dtcReset p true)

def execDtcColdReset (p : Fin 64) (ties : DtcTies) (s : State) := finish s ((s.setDtc p (Dtc.fresh ties)).emit (.dtcReset p false))
def execDtcReset (p : Fin 64) (ties : DtcTies) (s : State) := finish s (s.resetDtc p ties)
/-- ADP_RESET_GO: a TRB access, so ignored before adp_ready (R162). -/
def execAdpResetGo (p : Fin 64) (ties : DtcTies) (s : State) := finish s (
  if (s.dtc p).ready then (s.resetDtc p ties).emit (.trbWrite p false) else s.emit (.trbWrite p false))
/-- DTC_READY (R168): every SRAM is cleared and adp_ready rises. -/
def execDtcReady (p : Fin 64) (s : State) := finish s (s.onDtc p fun d => { d with ready := d.ready || d.attached })

/-! ## The register map (R170, R171) -/

def flagBit (b : Bool) (n : Nat) : Nat := if b then 2 ^ n else 0

/-- Stale channels as 64 bits. -/
def Dtc.staleBits (d : Dtc) : Nat := (List.range 64).foldl (fun m c => m + flagBit (d.sensor c).stale c) 0

/-- ADP_STATUS. TIME_B: the link followed is B. -/
def Dtc.statusWord (d : Dtc) : Nat :=
  d.pinned.toNat * 256 + flagBit d.oidBad 6 + flagBit (d.time.valid && d.followed == .b) 5 + flagBit d.time.hold 4 + flagBit d.time.valid 3 +
    flagBit (d.lb.e.st == .inService) 2 + flagBit (d.la.e.st == .inService) 1 + flagBit d.ready 0

/-- ADP_MB_STATUS. -/
def Mailbox.statusWord (m : Mailbox) : Nat :=
  flagBit m.busy 31 + flagBit m.done 30 + flagBit m.overrun 29 + flagBit m.discard 28 + m.rspLen

/-- Four buffer bytes as a TRB word: the byte at the lowest address in [7:0] (R164). -/
def leWord (f : Nat → Nat) (k : Nat) : Nat := f k + 256 * f (k + 1) + 65536 * f (k + 2) + 16777216 * f (k + 3)

/-- The value of the mapped register at byte offset o; none where o is unmapped (R170). -/
def Dtc.trbValue (d : Dtc) (o : Nat) : Option Nat :=
  let st := stampBytes d.time.latch
  if o = 0x00 then some versionRegister
  else if o = 0x04 then some d.oid.toNat
  else if o = 0x08 then some (flagBit d.ties.memLat2 3 + flagBit d.ties.optB 2 + flagBit d.ties.optA 1 + flagBit d.ties.rpd 0)
  else if o = 0x0C then some d.statusWord
  else if o = 0x10 then some 0
  else if o = 0x14 then some d.scratch.toNat
  else if o = 0x20 then some d.irqStatus.toNat
  else if o = 0x24 then some d.irqEn.toNat
  else if o = 0x30 then some (d.time.incr.toNat / 2 ^ 32)
  else if o = 0x34 then some (d.time.incr.toNat % 2 ^ 32)
  else if o = 0x38 then some d.time.asymA.reg.toNat
  else if o = 0x3C then some d.time.asymB.reg.toNat
  else if 0x40 ≤ o && o ≤ 0x4C then some (fld st (o - 0x40) 4)
  else if o = 0x50 then some (d.capDly.toNat * 256 + d.trigDly.toNat)
  else if o = 0x60 then some (d.cnt.alive.toNat % 2 ^ 32)
  else if o = 0x64 then some (d.cnt.alive.toNat / 2 ^ 32)
  else if o = 0x68 then some (d.tapErrGroup * 65536 + d.tapErrCount)
  else if o = 0x70 then some (d.staleBits % 2 ^ 32)
  else if o = 0x74 then some (d.staleBits / 2 ^ 32)
  else if o = 0x78 then some (d.eccCe * 65536 + d.eccUe)
  else if o = 0x7C then some d.trbErr
  else if o = 0x80 then some d.mb.len.toNat
  else if o = 0x84 then some d.mb.statusWord
  else if 0x100 ≤ o && o ≤ 0x1FC then some (d.snsLast ((o - 0x100) / 4))
  else if 0x400 ≤ o && o ≤ 0x51C then some (leWord (fun k => (Tbl.get 0 k d.mb.req).toNat) (o - 0x400))
  else if 0x600 ≤ o && o ≤ 0x718 then some (leWord (byteAt d.mb.rsp) (o - 0x600))
  else none

/-- The level of adp_irq (R139). -/
def Dtc.irqLevel (d : Dtc) : Bool := d.irqStatus &&& d.irqEn != 0

/-- One more access with adp_trb_err (R162). -/
def Dtc.trbError (d : Dtc) : Dtc := { d with trbErr := satInc 16 d.trbErr }

/-- The byte offset of the word that an access names (R161). -/
def trbOffset (off : BitVec 16) : Nat := off.toNat / 4 * 4

/-- The read latches the whole stamp where it names ADP_TIME_W0. -/
def Dtc.latchTime (d : Dtc) (o : Nat) : Dtc := if o = 0x40 then { d with time := { d.time with latch := d.stamp } } else d

/-- TRB_UNMAPPED_READ (R162): zero with adp_trb_err; a mapped offset gives its value. Before adp_ready a read other than of ADP_VERSION
or ADP_STATUS returns zero without error. -/
def execTrbUnmappedRead (p : Fin 64) (off : BitVec 16) (s : State) := finish s (
  let o := trbOffset off
  let d := (s.dtc p).latchTime o
  if !d.ready then s.emit (.trbRead p false) (be 4 (if o = 0x00 || o = 0x0C then (d.trbValue o).getD 0 else 0))
  else match d.trbValue o with
    | some v => (s.setDtc p d).emit (.trbRead p false) (be 4 v)
    | none => (s.setDtc p d.trbError).emit (.trbRead p true) (be 4 0))

/-- Put the four bytes of a TRB word into the request buffer (R164). -/
def Mailbox.writeReq (m : Mailbox) (k : Nat) (v : Word) : Mailbox :=
  { m with req := [0, 1, 2, 3].foldl (fun t i => Tbl.set 0 (k + i) (BitVec.ofNat 8 (v.toNat >>> (8 * i))) t) m.req }

/-- A write to a mapped register, by field type (R11). An RW1C bit whose event came in this cycle stays set; DONE and DISCARD come with the event of
ADP_IRQ_STATUS bit 0 (R163, R165). -/
def State.trbWrite (s : State) (p : Fin 64) (o : Nat) (v : Word) : State :=
  let d := s.dtc p
  let fresh := freshBits 9 d.irqAt d.now
  if o = 0x10 then
    if v.extractLsb' 16 16 == 0xA5D7 && v.getLsbD 0 then s.resetDtc p d.ties else s
  else if o = 0x14 then s.setDtc p { d with scratch := v }
  else if o = 0x20 then s.setDtc p { d with irqStatus := d.irqStatus &&& (~~~(v.extractLsb' 0 9) ||| fresh) }
  else if o = 0x24 then s.setDtc p { d with irqEn := v.extractLsb' 0 9 }
  else if o = 0x50 then s.setDtc p { d with capDly := v.extractLsb' 8 8, trigDly := v.extractLsb' 0 8 }
  else if o = 0x80 then
    if v.getLsbD 31 then s.mailboxGo p (v.extractLsb' 0 9).toNat
    else s.setDtc p { d with mb := { d.mb with len := v.extractLsb' 0 9 } }
  else if o = 0x84 then
    s.setDtc p { d with mb := { d.mb with
      done := d.mb.done && (!v.getLsbD 30 || fresh.getLsbD 0), overrun := d.mb.overrun && !v.getLsbD 29
      discard := d.mb.discard && (!v.getLsbD 28 || fresh.getLsbD 0) } }
  else if 0x400 ≤ o && o ≤ 0x51C then
    if d.mb.busy then s.setDtc p { d with mb := { d.mb with overrun := true } }
    else s.setDtc p { d with mb := d.mb.writeReq (o - 0x400) v }
  else s

/-- TRB_REGISTER_WRITE (R161, R162): the access completes with adp_trb_err as the table sets; before adp_ready it is ignored without error. -/
def execTrbRegisterWrite (p : Fin 64) (off : BitVec 16) (enables : BitVec 4) (v : Word) (s : State) := finish s (
  let o := trbOffset off
  let d := s.dtc p
  if !d.ready then s.emit (.trbWrite p false)
  else if enables != 15 || (d.trbValue o).isNone then (s.setDtc p d.trbError).emit (.trbWrite p true)
  else (s.trbWrite p o v).emit (.trbWrite p false))

end Sys2Proof.Machine
end

