-- ==== Sys2Proof/Machine/Trace.lean ====
section
/-! DEFINITION. Branch trace (chapter 06): sources and their clauses, mergers, drops, trace records and sink rings, the trace verbs. -/

namespace Sys2Proof.Machine
open Sys2Proof

/-! ## Clauses (R210 to R217) -/

/-- Outcomes packed from bit 7 down (R211). -/
def packOutcomes (os : List Bool) : Bytes :=
  (List.range (ceilDiv os.length 8)).map fun i =>
    BitVec.ofNat 8 ((List.range 8).foldl (fun a j => 2 * a + (if os.getD (8 * i + j) false then 1 else 0)) 0)

def brClause (os : List Bool) : Bytes := be 1 (0x20 + os.length) ++ packOutcomes os

/-- The fewest bytes that hold v. -/
def bytesNeeded (v : Nat) : Nat := if v = 0 then 0 else Nat.log2 v / 8 + 1

def indClause (target last : BitVec 64) : Bytes :=
  let x := (target ^^^ last).toNat
  let b := bytesNeeded x
  be 1 (0x40 + b) ++ be b x

def cycClause (n : Nat) : Bytes :=
  let v := min n 0xFFFFFFFFFFFF
  let c := max 1 (bytesNeeded v)
  be 1 (0x60 + c - 1) ++ be c v

def tsClause (cs : Nat) : Bytes := be 1 0x80 ++ be 8 cs
def fsClause (reason : Nat) (pc : BitVec 64) (ctx : Word) : Bytes := be 1 (0xA0 + reason) ++ be 8 pc.toNat ++ be 4 ctx.toNat
def ovfClause (reason lost : Nat) : Bytes := be 1 (0xC0 + reason) ++ be 4 lost
def srcClause (i : Nat) : Bytes := be 1 0xE0 ++ be 1 i

/-! ## One source (R218 to R220, R225, R226) -/

def clauseBytes (cs : List TraceClause) : Nat := (cs.map fun c => c.bytes.length).foldl (· + ·) 0

/-- Put a clause into the source FIFO at nanosecond `now`; a dropped source counts it instead, and a FIFO without room drops the source (R225, R226). -/
def TraceSource.put (k : TraceSource) (cap now : Nat) (c : TraceClause) : TraceSource :=
  match k.dropped with
  | some (r, n) => { k with dropped := some (r, satInc 32 n), lost := satInc 32 k.lost }
  | none =>
    if clauseBytes k.fifo + c.bytes.length ≤ cap then { k with fifo := k.fifo ++ [c] }
    else { k with dropped := some (3, 1), dropAt := now, readmit := false, lost := satInc 32 k.lost }

/-- The cycle that a source traces: the FIFO's capacity, the CSTAMP count and the nanosecond of the cycle, and the flushes that its clauses serve. -/
structure TraceNow where
  cap : Nat
  cs : Nat
  now : Nat
  marks : List Nat := []
deriving DecidableEq, Repr

/-- A BR or IND of cycle `cyc` at count `cs`, after its CYC where CYC mode is on (R213, R218). -/
def TraceSource.clause (k : TraceSource) (n : TraceNow) (cyc cs : Nat) (bytes : Bytes) : TraceSource :=
  let k1 := if k.cyc then k.put n.cap n.now ⟨cycClause (cyc - k.lastClause), cs, n.marks, false⟩ else k
  { k1.put n.cap n.now ⟨bytes, cs, n.marks, false⟩ with lastClause := cyc, clauses := k1.clauses + (if k.cyc then 2 else 1) }

/-- Close the open BR. -/
def TraceSource.closeBr (k : TraceSource) (n : TraceNow) : TraceSource :=
  if k.openBr.isEmpty then k else { k.clause n k.brLast k.brAt (brClause k.openBr) with openBr := [] }

/-- An outcome joins the open BR, which closes at its 30th. -/
def TraceSource.outcome (k : TraceSource) (n : TraceNow) (o : Option Bool) : TraceSource :=
  match o with
  | none => k
  | some b =>
    let k1 := { k with openBr := k.openBr ++ [b], brFirst := if k.openBr.isEmpty then k.cycle else k.brFirst, brLast := k.cycle, brAt := n.cs }
    if k1.openBr.length = 30 then k1.closeBr n else k1

/-- The source is admitted again: no rule drops it, and its FIFO takes the OVF, without which its count would be lost (R225). -/
def TraceSource.admitted (k : TraceSource) (cap : Nat) : Bool := k.readmit && clauseBytes k.fifo + 5 ≤ cap

/-- A full stop (R215): the open BR closes first; reasons 2 and 3 have no CYC; a readmitted source puts its OVF before it (R225). -/
def TraceSource.fullStop (k : TraceSource) (n : TraceNow) (reason : Nat) : TraceSource :=
  let k1 := k.closeBr n
  let k2 := match k1.admitted n.cap, k1.dropped with
    | true, some (r, m) => { k1 with dropped := none, readmit := false }.put n.cap n.now ⟨ovfClause r m, n.cs, n.marks, true⟩
    | _, _ => k1
  let k3 := if k2.cyc && reason != 2 && reason != 3 then k2.put n.cap n.now ⟨cycClause (k2.cycle - k2.lastClause), n.cs, n.marks, true⟩ else k2
  { k3.put n.cap n.now ⟨fsClause reason k3.lastPc k3.lastCtx, n.cs, n.marks, true⟩ with
    lastClause := k3.cycle, lastTarget := k3.lastPc, clauses := 0, lastFs := n.now, enableOwed := false, flushOwed := [] }

/-- The reason of R219 among those that hold, in the order of its table. R225 gives a readmission reason 3 and an enable by SET_TRACE_SOURCE reason 2
(`fixed`); of the others the lowest row, which the text lets be read as the first or the last of the table (log entry 30). -/
def stopReason (fixed : Option Nat) (holds : List Nat) : Option Nat :=
  match fixed with
  | some r => some r
  | none => if Config.lowestRowIsLast then holds.getLast? else holds.head?

/-- One cycle of the source's clock (R218 to R220). One full stop is taken in a cycle, whatever asks for it (R219). -/
def TraceSource.step (k : TraceSource) (cap cs now : Nat) (cy : TraceCycle) : TraceSource :=
  let k := { k with cycle := k.cycle + 1 }
  let n : TraceNow := ⟨cap, cs, now, k.flushOwed⟩
  if !k.enabled then { k with prevEn := cy.en, lastPc := cy.pc, lastCtx := if cy.en then cy.ctx else k.lastCtx, flushOwed := [] }
  else if !cy.en then { (if k.prevEn then k.closeBr n else k) with prevEn := false, flushOwed := [] }
  else
    let ctxChange := cy.ctx != k.lastCtx
    let before := k.clauses
    let m : TraceNow := { n with marks := [] }
    let k1 := (k.outcome m cy.slot0).outcome m cy.slot1
    let k2 := if !k1.openBr.isEmpty && 4096 ≤ k1.cycle - k1.brFirst then k1.closeBr m else k1
    let k3 := match cy.ind with
      | none => k2
      | some t =>
        let c := k2.closeBr m
        { c.clause m c.cycle cs (indClause t c.lastTarget) with lastTarget := t }
    let emits := k3.clauses != before
    let again := k3.admitted cap
    let others := (if k3.enableOwed || !k3.prevEn then [2] else []) ++ (if again then [3] else []) ++ (if ctxChange then [4] else []) ++
      (if k3.flushOwed.isEmpty then [] else [5])
    let count := 4096 ≤ k3.clauses
    let late := (emits || count || !others.isEmpty) && k3.lastFs + 1000000 < now
    let holds := (if count then [0] else []) ++ (if late then [1] else []) ++ others
    let k4 := { k3 with lastPc := cy.pc, lastCtx := cy.ctx, prevEn := true }
    match stopReason (if again then some 3 else if k3.enableOwed then some 2 else none) holds with
    | some r => k4.fullStop n r
    | none => k4

/-- A sentence disables a source: what it had collected is discarded (R225). -/
def TraceSource.disable (k : TraceSource) : TraceSource :=
  { k with enabled := false, openBr := [], dropped := none, readmit := false, enableOwed := false, flushOwed := [] }

/-! ## The merger (R221 to R224) -/

def TraceUnit.source (u : TraceUnit) (i : Nat) : TraceSource := Tbl.get {} i u.sources
def TraceUnit.setSource (u : TraceUnit) (i : Nat) (k : TraceSource) : TraceUnit := { u with sources := Tbl.set {} i k u.sources }

/-- Sources, FIFO and merge-buffer sizes of a part (R208). -/
def traceSources : Part → Nat
  | .agg => 68
  | .dtc _ => 16
def fifoCap : Part → Nat
  | .agg => 1024
  | .dtc _ => 256
def mergeCap : Part → Nat
  | .agg => 262144
  | .dtc _ => 8192

/-- The source whose turn it is: the first non-empty FIFO from the pointer on. -/
def TraceUnit.turn (u : TraceUnit) (n : Nat) : Option Nat :=
  let full (i : Nat) : Bool := !(u.source i).fifo.isEmpty
  match (List.range n).find? fun i => u.pointer ≤ i && full i with
  | some i => some i
  | none => (List.range n).find? full

/-- The drop level that a fill holds (R223): how many priorities are dropped, 0 to 4. `noRoom`: the next clause does not fit. -/
def fillLevel (fill cap : Nat) (noRoom : Bool) (level : Nat) : Nat :=
  let up := if noRoom then 4 else if cap * 7 ≤ fill * 8 then 3 else if cap * 3 ≤ fill * 4 then 2 else if cap ≤ fill * 2 then 1 else 0
  let hold (l : Nat) : Bool := match l with
    | 1 => cap * 3 ≤ fill * 8
    | 2 => cap * 5 ≤ fill * 8
    | 3 => cap * 3 ≤ fill * 4
    | 4 => cap * 7 ≤ fill * 8
    | _ => true
  let down := if level = 4 && hold 4 then 4 else if 3 ≤ level && hold 3 then 3 else if 2 ≤ level && hold 2 then 2
    else if 1 ≤ level && hold 1 then 1 else 0
  max up down

/-- Drop and readmit every enabled source by the fill floor, the profile floor and an unread FIFO at nanosecond `now` (R223 to R226). The reason is 2
where both rules begin in the same cycle. -/
def TraceUnit.drops (u : TraceUnit) (now : Nat) : TraceUnit :=
  { u with sources := u.sources.map fun e =>
      let k := e.2
      let byFill := k.prio < u.fillFloor
      let byFloor := k.prio < u.floor
      (e.1,
        if !k.enabled then k
        else match k.dropped with
          | none =>
            if byFill || byFloor then
              { k with dropped := some (if byFloor then 2 else 1, if k.openBr.isEmpty then 0 else 1), dropAt := now, openBr := [], flushOwed := [],
                       lost := if k.openBr.isEmpty then k.lost else satInc 32 k.lost }
            else k
          | some (r, m) =>
            if byFill || byFloor then
              { k with readmit := false, dropped := some (if r = 1 && byFloor && k.dropAt == now then 2 else r, m) }
            else if r = 3 && !k.fifo.isEmpty then k
            else { k with readmit := true }) }

/-- The merge-buffer fill in bytes. -/
def TraceUnit.fill (u : TraceUnit) : Nat := clauseBytes u.buffer

/-- Evaluate the thresholds (R223). -/
def TraceUnit.thresholds (u : TraceUnit) (w : Part) (now : Nat) : TraceUnit :=
  let next := match u.turn (traceSources w) with
    | some i => ((u.source i).fifo.head?.map fun c => c.bytes.length).getD 0
    | none => 0
  ({ u with fillFloor := fillLevel u.fill (mergeCap w) (next != 0 && mergeCap w < u.fill + next) u.fillFloor }).drops now

/-- Merge up to n clauses of a source: TS before the first clause of a full stop in a turn and 64 us after the last TS (R222); a clause
that does not fit ends the turn. -/
def mergeClauses (cap now : Nat) : Nat → Bool → TraceUnit → List TraceClause → TraceUnit × List TraceClause
  | 0, _, u, cs => (u, cs)
  | _, _, u, [] => (u, [])
  | n + 1, stamped, u, c :: cs =>
    let due := (c.fs && !stamped) || match u.lastTs with
      | some t => t + 64000 ≤ now
      | none => false
    let new := (if due then [{ c with bytes := tsClause c.cs }] else []) ++ [c]
    if u.fill + clauseBytes new ≤ cap then
      mergeClauses cap now n (stamped || (due && c.fs)) { u with buffer := u.buffer ++ new, lastTs := if due then some now else u.lastTs } cs
    else (u, c :: cs)

/-- One turn (R221): SRC at a change of source, up to 16 clauses, then the pointer moves past the source. -/
def TraceUnit.merge (u : TraceUnit) (w : Part) (now : Nat) : TraceUnit :=
  match u.turn (traceSources w) with
  | none => u
  | some i =>
    let k := u.source i
    let src : List TraceClause := if u.current = some i then [] else [⟨srcClause i, 0, [], false⟩]
    if mergeCap w < u.fill + clauseBytes src + (k.fifo.head?.map fun c => c.bytes.length).getD 0 then u
    else
      let r := mergeClauses (mergeCap w) now 16 false { u with buffer := u.buffer ++ src, current := some i } k.fifo
      let u1 := r.1.setSource i { k with fifo := r.2 }
      ({ u1 with pointer := (i + 1) % traceSources w }).drops now

/-! ## Parts -/

def State.traceUnit (s : State) : Part → TraceUnit
  | .agg => s.hub
  | .dtc p => (s.dtc p).trace
def State.setTraceUnit (s : State) (w : Part) (u : TraceUnit) : State :=
  match w with
  | .agg => { s with hub := u }
  | .dtc p => s.onDtc p fun d => { d with trace := u }

/-- Some clause of a flush is still in a FIFO or in the merge buffer, or its full stop is still to be taken. -/
def TraceUnit.holdsMark (u : TraceUnit) (m : Nat) : Bool :=
  u.buffer.any (·.marks.contains m) || u.sources.any fun e => e.2.flushOwed.contains m || e.2.fifo.any (·.marks.contains m)

/-- End the flushes whose clauses have all left the part (R234). -/
def State.endFlushes (s : State) (w : Part) : State :=
  let u := s.traceUnit w
  let gone (f : FlushWait) : Bool := !u.holdsMark f.mark && !u.recMarks.contains f.mark && f.recs.isEmpty
  let ended := u.flush.filter gone
  ended.foldl (fun t f => t.final w f.ticket St.ok (be 4 f.count))
    (if ended.isEmpty then s else s.setTraceUnit w { u with flush := u.flush.filter fun f => !gone f })

/-- One cycle of a source: what it emits for a flush counts there (R234). -/
def TraceUnit.cycle (u : TraceUnit) (i cap cs now : Nat) (cy : TraceCycle) : TraceUnit :=
  let k := u.source i
  let k1 := k.step cap cs now cy
  let new := k1.fifo.drop k.fifo.length
  { u.setSource i k1 with flush := u.flush.map fun f => { f with count := f.count + (new.filter (·.marks.contains f.mark)).length } }

/-- TRACE_SOURCE_CYCLE (R218). -/
def execTraceSourceCycle (part : Part) (src : Fin 68) (cy : TraceCycle) (s : State) := finish s (
  let ready := match part with
    | .agg => true
    | .dtc p => (s.dtc p).ready && src.val < 16
  if ready then
    (s.setTraceUnit part ((s.traceUnit part).cycle src.val (fifoCap part) (s.csOf part) (s.nowOf part) cy)).endFlushes part
  else s)

def execTraceMergerTurn (part : Part) (s : State) := finish s (s.setTraceUnit part ((s.traceUnit part).merge part (s.nowOf part)))
def execMergeFillThreshold (part : Part) (s : State) := finish s (s.setTraceUnit part ((s.traceUnit part).thresholds part (s.nowOf part)))

/-! ## Trace records at the DTC (R227, R268) -/

/-- Compress a body where its class is enabled (R267, R268): the flag and the bytes to send, with the draw used and whether the comparison
failed. -/
def compressBody (on : Bool) (draw : Nat) (body : Bytes) : Bool × Bytes × Bool :=
  if !on then (false, body, false)
  else
    let z := compressorStream draw body
    if inflate 4096 body.length z != some body then (false, body, true)
    else if z.length < body.length then (true, z, false) else (false, body, false)

/-- A record header with its body (R245); LENGTH is the length before compression. -/
def recordOf (len flags offset : Nat) (data : Bytes) : Bytes := be 2 len ++ be 1 flags ++ be 1 0 ++ be 4 offset ++ data

/-- The trace record n waits on a link, whole or in part. -/
def DtcLink.holdsTrace (k : DtcLink) (n : Nat) : Bool :=
  (k.traceOut.any fun r => r.1 == n) || match Tbl.find? 0x20 k.e.txOpen with
    | some t => t.num == n
    | none => false

/-- Close the open trace record: it goes to every link in service, and is lost where none is (R227). -/
def Dtc.closeTrace (d : Dtc) (draw : Nat) : Dtc :=
  let u := d.trace
  if u.record.isEmpty then d
  else
    let body := be 2 u.recSeq ++ be 2 u.record.length ++ u.record
    let z := compressBody (d.compEnable && d.compMask.getLsbD 4) draw body
    let rec_ := recordOf body.length (if z.1 then 1 else 0) 0 z.2.1
    let serves := d.la.e.st == .inService || d.lb.e.st == .inService
    let send (k : DtcLink) : DtcLink := if k.e.st == .inService then { k with traceOut := k.traceOut ++ [(u.recSeq, rec_)] } else k
    { d with
      la := send d.la, lb := send d.lb
      journal := { d.journal with compFail := if z.2.2 then satInc 64 d.journal.compFail else d.journal.compFail }
      trace := { u with
        recSeq := (u.recSeq + 1) % 65536, record := [], recMarks := []
        unsent := (u.unsent.filter fun n => d.la.holdsTrace n.1 || d.lb.holdsTrace n.1) ++ (if serves then [(u.recSeq, u.record.length)] else [])
        flush := u.flush.map fun f => if serves && u.recMarks.contains f.mark then { f with recs := f.recs ++ [u.recSeq] } else f } }

/-- Trace records have left on a link: a flush waits for them no longer, and their clause bytes count once (R234). -/
def Dtc.sentTrace (d : Dtc) (sent : List Nat) : Dtc :=
  let u := d.trace
  let out := u.unsent.filter fun n => sent.contains n.1
  { d with trace := { u with
      bytesSent := (u.bytesSent + (out.map (·.2)).foldl (· + ·) 0) % 2 ^ 64, unsent := u.unsent.filter fun n => !sent.contains n.1
      flush := u.flush.map fun f => { f with recs := f.recs.filter fun n => !sent.contains n } } }

/-- The DTC's drain may take clauses: a link is in service and none has a whole record waiting. -/
def Dtc.traceOpen (d : Dtc) : Bool :=
  (d.la.e.st == .inService || d.lb.e.st == .inService) && d.la.traceOut.isEmpty && d.lb.traceOut.isEmpty

/-- The drain of one nanosecond (R208: 10 Gb/s): whole clauses into the trace record, which closes at 4,096 bytes, and after the last
clause of a flush (R268). -/
def Dtc.drainTrace (d : Dtc) (draw : Nat) : Dtc :=
  let u := d.trace
  match u.buffer with
  | [] => if u.credit = 0 then d else { d with trace := { u with credit := 0 } }
  | c :: cs =>
    if !d.traceOpen then d
    else
      let credit := u.credit + 5
      if credit < 4 * c.bytes.length then { d with trace := { u with credit := credit } }
      else
        let d1 := if 4096 < 4 + u.record.length + c.bytes.length then d.closeTrace draw else d
        let v := d1.trace
        let v1 := { v with buffer := cs, credit := credit - 4 * c.bytes.length, record := v.record ++ c.bytes,
                           recordAt := if v.record.isEmpty then d.now else v.recordAt,
                           recMarks := v.recMarks ++ c.marks.filter fun m => !v.recMarks.contains m }
        let d2 := { d1 with trace := v1 }
        if (c.marks.any fun m => !v1.holdsMark m) || v1.record.length = 4092 then d2.closeTrace draw else d2

/-- TRACE_RECORD_TIMEOUT (R268): 1 us after the first clause. -/
def execTraceRecordTimeout (p : Fin 64) (s : State) := finish s (
  let d := s.dtc p
  if d.ready && !d.trace.record.isEmpty && d.trace.recordAt + 1000 ≤ d.now then
    let r := s.draw
    (r.2.setDtc p (d.closeTrace r.1)).endFlushes (.dtc p)
  else s)

/-! ## Sink rings (R228 to R230) -/

def State.sink (s : State) (i : Nat) : Sink := Tbl.get {} i s.sinks
def State.setSink (s : State) (i : Nat) (k : Sink) : State := { s with sinks := Tbl.set {} i k s.sinks }

/-- Write clause bytes at the write offset, wrapping at the end of the ring, then the write offset (R228). -/
def State.ringWrite (s : State) (i : Nat) (bytes : Bytes) : State :=
  let k := s.sink i
  let at_ := k.wr % k.size
  let first := bytes.take (k.size - at_)
  let rest := bytes.drop (k.size - at_)
  let s1 := s.emit (.hostWrite (k.addr + at_)) first
  let s2 := if rest.isEmpty then s1 else s1.emit (.hostWrite k.addr) rest
  let wr := (k.wr + bytes.length) % 2 ^ 64
  (s2.emit (.hostWrite k.pair) (be 8 wr)).setSink i { k with wr := wr, written := (k.written + bytes.length) % 2 ^ 64 }

/-- The ring has room for n bytes, as the aggregator knows the read offset; both offsets run free (R228). -/
def Sink.room (k : Sink) (n : Nat) : Bool := (k.wr + 2 ^ 64 - k.rd) % 2 ^ 64 + n ≤ k.size

/-- What the aggregator inserts before the next record: SRC 255 and OVF of unknown count, per reason. -/
def insertedOvfs (reasons : List Nat) : Bytes := (reasons.map fun r => srcClause 255 ++ ovfClause r 0xFFFFFFFF).flatten

/-- The bytes of the clause that a header byte begins (R210 to R217). -/
def clauseLength (h : Nat) : Nat :=
  match h / 32 with
  | 1 => 1 + ceilDiv (h % 32) 8
  | 2 => 1 + h % 32
  | 3 => 2 + h % 32
  | 4 => 9
  | 5 => 13
  | 6 => 5
  | _ => 2

/-- The source of the clause that follows a run of whole clauses (fuel: its length). -/
def sourceAfter : Nat → Bytes → Option Nat → Option Nat
  | 0, _, c => c
  | _, [], c => c
  | f + 1, h :: bs, c => sourceAfter f (bs.drop (clauseLength h.toNat - 1)) (if h.toNat / 32 = 7 then some (byteAt bs 0) else c)

/-- The SRC that goes before a run of clauses after an inserted SRC 255, which only an OVF may follow: that of the run's source, unless the run begins
with its own or the source is not known (R217). -/
def Sink.resume (k : Sink) (clauses : Bytes) : Bytes :=
  match clauses, k.src with
  | h :: _, some i => if (k.all || !k.ovfs.isEmpty) && h.toNat / 32 != 7 then srcClause i else []
  | _, _ => []

/-- Write a run of whole clauses to a sink, with the OVFs owed before it; false where the ring lacks room. -/
def State.sinkWrite (s : State) (i : Nat) (clauses : Bytes) : State × Bool :=
  let k := s.sink i
  let bytes := insertedOvfs k.ovfs ++ k.resume clauses ++ clauses
  if k.room bytes.length then
    ((s.setSink i { k with ovfs := [], all := clauses.isEmpty && (k.all || !k.ovfs.isEmpty), src := sourceAfter clauses.length clauses k.src,
                           inserted := satAdd 32 k.inserted k.ovfs.length }).ringWrite i bytes, true)
  else (s, false)

/-- A trace record of port p at the active (R229, R230): a gap in the sequence numbers owes OVF 4 and leaves the source of the next clause unknown, a
full ring OVF 5 and the record is lost. -/
def State.takeTrace (s : State) (p : Fin 64) (body : Bytes) : State :=
  let i := p.val + 1
  let k := s.sink i
  let seq := fld body 0 2
  let gap := match k.lastSeq with
    | some q => seq != (q + 1) % 65536
    | none => false
  let clauses := sub body 4 (fld body 2 2)
  let owed := k.ovfs ++ (if gap && !k.ovfs.contains 4 then [4] else [])
  let src := if gap then none else k.src
  let after := sourceAfter clauses.length clauses src
  if !s.active || k.size = 0 then s.setSink i { k with lastSeq := some seq, src := after }
  else
    let k1 := { k with lastSeq := some seq, ovfs := owed, src := src }
    let r := (s.setSink i k1).sinkWrite i clauses
    if r.2 then r.1 else s.setSink i { k1 with src := after, ovfs := if owed.contains 5 then owed else owed ++ [5] }

def execTraceRecordReceive (p : Fin 64) (body : Bytes) (s : State) := finish s (s.takeTrace p body)

/-- SINK_RING_POLL (R228): the read offset as the host has it now. -/
def execSinkRingPoll (stream : Fin 65) (readOffset : BitVec 64) (s : State) := finish s (
  let k := s.sink stream.val
  if k.size = 0 then s else s.setSink stream.val { k with rd := readOffset.toNat })

/-- The hub's drain of one nanosecond (R208: 32 Gb/s) into ring 0; a full ring stops it (R230). -/
def State.drainHub (s : State) : State :=
  let u := s.hub
  match u.buffer with
  | [] => if u.credit = 0 then s else { s with hub := { u with credit := 0 } }
  | c :: cs =>
    if (s.sink 0).size = 0 then s
    else
      let credit := u.credit + 16
      if credit < 4 * c.bytes.length then { s with hub := { u with credit := credit } }
      else
        let r := s.sinkWrite 0 c.bytes
        if r.2 then
          let t := { r.1 with hub := { u with buffer := cs, credit := credit - 4 * c.bytes.length,
                                              bytesSent := (u.bytesSent + c.bytes.length) % 2 ^ 64 } }
          t.endFlushes .agg
        else s

/-! ## Trace verbs (R234, R235) -/

/-- A debug authorisation with SCOPE [0] is in force (R232, R558). -/
def State.hubTraceAllowed (s : State) : Bool := match s.sec.debugAuth with
  | some a => a.scope.getLsbD 0 && s.svcNs / 1000000000 < a.notAfter
  | none => false

def setTraceSourceBody (x : Sentence) (s : State) : State × Answer :=
  let u := s.traceUnit x.part
  let i := x.b 0
  let k := u.source i
  let on := x.b 1 % 2 = 1
  if on && x.part == .agg && !s.hubTraceAllowed then (s, .final St.state)
  else
    let k1 := { k with cyc := x.b 1 / 2 % 2 = 1, prio := x.b 2 }
    let k2 := if on then { k1 with enabled := true, enableOwed := k.enableOwed || !k.enabled } else k1.disable
    ((s.setTraceUnit x.part ((u.setSource i k2).drops (s.nowOf x.part))).endFlushes x.part, .final St.ok)

/-- A sink starts or moves with SRC 255 and OVF 7, offsets from 0; size 0 disables it. -/
def setTraceSinkBody (x : Sentence) (s : State) : State × Answer :=
  let i := x.subunit.toNat
  let k := s.sink i
  if x.f 8 4 = 0 then (s.setSink i { k with size := 0, addr := 0, pair := 0, ovfs := [], wr := 0, rd := 0 }, .final St.ok)
  else
    let s1 := s.setSink i { k with addr := x.f 0 8, size := x.f 8 4, pair := x.f 16 8, wr := 0, rd := 0, ovfs := [7] }
    let s2 := if i = 0 then { s1 with hub := { s1.hub with current := none } } else s1
    ((s2.sinkWrite i []).1, .final St.ok)

/-- The sources of a TRACE_FLUSH mask: bit s of the 128-bit value. -/
def flushSources (x : Sentence) : List Nat := (List.range 128).filter fun i => (x.f 0 16).testBit i

/-- TRACE_FLUSH: every named source that traces takes its full stop at the end of its next cycle (R219); one that is dropped or idle emits nothing. -/
def traceFlushBody (x : Sentence) (s : State) : State × Answer :=
  let u := s.traceUnit x.part
  let m := u.nextMark
  let named := (flushSources x).filter fun i => let k := u.source i; k.enabled && k.prevEn && k.dropped.isNone
  let u1 := named.foldl (fun a i => let k := a.source i; a.setSource i { k with flushOwed := k.flushOwed ++ [m] }) { u with nextMark := m + 1 }
  if named.isEmpty then (s.setTraceUnit x.part u1, .final St.ok (be 4 0))
  else (s.setTraceUnit x.part { u1 with flush := u1.flush ++ [⟨x.ticket, m, 0, []⟩] }, .later)

/-- A source's 8 bytes of GET_TRACE_STATUS. -/
def TraceSource.status (k : TraceSource) : Bytes :=
  be 1 (if !k.enabled then 0 else if k.dropped.isSome && !k.readmit then 2 else 1) ++ be 1 k.prio ++ be 1 (if k.cyc then 1 else 0) ++ be 1 0 ++
    be 4 k.lost

def getTraceStatusBody (x : Sentence) (s : State) : State × Answer :=
  let stream := if x.part == .agg then x.subunit.toNat else 0
  if stream = 0 then
    let u := s.traceUnit x.part
    let n := traceSources x.part
    let k := s.sink 0
    (s, .final St.ok (be 1 n ++ be 1 u.floor ++ be 1 u.fillFloor ++ be 1 0 ++ be 4 u.fill ++
      be 8 (if x.part == .agg then k.written else u.bytesSent) ++ be 4 (if x.part == .agg then k.inserted else 0) ++ be 4 0 ++
      ((List.range n).map fun i => (u.source i).status).flatten))
  else
    let k := s.sink stream
    (s, .final St.ok (be 1 0 ++ be 1 s.hub.floor ++ zeros 6 ++ be 8 k.written ++ be 4 k.inserted ++ be 4 0))

def ringSizeValid (n : Nat) : Bool := n == 0 || (65536 ≤ n && n ≤ 1073741824 && n &&& (n - 1) == 0)

/-- What a trace verb touches (R546): the ports of a DTC stream, else context 0 only. -/
def traceTouch (w : Bool) (s : State) (x : Sentence) : List Touch :=
  match s.dtcOf x.target with
  | some p => [⟨5, [p.val], w⟩]
  | none => if x.subunit = 0 then [⟨7, [], w⟩] else [⟨5, [x.subunit.toNat - 1], w⟩]

def vSetTraceSource : Verb :=
  { code := 0x0300, mgmt := true, standby := .own, dtc := true, minLen := 4, maxLen := 4, check := fun w x => x.b 0 < traceSources w && x.b 2 ≤ 3 }
def vSetTraceSink : Verb :=
  { code := 0x0301, mgmt := true, standby := .own, standbyHub := true, subMax := 64, minLen := 24, maxLen := 24
    check := fun _ x => ringSizeValid (x.f 8 4) && x.f 0 8 % 64 == 0 && x.f 16 8 % 16 == 0 }
def vTraceFlush : Verb :=
  { code := 0x0302, dtc := true, standby := .own, minLen := 16, maxLen := 16, nonIdem := true, touches := traceTouch true, zeroLen := fun _ _ => 4
    check := fun w x => x.f 0 16 < 2 ^ traceSources w }
def vGetTraceStatus : Verb :=
  { code := 0x0303, dtc := true, subMax := 64, touches := traceTouch false, standby := .own, standbyHub := true
    zeroLen := fun w x => if w == .agg && x.subunit != 0 then 24 else 24 + 8 * traceSources w }

def execSetTraceSource (x : Sentence) (s : State) := finish s (s.runSentence vSetTraceSource setTraceSourceBody x)
def execSetTraceSink (x : Sentence) (s : State) := finish s (s.runSentence vSetTraceSink setTraceSinkBody x)
def execTraceFlush (x : Sentence) (s : State) := finish s (s.runSentence vTraceFlush traceFlushBody x)
def execGetTraceStatus (x : Sentence) (s : State) := finish s (s.runSentence vGetTraceStatus getTraceStatusBody x)

end Sys2Proof.Machine
end

