-- ==== Sys2Proof/Machine/LinkBase.lean ====
section
/-! DEFINITION. The telemetry link, first part (chapter 07): frames and segments, the two ends, lanes, retrain and service (R236 to R246,
R253 to R255, R259, R263 to R265). -/

namespace Sys2Proof.Machine
open Sys2Proof

/-! ## Ends -/

/-- The link end on a side; the aggregator under study has the ends of link A only (log entry 31). -/
def State.linkEnd (s : State) : Side → Fin 64 → LinkId → LinkEnd
  | .agg, p, _ => (s.port p).e
  | .dtc, p, l => ((s.dtc p).link l).e
def Dtc.onLink (d : Dtc) (l : LinkId) (f : DtcLink → DtcLink) : Dtc := d.setLink l (f (d.link l))
def State.onEnd (s : State) (side : Side) (p : Fin 64) (l : LinkId) (f : LinkEnd → LinkEnd) : State :=
  match side with
  | .agg => s.onPort p fun a => { a with e := f a.e }
  | .dtc => s.onDtc p fun d => d.onLink l fun k => { k with e := f k.e }

/-- The end exists in this model and its part runs. -/
def State.hasEnd (s : State) : Side → Fin 64 → LinkId → Bool
  | .agg, _, l => l == .a
  | .dtc, p, _ => (s.dtc p).ready

def sidePart : Side → Fin 64 → Part
  | .agg, _ => .agg
  | .dtc, p => .dtc p

/-- The link is neither down nor under test. -/
def LinkEnd.active (e : LinkEnd) : Bool := e.st != .down && e.st != .test

/-- The link is in service or held (R253). -/
def LinkEnd.lives (e : LinkEnd) : Bool := e.st == .inService || e.st == .held

def LinkState.code : LinkState → Nat
  | .down => 0 | .training => 1 | .inService => 2 | .held => 3 | .test => 4

def linkCode : LinkId → Nat
  | .a => 0 | .b => 1
def linkOf (n : Nat) : LinkId := if n % 2 = 0 then .a else .b
def otherLink : LinkId → LinkId
  | .a => .b | .b => .a

/-! ## Frames and segments (R241 to R245) -/

/-- A segment: class, flags, length, data. -/
def segment (cls flags : Nat) (data : Bytes) : Bytes := be 1 cls ++ be 1 flags ++ be 2 data.length ++ data

/-- A control segment has FIRST and LAST set. -/
def control (cls : Nat) (data : Bytes) : Bytes := segment cls 3 data

def hcrc16 (h : Bytes) : Nat := checkValueOf crc16Config (h.take 6)

/-- A whole frame of 256 bytes. -/
def linkFrame (ftype flags : Nat) (seq : Word) (payload : Bytes) : Bytes :=
  let h := be 1 ftype ++ be 1 flags ++ be 4 seq.toNat
  let b := h ++ be 2 (hcrc16 h) ++ padTo 244 payload
  b ++ be 4 (crc32c b)

/-- The segments of a payload: class, flags, data; false where it ends in something that is no segment (fuel: its length). -/
def segmentsAux : Nat → Bytes → List (Nat × Nat × Bytes) × Bool
  | 0, _ => ([], true)
  | _, [] => ([], true)
  | f + 1, b :: bs =>
    let s := b :: bs
    let n := fld s 2 2
    if byteAt s 0 = 0 then ([], true)
    else if s.length < 4 || n = 0 || 240 < n || s.length < 4 + n then ([], false)
    else
      let r := segmentsAux f (s.drop (4 + n))
      ((byteAt s 0, byteAt s 1, sub s 4 n) :: r.1, r.2)

def segments (payload : Bytes) : List (Nat × Nat × Bytes) × Bool := segmentsAux payload.length payload

/-- The least room for a segment: its header of 4 bytes and one byte, or in a FIRST segment the whole record header (R245). -/
def leastRoom (first : Bool) : Nat := if first then 12 else 5

/-- The next segment of a record in `room` bytes of a frame: the segment, and the record with what was sent; none without room. -/
def TxOpen.next (cls room : Nat) (t : TxOpen) : Option (Bytes × TxOpen) :=
  if room < leastRoom (t.sent == 0) then none
  else
    let n := min (min 240 (room - 4)) (t.data.length - t.sent)
    let flags := (if t.sent = 0 then 1 else 0) + (if t.sent + n = t.data.length then 2 else 0)
    some (segment cls flags (sub t.data t.sent n), { t with sent := t.sent + n })

/-- A segment joins the open record of its class (R243): the table after, the record if it is complete, and the incomplete ones. -/
def reassemble (open_ : Tbl Bytes) (cls flags : Nat) (data : Bytes) : Tbl Bytes × Option Bytes × Nat :=
  let cur := Tbl.find? cls open_
  let first := flags % 2 = 1
  let lost := if first && cur.isSome then 1 else 0
  if !first && cur.isNone then (open_, none, 1)
  else
    let whole := (if first then [] else cur.getD []) ++ data
    if flags / 2 % 2 = 1 then
      if 8 ≤ whole.length then (Tbl.erase cls open_, some whole, lost) else (Tbl.erase cls open_, none, lost + 1)
    else (Tbl.insert cls whole open_, none, lost)

/-! ## Control segments (R259) -/

def linkCtrl (op lane path : Nat) (l : LinkId) (seq : Word) (flags : Nat) : Bytes :=
  be 1 op ++ be 1 lane ++ be 1 path ++ be 1 (linkCode l) ++ be 4 seq.toNat ++ be 1 flags ++ zeros 3

/-- Send a LINK_CTRL segment: on its own link while that carries frames, else over the partner path, else it waits (R259). -/
def State.sendCtrl (s : State) (side : Side) (p : Fin 64) (l : LinkId) (op lane : Nat) (seq : Word := 0) (flags : Nat := 0) : State :=
  let data := linkCtrl op lane 0 l seq flags
  let e := s.linkEnd side p l
  let wait := s.onEnd side p l fun e => { e with ctrlOut := e.ctrlOut ++ [data] }
  if e.framing then wait
  else match side with
    | .dtc =>
      if (s.linkEnd .dtc p (otherLink l)).st == .inService then
        s.onEnd .dtc p (otherLink l) fun e => { e with ctrlOut := e.ctrlOut ++ [linkCtrl op lane 1 l seq flags] }
      else wait
    | .agg => if s.pair.partnerUp then s.emit (.linkControl .agg p l op) (linkCtrl op lane 1 l seq flags) else wait

/-! ## Lane maps (R236, R265) -/

def LaneMap.byte (m : LaneMap) : Nat := m.even % 4 + 4 * (m.odd % 4) + 16 * (m.spare % 4)
def LaneMap.isData (m : LaneMap) (x : Nat) : Bool := x == m.even || x == m.odd
/-- Lane x and the spare exchange roles. -/
def LaneMap.retire (m : LaneMap) (x : Nat) : LaneMap :=
  if x = m.even then { m with even := m.spare, spare := x }
  else if x = m.odd then { m with odd := m.spare, spare := x }
  else m

def LinkEnd.lane (e : LinkEnd) (i : Nat) : Lane := Tbl.get {} i e.lanes
def LinkEnd.setLane (e : LinkEnd) (i : Nat) (k : Lane) : LinkEnd := { e with lanes := Tbl.set {} i k e.lanes }

/-- The lane that the receiving end of a swap replaces, if one is in progress. -/
def Swap.lane : Swap → Option Nat
  | .none => Option.none
  | .asked x _ => some x
  | .mirroring x _ _ => some x
def Swap.ticket : Swap → Option Ticket
  | .none => Option.none
  | .asked _ t => t
  | .mirroring _ _ t => t

/-! ## Words on the lanes (R237, R238, R265) -/

/-- A training block's words 0 and 1 of one lane as this end sends them. -/
def LinkEnd.trainingWords (e : LinkEnd) (lane : Nat) : Bytes :=
  let role := if lane = e.txMap.even then 0 else if lane = e.txMap.odd then 1 else 2
  let good := (List.range 3).foldl (fun m i => m + (if (e.lane i).lock && !(e.lane i).alarm then 2 ^ i else 0)) 0
  be 4 (0x7E3C5A00 + role) ++ be 4 (flagBit e.aligned 0 + 2 * good + flagBit (e.st == .test && e.testMode = 2) 4 + 256 * lane)

/-- The next training block of one lane, whose words 2 to 31 go on in the lane's PRBS31 sequence, and the end after it (R238). -/
def LinkEnd.trainingBlock (e : LinkEnd) (lane : Nat) : LinkEnd × Bytes :=
  let q := prbsWords 30 (e.lane lane).prbsTx
  (e.setLane lane { e.lane lane with prbsTx := q.1 }, e.trainingWords lane ++ bytesOf q.2)

/-- Training blocks go out on some lanes. -/
def State.sendTraining (s : State) (side : Side) (p : Fin 64) (l : LinkId) (lanes : List Nat) : State :=
  lanes.foldl (fun t i =>
    let q := (t.linkEnd side p l).trainingBlock i
    (t.onEnd side p l fun _ => q.1).emit (.laneWords side p l i) q.2) s

/-- A frame goes out: its even and its odd words, each scrambled, on the lanes of those roles. The spare carries the words of the lane that it
mirrors, else training blocks of role 2 (R237, R265). -/
def State.sendFrame (s : State) (side : Side) (p : Fin 64) (l : LinkId) (frame : Bytes) : State :=
  let e := s.linkEnd side p l
  let ws := wordsOf frame
  let ev := throughWords scramble e.scrEven (alternate ws)
  let od := throughWords scramble e.scrOdd (alternate (ws.drop 1))
  let s1 := (s.onEnd side p l fun e => { e with scrEven := ev.1, scrOdd := od.1 }).emit (.dtcLink side p l) frame
  let s2 := (s1.emit (.laneWords side p l e.txMap.even) (bytesOf ev.2)).emit (.laneWords side p l e.txMap.odd) (bytesOf od.2)
  match e.txSwap.lane with
  | some x => s2.emit (.laneWords side p l e.txMap.spare) (bytesOf (if x = e.txMap.even then ev.2 else od.2))
  | none => s2.sendTraining side p l [e.txMap.spare]

/-- FLAGS of a frame that is not journalled: ACTIVE downstream (R241). -/
def State.frameFlags (s : State) : Side → Nat
  | .agg => if s.active then 1 else 0
  | .dtc => 0

/-- A frame of the unjournalled count: unjournalled, or idle where it carries nothing (R241). -/
def State.sendCounted (s : State) (side : Side) (p : Fin 64) (l : LinkId) (payload : Bytes) : State :=
  let e := s.linkEnd side p l
  (s.onEnd side p l fun e => { e with txSeq := e.txSeq + 1 }).sendFrame side p l
    (linkFrame (if payload.isEmpty then 3 else 2) (s.frameFlags side) e.txSeq payload)

/-! ## Leaving service (R243, R253, R259) -/

/-- The journal stops when no link is in service or held (R255). -/
def Dtc.stopJournal (d : Dtc) : Dtc :=
  if d.la.e.lives || d.lb.e.lives then d else { d with journal := { d.journal with running := false } }

/-- Release the frames that every link in service or held has acknowledged (R253). -/
def Dtc.release (d : Dtc) : Dtc :=
  let acked (k : DtcLink) (f : JFrame) : Bool := !k.e.lives || seqAfter k.acked f.seq
  if d.la.e.lives || d.lb.e.lives then
    { d with journal := { d.journal with frames := d.journal.frames.filter fun f => !(acked d.la f && acked d.lb f) } }
  else d

/-- A held link becomes out of service at once where the journal is full and another link is in service (R253). -/
def Dtc.dropHeld (d : Dtc) : Dtc :=
  if d.journal.frames.length < 512 then d
  else
    let end_ (k o : DtcLink) : DtcLink := if k.e.st == .held && o.e.st == .inService then { k with e := { k.e with st := .training } } else k
    ({ d with la := end_ d.la d.lb, lb := end_ d.lb d.la }).release

/-- The open records of the unjournalled classes end as incomplete (R242, R243). -/
def LinkEnd.dropOpen (e : LinkEnd) : LinkEnd := { e with records := [], incomplete := e.incomplete + e.records.length }

/-- The VERB record that was being sent goes back whole before those that wait (R243); a trace record is lost (R227). -/
def DtcLink.unsend (k : DtcLink) : DtcLink :=
  let k1 := match Tbl.find? 0x21 k.e.txOpen with
    | some t => if byteAt t.data 2 / 2 % 2 = 1 then { k with replies := t.data :: k.replies } else { k with sentences := t.data :: k.sentences }
    | none => k
  { k1 with e := { k1.e.dropOpen with txOpen := [] }, traceOut := [] }

/-- The trace records that no link carries any more are no longer awaited by a flush. -/
def Dtc.forgetTrace (d : Dtc) (lost : List Nat) : Dtc :=
  { d with trace := { d.trace with flush := d.trace.flush.map fun f => { f with recs := f.recs.filter fun n => !lost.contains n } } }

/-- What a link leaving service does at its end: every open record of the link ends, at the aggregator those of the journalled classes too (R243);
waiting control segments and VERB records take the other path. -/
def State.leaveService (s : State) (side : Side) (p : Fin 64) (l : LinkId) : State :=
  match side with
  | .dtc => (s.onDtc p fun d =>
    let k := d.link l
    let o := d.link (otherLink l)
    let lost := (k.traceOut.map (·.1) ++ ((Tbl.find? 0x20 k.e.txOpen).map fun t => [t.num]).getD []).filter fun n => !o.holdsTrace n
    let k1 := k.unsend
    let d1 := if o.e.st == .inService then
        (d.setLink l { k1 with replies := [], sentences := [], e := { k1.e with ctrlOut := [] } }).setLink (otherLink l)
          { o with replies := o.replies ++ k1.replies, sentences := o.sentences ++ k1.sentences
                   e := { o.e with ctrlOut := o.e.ctrlOut ++ k1.e.ctrlOut.map fun c => putAt c 2 (be 1 1) } }
      else d.setLink l k1
    ((d1.forgetTrace lost).irq (2 + linkCode l)).stopJournal.release.dropHeld).endFlushes (.dtc p)
  | .agg =>
    let a := s.port p
    let back := ((Tbl.find? 0x21 a.e.txOpen).map fun t => [t.data]).getD []
    let e1 := { a.e.dropOpen with txOpen := [], incomplete := a.e.incomplete + a.e.records.length + a.jopen.length }
    if s.pair.partnerUp then
      let s1 := s.setPort p { a with e := { e1 with ctrlOut := [] }, verbOut := [], replyOut := [], jopen := [] }
      let s2 := a.e.ctrlOut.foldl (fun t c => t.emit (.linkControl .agg p l (byteAt c 0)) (putAt c 2 (be 1 1))) s1
      (back ++ a.verbOut ++ a.replyOut).foldl (fun t r => t.emit (.dtcVerb .agg p l) r) s2
    else s.setPort p { a with e := e1, verbOut := back ++ a.verbOut, jopen := [] }

/-- End the swap that a receiving end runs (R265). -/
def State.endSwap (s : State) (side : Side) (p : Fin 64) (l : LinkId) (abandoned : Nat) : State :=
  let e := s.linkEnd side p l
  let s1 := s.onEnd side p l fun e => { e with rxSwap := .none }
  match e.rxSwap.ticket with
  | some t => s1.final (sidePart side p) t St.ok (be 1 e.rxMap.byte ++ be 1 abandoned)
  | none => s1

/-- A retrain (R239, R263): a data lane without lock or in alarm gives its role to the spare; a link in service is held for its first
100 us (R253). `cause` counts the causes of R263 in their order. `tell`: this side starts it, and sends LINK_CTRL RETRAIN in a frame of the link
where that carries frames; else training blocks go out already. -/
def State.retrain (s : State) (side : Side) (p : Fin 64) (l : LinkId) (cause : Nat) (tell : Bool) : State :=
  let e := s.linkEnd side p l
  if e.st == .down || e.st == .test then s
  else
    let told := if tell && e.framing then s.sendCounted side p l (control 0x02 (linkCtrl 6 0 0 l 0 0)) else s
    let s0 := told.endSwap side p l 1
    let bad (x : Nat) : Bool := !(e.lane x).lock || (e.lane x).alarm
    let map (m : LaneMap) : LaneMap := if bad m.even && !bad m.odd then m.retire m.even else if bad m.odd && !bad m.even then m.retire m.odd else m
    let s1 := s0.onEnd side p l fun e =>
      { e with st := if e.st == .inService then .held else e.st, heldSince := if e.st == .inService then s.nowOf (sidePart side p) else e.heldSince, framing := false,
               firstIdle := false, aligned := false, alignedIn := 0, startOk := false, retrains := satInc 64 e.retrains, rxMap := map e.rxMap, txSwap := .none, rxSeq := none,
               hcrcRun := 0, lanes := e.lanes.map fun k => (k.1, { k.2 with blocks := 0 }) }
    let s2 := if e.st == .inService then s1.leaveService side p l else s1
    if side == .agg then s2.raise 2 0x0402 3 (be 1 p.val ++ be 1 (linkCode l) ++ [Config.causeCode 0x0402 cause]) else s2

/-! ## Training (R238, R239) -/

/-- The lanes that the far end excludes by its GOOD bits. -/
def excluded (good : BitVec 3) : List Nat := (List.range 3).filter fun i => !good.getLsbD i

/-- One training block on a lane (R239). -/
def LinkEnd.block (e : LinkEnd) (side : Side) (lane : Nat) (w0 w1 : Word) : LinkEnd :=
  let k := e.lane lane
  if w0.toNat / 4 != 0x7E3C5A00 / 4 || w0.toNat % 4 = 3 then e.setLane lane { k with blocks := 0 }
  else
    let role := w0.toNat % 4
    let n := min 4 (k.blocks + 1)
    let e1 := e.setLane lane { k with blocks := n, role := role, lock := if side == .agg then decide (4 ≤ n) || k.lock else k.lock }
    let find (r : Nat) : Option Nat := (List.range 3).find? fun i => (e1.lane i).blocks = 4 && (e1.lane i).role = r
    let map : LaneMap := match find 0, find 1 with
      | some a, some b => { even := a, odd := b, spare := 3 - a - b }
      | _, _ => e1.rxMap
    let aligned := match find 0, find 1 with
      | some a, some b => (e1.lane a).lock && (e1.lane b).lock
      | _, _ => false
    let good := w1.extractLsb' 1 3
    let out := excluded good
    let tx := match out with
      | [x] => e1.txMap.retire x
      | _ => e1.txMap
    let seen := if role != 0 then e1.alignedIn else if w1.getLsbD 0 then min 16 (e1.alignedIn + 1) else 0
    { e1 with rxMap := map, txMap := tx, aligned := aligned, alignedIn := seen, good := good
              framing := aligned && decide (16 ≤ seen) && decide (out.length ≤ 1) }

/-- A side's end carries frames: its first is an idle frame (R239), and the aggregator sends RESUME (R255). -/
def State.framesBegin (s : State) (side : Side) (p : Fin 64) (l : LinkId) : State :=
  match side with
  | .dtc => s.onDtc p fun d => d.onLink l fun k => { k with e := { k.e with beaconOk := false, firstIdle := true } }
  | .agg =>
    let a := s.port p
    let seq : Word := if a.hasState then a.next else 0xFFFFFFFF
    (s.setPort p { a with lastResume := seq, e := { a.e with firstIdle := true } }).sendCtrl .agg p l 2 0 seq

/-- The PRBS31 checker of a lane takes words 2 to 31 of a block (R159). -/
def LinkEnd.checkPrbs (e : LinkEnd) (lane : Nat) (rest : Bytes) : LinkEnd :=
  let k := e.lane lane
  let q := prbsCheck k.prbsRx (wordsOf rest)
  e.setLane lane { k with prbsRx := q.1, prbsErrors := satAdd 32 k.prbsErrors q.2 }

/-- Near-end loopback at the lane word (R159): the end's receiver takes its own training blocks. A test carries no frames and keeps the map sent. -/
def LinkEnd.loopBack (e : LinkEnd) (side : Side) : LinkEnd :=
  (List.range 3).foldl (fun e i =>
    let w := e.trainingWords i
    { e.block side i (BitVec.ofNat 32 (fld w 0 4)) (BitVec.ofNat 32 (fld w 4 4)) with framing := false, txMap := e.txMap }) e

/-- TRAINING_BLOCK_RECEIVE: training blocks in place of frames retrain the link (R263). A link under the PRBS31 test only checks their words 2 to 31,
`rest` (log entry 322), and one under the loopback test does not hear the far end. -/
def execTrainingBlockReceive (q : PortEnd) (l : LinkId) (lane : Fin 3) (word0 word1 : Word) (rest : Bytes) (s : State) := finish s (
  let e := s.linkEnd q.side q.p l
  if !s.hasEnd q.side q.p l || e.outOfService then s
  else if e.st == .test then
    if e.testMode = 1 then s.onEnd q.side q.p l fun e => e.checkPrbs lane.val rest else s
  else
    let s1 := if e.framing && e.st == .inService then s.retrain q.side q.p l 4 false else s
    let s2 := s1.onEnd q.side q.p l fun e =>
      let b := e.block q.side lane.val word0 word1
      { b with st := if b.st == .down then .training else b.st }
    if (s2.linkEnd q.side q.p l).framing && !(s1.linkEnd q.side q.p l).framing then s2.framesBegin q.side q.p l else s2)

/-- LANE_LOCK_CHANGE (R155, R263): the PHY latencies are sampled on a rise; loss on a data lane retrains the link unless a swap of another
lane is in progress. -/
def execLaneLockChange (q : PortEnd) (lane : Fin 6) (lock : Bool) (txlat rxlat : BitVec 16) (s : State) := finish s (
  let l : LinkId := if lane.val < 3 then .a else .b
  let x := lane.val % 3
  let e := s.linkEnd q.side q.p l
  if !s.hasEnd q.side q.p l then s
  else if lock then
    s.onEnd q.side q.p l fun e =>
      let e1 := e.setLane x { e.lane x with lock := true, txlat := txlat, rxlat := rxlat }
      { e1 with st := if e1.st == .down && !e1.outOfService then .training else e1.st }
  else
    let s1 := s.onEnd q.side q.p l fun e => e.setLane x { e.lane x with lock := false, blocks := 0 }
    let swapOther := match e.rxSwap.lane with
      | some y => y != x
      | none => false
    if e.st == .inService && e.rxMap.isData x && !swapOther then s1.retrain q.side q.p l 3 true else s1)

/-- LINK_ENTER_SERVICE (R239, R246, R136, R530): a DTC end after a BEACON and its START, an aggregator's end after the START it took. The
aggregator then sends the kept SET_OID, the pin and GET_VERSION before the sentences that wait. -/
def State.enterService (s : State) (side : Side) (p : Fin 64) (l : LinkId) : State :=
  let e := s.linkEnd side p l
  if !s.hasEnd side p l || !e.framing || !e.startOk || e.st == .inService || e.outOfService then s
  else
    let s1 := s.onEnd side p l fun e => { e with st := .inService }
    match side with
    | .dtc =>
      if e.beaconOk then
        s1.onDtc p fun d => (Dtc.irq { d with journal := { d.journal with baseOwed := true } } (2 + linkCode l)).dropHeld
      else s
    | .agg =>
      let waiting := (s1.port p).verbOut
      let s1 := s1.onPort p fun a => { a with verbOut := [] }
      let own (tag : Nat) : Sentence := ⟨.agg, .mailbox, 3, BitVec.ofNat 32 tag, 0, 0, 0, []⟩
      let f (t : State) : Nat := Tbl.get 1 p.val t.verbs.nextFtag
      let kept := Tbl.get 0 p.val s1.verbs.keptOid
      let s2 := if kept = 0 then s1
        else (s1.forward p 0x0005 { own (f s1) with flags := 0x0B, params := be 4 kept } (BitVec.ofNat 32 kept)).1
      let pin := Tbl.get 0 p.val s2.dev.dtcPins
      let target := BitVec.ofNat 32 (if kept = 0 then Tbl.get 1 p.val s2.verbs.knownOid else kept)
      let s3 := if pin = 0 then s2
        else (s2.forward p 0x0905 { own (f s2) with flags := 0x0B, params := be 1 (pin - 1) ++ zeros 3 } target).1
      ((s3.forward p 0x0001 (own (f s3)) target).1).onPort p fun a => { a with verbOut := a.verbOut ++ waiting }

def execLinkEnterService (side : Side) (p : Fin 64) (l : LinkId) (s : State) := finish s (s.enterService side p l)

/-- LINK_LEAVE_SERVICE (R253): by retrain or loss of lock, so the link is held. -/
def execLinkLeaveService (side : Side) (p : Fin 64) (l : LinkId) (s : State) := finish s (
  let e := s.linkEnd side p l
  if s.hasEnd side p l && e.st == .inService then
    (s.onEnd side p l fun e => { e with st := .held, heldSince := s.nowOf (sidePart side p), framing := false, aligned := false, alignedIn := 0,
                                        startOk := false, rxSeq := none }).leaveService side p l
  else s)

/-- A held link becomes out of service: its frames are no longer waited for (R253). -/
def State.endHold (s : State) (side : Side) (p : Fin 64) (l : LinkId) : State :=
  let s1 := s.onEnd side p l fun e => { e with st := .training }
  match side with
  | .agg => s1
  | .dtc => s1.onDtc p fun d => d.stopJournal.release

def execLinkHoldExpiry (side : Side) (p : Fin 64) (l : LinkId) (s : State) := finish s (
  let e := s.linkEnd side p l
  if s.hasEnd side p l && e.st == .held && e.heldSince + 100000 ≤ s.nowOf (sidePart side p) then s.endHold side p l else s)

/-- A part's current millisecond of service time (R263, R616). -/
def State.msIndex (s : State) : Side → Fin 64 → Nat
  | .agg, _ => (if s.timeValid then s.svcNs else s.now) / 1000000
  | .dtc, p => (let d := s.dtc p; if d.time.valid then nsOf d.time.time else d.now) / 1000000

def execFcrcWindowEnd (side : Side) (p : Fin 64) (l : LinkId) (s : State) := finish s (
  let i := s.msIndex side p
  if s.hasEnd side p l && (s.linkEnd side p l).windowIndex < i then
    s.onEnd side p l fun e => { e with window := 0, windowIndex := i }
  else s)

def execLinkCtrlRetrainReceive (side : Side) (p : Fin 64) (l : LinkId) (s : State) := finish s (
  if s.hasEnd side p l then s.retrain side p l 5 false else s)

/-! ## Lane swaps of a link (R264, R265) -/

/-- The receiver starts a swap: SWAP_REQ. -/
def State.startSwap (s : State) (side : Side) (p : Fin 64) (l : LinkId) (lane : Nat) (t : Option Ticket) : State :=
  (s.onEnd side p l fun e => { e with rxSwap := .asked lane t }).sendCtrl side p l 3 lane

/-- A margin that has stayed below the threshold for 1 ms (R264). -/
def State.linkMargin (s : State) (side : Side) (p : Fin 64) (l : LinkId) (lane : Nat) (margin : Byte) : State :=
  let e := s.linkEnd side p l
  if !s.hasEnd side p l || 3 ≤ lane then s
  else
    let low := margin.toNat < e.threshold
    let s1 := s.onEnd side p l fun e => e.setLane lane { e.lane lane with margin := margin, alarm := low }
    if low && e.autoSwap && e.rxMap.isData lane && !(e.lane e.rxMap.spare).alarm && e.rxSwap == .none && e.st == .inService then
      s1.startSwap side p l lane none
    else s1

/-- SWAP_REQ at the transmitter. -/
def State.linkSwapReq (s : State) (side : Side) (p : Fin 64) (l : LinkId) (lane : Nat) : State :=
  let e := s.linkEnd side p l
  if !s.hasEnd side p l || 3 ≤ lane then s
  else if e.txSwap != .none then s.onEnd side p l fun e => { e with ignoredSwaps := satInc 32 e.ignoredSwaps }
  else if !e.txMap.isData lane then s
  else (s.onEnd side p l fun e => { e with txSwap := .mirroring lane (s.nowOf (sidePart side p)) none }).sendCtrl side p l 4 lane

/-- SWAP_MIRROR at the receiver: when the words match it takes the lane's role from the spare and sends SWAP_DONE. -/
def State.linkSwapMirror (s : State) (side : Side) (p : Fin 64) (l : LinkId) (lane : Nat) (matched : Bool) : State :=
  let e := s.linkEnd side p l
  if !s.hasEnd side p l then s
  else match e.rxSwap with
    | .asked x t =>
      if x != lane then s
      else if matched then
        let s1 := s.onEnd side p l fun e => { e with rxMap := e.rxMap.retire x, swaps := satInc 64 e.swaps }
        (s1.endSwap side p l 0).sendCtrl side p l 5 x
      else s.onEnd side p l fun e => { e with rxSwap := .mirroring x (s.nowOf (sidePart side p)) t }
    | .mirroring x _ _ =>
      if x = lane && matched then
        let s1 := s.onEnd side p l fun e => { e with rxMap := e.rxMap.retire x, swaps := satInc 64 e.swaps }
        (s1.endSwap side p l 0).sendCtrl side p l 5 x
      else s
    | .none => s

/-- SWAP_DONE at the transmitter; none is LANE 255, an abandoned swap. -/
def State.linkSwapDone (s : State) (side : Side) (p : Fin 64) (l : LinkId) (lane : Option Nat) : State :=
  if !s.hasEnd side p l then s
  else s.onEnd side p l fun e =>
    match e.txSwap.lane with
    | none => e
    | some x => if lane = some x then { e with txMap := e.txMap.retire x, txSwap := .none }
                else if lane = none then { e with txSwap := .none } else e

/-- The words have not matched within 10 us of SWAP_MIRROR. -/
def State.linkSwapTimeout (s : State) (side : Side) (p : Fin 64) (l : LinkId) : State :=
  match (s.linkEnd side p l).rxSwap with
  | .mirroring _ since _ =>
    if s.hasEnd side p l && since + 10000 ≤ s.nowOf (sidePart side p) then (s.endSwap side p l 1).sendCtrl side p l 5 255 else s
  | _ => s

end Sys2Proof.Machine
end

