-- ==== Sys2Proof/Machine/Time.lean ====
section
/-! DEFINITION. Fleet time (chapter 02): the time verbs at both parts, triggers and captures, the selection state machine and its
events, 1PPS and ToD, PTP, ESMC and the frequency reference, and the tick of the clocks. -/

namespace Sys2Proof.Machine
open Sys2Proof

/-! ## Edges of trigger programs (R83 to R86), in 1/65,536 ns of service time -/

/-- The instant of edge n: start + n × period exactly, then truncated to the 125 ps grid. The low 13 bits of a start are ignored (R49). -/
def TrigProg.edge (g : TrigProg) (n : Nat) : Nat :=
  let start := stampFrac g.start / 8192 * 8192
  let period := g.periodNs.toNat * 65536 + g.periodFrac.toNat
  if g.mode = 2 then (start + n * period) / 8192 * 8192 else start

/-- The first edge number whose exact instant is at or after t (R84). -/
def TrigProg.firstFrom (g : TrigProg) (t : Nat) : Nat :=
  let start := stampFrac g.start / 8192 * 8192
  let period := g.periodNs.toNat * 65536 + g.periodFrac.toNat
  if g.mode = 2 && start < t && period ≠ 0 then ceilDiv (t - start) period else 0

/-- Edge n exists: every n of a periodic program, n = 0 of a one-shot. -/
def TrigProg.has (g : TrigProg) (n : Nat) : Bool := g.mode == 2 || (g.mode == 1 && n == 0)

/-- A timebase count in 1/65,536 ns. -/
def frac16 (t : Nat) : Nat := t / 2 ^ 32

/-- The stamp of an edge. -/
def edgeStamp (t flags : Nat) : Stamp := stampOf (t * 2 ^ 32) flags

/-- 2 us in 1/65,536 ns. -/
def twoUs16 : Nat := 2000 * 65536

/-- The next edge of a replaced program, before its successor governs (R85). -/
def OldProg.edge? (o : OldProg) : Option Nat :=
  if o.prog.has o.next && o.prog.edge o.next < o.until_ then some (o.prog.edge o.next) else none

/-- The next edge that will occur, if any, and the pulse width of its program: of the oldest program that still has edges, at last of the
program in force (R85). -/
def Trigger.next (t : Trigger) : Option (Nat × Nat) :=
  match t.olds.dropWhile fun o => o.edge?.isNone with
  | o :: _ => some (o.prog.edge o.next, o.prog.width.toNat)
  | [] => if t.prog.has t.nextEdge then some (t.prog.edge t.nextEdge, t.prog.width.toNat) else none

/-- The trigger once its next edge is taken. -/
def Trigger.advance (t : Trigger) : Trigger :=
  match t.olds.dropWhile fun o => o.edge?.isNone with
  | o :: os => { t with olds := { o with next := o.next + 1 } :: os }
  | [] => { t with olds := [], nextEdge := t.nextEdge + 1 }

/-- Take a new program at instant t (R84, R85). While time is not valid it waits (R86). -/
def Trigger.take (k : Trigger) (g : TrigProg) (valid : Bool) (t : Nat) : Trigger :=
  if valid then
    { k with olds := if k.prog.mode = 0 then k.olds else k.olds ++ [⟨k.prog, k.nextEdge, t + twoUs16⟩],
             prog := g, governsFrom := t + twoUs16, nextEdge := g.firstFrom (t + twoUs16), waiting := false }
  else { k with prog := g, waiting := g.mode ≠ 0, olds := [], pulses := [], level := false, nextEdge := 0 }

/-- Time first becomes valid at instant t: a periodic program starts as R84 sets, a one-shot that lies at least 2 us ahead is kept,
any other is discarded (R86). -/
def Trigger.becomeValid (k : Trigger) (t : Nat) : Trigger × Bool :=
  if !k.waiting then (k, false)
  else if k.prog.mode = 1 && k.prog.edge 0 < t + twoUs16 then ({ k with prog := { k.prog with mode := 0 }, waiting := false }, true)
  else ({ k with waiting := false, governsFrom := t + twoUs16, nextEdge := k.prog.firstFrom (t + twoUs16) }, false)

/-- The active level of the output pin. -/
def Trigger.pin (k : Trigger) : Bool := k.level != k.prog.activeLow

/-- Every edge due by instant t, each the start of a pulse (R83, R85). Fuel bounds the edges taken. -/
def Trigger.runTo (t : Nat) : Nat → Trigger → Trigger
  | 0, k => k
  | f + 1, k =>
    match k.next with
    | some e => if e.1 ≤ t then Trigger.runTo t f { k.advance with pulses := (e.1 + e.2 * 65536) :: k.pulses } else k
    | none => k

/-- The trigger at instant t after its due edges and pulse ends. -/
def Trigger.settle (k : Trigger) (t : Nat) : Trigger :=
  let k1 := k.runTo t 64
  let ps := k1.pulses.filter (t < ·)
  { k1 with pulses := ps, level := !ps.isEmpty }

/-- The pulses, as start and end, of the edges due by instant t. Fuel bounds the edges taken. -/
def Trigger.begun (t : Nat) : Nat → Trigger → List (Nat × Nat)
  | 0, _ => []
  | f + 1, k =>
    match k.next with
    | some e => if e.1 ≤ t then (e.1, e.1 + e.2 * 65536) :: Trigger.begun t f k.advance else []
    | none => []

/-- Put an instant in its place in an ascending list, once. -/
def placeInstant (n : Nat) (l : List Nat) : List Nat := l.takeWhile (· < n) ++ [n] ++ l.dropWhile (· ≤ n)

/-- Where the output changes by instant t: each instant at which the union of its pulses begins or ends, and whether a pulse is then in progress
(R83, R85). A pulse that begins and ends by t is two changes. -/
def Trigger.changes (k : Trigger) (t : Nat) : List (Nat × Bool) :=
  let ps := k.pulses.map (fun e => (0, e)) ++ k.begun t 64
  let instants := (ps.map (·.1) ++ ps.map (·.2)).foldl (fun l n => if 0 < n && n ≤ t then placeInstant n l else l) []
  (instants.foldl (fun (a : Bool × List (Nat × Bool)) n =>
    let on := ps.any fun p => p.1 ≤ n && n < p.2
    (on, if on == a.1 then a.2 else a.2 ++ [(n, on)])) (k.level, [])).2

/-! ## Step 11 checks of the time verbs -/

/-- SET_INCREMENT: 0.9995 ns to 1.0005 ns at the aggregator (R52), 4.0 ns to 20.0 ns at the DTC (R77). -/
def incrementValid (w : Part) (x : Sentence) : Bool :=
  let v := x.f 8 8
  match w with
  | .agg => x.b 0 < 2 && 1999 * unit ≤ 2000 * v && 2000 * v ≤ 2001 * unit
  | .dtc _ => x.b 0 == 2 && 4 * unit ≤ v && v ≤ 20 * unit

/-- The domain byte of a part (R90). -/
def domainByteValid (w : Part) (b : Nat) : Bool :=
  match w with
  | .agg => b < 2
  | .dtc _ => b == 2

def nsecValid (x : Sentence) (off : Nat) : Bool := x.f (off + 8) 4 < 1000000000

/-- PHASE_ADD: magnitude below 1 s (R55). -/
def phaseValid (w : Part) (x : Sentence) : Bool := domainByteValid w (x.b 0) && (sfld64 x.params 8).natAbs < 65536000000000

def triggerCount (w : Part) : Nat := match w with | .agg => 8 | .dtc _ => 16

/-- SET_TRIGGER: only the fields that the mode uses are checked (R83, R91). -/
def triggerValid (w : Part) (x : Sentence) : Bool :=
  let mode := x.b 1
  let width := x.f 28 4
  let period := x.f 20 4 * 65536 + x.f 24 2
  x.b 0 < triggerCount w && mode ≤ 2 && x.b 2 ≤ 1 &&
    (mode == 0 || (nsecValid x 4 && 1 ≤ width && width ≤ 65535 && (mode == 1 || (8 * 65536 ≤ period && width * 65536 < period))))

def freqCandidateValid (b : Nat) : Bool := b < 16 || b == 32 || b == 33 || b == 255

/-- SET_ASYMMETRY's port byte (R90). -/
def asymPortValid (w : Part) (p : Nat) : Bool :=
  match w with
  | .agg => p < 18 || (32 ≤ p && p < 96)
  | .dtc _ => p < 2

def domainStateValid (x : Sentence) : Bool :=
  let kind := x.b 3
  x.b 0 < 2 && x.b 2 ≤ 7 && kind ≤ 2 && (kind != 1 || (24 ≤ x.b 4 && x.b 4 ≤ 43)) && (kind != 2 || x.b 4 < 2) &&
    10 ≤ x.f 8 4 && x.f 8 4 ≤ 60000

/-! ## The verbs -/

/-- Domain stamps of GET_TIME (R90). -/
def domainStamp (d : Domain) (code : Nat) : Stamp := stampOf d.base (flagWord d.wasSet false false code d.cls)

def getTimeBody (x : Sentence) (s : State) : State × Answer :=
  match x.part with
  | .agg => (s, .final St.ok (stampBytes s.stamp ++ stampBytes (domainStamp s.time.domA 0) ++ stampBytes (domainStamp s.time.domB 1)
      ++ be 2 s.time.utcOffset.toNat ++ zeros 6))
  | .dtc p => (s, .final St.ok (stampBytes (s.dtc p).stamp))

/-- The DTC takes its time verbs only from the followed link (R257). -/
def fromFollowed (s : State) (p : Fin 64) (x : Sentence) : Bool :=
  x.req == .mailbox || match findTag (s.dtc p).tags x.req x.tag with
    | some e => match e.link with
      | some l => l == (s.dtc p).followed
      | none => true
    | none => true

/-- A time correction that arrives on the followed link after a time record ends holdover (R80); one from the mailbox does not. -/
def Dtc.corrected (req : Requester) (d : Dtc) : Dtc :=
  if d.time.recordSinceHold && req != .mailbox then { d with time := { d.time with hold := false } } else d

def idx2 (n : Nat) : Fin 2 := if n = 0 then 0 else 1

def setIncrementBody (x : Sentence) (s : State) : State × Answer :=
  let v := BitVec.ofNat 64 (x.f 8 8)
  match x.part with
  | .agg =>
    let d := idx2 (x.b 0)
    (s.setDomain d { s.domain d with incr := v, lastWrite := s.now }, .final St.ok)
  | .dtc p =>
    if !fromFollowed s p x then (s, .final St.state)
    else (s.onDtc p fun d => Dtc.corrected x.req { d with time := { d.time with incr := v } }, .final St.ok)

/-- Whether service time follows domain d (R62, R66). -/
def State.follows (s : State) (d : Fin 2) : Bool :=
  (s.time.sel.st == .track || s.time.sel.st == .switch) && s.time.sel.followed == d

/-- A residual in 1/65,536 ns, as replies carry it. -/
def residual16 (r : Int) : Nat := ofSigned 64 (r.tdiv ((2 ^ 32 : Nat) : Int))

/-- Add p (1/65,536 ns) to a domain; service time does not move: the residual takes it up (R55, R63). -/
def State.phaseAdd (s : State) (d : Fin 2) (p : Int) : State :=
  let v := p * ((2 ^ 32 : Nat) : Int)
  let dm := s.domain d
  let s1 := s.setDomain d { dm with base := ((dm.base : Int) + v).toNat, lastWrite := s.now }
  if s.follows d then { s1 with time := { s1.time with sel := { s1.time.sel with residual := s1.time.sel.residual - v } } } else s1

def phaseAddBody (x : Sentence) (s : State) : State × Answer :=
  let p := sfld64 x.params 8
  match x.part with
  | .agg =>
    let s1 := s.phaseAdd (idx2 (x.b 0)) p
    (s1, .final St.ok (be 8 (residual16 s1.time.sel.residual)))
  | .dtc q =>
    if !fromFollowed s q x then (s, .final St.state)
    else
      let s1 := s.onDtc q fun d => Dtc.corrected x.req { d with time := { d.time with residual := d.time.residual - p * ((2 ^ 32 : Nat) : Int) } }
      (s1, .final St.ok (be 8 (residual16 (s1.dtc q).time.residual)))

/-- Run every trigger of a table through the start of valid time (R86); the indices of the programs discarded. -/
def startTriggers (t : Nat) (ts : Tbl Trigger) : Tbl Trigger × List Nat :=
  ts.foldl (fun a e =>
    let r := e.2.becomeValid t
    (Tbl.set {} e.1 r.1 a.1, if r.2 then a.2 ++ [e.1] else a.2)) (ts, [])

/-- The DTC's time is set: VALID, triggers start, a zero activation stamp counts from here (R79, R86, R180). -/
def Dtc.setTime (d : Dtc) (t : Nat) : Dtc :=
  let r := startTriggers (frac16 t) d.time.trig
  let due := tickAtOrAfter d.epoch (t + twoUs)
  { d with time := { d.time with time := t, valid := true, validAt := t, trig := r.1 }
           cnt := { d.cnt with lastTick := (t - 1) / (d.epoch * unit) * (d.epoch * unit), pending := d.cnt.pending.map fun e => match e.1 with
                      | none => (some due, e.2)
                      | some u => (some u, e.2) } }

def setTimeBody (x : Sentence) (s : State) : State × Answer :=
  let t := ofStamp (stampAt x.params 16)
  match x.part with
  | .agg =>
    let d := idx2 (x.b 0)
    if s.follows d then (s, .final St.state)
    else (s.setDomain d { s.domain d with base := t, wasSet := true }, .final St.ok)
  | .dtc p =>
    if (x.req != .mailbox && !fromFollowed s p x) || (s.dtc p).time.valid then (s, .final St.state)
    else (s.onDtc p fun d => d.setTime t, .final St.ok)

/-- The binding that SET_DOMAIN_STATE names (R90). -/
def bindingOf (x : Sentence) : Binding :=
  match x.b 3 with
  | 1 => .ptp (BitVec.ofNat 8 (x.b 4))
  | 2 => .pps (idx2 (x.b 4))
  | _ => .unbound

/-- The other domain already has that source (R59). -/
def State.boundTwice (s : State) (x : Sentence) : Bool :=
  bindingOf x != .unbound && (s.domain (1 - idx2 (x.b 0))).binding == bindingOf x

def setDomainStateBody (x : Sentence) (s : State) : State × Answer :=
  let d := idx2 (x.b 0)
  let b := bindingOf x
  if s.boundTwice x then (s, .final St.param)
  else
    let dm := s.domain d
    let q := x.b 1 % 2 == 1
    (s.setDomain d { dm with qualified := q, hostDisciplines := x.b 1 / 2 % 2 == 1, cls := x.b 2, binding := b,
                             watchdogMs := x.f 8 4, lastWrite := s.now,
                             lastPulse := if b != dm.binding || q then s.now else dm.lastPulse }, .final St.ok)

def setSelectionBody (x : Sentence) (s : State) : State × Answer :=
  let k := s.time.sel
  ({ s with time := { s.time with sel := { k with mode := x.b 0, preferred := idx2 (x.b 1), wtrSec := x.f 4 4, slewRate := x.f 8 4,
                                                   forced := true } } }, .final St.ok)

def SelState.code : SelState → Nat
  | .init => 0 | .track => 1 | .switch => 2 | .hold => 3

/-- Remaining wait-to-restore time (R67, R90), rounded down to whole milliseconds, and 0 while the time does not run (DESIGN CHOICE, log entry
304: R90 gives neither). -/
def State.wtrLeft (s : State) : Nat :=
  match s.time.sel.betterSince with
  | some t => (s.time.sel.wtrSec * 1000000000 - (s.now - t)) / 1000000
  | none => 0

/-- GET_SELECTION (R90). In HOLD, where no domain is followed or a target, byte 1 is the domain followed last (DESIGN CHOICE, log entry 305). -/
def getSelectionBody (_ : Sentence) (s : State) : State × Answer :=
  let k := s.time.sel
  (s, .final St.ok (be 1 k.st.code ++ be 1 k.followed.val ++ be 1 k.mode ++
    be 1 ((if s.time.domA.qualified then 1 else 0) + (if s.time.domB.qualified then 2 else 0)) ++
    be 8 (residual16 k.residual) ++ be 4 s.wtrLeft ++ be 4 k.slewRate))

/-- The value that a stamp taken now uses: that of the latest change 1 us old or older (R76). -/
def Asym.at (a : Asym) (now : Nat) : Word :=
  match (a.changes.takeWhile fun c => c.1 ≤ now).getLast? with
  | some c => c.2
  | none => a.old
/-- Write an asymmetry register; stamps use it from 1 us on (R76). -/
def Asym.write (a : Asym) (now : Nat) (v : Word) : Asym :=
  { reg := v, old := a.at now, changes := (a.changes.dropWhile fun c => c.1 ≤ now) ++ [(now + 1000, v)] }

def setAsymmetryBody (x : Sentence) (s : State) : State × Answer :=
  let v := BitVec.ofNat 32 (x.f 4 4)
  let p := x.f 0 2
  match x.part with
  | .agg =>
    ({ s with time := { s.time with asym := Tbl.set {} p ((Tbl.get {} p s.time.asym).write s.now v) s.time.asym } }, .final St.ok)
  | .dtc q =>
    (s.onDtc q fun d =>
      if p = 0 then { d with time := { d.time with asymA := d.time.asymA.write d.now v } }
      else { d with time := { d.time with asymB := d.time.asymB.write d.now v } }, .final St.ok)

/-- The program of SET_TRIGGER's parameters. -/
def progOf (x : Sentence) : TrigProg :=
  { mode := x.b 1, activeLow := x.b 2 == 1, start := stampAt x.params 4, periodNs := BitVec.ofNat 32 (x.f 20 4),
    periodFrac := BitVec.ofNat 16 (x.f 24 2), width := BitVec.ofNat 32 (x.f 28 4) }

/-- Take SET_TRIGGER at a part whose time is t: the trigger after it and the first edge, none where R84 refuses. A program of mode 0 has no edge: its
first edge is an all-zero stamp, whether time is valid or not (DESIGN CHOICE, log entry 302). -/
def takeTrigger (k : Trigger) (g : TrigProg) (valid : Bool) (t flags : Nat) : Option (Trigger × Stamp) :=
  if valid && g.mode = 1 && g.edge 0 < t + twoUs16 then none
  else
    let k1 := k.take g valid t
    let first := if g.mode = 0 then Stamp.zero
      else if valid then edgeStamp (g.edge k1.nextEdge) flags else edgeStamp (stampFrac g.start / 8192 * 8192) flags
    some (k1, first)

/-- The output pin where a new program gives it another inactive level (R83). -/
def State.drivePin (s : State) (part : Part) (i : Nat) (k k1 : Trigger) : State :=
  if k1.pin == k.pin then s else s.emit (.trigger part i k1.pin)

def setTriggerBody (x : Sentence) (s : State) : State × Answer :=
  let i := x.b 0
  let g := progOf x
  match x.part with
  | .agg =>
    match takeTrigger (Tbl.get {} i s.time.trig) g s.timeValid (frac16 s.svc) s.svcFlags with
    | none => (s, .final St.param)
    | some r => (({ s with time := { s.time with trig := Tbl.set {} i r.1 s.time.trig } }).drivePin .agg i (Tbl.get {} i s.time.trig) r.1,
        .final St.ok (stampBytes r.2))
  | .dtc p =>
    let d := s.dtc p
    match takeTrigger (Tbl.get {} i d.time.trig) g d.time.valid (frac16 d.time.time) d.flags with
    | none => (s, .final St.param)
    | some r => ((s.setDtc p { d with time := { d.time with trig := Tbl.set {} i r.1 d.time.trig } }).drivePin (.dtc p) i (Tbl.get {} i d.time.trig) r.1,
        .final St.ok (stampBytes r.2))

/-- The results of GET_TRIGGER (R90). The program in force is the one accepted last, also until R85 lets it govern, beside the next edge that will
occur, which may then be the old program's (DESIGN CHOICE, log entry 303). -/
def triggerResult (i : Nat) (k : Trigger) (flags : Nat) : Bytes :=
  let g := k.prog
  be 1 i ++ be 1 g.mode ++ be 1 (if g.activeLow then 1 else 0) ++ be 1 0 ++ stampBytes (emittedStamp g.start) ++ be 4 g.periodNs.toNat ++
    be 2 g.periodFrac.toNat ++ be 2 0 ++ be 4 g.width.toNat ++
    stampBytes (if g.mode = 0 then Stamp.zero else match k.next with
      | some e => edgeStamp e.1 flags
      | none => Stamp.zero)

def getTriggerBody (x : Sentence) (s : State) : State × Answer :=
  let i := x.b 0
  match x.part with
  | .agg => (s, .final St.ok (triggerResult i (Tbl.get {} i s.time.trig) s.svcFlags))
  | .dtc p => (s, .final St.ok (triggerResult i (Tbl.get {} i (s.dtc p).time.trig) (s.dtc p).flags))

def setCaptureBody (x : Sentence) (s : State) : State × Answer :=
  let i := x.b 0
  match x.part with
  | .agg => ({ s with time := { s.time with cap := Tbl.set {} i { Tbl.get {} i s.time.cap with edges := x.b 1 } s.time.cap } }, .final St.ok)
  | .dtc p => (s.onDtc p fun d =>
      { d with time := { d.time with cap := Tbl.set {} i { Tbl.get {} i d.time.cap with edges := x.b 1 } d.time.cap } }, .final St.ok)

/-- Remove up to n stamps of a capture queue, oldest first, and clear its overflow count (R87). -/
def Capture.read (c : Capture) (n : Nat) : Capture × Bytes :=
  let got := c.queue.take n
  ({ c with queue := c.queue.drop n, overflow := 0 },
   be 1 got.length ++ be 1 0 ++ be 2 c.overflow ++ be 4 0 ++ (got.map stampBytes).flatten)

def readCapturesBody (x : Sentence) (s : State) : State × Answer :=
  let i := x.b 0
  match x.part with
  | .agg =>
    let r := (Tbl.get {} i s.time.cap).read (x.b 1)
    ({ s with time := { s.time with cap := Tbl.set {} i r.1 s.time.cap } }, .final St.ok r.2)
  | .dtc p =>
    let r := (Tbl.get {} i (s.dtc p).time.cap).read (x.b 1)
    (s.onDtc p fun d => { d with time := { d.time with cap := Tbl.set {} i r.1 d.time.cap } }, .final St.ok r.2)

/-- The candidate that the time PLL locks to (R73): in QL-enabled mode the best (least) quality level of those without loss of
signal, list order breaking ties; else the first without loss of signal; with none left the local oscillator. -/
def AggTime.pickFreq (t : AggTime) : Byte :=
  let ok := t.freqList.filter fun c => !(Tbl.get {} c.toNat t.freq).los
  match ok with
  | [] => 255
  | c :: cs =>
    if t.freqQl then
      cs.foldl (fun b d => if (Tbl.get {} d.toNat t.freq).ql.toNat < (Tbl.get {} b.toNat t.freq).ql.toNat then d else b) c
    else c

def AggTime.reselect (t : AggTime) : AggTime := { t with freqSel := t.pickFreq }

def setFreqSourceBody (x : Sentence) (s : State) : State × Answer :=
  ({ s with time := ({ s.time with freqQl := x.b 0 % 2 == 1, freqList := sub x.params 4 (x.b 1) }).reselect }, .final St.ok)

/-- The aggregator is T-GM for a domain that is bound to 1PPS+ToD (R71). -/
def State.grandmaster (s : State) (d : Fin 2) : Bool :=
  match (s.domain d).binding with
  | .pps _ => true
  | _ => false

/-- SET_PTP_PORT (R71, R90). Only a T-GM uses the UTC offset (R90): on a port of another domain the one in force stays (DEDUCED, log entry 307). -/
def setPtpPortBody (x : Sentence) (s : State) : State × Answer :=
  let n := x.b 0
  let p := Tbl.get {} n s.time.ptp
  let r := s.draw
  let s1 := r.2
  let st : Byte := if x.b 1 % 2 == 1 then Config.bmcaState r.1 x.params else 3
  ({ s1 with time := { s1.time with utcOffset := if s.grandmaster (idx2 (x.b 4)) then BitVec.ofNat 16 (x.f 6 2) else s.time.utcOffset,
                                    ptp := Tbl.set {} n { p with params := x.params.take 8, state := st } s1.time.ptp } }, .final St.ok)

/-- The parameters of a PTP port as emitted: byte 5 and the bits of byte 1 that R90 gives no meaning are zero (R10). -/
def PtpPort.emitted (p : PtpPort) : Bytes :=
  be 1 (byteAt p.params 1 % 8) ++ be 1 (byteAt p.params 2) ++ be 1 (byteAt p.params 3) ++ be 1 (byteAt p.params 4) ++ be 1 0 ++ be 2 (fld p.params 6 2)

def getPtpPortBody (x : Sentence) (s : State) : State × Answer :=
  let p := Tbl.get {} (x.b 0) s.time.ptp
  (s, .final St.ok (be 1 (x.b 0) ++ p.emitted ++ be 1 p.state.toNat ++ be 1 p.stepsRemoved.toNat ++ be 2 p.discards ++
    be 8 (ofSigned 64 p.pathDelay) ++ be 8 (ofSigned 64 p.offset)))

/-! ## The verbs' descriptions (R90, R91) -/

def ctxNone (_ : State) (_ : Sentence) : List Touch := []

def vGetTime : Verb := { code := 0x0100, dtc := true, mailbox := 2, standby := .own, zeroLen := fun w _ => match w with | .agg => 56 | .dtc _ => 16 }
def vSetIncrement : Verb := { code := 0x0101, mgmt := true, dtc := true, mailbox := 1, minLen := 16, maxLen := 16, check := incrementValid }
def vPhaseAdd : Verb := { code := 0x0102, mgmt := true, dtc := true, minLen := 16, maxLen := 16, check := phaseValid, zeroLen := fun _ _ => 8, nonIdem := true }
def vSetTime : Verb := { code := 0x0103, mgmt := true, dtc := true, mailbox := 1, minLen := 32, maxLen := 32, check := fun w x => domainByteValid w (x.b 0) && nsecValid x 16 }
def vSetDomainState : Verb := { code := 0x0104, mgmt := true, minLen := 12, maxLen := 12, check := fun _ x => domainStateValid x }
def vSetSelection : Verb := { code := 0x0105, mgmt := true, minLen := 12, maxLen := 12, check := fun _ x => x.b 0 ≤ 3 && x.b 1 ≤ 1 && x.f 4 4 ≤ 3600 && 1 ≤ x.f 8 4 && x.f 8 4 ≤ 10000 }
def vGetSelection : Verb := { code := 0x0106, mgmt := true, standby := .own, zeroLen := fun _ _ => 20 }
def vSetAsymmetry : Verb := { code := 0x0107, mgmt := true, dtc := true, minLen := 8, maxLen := 8, standby := .own, check := fun w x => asymPortValid w (x.f 0 2) }
def vSetTrigger : Verb := { code := 0x0108, mgmt := true, dtc := true, mailbox := 1, minLen := 32, maxLen := 32, standby := .own, check := triggerValid, zeroLen := fun _ _ => 16 }
def vGetTrigger : Verb := { code := 0x0109, mgmt := true, dtc := true, mailbox := 1, minLen := 4, maxLen := 4, standby := .own, check := fun w x => x.b 0 < triggerCount w, zeroLen := fun _ _ => 48 }
def vSetCapture : Verb := { code := 0x010A, mgmt := true, dtc := true, mailbox := 1, minLen := 4, maxLen := 4, standby := .own, check := fun w x => x.b 0 < triggerCount w && x.b 1 ≤ 3 }
def vReadCaptures : Verb := { code := 0x010B, mgmt := true, dtc := true, mailbox := 1, minLen := 4, maxLen := 4, standby := .own, nonIdem := true, check := fun w x => x.b 0 < triggerCount w && 1 ≤ x.b 1 && x.b 1 ≤ 16, zeroLen := fun _ _ => 8 }
def vSetFreqSource : Verb := { code := 0x010C, mgmt := true, minLen := 5, maxLen := 12, check := fun _ x => 1 ≤ x.b 1 && x.b 1 ≤ 8 && x.plen == 4 + x.b 1 && (sub x.params 4 (x.b 1)).all fun b => freqCandidateValid b.toNat }
def vSetPtpPort : Verb := { code := 0x010D, mgmt := true, minLen := 8, maxLen := 8, standby := .own, check := fun _ x => x.b 0 ≤ 16 && x.b 2 ≤ 2 && x.b 4 ≤ 1 }
def vGetPtpPort : Verb := { code := 0x010E, mgmt := true, minLen := 4, maxLen := 4, standby := .own, check := fun _ x => x.b 0 ≤ 16, zeroLen := fun _ _ => 28 }

def execGetTime (x : Sentence) (s : State) := finish s (s.runSentence vGetTime getTimeBody x)
def execSetIncrement (x : Sentence) (s : State) := finish s (s.runSentence vSetIncrement setIncrementBody x)
def execPhaseAdd (x : Sentence) (s : State) := finish s (s.runSentence vPhaseAdd phaseAddBody x)
def execSetTime (x : Sentence) (s : State) := finish s (s.runSentence vSetTime setTimeBody x)
def execSetDomainState (x : Sentence) (s : State) := finish s (s.runSentence vSetDomainState setDomainStateBody x)
def execSetSelection (x : Sentence) (s : State) := finish s (s.runSentence vSetSelection setSelectionBody x)
def execGetSelection (x : Sentence) (s : State) := finish s (s.runSentence vGetSelection getSelectionBody x)
def execSetAsymmetry (x : Sentence) (s : State) := finish s (s.runSentence vSetAsymmetry setAsymmetryBody x)
def execSetTrigger (x : Sentence) (s : State) := finish s (s.runSentence vSetTrigger setTriggerBody x)
def execGetTrigger (x : Sentence) (s : State) := finish s (s.runSentence vGetTrigger getTriggerBody x)
def execSetCapture (x : Sentence) (s : State) := finish s (s.runSentence vSetCapture setCaptureBody x)
def execReadCaptures (x : Sentence) (s : State) := finish s (s.runSentence vReadCaptures readCapturesBody x)
def execSetFreqSource (x : Sentence) (s : State) := finish s (s.runSentence vSetFreqSource setFreqSourceBody x)
def execSetPtpPort (x : Sentence) (s : State) := finish s (s.runSentence vSetPtpPort setPtpPortBody x)
def execGetPtpPort (x : Sentence) (s : State) := finish s (s.runSentence vGetPtpPort getPtpPortBody x)

/-! ## The selection state machine (R61, R64 to R68) -/

/-- Domain d is allowed by the mode (R64). -/
def allowed (mode : Nat) (d : Fin 2) : Bool :=
  match mode with
  | 2 => d == 0
  | 3 => d == 1
  | _ => true

/-- Domain a is better than domain b (R61). -/
def State.better (s : State) (a b : Fin 2) : Bool :=
  let x := s.domain a
  let y := s.domain b
  a != b && x.qualified && (!y.qualified || x.cls < y.cls || (x.cls == y.cls && s.time.sel.preferred == a))

def other (d : Fin 2) : Fin 2 := if d = 0 then 1 else 0

/-- A domain is usable: qualified and allowed. -/
def State.usable (s : State) (d : Fin 2) : Bool := (s.domain d).qualified && allowed s.time.sel.mode d

/-- The usable domain that a start or a return from HOLD takes (R66). -/
def State.candidate (s : State) : Option (Fin 2) :=
  if s.usable 0 && s.usable 1 then some (if s.better 1 0 then 1 else 0)
  else if s.usable 0 then some 0 else if s.usable 1 then some 1 else none

/-- Triggers of the aggregator start when time first becomes valid; each discarded one-shot writes record 0x0103 (R86). -/
def State.startTime (s : State) : State :=
  let old := s.time.trig
  let r := startTriggers (frac16 s.svc) old
  r.2.foldl (fun t i => t.raise 3 0x0103 3 (be 1 i ++ stampBytes (Tbl.get {} i old).prog.start))
    { s with time := { s.time with trig := r.1 } }

/-- Follow domain d by a switch: the residual takes up the difference, so that service time does not step (R63). Only out of HOLD does a zero
residual lead to TRACK at once (R66). -/
def State.switchTo (s : State) (d : Fin 2) : State :=
  let k := s.time.sel
  let r : Int := (k.svc : Int) - ((s.domain d).base : Int)
  { s with time := { s.time with sel := { k with st := if r = 0 ∧ k.st = .hold then .track else .switch, followed := d, residual := r, slewRem := 0,
                                                  slew := r != 0, hold := false, betterSince := none, wtrExpired := false } } }

/-- Enter HOLD: the service timebase keeps its increment in force, the residual is discarded (R66, R68). -/
def State.enterHold (s : State) : State :=
  let k := s.time.sel
  { s with time := { s.time with sel := { k with st := .hold, residual := 0, slewRem := 0, slew := false, hold := true,
                                                  holdQual := (s.domain k.followed).cls, betterSince := none, wtrExpired := false } } }

/-- The record of a transition (R575, 0x0102). -/
def State.transitionRecord (s t : State) : State :=
  if s.time.sel.st == t.time.sel.st && s.time.sel.followed == t.time.sel.followed then t
  else t.raise 3 0x0102 3 (be 1 s.time.sel.st.code ++ be 1 t.time.sel.st.code ++ be 1 t.time.sel.followed.val ++
    be 8 (residual16 t.time.sel.residual))

/-- The wait-to-restore clock of the other domain: it starts when that domain becomes better and restarts after it was not (R67). -/
def State.wtrClock (s : State) : State :=
  let k := s.time.sel
  if (k.st == .track || k.st == .switch) && k.mode == 0 && s.better (other k.followed) k.followed then
    if k.betterSince.isNone then { s with time := { s.time with sel := { k with betterSince := some s.now } } } else s
  else { s with time := { s.time with sel := { k with betterSince := none, wtrExpired := false } } }

/-- One evaluation of R66, rows in the table's order. -/
def State.evaluate (s : State) : State :=
  let k := s.time.sel
  let x := k.followed
  let y := other x
  match k.st with
  | .init =>
    match s.candidate with
    | none => s
    | some d =>
      let s1 := { s with time := { s.time with sel := { k with st := .track, followed := d, svc := (s.domain d).base, validAt := (s.domain d).base, residual := 0,
                                                               slewRem := 0, valid := true, slew := false, hold := false } } }
      s1.startTime
  | .track =>
    if !(s.domain x).qualified then (if s.usable y then s.switchTo y else s.enterHold)
    else if !allowed k.mode x then (if (s.domain y).qualified then s.switchTo y else s.enterHold)
    else if k.mode == 0 && s.better y x && (k.wtrExpired || match k.betterSince with
        | some t => t + k.wtrSec * 1000000000 ≤ s.now
        | none => k.wtrSec == 0) then s.switchTo y
    else { s with time := { s.time with sel := { k with slew := k.residual != 0 } } }
  | .switch =>
    if !(s.domain x).qualified || !allowed k.mode x then (if s.usable y then s.switchTo y else s.enterHold)
    else if k.residual == 0 then { s with time := { s.time with sel := { k with st := .track, slew := false } } }
    else { s with time := { s.time with sel := { k with slew := true } } }
  | .hold =>
    match s.candidate with
    | none => s
    | some d => s.switchTo d

/-- SELECTION_EVALUATION (R65): once per microsecond of service time at the active; the standby follows the active (R69). A second one within a
microsecond changes nothing. -/
def selectionEvaluation (s : State) : State :=
  let i := s.now / 1000
  if s.pair.standby || i < s.time.sel.lastEval then s
  else
    let s1 := (s.wtrClock).evaluate.wtrClock
    s.transitionRecord { s1 with time := { s1.time with sel := { s1.time.sel with lastEval := i + 1, forced := false } } }

def execSelectionEvaluation (s : State) := finish s (selectionEvaluation s)

/-- WAIT_TO_RESTORE_EXPIRY (R67): due once the time has run since the other domain became better; the return begins at the next
evaluation at which a switch is complete. -/
def execWaitToRestoreExpiry (s : State) := finish s (
  match s.time.sel.betterSince with
  | some t => if t + s.time.sel.wtrSec * 1000000000 ≤ s.now then
      { s with time := { s.time with sel := { s.time.sel with wtrExpired := true } } } else s
  | none => s)

/-- RESIDUAL_REACHES_ZERO (R62, R66): due when the residual is zero; SLEW clears, and a switch is complete. -/
def execResidualReachesZero (part : Part) (s : State) := finish s (
  match part with
  | .agg =>
    let k := s.time.sel
    if k.residual == 0 && (k.slew || k.st == .switch) && !s.pair.standby then
      s.transitionRecord { s with time := { s.time with sel := { k with slew := false, st := if k.st == .switch then .track else k.st } } }
    else s
  | .dtc p => s.onDtc p fun d => if d.time.residual == 0 then { d with time := { d.time with slewRem := 0 } } else d)

/-- Mark a domain unqualified with record 0x0101 (R60): cause 1 watchdog, 2 1PPS silent. -/
def State.unqualify (s : State) (d : Fin 2) (cause : Nat) : State :=
  (s.setDomain d { s.domain d with qualified := false }).raise 3 0x0101 4 (be 1 d.val ++ be 1 cause)

/-- DOMAIN_WATCHDOG_EXPIRY (R60): due when no write has reached a qualified domain within its watchdog period. The sentences of a pair reach its
active (R130), so that a standby marks nothing (log entry 312). -/
def execDomainWatchdogExpiry (d : Fin 2) (s : State) := finish s (
  let m := s.domain d
  if !s.pair.standby && m.qualified && m.lastWrite + m.watchdogMs * 1000000 ≤ s.now then s.unqualify d 1 else s)

/-- PPS_SILENCE_TIMEOUT (R60): due when a domain bound to a 1PPS input has had no pulse for 1.5 s. -/
def execPpsSilenceTimeout (d : Fin 2) (s : State) := finish s (
  let m := s.domain d
  match m.binding with
  | .pps _ => if m.qualified && m.lastPulse + 1500000000 ≤ s.now then s.unqualify d 2 else s
  | _ => s)

/-- A delay field of the boot configuration (R606). -/
def State.cfg (s : State) (off n : Nat) : Nat := fld s.phys.bootCfg off n

/-- PPS_PULSE (R599, R600): the pulse is stamped, less PPS_DLY, and counted; it refreshes a domain bound to the input. A previous
pulse whose message never came is not used to discipline. -/
def execPpsPulse (i : Fin 2) (phase : Fin 8) (s : State) := finish s (
  let p := Tbl.get {} i.val s.time.pps
  let st := stampOf (s.svc + phase.val * 2 ^ 45 - s.cfg (16 + 2 * i.val) 2 * 2 ^ 44) s.svcFlags
  let p1 := { p with pulses := satInc 64 p.pulses, lastStamp := some st, lastAt := s.now,
                     unused := if p.lastStamp.isSome then satInc 64 p.unused else p.unused }
  let s1 := { s with time := { s.time with pps := Tbl.set {} i.val p1 s.time.pps } }
  let touch (t : State) (d : Fin 2) : State :=
    let m := t.domain d
    if m.binding == .pps i then t.setDomain d { m with lastPulse := t.now } else t
  touch (touch s1 0) 1)

/-- TOD_MESSAGE (R599): a message 10 ms to 900 ms after the pulse, with a good CHECK and VALID set, belongs to it and gives the TAI
second and the UTC offset (R48); one outside the window or failing CHECK is discarded and counted. -/
def execTodMessage (i : Fin 2) (msg : Bytes) (s : State) := finish s (
  let p := Tbl.get {} i.val s.time.pps
  let put (q : PpsInput) (t : State) : State := { t with time := { t.time with pps := Tbl.set {} i.val q t.time.pps } }
  let good := msg.length == 16 && fld msg 0 2 == 0x4F54 && byteAt msg 2 == 1 && fld msg 14 2 == checkValueOf crc16Config (msg.take 14)
  let inWindow := p.lastStamp.isSome && p.lastAt + 10000000 ≤ s.now && s.now ≤ p.lastAt + 900000000
  if !good || !inWindow then put { p with discarded := satInc 64 p.discarded } s
  else if byteAt msg 13 % 2 == 0 then put { p with lastStamp := none, unused := satInc 64 p.unused } s
  else put { p with lastStamp := none, lastSeconds := BitVec.ofNat 64 (fld msg 3 8) }
    { s with time := { s.time with utcOffset := BitVec.ofNat 16 (fld msg 11 2) } })

/-! ## PTP, ESMC and the frequency reference (R71 to R73) -/

/-- The domain bound to a PTP domain number. -/
def State.ptpDomain (s : State) (n : Byte) : Option (Fin 2) :=
  if s.time.domA.binding == .ptp n then some 0 else if s.time.domB.binding == .ptp n then some 1 else none

/-- The asymmetry register of a port in 1/65,536 ns: RX_DLY and TX_DLY (R75). -/
def State.rxDly (s : State) (reg : Nat) : Int := ((((Tbl.get {} reg s.time.asym).at s.now).toNat / 65536) * 4096 : Nat)
def State.txDly (s : State) (reg : Nat) : Int := ((((Tbl.get {} reg s.time.asym).at s.now).toNat % 65536) * 4096 : Nat)

/-- An instant on the grid of 125 ps, in 1/65,536 ns: what a stamp keeps of it (R49, R53, R71). -/
def grid16 (t : Int) : Int := t / 8192 * 8192

/-- A PTP stamp at the line (R53, R76): the instant of service time less RX_DLY or plus TX_DLY, on the grid of 125 ps. -/
def State.ptpRx (s : State) (port : Nat) : Int := grid16 (((frac16 s.svc : Nat) : Int) - s.rxDly port)
def State.ptpTx (s : State) (port : Nat) : Int := grid16 (((frac16 s.svc : Nat) : Int) + s.txDly port)

/-- A PTP message as it leaves (IEEE 1588-2019; PRESUMED, log entry 308): destination address, messageType, domainNumber, twoStepFlag, then the
timestamp of its body in seconds and nanoseconds, and correctionField in 1/65,536 ns. -/
def ptpBytes (p : PtpPort) (typ dom : Nat) (twoStep : Bool) (t : Int) (corr : Int) : Bytes :=
  be 6 (if byteAt p.params 1 / 4 % 2 = 1 then 0x0180C200000E else 0x011B19000000) ++ be 1 typ ++ be 1 dom ++ be 1 (if twoStep then 1 else 0) ++
    be 6 (t / 65536 / 1000000000).toNat ++ be 4 (t / 65536 % 1000000000).toNat ++ be 8 (ofSigned 64 corr)

/-- The sub-nanosecond part of a stamp, which correctionField carries. -/
def subNs (t : Int) : Int := t % 65536

/-- The domain number of a port's messages: that of its domain's binding, and for a T-GM, whose domain is bound to 1PPS+ToD, a free value
(log entry 308). -/
def State.ptpNumber (s : State) (p : PtpPort) : Nat :=
  match (s.domain (idx2 (byteAt p.params 4))).binding with
  | .ptp n => n.toNat
  | _ => (Config.freeWord s.free).toNat % 256

/-- A port that may act as master: at the active, and not set slave-only (R69). -/
def State.ptpMaster (s : State) (p : PtpPort) : Bool := s.active && byteAt p.params 2 != 2

/-- PTP_MESSAGE_RECEIVE (R71, R72): discarded and counted on a port without PTP or in a domain number bound to neither domain; else
stamped at the line and used: Sync and Follow_Up give t1 and t2, Delay_Resp the path delay and the offset, a master answers Delay_Req with its
receive stamp, Announce gives the port state by the alternate BMCA, whose choice the spec leaves to G.8275.1 (free value). The 16-bit count of
discards saturates (DESIGN CHOICE, log entry 306). -/
def execPtpMessageReceive (port : Fin 17) (m : PtpMessage) (s : State) := finish s (
  let p := Tbl.get {} port.val s.time.ptp
  let put (q : PtpPort) (t : State) : State := { t with time := { t.time with ptp := Tbl.set {} port.val q t.time.ptp } }
  let on := byteAt p.params 1 % 2 == 1
  match (if on then s.ptpDomain m.domainNumber else none) with
  | none => put { p with discards := satInc 16 p.discards } s
  | some _ =>
    let rx := s.ptpRx port.val
    match m.kind with
    | .sync o two => put { p with t2 := rx, t1 := if two then p.t1 else o, offset := if two then p.offset else rx - o - p.pathDelay } s
    | .followUp o => put { p with t1 := o, offset := p.t2 - o - p.pathDelay } s
    | .delayReq => if s.ptpMaster p then s.emit (.ptp port.val .delayReq) (ptpBytes p 9 m.domainNumber.toNat false rx (-subNs rx)) else s
    | .delayResp r =>
      let d := ((p.t2 - p.t1) + (r - p.t3)).tdiv 2
      put { p with pathDelay := d, offset := p.t2 - p.t1 - d } s
    | .announce steps _ _ =>
      let r := s.draw
      put { p with state := Config.bmcaState r.1 p.params, stepsRemoved := BitVec.ofNat 8 (steps + 1) } r.2
    | .other => s)

/-- What a port sends at stamp tx (R71): a one-step Sync carries the stamp itself, a two-step Sync a Follow_Up that carries it; Delay_Req and
Announce carry no time. -/
def State.sendPtp (s : State) (port : Nat) (p : PtpPort) (kind : PtpSend) (dom : Nat) (tx : Int) : State :=
  match kind with
  | .sync =>
    if byteAt p.params 1 / 2 % 2 = 1 then s.emit (.ptp port .sync) (ptpBytes p 0 dom false tx (subNs tx))
    else (s.emit (.ptp port .sync) (ptpBytes p 0 dom true 0 0)).emit (.ptp port .sync) (ptpBytes p 8 dom false tx (subNs tx))
  | .delayReq => s.emit (.ptp port .delayReq) (ptpBytes p 1 dom false 0 0)
  | .announce => s.emit (.ptp port .announce) (ptpBytes p 11 dom false 0 0)

/-- PTP_MESSAGE_SEND (R71, R69): a port with PTP on sends Sync and Announce at an active, Delay_Req at either; the send stamp of a
Delay_Req, at the line, is t3. Of a port that retrains, PTP and ESMC frames are discarded and counted (R444). -/
def execPtpMessageSend (port : Fin 17) (kind : PtpSend) (s : State) := finish s (
  let p := Tbl.get {} port.val s.time.ptp
  let tx := s.ptpTx port.val
  let q := s.netPort port.val
  if q.st == .retraining then s.setNetPort port.val { q with outageDrops := satInc 64 q.outageDrops }
  else if byteAt p.params 1 % 2 == 0 || (kind != .delayReq && !s.ptpMaster p) then s
  else
    let p1 := { p with sent := p.sent + 1, t3 := if kind == .delayReq then tx else p.t3 }
    ({ s with free := s.free + 1, time := { s.time with ptp := Tbl.set {} port.val p1 s.time.ptp } }).sendPtp port.val p kind (s.ptpNumber p) tx)

def execEsmcReceive (port : Fin 16) (ql : Byte) (s : State) := finish s
  { s with time := ({ s.time with freq := Tbl.set {} port.val { Tbl.get ({} : FreqCand) port.val s.time.freq with ql := ql } s.time.freq }).reselect }

def execEsmcSend (port : Fin 16) (s : State) := finish s (
  let q := s.netPort port.val
  if q.st == .retraining then s.setNetPort port.val { q with outageDrops := satInc 64 q.outageDrops }
  else ({ s with time := { s.time with esmcSent := s.time.esmcSent + 1 } }).emit (.esmc port.val)
    (be 1 (Tbl.get ({} : FreqCand) s.time.freqSel.toNat s.time.freq).ql.toNat))

def execFreqReferenceChange (cand : Byte) (los : Bool) (s : State) := finish s
  { s with time := ({ s.time with freq := Tbl.set {} cand.toNat { Tbl.get ({} : FreqCand) cand.toNat s.time.freq with los := los } s.time.freq }).reselect }

/-! ## Trigger edges and the time latch -/

/-- The output pin's changes, each with the instant of its issue (R83, R85): TRIG_DLY, in 125 ps, before the instant at the pin (R157, R600). -/
def State.emitEdges (s : State) (part : Part) (i : Nat) (k : Trigger) (dly flags : Nat) (cs : List (Nat × Bool)) : State :=
  cs.foldl (fun t c => t.emit (.trigger part i (c.2 != k.prog.activeLow)) (stampBytes (edgeStamp (c.1 - dly * 8192) flags))) s

/-- TRIGGER_EDGE (R83 to R86): what is due at the output by the end of the present nanosecond, every change with its instant; nothing while time is
not valid. TRIG_DLY of the boot configuration or of ADP_EDGE_CAL issues it earlier (R157, R600). -/
def execTriggerEdge (part : Part) (i : Fin 16) (s : State) := finish s (
  match part with
  | .agg =>
    let k := Tbl.get {} i.val s.time.trig
    if !s.timeValid || 8 ≤ i.val then s
    else
      let dly := s.cfg (20 + i.val) 1
      let t := frac16 s.svc + dly * 8192
      ({ s with time := { s.time with trig := Tbl.set {} i.val (k.settle t) s.time.trig } }).emitEdges .agg i.val (k.settle t) dly s.svcFlags (k.changes t)
  | .dtc p =>
    let d := s.dtc p
    let k := Tbl.get {} i.val d.time.trig
    if !d.time.valid || !d.ready then s
    else
      let t := frac16 d.instant + d.trigDly.toNat * 8192
      (s.setDtc p { d with time := { d.time with trig := Tbl.set {} i.val (k.settle t) d.time.trig } }).emitEdges (.dtc p) i.val (k.settle t) d.trigDly.toNat
        d.flags (k.changes t))

/-- TIME_W0_READ (R161, R163, R171, R292): the whole stamp is latched, and its first word answers. A TRB read before adp_ready (R162) and a BAR0 read
outside the device window while a boot is halted (R296) latch nothing and give zero. -/
def execTimeW0Read (part : Part) (s : State) := finish s (
  match part with
  | .agg =>
    if s.dev.halted then s.emit (.barRead 0x1020) (be 4 0)
    else State.emit { s with time := { s.time with latch := s.stamp } } (.barRead 0x1020) (be 4 (fld (stampBytes s.stamp) 0 4))
  | .dtc p =>
    let d := s.dtc p
    if d.ready then (s.setDtc p { d with time := { d.time with latch := d.stamp } }).emit (.trbRead p false) (be 4 (fld (stampBytes d.stamp) 0 4))
    else s.emit (.trbRead p false) (be 4 0))

/-! ## The clocks: what one cycle of the time clock does (R51, R54, R62, R77, R79, R616) -/

/-- Move a residual toward zero for dt (2^-48 ns) at rate ns/s, exactly, the part below one unit kept in `rem`. -/
def slewStep (r : Int) (rem rate dt : Nat) : Int × Nat :=
  let a := rem + rate * dt
  let k := a / 1000000000
  if r.natAbs ≤ k then (0, 0) else ((if 0 < r then r - (k : Int) else r + (k : Int)), a % 1000000000)

/-- One 1 ns cycle at the aggregator. What a standby's phase lock takes up in it moves every timebase alike (R69). -/
def AggTime.cycle (t : AggTime) : AggTime :=
  let a := { t.domA with base := t.domA.base + t.domA.incr.toNat }
  let b := { t.domB with base := t.domB.base + t.domB.incr.toNat }
  let k := t.sel
  let sel : Selection := match k.st with
    | .init => { k with svc := k.svc + unit }
    | .hold => { k with svc := ((k.svc : Int) + k.runIncr).toNat }
    | _ =>
      let f := if k.followed = 0 then a else b
      let r := slewStep k.residual k.slewRem k.slewRate f.incr.toNat
      let svc := ((f.base : Int) + r.1).toNat
      { k with svc := svc, residual := r.1, slewRem := r.2, runIncr := (svc : Int) - k.svc }
  let l := slewStep k.lock k.lockRem k.lockRate unit
  let c : Int := k.lock - l.1
  let lift (b : Nat) : Nat := ((b : Int) + c).toNat
  let sel1 := { sel with svc := lift sel.svc, lock := l.1, lockRem := l.2 }
  { t with domA := { a with base := lift a.base }, domB := { b with base := lift b.base }, sel := sel1
           clock := t.clock + (if k.valid then sel1.svc - k.svc else unit) }

/-- One 1 ns cycle at a DTC: its counter advances at every adp_ref_clk cycle (R77). -/
def Dtc.cycle (d : Dtc) : Dtc :=
  if !d.ready then d
  else
    let t := d.time
    if t.cycle + 1 < refPeriod d.ties then
      { d with time := { t with cycle := t.cycle + 1, clock := if t.valid then t.clock else t.clock + unit } }
    else
      let r := slewStep t.residual t.slewRem t.slewRate t.incr.toNat
      let now := ((t.time : Int) + t.incr.toNat - (t.residual - r.1)).toNat
      { d with time := { t with cycle := 0, time := now, residual := r.1, slewRem := r.2,
                                clock := if t.valid then t.clock + (now - t.time) else t.clock + unit } }

end Sys2Proof.Machine
end

