-- ==== Sys2Proof/Machine/Link.lean ====
section
/-! DEFINITION. The telemetry link, second part (chapter 07): the journal, slots, frames received, acknowledgements, beacons and time
transfer (R247 to R262), and the link verbs (R272, R273). -/

namespace Sys2Proof.Machine
open Sys2Proof

/-! ## Building journalled frames (R246, R247, R254) -/

/-- A pending snapshot joins the waiting bodies when the journal has room (R254). -/
def Dtc.queueSnapshot (d : Dtc) : Dtc :=
  match d.cnt.snapshot with
  | some body =>
    if bodyFrames body.length ≤ d.journal.free then
      { d with cnt := { d.cnt with snapshot := none }
               journal := { d.journal with waiting := d.journal.waiting ++ [{ cls := 0x11, data := body, reserved := bodyFrames body.length }] } }
    else d
  | none => d

/-- OFFSET of R245 at an instant: 125 ps units from the base. -/
def baseOffset (base : Stamp) (t : Nat) : Nat := (t / 2 ^ 45) - (ofStamp base) / 2 ^ 45

/-- A BASE is owed (R246): after a link entered service, FLAGS [15:8] changed, or an OFFSET would pass 0x7FFFFFFF. -/
def Dtc.needsBase (d : Dtc) : Bool :=
  d.journal.baseOwed || match d.journal.base with
    | none => true
    | some b => b.flags.toNat / 256 != d.flags / 256 || 0x7FFFFFFF < baseOffset b d.time.time

/-- The order in which the classes fill a frame (R247). -/
def buildOrder : List Nat := [0x15, 0x16, 0x10, 0x12, 0x13, 0x14, 0x11]

/-- The first body of a class opens: its header is built now, its data compressed where its class is (R245, R267, R268). -/
def Waiting.open (w : Waiting) (d : Dtc) (draw : Nat) : Waiting × Bool :=
  if w.started then (w, false)
  else
    let bit := match w.cls with
      | 0x11 => some 0 | 0x12 => some 1 | 0x13 => some 2 | 0x14 => some 3 | _ => none
    let on := match bit with
      | some b => d.compEnable && d.compMask.getLsbD b
      | none => false
    let z := compressBody on draw w.data
    let off := match d.journal.base with
      | some b => baseOffset b d.time.time
      | none => 0
    ({ w with data := recordOf w.data.length (if z.1 then 1 else 0) off z.2.1 }, z.2.2)

/-- Fill the payload from the classes in order: what was built, the waiting bodies after, the class list still to try (fuel). -/
def fillFrame (d : Dtc) (draw : Nat) : List Nat → List Waiting → Bytes → Nat → List Waiting × Bytes × Nat
  | [], ws, out, fails => (ws, out, fails)
  | c :: cs, ws, out, fails =>
    let mine := ws.filter fun w => w.cls == c
    let others := ws.filter fun w => w.cls != c
    let r := mine.foldl (fun (a : List Waiting × Bytes × Nat) w =>
      let room := 244 - a.2.1.length
      if room < leastRoom (!w.started) || (a.1.any fun v => v.started) then (a.1 ++ [w], a.2.1, a.2.2)
      else
        let o := w.open d draw
        let n := min (min 240 (room - 4)) o.1.data.length
        let flags := (if w.started then 0 else 1) + (if n = o.1.data.length then 2 else 0)
        let out1 := a.2.1 ++ segment c flags (o.1.data.take n)
        let f := a.2.2 + if o.2 then 1 else 0
        if n = o.1.data.length then (a.1, out1, f)
        else (a.1 ++ [{ o.1 with data := o.1.data.drop n, started := true, reserved := w.reserved - 1 }], out1, f)) ([], out, fails)
    fillFrame d draw cs (others ++ r.1) r.2.1 r.2.2

/-- A link in service or held has sent every built frame once (R247). -/
def Dtc.wantsFrame (d : Dtc) : Bool :=
  (d.la.e.lives && d.la.sentTo == d.journal.nextSeq) || (d.lb.e.lives && d.lb.sentTo == d.journal.nextSeq)

/-- JOURNAL_FRAME_BUILD (R247). -/
def Dtc.buildFrame (d0 : Dtc) (draw : Nat) : Dtc :=
  let d := d0.queueSnapshot
  if !d.journal.running || 512 ≤ d.journal.frames.length || !d.wantsFrame || d.journal.waiting.isEmpty then d
  else
    let owed := d.needsBase
    let st := d.stamp
    let d1 := if owed then { d with journal := { d.journal with base := some st, baseOwed := false } } else d
    let r := fillFrame d1 draw buildOrder d1.journal.waiting (if owed then control 0x01 (stampBytes st) else []) 0
    let snapshots := d1.journal.waiting.any fun w => w.cls == 0x11
    let done := snapshots && !(r.1.any fun w => w.cls == 0x11)
    Dtc.dropHeld { d1 with
      journal := { d1.journal with frames := d1.journal.frames ++ [⟨d1.journal.nextSeq, r.2.1⟩], nextSeq := d1.journal.nextSeq + 1,
                                   waiting := r.1, compFail := satAdd 64 d1.journal.compFail r.2.2 }
      cnt := { d1.cnt with snapshotPending := d1.cnt.snapshotPending && !done } }

def execJournalFrameBuild (p : Fin 64) (s : State) := finish s (
  if (s.dtc p).ready then
    let r := s.draw
    r.2.onDtc p fun d => d.buildFrame r.1
  else s)

/-! ## Slots (R248) -/

/-- Send as many segments of the control queue as fit. -/
def takeCtrl : List Bytes → Bytes → List Bytes × Bytes
  | [], out => ([], out)
  | c :: cs, out => if out.length + 16 ≤ 244 then takeCtrl cs (out ++ control 0x02 c) else (c :: cs, out)

/-- A record of the queue, or the one already open, sends its next segment in the room left. -/
def sendRecord (cls : Nat) (open_ : Tbl TxOpen) (queue : List (Nat × Bytes)) (out : Bytes) :
    Tbl TxOpen × List (Nat × Bytes) × Bytes × Option Nat :=
  let pick := match Tbl.find? cls open_, queue with
    | some t, q => some (t, q)
    | none, (n, r) :: q => some (⟨r, 0, n⟩, q)
    | none, [] => none
  match pick with
  | none => (open_, queue, out, none)
  | some (t, q) => match t.next cls (244 - out.length) with
    | none => (open_, queue, out, none)
    | some (seg, t1) =>
      if t1.sent = t1.data.length then (Tbl.erase cls open_, q, out ++ seg, some t1.num)
      else (Tbl.insert cls t1 open_, q, out ++ seg, none)

/-- Repeat while records of the class fit (fuel). -/
def sendRecords (cls : Nat) : Nat → Tbl TxOpen → List (Nat × Bytes) → Bytes → List Nat → Tbl TxOpen × List (Nat × Bytes) × Bytes × List Nat
  | 0, o, q, out, done => (o, q, out, done)
  | f + 1, o, q, out, done =>
    let r := sendRecord cls o q out
    match r.2.2.2 with
    | some n => sendRecords cls f r.1 r.2.1 r.2.2.1 (done ++ [n])
    | none => (r.1, r.2.1, r.2.2.1, done)

def plain (q : List Bytes) : List (Nat × Bytes) := q.map fun r => (0, r)

/-- The transmit delay of a DTC link in 1/16 ns: TX_DLY and the PHY's (R75, R155), and the receive delay. -/
def Dtc.txDelay (d : Dtc) (l : LinkId) : Nat :=
  let a := if l == .a then d.time.asymA else d.time.asymB
  (a.at d.now).toNat % 65536 + ((d.link l).e.lane (d.link l).e.txMap.even).txlat.toNat
def Dtc.rxDelay (d : Dtc) (l : LinkId) : Nat :=
  let a := if l == .a then d.time.asymA else d.time.asymB
  (a.at d.now).toNat / 65536 + ((d.link l).e.lane (d.link l).e.rxMap.even).rxlat.toNat

/-- A stamp at the line (R76): delays are in 1/16 ns. -/
def lineStamp (t dly flags : Nat) (tx : Bool) : Stamp := stampOf (if tx then t + dly * 2 ^ 44 else t - dly * 2 ^ 44) flags

/-- The TIME_ECHO segment that waits, if any (R261). -/
def Dtc.echoSegment (d : Dtc) (l : LinkId) : Bytes :=
  match (d.link l).echo with
  | some (x, t2) => control 0x05 ([x] ++ zeros 3 ++ stampBytes t2 ++ stampBytes (lineStamp d.time.time (d.txDelay l) d.flags true))
  | none => []

/-- An unjournalled frame from the DTC: TIME_ECHO, LINK_CTRL, VERB replies, VERB sentences, TRACE (R248). -/
def State.sendUpstream (s : State) (p : Fin 64) (l : LinkId) : State :=
  let d := s.dtc p
  let k := d.link l
  let echo := d.echoSegment l
  let c := takeCtrl k.e.ctrlOut echo
  let serve := k.e.st == .inService
  let openIsReply : Bool := match Tbl.find? 0x21 k.e.txOpen with
    | some t => byteAt t.data 2 / 2 % 2 == 1
    | none => true
  let first := if openIsReply then plain k.replies else plain k.sentences
  let r1 := if serve then sendRecords 0x21 64 k.e.txOpen first c.2 [] else (k.e.txOpen, first, c.2, [])
  let left1 := r1.2.1.map (·.2)
  let second := if openIsReply then plain k.sentences else plain k.replies
  let r2 := if serve && (Tbl.find? 0x21 r1.1).isNone then sendRecords 0x21 64 r1.1 second r1.2.2.1 [] else (r1.1, second, r1.2.2.1, [])
  let left2 := r2.2.1.map (·.2)
  let r3 := if serve then sendRecords 0x20 64 r2.1 k.traceOut r2.2.2.1 [] else (r2.1, k.traceOut, r2.2.2.1, [])
  let out := r3.2.2.1
  let k1 : DtcLink := { k with
    echo := none, replies := if openIsReply then left1 else left2, sentences := if openIsReply then left2 else left1, traceOut := r3.2.1
    partnerDelay := if l == .b && k.echo.isSome then some s.free else k.partnerDelay
    e := { k.e with ctrlOut := c.1, txOpen := r3.1 } }
  let s1 := s.draw.2.setDtc p ((d.setLink l k1).sentTrace r3.2.2.2)
  (s1.sendCounted .dtc p l out).endFlushes (.dtc p)

/-- A journalled frame goes out on a link. -/
def State.sendJournalled (s : State) (p : Fin 64) (l : LinkId) (f : JFrame) (replay : Bool) : State :=
  let d := s.dtc p
  let k := d.link l
  let k1 := { k with sentTo := if replay then k.sentTo else f.seq + 1, again := k.again.filter (· != f.seq),
                     sentAt := Tbl.insert f.seq.toNat d.now k.sentAt }
  let d1 := d.setLink l k1
  let d2 := { d1 with journal := { d1.journal with resent := if replay then satInc 64 d1.journal.resent else d1.journal.resent } }
  (s.setDtc p d2).sendFrame .dtc p l (linkFrame 1 (if replay then 1 else 0) f.seq f.payload)

/-- The frame of the lowest SEQ among those asked for again. -/
def lowestAgain (frames : List JFrame) (again : List Word) : Option JFrame := frames.find? fun f => again.contains f.seq

/-- A downstream frame (R248): what leads it, then LINK_CTRL, ACK, VERB sentences and replies. -/
def State.sendDownstream (s : State) (p : Fin 64) (lead : Bytes) : State :=
  let a := s.port p
  let c := takeCtrl a.e.ctrlOut lead
  let fit := 244 - c.2.length
  let listed := (List.range 512).filterMap fun i =>
    let q := a.next + 1 + BitVec.ofNat 32 i
    if a.asked.contains (q, 0) then some q else none
  let n := min (min 58 listed.length) ((fit - 12) / 4)
  let sendAck := a.ackDue && 12 ≤ fit
  let ack := if sendAck then control 0x04 (be 4 a.next.toNat ++ be 2 n ++ zeros 2 ++ ((listed.take n).map fun q => be 4 q.toNat).flatten) else []
  let out0 := c.2 ++ ack
  let told := if sendAck then listed.take n else []
  let asked := a.asked.map fun e => if e.2 = 0 && told.contains e.1 then (e.1, s.now + 1) else e
  let serve := a.e.st == .inService
  let r := if serve then sendRecords 0x21 64 a.e.txOpen (plain (a.verbOut ++ a.replyOut)) out0 [] else (a.e.txOpen, plain (a.verbOut ++ a.replyOut), out0, [])
  let left := r.2.1.map (·.2)
  (s.setPort p { a with
    e := { a.e with ctrlOut := c.1, txOpen := r.1 }, asked := asked
    ackDue := a.ackDue && (!sendAck || n < listed.length), missingAsked := satAdd 64 a.missingAsked told.length
    verbOut := if serve then left.filter (fun b => byteAt b 2 / 2 % 2 = 0) else a.verbOut
    replyOut := if serve then left.filter (fun b => byteAt b 2 / 2 % 2 = 1) else a.replyOut }).sendCounted .agg p .a r.2.2.1

/-- The first frame after training is an idle frame (R239); the beacons of an aggregator without time count from it (R256). -/
def State.sendFirst (s : State) (side : Side) (p : Fin 64) (l : LinkId) : State :=
  let s1 := (s.onEnd side p l fun e => { e with firstIdle := false }).sendCounted side p l []
  match side with
  | .agg => s1.onPort p fun a => { a with firstFrame := s.now, lastBeacon := 0, beaconTimed := false }
  | .dtc => s1

/-- LINK_SLOT: training blocks while the link trains, an idle frame first after that, else one frame by priority. -/
def execLinkSlot (side : Side) (p : Fin 64) (l : LinkId) (s : State) := finish s (
  let e := s.linkEnd side p l
  if !s.hasEnd side p l || e.st == .down then s
  else if !e.framing then
    let s1 := s.sendTraining side p l [0, 1, 2]
    if e.st == .test && e.testMode = 2 then s1.onEnd side p l fun e => e.loopBack side else s1
  else if e.firstIdle then s.sendFirst side p l
  else match side with
    | .agg => s.sendDownstream p []
    | .dtc =>
      let d := s.dtc p
      let k := d.link l
      if !k.e.ctrlOut.isEmpty then s.sendUpstream p l
      else if k.e.st != .inService then s.sendUpstream p l
      else match d.journal.frames.find? fun f => f.seq == k.sentTo with
        | some f => s.sendJournalled p l f false
        | none => match lowestAgain d.journal.frames k.again with
          | some f => s.sendJournalled p l f true
          | none => s.sendUpstream p l)

/-- TIME_ECHO_SEND (R261): the echo leads the next upstream frame. -/
def execTimeEchoSend (p : Fin 64) (l : LinkId) (s : State) := finish s (
  let k := (s.dtc p).link l
  if (s.dtc p).ready && k.e.framing && !k.e.firstIdle && k.echo.isSome then s.sendUpstream p l else s)

/-! ## Acknowledgements (R252, R253) -/

/-- An ACK, or the NEXT of a BEACON, at the DTC. -/
def Dtc.takeAck (d : Dtc) (l : LinkId) (next : Word) (missing : List Word) : Dtc :=
  let k := d.link l
  if !k.e.lives || !d.journal.running then d
  else
    let future (q : Word) : Bool := !seqAfter d.journal.nextSeq q
    let badNext := seqAfter next d.journal.nextSeq
    let bad := (missing.filter future).length + if badNext then 1 else 0
    let moved := !badNext && seqAfter next k.acked
    let acked := if moved then next else k.acked
    let want := missing.filter fun q => !future q && !seqAfter acked q && d.journal.frames.any fun f => f.seq == q
    let again := (k.again.filter fun q => !seqAfter acked q) ++ want.filter fun q => !k.again.contains q
    (d.setLink l { k with acked := acked, ackedAt := if moved then d.now else k.ackedAt, again := again,
                          sentAt := k.sentAt.filter (fun e => !seqAfter acked (BitVec.ofNat 32 e.1)),
                          futureAcks := satAdd 32 k.futureAcks bad }).release

def execAckReceive (p : Fin 64) (l : LinkId) (nextSeq : Word) (missing : List Word) (s : State) := finish s (
  if (s.dtc p).ready then s.onDtc p fun d => d.takeAck l nextSeq (missing.take 58) else s)


/-- JOURNAL_RESEND_TIMEOUT (R252). -/
def execJournalResendTimeout (p : Fin 64) (l : LinkId) (s : State) := finish s (
  let d := s.dtc p
  let k := d.link l
  match Tbl.find? k.acked.toNat k.sentAt with
  | none => s
  | some t =>
    if d.ready && k.e.lives && k.ackedAt ≤ t && t + 2 * s.linkDelay p l + 4000 ≤ d.now then
      let un := (d.journal.frames.filter fun f => !seqAfter k.acked f.seq && seqAfter k.sentTo f.seq).map (·.seq)
      s.setDtc p (d.setLink l { k with again := un })
    else s)

/-! ## START and RESUME (R255) -/

/-- The DTC answers RESUME with START. -/
def State.resume (s : State) (p : Fin 64) (l : LinkId) (seq : Word) : State :=
  let d := s.dtc p
  let k := d.link l
  if !d.ready || !k.e.framing then s
  else
    let r : Dtc × Word :=
      if !d.journal.running then
        let v := if seq = 0xFFFFFFFF then 0 else seq
        let new (k : DtcLink) : DtcLink := { k with sentTo := v, acked := v, again := [], sentAt := [], ackedAt := d.now }
        ({ d with la := new d.la, lb := new d.lb
                  journal := { d.journal with running := true, nextSeq := v, frames := [], baseOwed := true,
                                              waiting := d.journal.waiting.filter fun w => !w.started }
                  cnt := { d.cnt with snapshotPending := d.cnt.snapshot.isSome || d.journal.waiting.any fun w => w.cls == 0x11 && !w.started } }, v)
      else if d.journal.frames.any fun f => f.seq == seq then
        let behind := !seqAfter seq k.sentTo
        let again := (d.journal.frames.filter fun f => !seqAfter seq f.seq && seqAfter k.sentTo f.seq).map (·.seq)
        (d.setLink l { k with sentTo := if behind then k.sentTo else seq, acked := seq, again := again, ackedAt := d.now }, seq)
      else (d.setLink l { k with sentTo := d.journal.nextSeq, acked := d.journal.nextSeq, again := [], sentAt := [], ackedAt := d.now }, d.journal.nextSeq)
    let d1 := r.1.onLink l fun k => { k with e := { k.e with startOk := true }, resume := some seq, resetOwed := false }
    (s.setDtc p d1).sendCtrl .dtc p l 1 0 r.2 (if k.resetOwed then 1 else 0)

def execLinkCtrlResume (p : Fin 64) (l : LinkId) (seq : Word) (s : State) := finish s (s.resume p l seq)

/-- End every sentence forwarded on a link and not answered, after a reset of its DTC (R255). -/
def State.endForwarded (s : State) (p : Fin 64) (l : LinkId) : State :=
  let q := (Tbl.get [] p.val s.verbs.forwarded).filter fun w => w.link == l
  let s1 := q.foldl (fun t w => t.answerForward p w St.hwFault [] t.cs) s
  s1.onPort p fun a => if l == .a then { a with verbOut := [] } else a

/-- The aggregator takes START: NEXT, an empty hold buffer; open journalled records end unless the journal goes on where NEXT stood. -/
def State.start_ (s : State) (p : Fin 64) (l : LinkId) (seq : Word) (reset : Bool) : State :=
  let s1 := if reset then s.endForwarded p l else s
  if l == .b then s1
  else
    let a := s1.port p
    let goes := !reset && a.hasState && a.next == seq
    (s1.setPort p { a with next := seq, hasState := true, hold := [], asked := [], jopen := if goes then a.jopen else []
                           e := { a.e with startOk := true, incomplete := a.e.incomplete + if goes then 0 else a.jopen.length } }).enterService .agg p .a

def execLinkCtrlStart (p : Fin 64) (l : LinkId) (seq : Word) (reset : Bool) (s : State) := finish s (s.start_ p l seq reset)

/-! ## BEACON (R256, R260) -/

/-- The trace floor of a profile (R224). -/
def profileFloor : Profile → Nat
  | .w => 0 | .b => 0 | .l => 3 | .h => 4

/-- BEACON_SEND: due once per 2 us of service time, or while it is not valid once per 2 us of the time clock from the first frame on. -/
def execBeaconSend (p : Fin 64) (s : State) := finish s (
  let a := s.port p
  let i := (if s.timeValid then s.svcNs else s.now - a.firstFrame) / 2000
  if !a.e.framing || a.e.firstIdle || (i == a.lastBeacon && a.beaconTimed == s.timeValid) then s
  else
    let dly := ((Tbl.get {} (32 + p.val) s.time.asym).at s.now).toNat % 65536
    let t1 := lineStamp s.svc dly s.svcFlags true
    let echo := s.timeValid && a.beacons % 8 = 0
    let x := if echo then a.exchange + 1 else a.exchange
    let pend := s.sys.pendingEpoch
    let data := (if s.timeValid then stampBytes t1 else zeros 16) ++ be 4 s.dev.oid.toNat ++ be 1 (if s.active then 0 else 1) ++
      be 1 (if echo then 1 else 0) ++ be 1 (profileFloor s.sys.profile) ++ [x] ++ be 4 s.pair.term.toNat ++ be 4 s.sys.epoch ++
      be 4 ((pend.map (·.epoch)).getD 0) ++ be 8 ((pend.map (·.second)).getD 0) ++ be 4 a.next.toNat ++ zeros 4
    (s.setPort p { a with lastBeacon := i, beaconTimed := s.timeValid, beacons := if s.timeValid then a.beacons + 1 else a.beacons, exchange := x,
                          t1s := if echo then ((x, t1) :: a.t1s).take 8 else a.t1s }).sendDownstream p (control 0x03 data))

/-- BEACON at the DTC (R256): role, term, NEXT, epoch and floor; time only from a time record. -/
def Dtc.takeBeacon (d : Dtc) (l : LinkId) (data : Bytes) : Dtc :=
  let t1 := stampAt data 0
  let valid := t1.flags.getLsbD 15
  let b : BeaconIn := ⟨byteAt data 20 == 0, BitVec.ofNat 32 (fld data 24 4), fld data 28 4, fld data 32 4, fld data 36 8, byteAt data 22,
    BitVec.ofNat 32 (fld data 16 4)⟩
  let d1 := d.onLink l fun k =>
    { k with beacon := some b, e := { k.e with beaconOk := true }
             echo := if byteAt data 21 % 2 = 1 then some (BitVec.ofNat 8 (byteAt data 23), lineStamp d.time.time (d.rxDelay l) d.flags false) else k.echo
             echoAt := d.now }
  let mine := d1.follows l
  let f := t1.flags.toNat
  let d2 := if !valid then d1
    else { d1 with time := { d1.time with
      lastRecord := d.now, recordSinceHold := true
      dom := if mine then f / 0x800 % 4 else d1.time.dom, qual := if mine then f / 0x100 % 8 else d1.time.qual
      srcHold := if mine then t1.flags.getLsbD 14 else d1.time.srcHold } }
  let d3 := if mine && b.epoch != d2.epoch && !(b.pending != 0 && b.pending = d2.epoch) && b.epoch != 0 then { d2 with epoch := b.epoch } else d2
  d3.takeAck l (BitVec.ofNat 32 (fld data 44 4)) []

def State.takeBeacon (s : State) (p : Fin 64) (l : LinkId) (data : Bytes) : State :=
  if (s.dtc p).ready && ((s.dtc p).link l).e.framing then (s.onDtc p fun d => d.takeBeacon l data).enterService .dtc p l else s

def execBeaconReceive (p : Fin 64) (l : LinkId) (data : Bytes) (s : State) := finish s (s.takeBeacon p l data)

/-- The DTC's tick also applies the floor that the followed link's BEACON carried (R224). -/
def Dtc.tick (d : Dtc) : Dtc :=
  let d1 := d.epochTick
  if d1.cnt.lastTick = d.cnt.lastTick then d1
  else match d1.ruling with
    | some b => { d1 with trace := ({ d1.trace with floor := b.floor }).drops d1.now }
    | none => d1

def execDtcEpochTick (p : Fin 64) (s : State) := finish s (s.onDtc p Dtc.tick)
/-- COLLECTION_CONFIG_ACTIVATION (R180): a due change takes effect at its tick, so the row takes that tick where DTC_EPOCH_TICK has not. -/
def execCollectionConfigActivation (p : Fin 64) (s : State) := finish s (s.onDtc p fun d =>
  if d.cnt.pending.any fun e => (match e.1 with | some u => decide (u ≤ d.time.time) | none => false) then d.tick else d)

/-! ## Time transfer (R79, R80, R262) -/

/-- TIME_ECHO at the aggregator: delay and offset of the exchange. -/
def State.takeEcho (s : State) (p : Fin 64) (data : Bytes) : State :=
  let a := s.port p
  let x := BitVec.ofNat 8 (byteAt data 0)
  match a.t1s.find? fun e => e.1 == x with
  | none => s
  | some e =>
    let dly := ((Tbl.get {} (32 + p.val) s.time.asym).at s.now).toNat / 65536
    let t4 : Int := stampFrac (lineStamp s.svc dly s.svcFlags false)
    let t1 : Int := stampFrac e.2
    let t2 : Int := stampFrac (stampAt data 4)
    let t3 : Int := stampFrac (stampAt data 20)
    let d := ((t4 - t1) - (t3 - t2)).tdiv 2
    s.setPort p { a with delay := d, measured := true, offset := (t2 - t1) - d, offsets := a.offsets + 1, t1s := a.t1s.filter fun e => e.1 != x }

def execTimeEchoReceive (p : Fin 64) (data : Bytes) (s : State) := finish s (s.takeEcho p data)

/-- DTC_DISCIPLINE (R79): SET_INCREMENT with the servo's increment, a free value, and PHASE_ADD of the measured offset negated (R262). -/
def execDtcDiscipline (p : Fin 64) (s : State) := finish s (
  let a := s.port p
  if a.e.st != .inService || !a.measured || a.offsets = a.disciplined then s
  else
    let r := s.draw
    let own (t : State) : Sentence := ⟨.agg, .mailbox, 0x0B, BitVec.ofNat 32 (Tbl.get 1 p.val t.verbs.nextFtag), 0, 0, 0, []⟩
    let target := BitVec.ofNat 32 (Tbl.get 0 p.val s.verbs.knownOid)
    let s1 := (r.2.forward p 0x0101 { own r.2 with params := [2] ++ zeros 7 ++ be 8 (Config.servoIncrement r.1).toNat } target).1
    let s2 := (s1.forward p 0x0102 { own s1 with flags := 0x09, params := [2] ++ zeros 7 ++ be 8 (ofSigned 64 (-a.offset)) } target).1
    s2.onPort p fun b => { b with disciplined := b.offsets })

/-- DTC_HOLDOVER_ENTRY (R80). -/
def execDtcHoldoverEntry (p : Fin 64) (s : State) := finish s (s.onDtc p fun d =>
  if d.ready && d.time.valid && !d.time.hold && d.time.lastRecord + 10000 ≤ d.now then
    Dtc.irq { d with time := { d.time with hold := true, recordSinceHold := false } } 4
  else d)

/-! ## Frames received (R242 to R244, R251, R255) -/

/-- The classes that a direction and frame type may carry (R244). -/
def classAllowed (side : Side) (journalled : Bool) (cls : Nat) : Bool :=
  match side, journalled with
  | .agg, true => cls == 0x01 || (0x10 ≤ cls && cls ≤ 0x16)
  | .agg, false => cls == 0x02 || cls == 0x05 || cls == 0x20 || cls == 0x21
  | .dtc, true => false
  | .dtc, false => cls == 0x02 || cls == 0x03 || cls == 0x04 || cls == 0x21

/-- A LINK_CTRL segment where it arrives (R259). -/
def State.takeCtrl (s : State) (side : Side) (p : Fin 64) (data : Bytes) : State :=
  let op := byteAt data 0
  let lane := byteAt data 1
  let l := linkOf (byteAt data 3)
  let seq := BitVec.ofNat 32 (fld data 4 4)
  if side == .agg && byteAt data 2 = 1 then s.emit (.linkControl .agg p l op) data
  else match op with
    | 1 => if side == .agg then s.start_ p l seq (byteAt data 8 % 2 = 1) else s
    | 2 => if side == .dtc then s.resume p l seq else s
    | 3 => s.linkSwapReq side p l lane
    | 4 => s.linkSwapMirror side p l lane false
    | 5 => s.linkSwapDone side p l (if lane = 255 then none else some lane)
    | 6 => if s.hasEnd side p l then s.retrain side p l 5 false else s
    | _ => s

/-- A whole VERB record (R245): a sentence or a reply. -/
def State.takeVerb (s : State) (side : Side) (p : Fin 64) (l : LinkId) (r : Bytes) : State :=
  let body := (r.drop 8).take (fld r 0 2)
  let reply : Bool := byteAt r 2 / 2 % 2 == 1
  match side with
  | .agg => if reply then s.takeForwardedReply p body else s.receive .agg (.dtcPort p) (body.take 32) (some (body.drop 32)) none
  | .dtc => if reply then s.takeOriginatedReply p body else s.receive (.dtc p) .pair (body.take 32) (some (body.drop 32)) none (some l)

/-- A segment that R244 does not place in the frame it arrives in is discarded and counted; a VERB record so lost counts at a DTC (R136). -/
def State.discardSegment (s : State) (side : Side) (p : Fin 64) (l : LinkId) (seg : Nat × Nat × Bytes) : State :=
  let s1 := s.onEnd side p l fun e => { e with badSegments := satInc 64 e.badSegments }
  match side with
  | .dtc => if seg.1 == 0x21 && seg.2.1 % 2 == 1 then s1.bumpCounter (.dtc p) .pair fun c => { c with frames := satInc 64 c.frames } else s1
  | .agg => s1

/-- One segment of an unjournalled frame. -/
def State.takeSegment (s : State) (side : Side) (p : Fin 64) (l : LinkId) (seg : Nat × Nat × Bytes) : State :=
  let cls := seg.1
  if !classAllowed side false cls then s.discardSegment side p l seg
  else if cls == 0x02 then s.takeCtrl side p seg.2.2
  else if cls == 0x03 then s.takeBeacon p l seg.2.2
  else if cls == 0x04 then
    s.onDtc p fun d => d.takeAck l (BitVec.ofNat 32 (fld seg.2.2 0 4))
      ((List.range (min 58 (fld seg.2.2 4 2))).map fun i => BitVec.ofNat 32 (fld seg.2.2 (8 + 4 * i) 4))
  else if cls == 0x05 then s.takeEcho p seg.2.2
  else
    let r := reassemble (s.linkEnd side p l).records cls seg.2.1 seg.2.2
    let s1 := s.onEnd side p l fun e => { e with records := r.1, incomplete := e.incomplete + r.2.2 }
    match r.2.1 with
    | none => s1
    | some w =>
      if (s1.linkEnd side p l).st != .inService then s1
      else if cls == 0x21 then s1.takeVerb side p l w
      else
        let body := if byteAt w 2 % 2 = 1 then inflate 4096 (fld w 0 2) (w.drop 8) else some ((w.drop 8).take (fld w 0 2))
        match body with
        | some b => s1.takeTrace p b
        | none => (s1.onPort p fun a => { a with rejected := satInc 64 a.rejected }).raise 2 0x0401 4 (be 1 p.val ++ be 1 cls ++ be 4 0 ++ [Config.causeCode 0x0401 0])

/-- A record's instant and flags from its base and its offset in 125 ps units (R50). -/
def stampPlus (base : Stamp) (off : Nat) : Stamp :=
  let f := base.frac.toNat + off % 8 * 8192
  let ns := base.nsec.toNat + off / 8 + f / 65536
  ⟨base.sec + BitVec.ofNat 64 (ns / 1000000000), BitVec.ofNat 32 (ns % 1000000000), BitVec.ofNat 16 f, base.flags⟩

/-- A record of a journalled class is delivered (R251): it waits for ingest with the instant of its base and offset (R246). -/
def AggPort.deliverSegment (a : AggPort) (seg : Nat × Nat × Bytes) : AggPort :=
  let cls := seg.1
  if !classAllowed .agg true cls then { a with e := { a.e with badSegments := satInc 64 a.e.badSegments } }
  else if cls == 0x01 then { a with base := some (stampAt seg.2.2 0) }
  else
    let r := reassemble a.jopen cls seg.2.1 seg.2.2
    let a1 := { a with jopen := r.1, e := { a.e with incomplete := a.e.incomplete + r.2.2 }
                       jbase := if seg.2.1 % 2 = 1 then Tbl.set none cls a.base a.jbase else a.jbase }
    match r.2.1 with
    | some w => { a1 with bodies := a1.bodies ++ [(cls, w, (Tbl.get none cls a1.jbase).map fun b => stampPlus b (fld w 4 4))] }
    | none => a1

/-- Deliver a frame's payload. -/
def AggPort.deliver (a : AggPort) (payload : Bytes) : AggPort := (segments payload).1.foldl AggPort.deliverSegment a

/-- Deliver held frames while NEXT is among them (fuel: those held). -/
def AggPort.drainHold (a : AggPort) : Nat → AggPort
  | 0 => a
  | f + 1 => match a.hold.find? fun h => h.seq == a.next with
    | some h => (({ a with next := a.next + 1, hold := a.hold.filter fun g => g.seq != h.seq }).deliver h.payload).drainHold f
    | none => a

/-- The SEQs from NEXT up to seq that are not held (fuel: 512). -/
def AggPort.missing (a : AggPort) (seq : Word) : List Word :=
  (List.range (min 512 (seq - a.next).toNat)).filterMap fun i =>
    let q := a.next + BitVec.ofNat 32 i
    if a.hold.any fun h => h.seq == q then none else some q

/-- A journalled frame at the aggregator (R251, R252). A missing SEQ is asked for at most once per round trip. -/
def AggPort.journalled (a : AggPort) (now : Nat) (seq : Word) (payload : Bytes) : AggPort :=
  if !a.hasState then a
  else if seq = a.next then
    let b := ({ a with next := seq + 1 }).deliver payload
    let c := b.drainHold b.hold.length
    { c with ackDue := true, asked := c.asked.filter fun e => seqAfter e.1 c.next || e.1 == c.next }
  else if seqAfter seq a.next then
    if a.hold.any fun h => h.seq == seq then { a with dups := satInc 64 a.dups }
    else if 512 ≤ a.hold.length then a
    else
      let b : AggPort := { a with hold := a.hold ++ [⟨seq, payload⟩], asked := a.asked.filter fun e => e.1 != seq }
      let rt := 2 * a.delayNs
      let want := (b.missing seq).filter fun q => match b.asked.find? fun e => e.1 == q with
        | some e => e.2 != 0 && e.2 + rt ≤ now + 1
        | none => true
      { b with ackDue := true, asked := (b.asked.filter fun e => !want.contains e.1) ++ want.map fun q => (q, 0) }
  else { a with dups := satInc 64 a.dups, ackDue := true }

/-- One more frame with a failed check (R242, R263). -/
def State.frameFailed (s : State) (side : Side) (p : Fin 64) (l : LinkId) (kind : Nat) : State :=
  let e := s.linkEnd side p l
  match kind with
  | 0 =>
    let run := e.hcrcRun + 1
    let s1 := s.onEnd side p l fun e => { e with hcrc := satInc 64 e.hcrc, hcrcRun := run }
    if 8 ≤ run then (s1.onEnd side p l fun e => { e with delineation := satInc 64 e.delineation }).retrain side p l 2 true else s1
  | 1 => s.onEnd side p l fun e => { e with ftype := satInc 64 e.ftype, hcrcRun := 0 }
  | _ =>
    let i := s.msIndex side p
    let w := min e.limit ((if e.windowIndex < i then 0 else e.window) + 1)
    let s1 := s.onEnd side p l fun e => { e with fcrc := satInc 64 e.fcrc, hcrcRun := 0, window := w, windowIndex := i }
    if w = e.limit && (e.window != e.limit || e.windowIndex < i) then s1.retrain side p l 1 true else s1

/-- LINK_FRAME_RECEIVE (R242). -/
def execLinkFrameReceive (side : Side) (p : Fin 64) (l : LinkId) (frame : Bytes) (s : State) := finish s (
  let e := s.linkEnd side p l
  if !s.hasEnd side p l || !e.framing || frame.length != 256 then s
  else if fld frame 6 2 != hcrc16 frame then s.frameFailed side p l 0
  else if byteAt frame 0 = 0 || 3 < byteAt frame 0 then s.frameFailed side p l 1
  else if fld frame 252 4 != crc32c (frame.take 252) then s.frameFailed side p l 2
  else
    let seq := BitVec.ofNat 32 (fld frame 2 4)
    let payload := sub frame 8 244
    let s1 := s.onEnd side p l fun e => { e with hcrcRun := 0 }
    if byteAt frame 0 = 1 then
      match side with
      | .agg => s1.onPort p fun a => a.journalled s.now seq payload
      | .dtc => (segments payload).1.foldl (fun t seg => t.discardSegment side p l seg) s1
    else
      let gap := match e.rxSeq with
        | some q => q != seq
        | none => false
      let s2 := s1.onEnd side p l fun e => { (if gap then e.dropOpen else e) with rxSeq := some (seq + 1) }
      let g := segments payload
      let s3 := g.1.foldl (fun t seg => if byteAt frame 0 = 2 then t.takeSegment side p l seg else t.discardSegment side p l seg) s2
      if g.2 then s3 else s3.onEnd side p l fun e => { e with badSegments := satInc 64 e.badSegments })

/-! ## Link verbs (R272, R273) -/

/-- The end that a sentence addresses. -/
def endOf (x : Sentence) : Side × Fin 64 × LinkId :=
  match x.part with
  | .agg => (.agg, if h : x.subunit.toNat - 1 < 64 then ⟨x.subunit.toNat - 1, h⟩ else 0, .a)
  | .dtc p => (.dtc, p, linkOf (x.b 0))

/-- The aggregator's end lies in a DTC-port group that is off (R281). -/
def State.endOff (s : State) (q : Side × Fin 64 × LinkId) : Bool := q.1 == .agg && s.groupOff q.2.1

def laneStatus (e : LinkEnd) (i : Nat) : Bytes :=
  let k := e.lane i
  be 1 (flagBit k.lock 0 + flagBit k.alarm 1) ++ [k.margin] ++ be 1 e.threshold ++ be 1 0 ++ be 4 k.prbsErrors

def getLinkStatusBody (x : Sentence) (s : State) : State × Answer :=
  let q := endOf x
  let e := s.linkEnd q.1 q.2.1 q.2.2
  let opt : Bool × Bool × Nat := match q.1 with
    | .agg => let a := s.port q.2.1; (a.optValid, a.optValid, a.optPower.toNat)
    | .dtc => let d := s.dtc q.2.1; let k := d.link q.2.2; (if q.2.2 == .a then d.ties.optA else d.ties.optB, k.optValid, k.optPower.toNat)
  let delay := match q.1 with
    | .agg => let a := s.port q.2.1; if a.measured then a.delayNs else 0
    | .dtc => 0
  if s.endOff q then (s, .final St.state)
  else (s, .final St.ok (be 1 e.st.code ++ be 1 (if e.st == .test then e.testMode else 0) ++ be 1 e.rxMap.byte ++
    be 1 (flagBit opt.1 0 + flagBit opt.2.1 1) ++ be 2 opt.2.2 ++ zeros 2 ++ be 4 delay ++ zeros 4 ++
    laneStatus e 0 ++ laneStatus e 1 ++ laneStatus e 2 ++ zeros 8 ++
    be 8 e.hcrc ++ be 8 e.fcrc ++ be 8 e.delineation ++ be 8 e.retrains ++ be 8 e.swaps ++ be 2 e.window ++ be 2 e.limit))

/-- The FCRC limit of LINK_RETRAIN: 0 leaves it. -/
def State.setLimit (s : State) (x : Sentence) : State :=
  let q := endOf x
  if x.f 2 2 = 0 then s else s.onEnd q.1 q.2.1 q.2.2 fun e => { e with limit := x.f 2 2 }

def linkRetrainBody (x : Sentence) (s : State) : State × Answer :=
  let q := endOf x
  if !(s.linkEnd q.1 q.2.1 q.2.2).active then (s, .final St.state)
  else ((s.retrain q.1 q.2.1 q.2.2 6 true).setLimit x, .final St.ok)

/-- Test modes 1 and 2 run on a link out of service only. -/
def linkTestBody (mode : Nat) (x : Sentence) (s : State) : State × Answer :=
  let q := endOf x
  if (s.linkEnd q.1 q.2.1 q.2.2).lives then (s, .final St.state)
  else ((s.onEnd q.1 q.2.1 q.2.2 fun e =>
    { e with st := .test, testMode := mode, framing := false, firstIdle := false, aligned := false, alignedIn := 0,
             lanes := e.lanes.map fun k => (k.1, { k.2 with prbsRx := none }) }).setLimit x, .final St.ok)

def linkTakeOutBody (x : Sentence) (s : State) : State × Answer :=
  let q := endOf x
  let e := s.linkEnd q.1 q.2.1 q.2.2
  let s1 := (s.endSwap q.1 q.2.1 q.2.2 1).onEnd q.1 q.2.1 q.2.2 fun e =>
    { e with st := .down, outOfService := true, framing := false, aligned := false, alignedIn := 0, startOk := false, rxSeq := none }
  let s2 := if e.st == .inService then s1.leaveService q.1 q.2.1 q.2.2 else if e.st == .held then s1.endHold q.1 q.2.1 q.2.2 else s1
  ((s2.onEnd q.1 q.2.1 q.2.2 fun e => { e with st := .down }).setLimit x, .final St.ok)

def linkReturnBody (x : Sentence) (s : State) : State × Answer :=
  let q := endOf x
  ((s.onEnd q.1 q.2.1 q.2.2 fun e =>
    { e with outOfService := false, testMode := 0, st := if e.st == .down || e.st == .test then .training else e.st }).setLimit x, .final St.ok)

/-- LINK_RETRAIN by its mode byte. -/
def linkModeBody (x : Sentence) (s : State) : State × Answer :=
  if s.endOff (endOf x) then (s, .final St.state)
  else match x.b 1 with
  | 0 => linkRetrainBody x s
  | 1 => linkTestBody 1 x s
  | 2 => linkTestBody 2 x s
  | 3 => linkTakeOutBody x s
  | _ => linkReturnBody x s

/-- LANE_SWAP, action 0. -/
def laneSwapRetireBody (x : Sentence) (s : State) : State × Answer :=
  let q := endOf x
  let e := s.linkEnd q.1 q.2.1 q.2.2
  if !e.active || e.rxSwap != .none then (s, .final St.state)
  else if x.b 2 = e.rxMap.spare then
    if Config.retireSpareRefused then (s, .final St.state) else (s, .final St.ok (be 1 e.rxMap.byte ++ be 1 0))
  else (s.startSwap q.1 q.2.1 q.2.2 (x.b 2) (some x.ticket), .accepted)

/-- LANE_SWAP, action 1. -/
def laneSwapSetBody (x : Sentence) (s : State) : State × Answer :=
  let q := endOf x
  if (s.linkEnd q.1 q.2.1 q.2.2).st == .down then (s, .final St.state)
  else (s.onEnd q.1 q.2.1 q.2.2 fun e => { e with autoSwap := x.b 3 % 2 = 1, threshold := x.b 4 }, .final St.ok)

def laneSwapBody (x : Sentence) (s : State) : State × Answer :=
  if s.endOff (endOf x) then (s, .final St.state) else if x.b 1 = 0 then laneSwapRetireBody x s else laneSwapSetBody x s

/-- SET_COMPRESSION: at an aggregator forwarded to every DTC addressed (R184); at a DTC pinned to level 2 the TRACE bit is refused (R528). -/
def setCompressionBody (x : Sentence) (s : State) : State × Answer :=
  match x.part with
  | .agg => s.forwardAll 0x0403 { x with subunit := 0 } (s.addressed x) []
  | .dtc p =>
    let m := BitVec.ofNat 5 (x.f 2 2)
    if s.level (.dtc p) < 3 && m.getLsbD 4 then (s, .final St.param)
    else (s.onDtc p fun d => { d with compEnable := x.b 0 % 2 = 1, compMask := m }, .final St.ok)

def getJournalBody (x : Sentence) (s : State) : State × Answer :=
  let q := endOf x
  if s.endOff q then (s, .final St.state)
  else match q.1 with
  | .agg =>
    let a := s.port q.2.1
    (s, .final St.ok (be 4 a.next.toNat ++ be 4 a.lastResume.toNat ++ be 2 a.hold.length ++ zeros 6 ++ be 8 a.dups ++ be 8 a.missingAsked ++
      be 8 a.rejected ++ be 8 a.unknownSet))
  | .dtc =>
    let d := s.dtc q.2.1
    let k := d.link q.2.2
    let j := d.journal
    (s, .final St.ok (be 4 ((j.frames.head?.map (·.seq)).getD j.nextSeq).toNat ++ be 4 j.nextSeq.toNat ++ be 2 j.frames.length ++
      be 1 k.e.st.code ++ be 1 0 ++ be 4 k.acked.toNat ++ be 8 j.resent ++ be 8 j.dropped ++ be 8 j.compFail))

/-- The link byte of R273. -/
def linkByteValid (w : Part) (x : Sentence) : Bool :=
  match w with
  | .agg => x.b 0 == 0
  | .dtc _ => x.b 0 ≤ 1

def vGetLinkStatus : Verb :=
  { code := 0x0400, dtc := true, mailbox := 1, subMin := 1, subMax := 64, minLen := 4, maxLen := 4, check := linkByteValid,
    touches := portsTouched false, standby := .own, zeroLen := fun _ _ => 92 }
def vLinkRetrain : Verb :=
  { code := 0x0401, mgmt := true, dtc := true, subMin := 1, subMax := 64, minLen := 4, maxLen := 4, standby := .own, nonIdem := true
    check := fun w x => linkByteValid w x && x.b 1 ≤ 4 }
def vLaneSwap : Verb :=
  { code := 0x0402, mgmt := true, dtc := true, subMin := 1, subMax := 64, minLen := 8, maxLen := 8, standby := .own, nonIdem := true
    check := fun w x => linkByteValid w x && x.b 1 ≤ 1 && x.b 2 ≤ 2, deferred := fun x => x.b 1 == 0
    zeroLen := fun _ x => if x.b 1 = 0 then 2 else 0 }
def vSetCompression : Verb :=
  { code := 0x0403, mgmt := true, dtc := true, subMax := 64, minLen := 4, maxLen := 4, check := fun _ x => x.f 2 2 < 32 }
def vGetJournal : Verb :=
  { code := 0x0404, dtc := true, subMin := 1, subMax := 64, minLen := 4, maxLen := 4, check := linkByteValid, touches := portsTouched false
    standby := .own, zeroLen := fun w _ => if w == .agg then 48 else 40 }

def execGetLinkStatus (x : Sentence) (s : State) := finish s (s.runSentence vGetLinkStatus getLinkStatusBody x)
/-- The rows of LINK_RETRAIN, one per mode; a sentence of another mode is not the row's. -/
def State.linkModeRow (s : State) (x : Sentence) (here : Bool) : State := s.formRow x here (s.runSentence vLinkRetrain linkModeBody x)
def execLinkRetrain (x : Sentence) (s : State) := finish s (s.linkModeRow x (x.b 1 == 0 || 4 < x.b 1))
def execLinkPrbs31Test (x : Sentence) (s : State) := finish s (s.linkModeRow x (x.b 1 == 1))
def execLinkLoopbackTest (x : Sentence) (s : State) := finish s (s.linkModeRow x (x.b 1 == 2))
def execLinkTakeOutOfService (x : Sentence) (s : State) := finish s (s.linkModeRow x (x.b 1 == 3))
def execLinkReturnToService (x : Sentence) (s : State) := finish s (s.linkModeRow x (x.b 1 == 4))
def execLaneSwapRetire (x : Sentence) (s : State) := finish s (s.formRow x (x.b 1 != 1) (s.runSentence vLaneSwap laneSwapBody x))
def execLaneSwapSetAutomatic (x : Sentence) (s : State) := finish s (s.formRow x (x.b 1 == 1) (s.runSentence vLaneSwap laneSwapBody x))
def execSetCompression (x : Sentence) (s : State) := finish s (s.runSentence vSetCompression setCompressionBody x)
def execGetJournal (x : Sentence) (s : State) := finish s (s.runSentence vGetJournal getJournalBody x)

end Sys2Proof.Machine
end

