-- ==== Sys2Proof/Machine/Sync.lean ====
section
/-! DEFINITION. Sync objects, doorbells, ordered posts and the deadlock detector (R471 to R484), pair notices (R485), and the verbs of
class 0x08 (R505, R506). -/

namespace Sys2Proof.Machine
open Sys2Proof

/-! ## Agents and posts (R472 to R477) -/

/-- The agent ID of a requester, with the OID of an Ethernet one. -/
def agentOf : Requester → Nat × Word
  | .qp n => (n.val, 0)
  | .partner => (0x40, 0)
  | .dtcPort p => (0x80 + p.val, 0)
  | .eth o => (0x1000, o)
  | _ => (0x0100, 0)

/-- The agent IDs of R472, and 0xFFFF for any. -/
def agentValid (a : Nat) : Bool :=
  a ≤ 0x41 || (0x80 ≤ a && a ≤ 0xBF) || (0x100 ≤ a && a ≤ 0x102) || a == 0x1000 || a == 0xFFFF

/-- An agent may act as the one that a field names (R477). -/
def agentAllowed (field : Nat) (oid : Word) (agent : Nat × Word) : Bool :=
  field == 0xFFFF || (field == agent.1 && (agent.1 != 0x1000 || oid == agent.2))

/-- Record 0x0801 (R476): kind 1 overflow, 2 underflow. -/
def State.syncFault (s : State) (o kind agent n ctx : Nat) : State :=
  let k := s.object o
  (s.setObject o { k with faulted := true }).raise 10 0x0801 4 (be 4 o ++ be 1 kind ++ be 2 agent ++ be 4 n ++ be 4 k.count) ctx

/-- The final reply of a waiter (R474): COUNT after, end reason. -/
def State.endWaiter (s : State) (w : Waiter) (count reason : Nat) : State :=
  s.final .agg w.ticket (if reason = 0 then St.ok else St.state) (be 4 count ++ be 1 reason ++ zeros 3)

/-- Serve waiters from the head while COUNT covers the head's n (R473; fuel: the list). -/
def State.serve (s : State) (o : Nat) : Nat → State
  | 0 => s
  | f + 1 =>
    let k := s.object o
    match k.waiters with
    | [] => s
    | w :: ws =>
      if w.n ≤ k.count then
        ((s.setObject o { k with count := k.count - w.n, waiters := ws }).endWaiter w (k.count - w.n) 0).serve o f
      else s

/-- Signal the sync vector where COUNT passes from below NOTIFY to NOTIFY or above (R481); the standby never does. -/
def State.notify (s : State) (o before : Nat) : State :=
  let k := s.object o
  if s.active && k.level != 0 && before < k.level && k.level ≤ k.count && k.vector != 0xFFFF then s.signal (1024 + k.vector) else s

/-- The object takes no post of this agent (R477). -/
def State.postRefused (s : State) (o : Nat) (agent : Nat × Word) : Bool :=
  let k := s.object o
  !k.inited || !agentAllowed k.producer k.producerOid agent

/-- A post of n (R473, R476, R477): the state after and the status. -/
def State.post (s : State) (o n : Nat) (agent : Nat × Word) (ctx : Nat) : State × Nat :=
  let k := s.object o
  if s.postRefused o agent then
    ({ s with sync := { s.sync with refused := satInc 32 s.sync.refused } }, St.state)
  else if k.limit < k.count + n then (s.syncFault o 1 agent.1 n ctx, St.state)
  else
    let s1 := (s.setObject o { k with count := k.count + n }).notify o k.count
    (s1.serve o k.waiters.length, St.ok)

/-! ## Verbs (R473, R478, R482, R505) -/

/-- What a sync sentence touches (R546, R478): the object's window, and the object itself where another context owns it. -/
def objectTouch (w : Bool) (s : State) (x : Sentence) : List Touch :=
  let o := x.f 0 4
  let k := s.object o
  ⟨1, [o], w⟩ :: (if k.inited && k.ctx != x.tenant.toNat then [⟨8, [o], w⟩] else [])

def initTouch (s : State) (x : Sentence) : List Touch :=
  objectTouch true s x ++ (if x.f 24 2 = 0xFFFF then [] else [⟨2, [x.f 24 2], true⟩])

def syncInitBody (x : Sentence) (s : State) : State × Answer :=
  let o := x.f 0 4
  let k := s.object o
  let prod := x.f 16 2
  let oid := x.f 20 4
  let new : SyncObject := { count := x.f 4 4, limit := x.f 8 4, level := x.f 12 4, producer := prod, consumer := x.f 18 2
                            producerOid := BitVec.ofNat 32 (if prod = 0x1000 then oid else if prod = 0x0102 then oid % 2 ^ 24 else 0)
                            ctx := x.tenant.toNat, vector := x.f 24 2, inited := true }
  let s1 := k.waiters.foldl (fun t w => t.endWaiter w new.count 2) (s.setObject o new)
  (s1.notify o k.count, .final St.ok)

/-- A post's results: COUNT after, and for an ordered post the status of the BEHIND sentence. -/
def postResults (s : State) (o behind : Nat) : Bytes := be 4 (s.object o).count ++ be 2 behind ++ zeros 2

/-- The final reply of a requester's tag has been sent, and its status (R482). -/
def State.sentFinal (s : State) (r : Requester) (tag : Word) : Option Nat :=
  match findTag s.verbs.tags r tag with
  | some e => if e.inFlight then none else e.reply.map (·.status)
  | none => none

def syncPostBody (x : Sentence) (s : State) : State × Answer :=
  let o := x.f 0 4
  let r := s.post o (x.f 4 4) (agentOf x.req) x.tenant.toNat
  (r.1, .final r.2 (if s.postRefused o (agentOf x.req) then [] else postResults r.1 o 0))

/-- An ordered post waits for the requester's earlier sentences and for BEHIND. -/
def syncPostOrderedBody (x : Sentence) (s : State) : State × Answer :=
  let earlier := (s.verbs.tags.filter fun e => e.x.req == x.req && e.x.tag != x.tag && e.inFlight).map (·.x.tag)
  ({ s with sync := { s.sync with ordered := s.sync.ordered ++ [⟨x, x.f 0 4, x.f 4 4, BitVec.ofNat 32 (x.f 12 4), earlier, s.now⟩] } }, .later)

def syncPostAnyBody (x : Sentence) (s : State) : State × Answer := if x.b 8 = 1 then syncPostOrderedBody x s else syncPostBody x s

/-- SYNC_WAIT (R473): non-blocking and blocking takes. -/
def syncWaitBody (x : Sentence) (s : State) : State × Answer :=
  let o := x.f 0 4
  let n := x.f 4 4
  let k := s.object o
  let agent := agentOf x.req
  if !k.inited || !agentAllowed k.consumer 0 (agent.1, 0) then
    ({ s with sync := { s.sync with refused := satInc 32 s.sync.refused } }, .final St.state)
  else if k.waiters.isEmpty && n ≤ k.count then
    (s.setObject o { k with count := k.count - n }, .final St.ok (be 4 (k.count - n) ++ zeros 4))
  else if x.b 8 % 2 = 0 then (s.syncFault o 2 agent.1 n x.tenant.toNat, .final St.state (be 4 k.count ++ zeros 4))
  else
    let w : Waiter := ⟨agent.1, agent.2, n, s.now, x.f 12 4, x.ticket, x.tenant.toNat⟩
    (s.setObject o { k with waiters := k.waiters ++ [w] }, .accepted)

def syncReadBody (x : Sentence) (s : State) : State × Answer := (s, .final St.ok (s.object (x.f 0 4)).record)

def syncObjectValid (x : Sentence) : Bool := x.f 0 4 < 32768
def syncAmountValid (x : Sentence) : Bool := syncObjectValid x && x.f 4 4 != 0 && x.b 8 ≤ 1 && zeroAt x.params 9 3

def vSyncInit : Verb :=
  { code := 0x0800, minLen := 32, maxLen := 32, touches := initTouch, syncEntry := true
    check := fun _ x => syncObjectValid x && x.f 8 4 != 0 && x.f 4 4 ≤ x.f 8 4 && agentValid (x.f 16 2) && agentValid (x.f 18 2) &&
      (x.f 24 2 < 1024 || x.f 24 2 == 0xFFFF) && zeroAt x.params 26 6 }
def vSyncPost : Verb :=
  { code := 0x0801, minLen := 16, maxLen := 16, touches := objectTouch true, syncEntry := true, nonIdem := true, zeroLen := fun _ _ => 8
    check := fun _ x => syncAmountValid x }
def vSyncWait : Verb :=
  { code := 0x0802, minLen := 16, maxLen := 16, touches := objectTouch true, syncEntry := true, nonIdem := true, zeroLen := fun _ _ => 8
    check := fun _ x => syncAmountValid x }
def vSyncRead : Verb :=
  { code := 0x0803, minLen := 4, maxLen := 4, touches := objectTouch false, zeroLen := fun _ _ => 32, check := fun _ x => syncObjectValid x }

def execSyncInit (x : Sentence) (s : State) := finish s (s.runSentence vSyncInit syncInitBody x)
def execSyncPost (x : Sentence) (s : State) := finish s (s.formRow x (x.b 8 % 2 == 0) (s.runSentence vSyncPost syncPostAnyBody x))
def execSyncPostOrdered (x : Sentence) (s : State) := finish s (s.formRow x (x.b 8 % 2 == 1) (s.runSentence vSyncPost syncPostAnyBody x))
def execSyncWait (x : Sentence) (s : State) := finish s (s.runSentence vSyncWait syncWaitBody x)
def execSyncRead (x : Sentence) (s : State) := finish s (s.runSentence vSyncRead syncReadBody x)

/-! ## Events of the sync unit -/

/-- WAIT_TIMEOUT (R474): in service time from acceptance. -/
def execWaitTimeout (o : BitVec 15) (r : Requester) (tag : Word) (s : State) := finish s (
  let k := s.object o.toNat
  match k.waiters.find? fun w => w.ticket == ⟨r, tag⟩ with
  | none => s
  | some w =>
    if w.timeoutUs != 0 && w.since + 1000 * w.timeoutUs ≤ s.now then
      let s1 := (s.setObject o.toNat { k with waiters := k.waiters.filter fun v => v.ticket != w.ticket }).endWaiter w k.count 1
      s1.serve o.toNat k.waiters.length
    else s)

/-- An ordered post by its requester and tag. -/
def State.orderedOf (s : State) (r : Requester) (tag : Word) : Option OrderedPost :=
  s.sync.ordered.find? fun q => q.x.req == r && q.x.tag == tag
def State.dropOrdered (s : State) (q : OrderedPost) : State :=
  { s with sync := { s.sync with ordered := s.sync.ordered.filter fun p => p.x.ticket != q.x.ticket } }

/-- ORDERED_POST_APPLY (R482): once every earlier sentence and BEHIND have sent their final replies. -/
def execOrderedPostApply (r : Requester) (tag : Word) (s : State) := finish s (
  match s.orderedOf r tag with
  | none => s
  | some q =>
    let landed := q.earlier.all fun t => (s.sentFinal r t).isSome || (findTag s.verbs.tags r t).isNone
    match landed, s.sentFinal r q.behind with
    | true, some st =>
      let p := (s.dropOrdered q).post q.object q.n (agentOf r) q.x.tenant.toNat
      p.1.final .agg q.x.ticket p.2 (postResults p.1 q.object st)
    | _, _ => s)

/-- ORDERED_POST_TIMEOUT (R482): BEHIND has not completed within 10 ms. -/
def execOrderedPostTimeout (r : Requester) (tag : Word) (s : State) := finish s (
  match s.orderedOf r tag with
  | none => s
  | some q =>
    if q.since + 10000000 ≤ s.now && (s.sentFinal r q.behind).isNone then
      (s.dropOrdered q).final .agg q.x.ticket St.state (postResults s q.object 0)
    else s)

/-- A doorbell write at the active (R480): a repeat of HSEQ is counted. -/
def State.doorbell (s : State) (i n seq : Nat) : State :=
  let k := s.object i
  if !k.inited then (s.post i n (0x41, 0) 0).1
  else if k.hseq = seq then { s with sync := { s.sync with repeats := satInc 32 s.sync.repeats } }
  else if !agentAllowed k.producer k.producerOid (0x41, 0) then (s.post i n (0x41, 0) 0).1
  else
    let s1 := ((s.setObject i { k with hseq := seq }).post i n (0x41, 0) 0).1
    s1.mirror 6 (be 4 i ++ (s1.object i).record ++ be 1 seq)

/-- SYNC_DOORBELL (R480): the active posts, anyone else holds the write in the queue of 4,096. -/
def execSyncDoorbell (o : BitVec 15) (v : Word) (s : State) := finish s (
  let i := o.toNat
  let n := (v.extractLsb' 0 24).toNat
  let seq := (v.extractLsb' 24 8).toNat
  if n = 0 || s.dev.halted then s
  else if s.active then s.doorbell i n seq
  else
    let q := s.sync.heldPosts ++ [⟨i, seq, n⟩]
    if 4096 < q.length then { s with sync := { s.sync with heldPosts := q.drop 1, heldDrops := satInc 32 s.sync.heldDrops } }
    else { s with sync := { s.sync with heldPosts := q } })

/-! ## The deadlock detector (R483, R484) -/

/-- An edge of the wait-for relation: the waiting agent, the producer waited for, the object and the waiter's sentence. -/
structure WaitEdge where
  src : Nat × Word
  dst : Nat × Word
  object : Nat
  ticket : Ticket
  ctx : Nat
deriving DecidableEq, Repr

/-- Every edge, in object order, then list order. No edge goes to 0xFFFF or an engine agent. -/
def State.waitEdges (s : State) : List WaitEdge :=
  (s.sync.objects.map fun e =>
    if e.2.producer = 0xFFFF || (0x100 ≤ e.2.producer && e.2.producer ≤ 0x102) then []
    else e.2.waiters.map fun w =>
      (⟨(w.agent, w.oid), (e.2.producer, if e.2.producer = 0x1000 then e.2.producerOid else 0), e.1, w.ticket, w.ctx⟩ : WaitEdge)).flatten

/-- The agents reached from a set in n rounds. -/
def reach (es : List WaitEdge) : Nat → List (Nat × Word) → List (Nat × Word)
  | 0, set => set
  | n + 1, set =>
    let more := (es.filter fun e => set.contains e.src && !set.contains e.dst).map (·.dst)
    reach es n (set ++ more.eraseDups)

/-- The edges of the cycle found through the lowest-index object: those mutually reachable with its first cyclic edge. -/
def cycleEdges (es : List WaitEdge) : List WaitEdge :=
  let from_ (a : Nat × Word) := reach es es.length [a]
  match es.find? fun e => (from_ e.dst).contains e.src with
  | none => []
  | some e => es.filter fun g => (from_ e.dst).contains g.src && (from_ g.dst).contains e.src

def cycleKey (c : List WaitEdge) : List (Nat × Ticket) := c.map fun e => (e.object, e.ticket)

/-- DEADLOCK_SCAN: every 10 us of service time; the same cycle at two scans raises HANG and ends the first waiter of the lowest-index object. -/
def execDeadlockScan (s : State) := finish s (
  let i := (if s.timeValid then s.svcNs else s.now) / 10000
  if i ≤ s.sync.lastScan then s
  else
    let c := cycleEdges s.waitEdges
    let s0 := { s with sync := { s.sync with lastScan := i } }
    match c with
    | [] => { s0 with sync := { s0.sync with cycle := [] } }
    | e :: _ =>
      if cycleKey c != s.sync.cycle then { s0 with sync := { s0.sync with cycle := cycleKey c } }
      else
        let k := s0.object e.object
        let others := ((c.map (·.object)).eraseDups.filter (· != e.object)).take 8
        let seq := s0.sync.hangSeq + 1
        let agents := (c.map (·.src)).eraseDups.length
        let rec_ := stampBytes s0.stamp ++ be 4 seq ++ be 4 e.object ++ be 2 e.ctx ++ be 2 e.src.1 ++ be 2 k.producer ++ be 1 (min 255 agents) ++
          be 1 0 ++ ((List.range 8).map fun j => be 4 (others.getD j 0xFFFFFFFF)).flatten
        let s1 := { s0 with sync := { s0.sync with hangSeq := seq, hang := rec_ } }
        let s2 := (s1.raise 10 0x0802 5 (sub rec_ 16 28)).setObject e.object { k with waiters := k.waiters.filter fun w => w.ticket != e.ticket }
        let s3 := match k.waiters.find? fun w => w.ticket == e.ticket with
          | some w => s2.endWaiter w k.count 3
          | none => s2
        let s4 := s3.serve e.object k.waiters.length
        { s4 with sync := { s4.sync with cycle := cycleKey (cycleEdges s4.waitEdges) } })

/-! ## Notices (R485) -/

def roleCode (s : State) : Nat := if s.pair.claiming then 2 else if s.pair.standby then 1 else 0

def State.pathOf (s : State) : PairPath → PathState
  | .partnerLink => s.pair.link
  | .fabric => s.pair.fabric
def State.setPath (s : State) (p : PairPath) (k : PathState) : State :=
  match p with
  | .partnerLink => { s with pair := { s.pair with link := k } }
  | .fabric => { s with pair := { s.pair with fabric := k } }

/-- A notice item of 80 bytes. -/
def State.notice (s : State) (op : Nat) (p : PairPath) : Bytes :=
  let k := s.pathOf p
  let q := s.pair
  be 1 op ++ be 1 (roleCode s) ++
    be 1 (flagBit s.dev.service 0 + flagBit q.mirrored 1 + flagBit q.copy.isSome 2 + flagBit q.recovering 3) ++
    be 1 s.sys.commanded.code ++ be 4 s.dev.oid.toNat ++ be 4 q.term.toNat ++ be 4 q.checkpoint ++
    stampBytes (lineStamp s.svc (((Tbl.get {} 17 s.time.asym).at s.now).toNat % 65536) s.svcFlags true) ++
    stampBytes k.tsend ++ stampBytes k.trecv ++ be 1 s.time.sel.st.code ++ be 1 s.time.sel.followed.val ++ zeros 2 ++ be 4 s.wtrLeft ++
    be 8 (residual16 s.time.sel.residual)

/-- Send a notice on both paths. -/
def State.sendNotice (s : State) (op : Nat) : State :=
  (s.emit (.notice .partnerLink) (s.notice op .partnerLink)).emit (.notice .fabric) (s.notice op .fabric)

/-! ## Verbs of the pair (R505, R506) -/

/-- SCOPE [1] in force. -/
def State.scratchShown (s : State) : Bool := match s.sec.debugAuth with
  | some a => a.scope.getLsbD 1 && s.svcNs / 1000000000 < a.notAfter
  | none => false

def getHangBody (x : Sentence) (s : State) : State × Answer :=
  if x.params.isEmpty || x.b 0 = 0 then (s, .final St.ok (padTo 64 s.sync.hang))
  else
    let w := if x.b 0 = 1 then s.pair.own else s.pair.partner
    if !w.present then (s, .final St.state)
    else
      let a := lwBase + (if x.b 0 = 1 then 0 else 32 * mib) + x.f 4 4
      (s, .final St.ok ((s.hbmRead a (x.f 8 4)).zipIdx.map fun b => if 0x141000 ≤ x.f 4 4 + b.2 && !s.scratchShown then 0 else b.1))

/-- The partner is a standby that mirrors, and no copy runs. -/
def State.canFailOver (s : State) : Bool := s.pair.mirrored && s.pair.partnerRole == 1 && s.pair.copy.isNone

/-- FORCE_FAILOVER. Its reply waits for the standby as every final reply of an active that mirrors, and RELINQUISH follows it (`State.letGo`). -/
def forceFailoverBody (_ : Sentence) (s : State) : State × Answer :=
  if !s.canFailOver then (s, .final St.state) else (s, .final St.ok)

/-- RESET_DTC (R503): NEXT − 1 of the port at the reply. -/
def resetDtcBody (x : Sentence) (s : State) : State × Answer :=
  if h : x.b 0 < 64 then
    let p : Fin 64 := ⟨x.b 0, h⟩
    let d := s.dtc p
    if d.la.e.st != .inService && d.lb.e.st != .inService then (s, .final St.state)
    else (s.resetDtc p d.ties, .final St.ok (be 4 ((s.port p).next - 1).toNat))
  else (s, .final St.param)

/-- The time that gates, lines and heartbeats follow: service time, the duration clock while that is not valid (R616). -/
def State.lineTime (s : State) : Nat := if s.timeValid then s.svc else s.time.clock

/-- A path shows its partner: not three heartbeat slots in a row are missed on it (R494). Delays are in 1/65,536 ns. -/
def State.pathUp (s : State) (k : PathState) : Bool :=
  k.heard && decide ((nsOf s.lineTime : Int) < ((k.lastSlot + 3) * 2000 : Nat) + k.delay / 65536 + 1000)

def getPairStatusBody (_ : Sentence) (s : State) : State × Answer :=
  let q := s.pair
  (s, .final St.ok (be 1 (roleCode s) ++ be 1 q.partnerRole ++
    be 1 (flagBit q.partnerUp 0 + flagBit (s.pathUp q.fabric) 1 + flagBit q.mirrored 2 + flagBit q.copy.isSome 3 + flagBit (q.partnerFlags / 8 % 2 == 1) 4) ++
    be 1 0 ++ be 4 q.term.toNat ++ be 4 q.checkpoint ++ be 4 ((q.copy.map (·.number)).getD 0) ++ be 8 q.mseqAcked ++ be 4 q.takeovers ++ zeros 4 ++
    stampBytes q.lastTakeover ++ be 4 s.sync.heldDrops ++ be 4 q.resent))

def vGetHang : Verb :=
  { code := 0x0804, mgmt := true, maxLen := 12, zeroLen := fun _ x => if x.params.isEmpty || x.b 0 = 0 then 64 else x.f 8 4
    check := fun _ x => x.params.isEmpty || (x.plen == 12 && x.b 0 ≤ 2 && zeroAt x.params 1 3 &&
      (x.b 0 == 0 || (1 ≤ x.f 8 4 && x.f 8 4 ≤ 4000 && x.f 4 4 + x.f 8 4 ≤ 0x2000000))) }
def vForceFailover : Verb := { code := 0x0805, mgmt := true, nonIdem := true }
def vResetDtc : Verb :=
  { code := 0x0806, mgmt := true, nonIdem := true, minLen := 4, maxLen := 4, zeroLen := fun _ _ => 4
    check := fun _ x => x.b 0 < 64 && zeroAt x.params 1 3 }
def vGetPairStatus : Verb := { code := 0x0807, mgmt := true, zeroLen := fun _ _ => 56 }

def execGetHang (x : Sentence) (s : State) := finish s (s.runSentence vGetHang getHangBody x)
def execForceFailover (x : Sentence) (s : State) := finish s (s.runSentence vForceFailover forceFailoverBody x)
def execResetDtc (x : Sentence) (s : State) := finish s (s.runSentence vResetDtc resetDtcBody x)
def execGetPairStatus (x : Sentence) (s : State) := finish s (s.runSentence vGetPairStatus getPairStatusBody x)

end Sys2Proof.Machine
end

