-- ==== Sys2Proof/Machine/Network.lean ====
section
/-! DEFINITION. Ports, routes, policers, queues, shapers and gate lists (R439 to R470), and the lane swaps of every kind of lanes. -/

namespace Sys2Proof.Machine
open Sys2Proof

/-! ## Clocks of the ports -/

/-- A switched domain is on (R279). -/
def State.domainOn (s : State) (n : Nat) : Bool := s.dev.domains.getLsbD n

/-- The domain of a port (R439, R442). -/
def portDomain (p : Nat) : Nat := if p < 16 then 72 + p / 2 else if p = 16 then 93 else 80

/-- The transmission time of a frame of n bytes in 2^-48 ns: (n + 20) bytes at 400 Gb/s, or at 10 Gb/s on the management port (R465, R442). -/
def frameTime (port n : Nat) : Nat := (n + 20) * 8 * unit / (if port = 16 then 10 else 400)

/-! ## Gate lists (R463 to R467) -/

/-- The entries with the offsets at which they begin, in ns. -/
def entryStarts : Nat → List (Nat × Nat) → List (Nat × Nat × Nat)
  | _, [] => []
  | t, e :: es => (t, e.1, e.2) :: entryStarts (t + e.2) es

/-- Instant t's offset in its cycle, in 2^-48 ns. -/
def GateList.offset (g : GateList) (t : Nat) : Nat := if g.cycle = 0 then 0 else (t - g.base) % (g.cycle * unit)

/-- The mask at instant t. -/
def GateList.maskAt (g : GateList) (t : Nat) : Nat :=
  match (entryStarts 0 g.entries).find? fun e => g.offset t < (e.1 + e.2.2) * unit with
  | some e => e.2.1
  | none => 255

/-- The first of the list's own cycle starts at or after t. -/
def GateList.cycleStart (g : GateList) (t : Nat) : Nat :=
  if g.cycle = 0 then t else g.base + ceilDiv (t - g.base) (g.cycle * unit) * (g.cycle * unit)

/-- How long queue q stays open from the start of a run of entries, in ns; none if no entry of it closes q. -/
def openRun (q : Nat) : List (Nat × Nat) → Option Nat
  | [] => none
  | e :: es => if e.1.testBit q then (openRun q es).map (· + e.2) else some 0

/-- The first closing of queue q after instant t, at which it is open; none if it never closes. -/
def GateList.closing (g : GateList) (q t : Nat) : Option Nat :=
  let off := g.offset t
  match (entryStarts 0 g.entries).zipIdx.find? fun e => off < (e.1.1 + e.1.2.2) * unit with
  | none => none
  | some (e, i) =>
    let after := g.entries.drop (i + 1) ++ g.entries.take (i + 1)
    (openRun q after).map fun n => t - off + (e.1 + e.2.2 + n) * unit

/-- The longest window of queue q in ns (R466); none where it is never closed. -/
def GateList.longest (g : GateList) (q : Nat) : Option Nat :=
  if g.entries.all (fun e => e.1.testBit q) then none
  else
    let twice := g.entries ++ g.entries
    some (twice.foldl (fun (a : Nat × Nat) e => if e.1.testBit q then (a.1 + e.2, max a.2 (a.1 + e.2)) else (0, a.2)) (0, 0)).2

/-- The instant at which the pending list takes effect: removal at its activation time (R464). -/
def GateList.effective (g : GateList) : Nat := if g.entries.isEmpty then g.activation else g.cycleStart g.activation

/-- A list keeps queue q open from t until e. -/
def gateHolds (g : Option GateList) (q t e : Nat) : Bool :=
  match g with
  | none => true
  | some l => (l.maskAt t).testBit q && match l.closing q t with
    | none => true
    | some c => e ≤ c

/-- A frame of queue q that starts at t and ends at e stays within its window (R466, R467), across the change to a pending list. -/
def Port.gateAllows (p : Port) (q t e : Nat) : Bool :=
  p.mask.testBit q && match p.gatePending with
    | none => gateHolds p.gate q t e
    | some n =>
      let c := n.effective
      if e ≤ c then gateHolds p.gate q t e
      else gateHolds p.gate q t (min c e) && gateHolds (if n.entries.isEmpty then none else some n) q c e

/-- GATE_LIST_ACTIVATION: the new list governs from its cycle start, and its mask applies. -/
def execGateListActivation (port : Fin 16) (s : State) := finish s (
  let p := s.netPort port.val
  match p.gatePending with
  | none => s
  | some g =>
    if s.timeValid && g.effective ≤ s.svc then
      let now : Option GateList := if g.entries.isEmpty then none else some { g with activation := g.effective }
      s.setNetPort port.val { p with gate := now, gatePending := none, mask := (now.map (·.maskAt s.svc)).getD 255, lastBoundary := g.effective }
    else s)

/-- GATE_ENTRY_BOUNDARY: the mask of the entry at service time now; no boundary is reached while time is not valid (R616). -/
def execGateEntryBoundary (port : Fin 16) (s : State) := finish s (
  let p := s.netPort port.val
  match p.gate with
  | none => s.setNetPort port.val { p with mask := 255 }
  | some g => if s.timeValid then s.setNetPort port.val { p with mask := g.maskAt s.svc, lastBoundary := s.svc } else s)

/-! ## Egress (R460 to R462, R466) -/

/-- A shaper holds at least one packet; queue 0 is never shaped (R462). -/
def EgressQueue.shaped (e : EgressQueue) (q : Nat) : Bool := q = 0 || e.rate = 0 || 1000000 ≤ e.tokens

/-- Drop head frames that are longer than every window of their queue (R466; fuel: the queue). -/
def EgressQueue.dropLong (e : EgressQueue) (limit : Nat) : Nat → EgressQueue
  | 0 => e
  | f + 1 =>
    match e.frames with
    | h :: hs => if limit * unit < frameTime 0 h.len then { e with frames := hs, windowDrops := satInc 32 e.windowDrops }.dropLong limit f else e
    | [] => e

/-- The port's queues after such drops. -/
def Port.dropLong (p : Port) : Port :=
  match p.gate with
  | none => p
  | some g =>
    { p with queues := (List.range 8).foldl (fun t q =>
        match g.longest q with
        | some n => let e := Tbl.get {} q t; Tbl.set {} q (e.dropLong n e.frames.length) t
        | none => t) p.queues }

/-- The head frame of queue q may start at t. -/
def Port.eligible (p : Port) (port q t : Nat) : Bool :=
  let e := Tbl.get {} q p.queues
  match e.frames with
  | [] => false
  | h :: _ => e.shaped q && p.gateAllows q t (t + frameTime port h.len)

/-- Send the head of queue q at t. -/
def Port.send (p : Port) (port q t : Nat) : Port × Option QFrame :=
  let e := Tbl.get {} q p.queues
  match e.frames with
  | [] => (p, none)
  | h :: hs =>
    let e1 := { e with frames := hs, tokens := if q = 0 || e.rate = 0 then e.tokens else e.tokens - 1000000 }
    ({ p with queues := Tbl.set {} q e1 p.queues, lineFree := t + frameTime port h.len, sent := satInc 64 p.sent }, some h)

def nextWeighted (q : Nat) : Nat := if 7 ≤ q then 3 else q + 1

/-- Spend one packet of the deficit of queue q, which is being served, or end its turn (R461). -/
def Port.spend (p : Port) (port q t : Nat) : Port :=
  let e := Tbl.get {} q p.queues
  let e1 : EgressQueue := { e with deficit := if e.frames.isEmpty then 0 else e.deficit }
  if 1 ≤ e1.deficit && p.eligible port q t then { p with serving := some q }
  else { p with serving := none, rotation := nextWeighted q, queues := Tbl.set {} q e1 p.queues }

/-- Visit weighted queues in rotation until one is eligible (R461; fuel: 5 queues and the end of one turn). -/
def Port.visit (p : Port) (port t : Nat) : Nat → Port
  | 0 => p
  | f + 1 =>
    match p.serving with
    | some q =>
      let p1 := p.spend port q t
      if p1.serving.isSome then p1 else p1.visit port t f
    | none =>
      let q := p.rotation
      if p.eligible port q t then
        let e := Tbl.get {} q p.queues
        { p with serving := some q, queues := Tbl.set {} q { e with deficit := e.deficit + e.weight } p.queues }
      else { p with rotation := nextWeighted q }.visit port t f

/-- The queue whose head leaves next, and the port that has chosen it. -/
def Port.choose (p : Port) (port t : Nat) : Port × Option Nat :=
  match [0, 1, 2].find? fun q => p.eligible port q t with
  | some q => (p, some q)
  | none =>
    let p1 := p.visit port t 7
    match p1.serving with
    | some q =>
      let e := Tbl.get {} q p1.queues
      if p1.eligible port q t then
        ({ p1 with queues := Tbl.set {} q { e with deficit := e.deficit - 1 } p1.queues }, some q)
      else (p1, none)
    | none => (p1, none)

/-- The instant at which a frame may start: where the line became free, if that was within the last nanosecond, else now. -/
def Port.startTime (p : Port) (t : Nat) : Nat := if t < p.lineFree + unit then p.lineFree else t

/-- EGRESS_SELECT. -/
def execEgressSelect (port : Fin 17) (s : State) := finish s (
  let p := s.netPort port.val
  let now := s.lineTime
  if p.st != .inService || now < p.lineFree then s
  else
    let t := p.startTime now
    let c := p.dropLong.choose port.val t
    match c.2 with
    | none => s.setNetPort port.val c.1
    | some q =>
      match c.1.send port.val q t with
      | (p1, some f) => (s.setNetPort port.val p1).emit (.ethernet port.val q f.dst f.vlan f.etherType) f.body
      | (p1, none) => s.setNetPort port.val p1)

/-! ## Buckets (R454 to R459, R462) -/

def State.policer (s : State) (c : Nat) : Policer := Tbl.get {} c s.net.policers
def State.setPolicer (s : State) (c : Nat) (p : Policer) : State :=
  { s with net := { s.net with policers := Tbl.set {} c p s.net.policers } }

/-- The egress class of a context's responses (R457). -/
def State.responseClass (s : State) (c : Nat) : Nat := ((s.policer c).cfg.respClass).getD (if c = 0 then 3 else 7)

/-- One policer's refill of k microseconds: a new configuration starts full (R455, R459). -/
def Policer.refill (k : Nat) (p : Policer) : Policer :=
  match p.next with
  | some n => { p with cfg := n, next := none, usedC := 0, usedP := 0, usedF := 0 }
  | none => { p with usedC := p.usedC - k * p.cfg.cir, usedP := p.usedP - k * p.cfg.pir, usedF := p.usedF - k * p.cfg.fbRate }

def EgressQueue.refill (k : Nat) (e : EgressQueue) : EgressQueue :=
  let e1 : EgressQueue := { e with weight := e.nextWeight.getD e.weight, nextWeight := none }
  match e1.next with
  | some n => { e1 with rate := n.1, burst := n.2, next := none, tokens := n.2 * 1000000 }
  | none => if e1.rate = 0 then e1 else { e1 with tokens := min (e1.burst * 1000000) (e1.tokens + k * e1.rate) }

/-- The microsecond of a refill. -/
def State.refillIndex (s : State) : Nat := nsOf s.lineTime / 1000

/-- Keep a table canonical after a change of every value. -/
def Tbl.mapAll {α : Type} [DecidableEq α] (d : α) (f : α → α) (t : Tbl α) : Tbl α :=
  (t.map fun e => (e.1, f e.2)).filter fun e => decide (e.2 ≠ d)

/-- BUCKET_REFILL: every whole microsecond since the last one. -/
def execBucketRefill (s : State) := finish s (
  let i := s.refillIndex
  if i ≤ s.net.lastRefill then s
  else
    let k := i - s.net.lastRefill
    { s with net := { s.net with
        lastRefill := i
        policers := Tbl.mapAll {} (Policer.refill k) s.net.policers
        ports := Tbl.mapAll {} (fun p => { p with queues := Tbl.mapAll {} (EgressQueue.refill k) p.queues }) s.net.ports } })

/-- How a packet is coloured. -/
inductive Colour where
  | green
  | yellow
  | red
  | dropped
deriving DecidableEq, Repr

/-- Meter one request of context c (R456 to R458). -/
def State.meter (s : State) (c : Nat) (preYellow : Bool) : State × Colour :=
  let p := s.policer c
  if p.cfg.mode = 0 || s.net.rewriting then
    if p.cfg.fbBurst * 1000000 < p.usedF + 1000000 then (s.setPolicer c { p with fallback := satInc 64 p.fallback }, .dropped)
    else (s.setPolicer c { p with usedF := p.usedF + 1000000, green := satInc 64 p.green }, .green)
  else if p.cfg.pbs * 1000000 < p.usedP + 1000000 then (s.setPolicer c { p with red := satInc 64 p.red }, .red)
  else if (p.cfg.mode = 2 && preYellow) || p.cfg.cbs * 1000000 < p.usedC + 1000000 then
    (s.setPolicer c { p with usedP := p.usedP + 1000000, yellow := satInc 64 p.yellow }, .yellow)
  else (s.setPolicer c { p with usedP := p.usedP + 1000000, usedC := p.usedC + 1000000, green := satInc 64 p.green }, .green)

/-- POLICER_MEMORY_ERROR (R458): fallback metering until the rewrite ends. -/
def execPolicerMemoryError (addr : Word) (s : State) := finish s (
  ({ s with net := { s.net with rewriting := true } }).raise 9 0x0701 4 (be 4 addr.toNat))

def execPolicerRewriteComplete (s : State) := finish s (
  if s.net.rewriting then
    { s with net := { s.net with rewriting := false, policers := Tbl.mapAll {} (fun p => { p with usedC := 0, usedP := 0 }) s.net.policers } }
  else s)

/-! ## Lanes of the ports (R441 to R445) -/

def Port.lane (p : Port) (i : Nat) : Lane := Tbl.get {} i p.lanes
def Port.setLane (p : Port) (i : Nat) (k : Lane) : Port := { p with lanes := Tbl.set {} i k p.lanes }
/-- The port's lanes can be swapped: spare mode in force; always so on the partner link (R441, R445). -/
def Port.swappable (p : Port) (n : Nat) : Bool := n = 17 || (p.spareMode && !p.fallback)
def Port.spare (p : Port) : Nat := p.roles.getD 4 4
def Port.isData (p : Port) (x : Nat) : Bool := (p.roles.take 4).contains x
/-- Lane x and the spare of a role list exchange roles. -/
def retireRole (roles : List Nat) (x : Nat) : List Nat :=
  let k := roles.getD 4 4
  roles.map fun y => if y = x then k else if y = k then x else y
def Port.retire (p : Port) (x : Nat) : Port := { p with roles := retireRole p.roles x }

/-- Send a port control frame or the partner link's swap message (R445, R447). -/
def State.sendPortControl (s : State) (n op lane : Nat) : State :=
  let item := be 1 op ++ be 1 lane ++ zeros 10
  if h : n < 16 then s.emit (.lanes (.fabric ⟨n, h⟩) op lane) (shim s.dev.oid 6 1 ++ item) else s.emit (.lanes .partner op lane) item

/-- The receiving end's end of a swap. -/
def State.portSwapDone (s : State) (n x : Nat) : State :=
  let p := s.netPort n
  (s.setNetPort n { p.retire x with rxSwap := .none, swaps := satInc 32 p.swaps }).sendPortControl n 5 x

def State.portMargin (s : State) (n lane : Nat) (margin : Byte) : State :=
  let p := s.netPort n
  let low := decide (margin.toNat < p.threshold)
  let p1 := p.setLane lane { p.lane lane with margin := margin, alarm := low }
  if low && p.swappable n && p.isData lane && !(p.lane p.spare).alarm && p.rxSwap == .none && p.st == .inService then
    (s.setNetPort n { p1 with rxSwap := .asked lane none }).sendPortControl n 3 lane
  else s.setNetPort n p1

def State.portSwapReq (s : State) (n lane : Nat) : State :=
  let p := s.netPort n
  if p.txSwap != .none then s.setNetPort n { p with ignoredSwaps := satInc 32 p.ignoredSwaps }
  else if !p.swappable n then s
  else (s.setNetPort n { p with txSwap := .mirroring lane s.now none }).sendPortControl n 4 lane

def State.portSwapMirror (s : State) (n lane : Nat) (matched : Bool) : State :=
  let p := s.netPort n
  match p.rxSwap.lane with
  | none => s
  | some x =>
    if x != lane then s
    else if matched then s.portSwapDone n x
    else match p.rxSwap with
      | .asked y t => s.setNetPort n { p with rxSwap := .mirroring y s.now t }
      | _ => s

/-- SWAP_DONE at the transmitter: the replaced lane becomes its spare; none is an abandoned swap. -/
def State.portSwapEnd (s : State) (n : Nat) (lane : Option Nat) : State :=
  let p := s.netPort n
  match p.txSwap.lane, lane with
  | some x, some y => if x = y then s.setNetPort n { p with txSwap := .none, txRoles := retireRole p.txRoles x } else s
  | some _, none => s.setNetPort n { p with txSwap := .none }
  | none, _ => s

/-- A swap that has not matched within 200 us of SWAP_MIRROR is abandoned. -/
def State.portSwapExpiry (s : State) (n : Nat) : State :=
  let p := s.netPort n
  match p.rxSwap with
  | .mirroring _ since _ => if since + 200000 ≤ s.now then (s.setNetPort n { p with rxSwap := .none }).sendPortControl n 5 255 else s
  | _ => s

/-- LANE_MARGIN_ALARM (R264, R445). -/
def execLaneMarginAlarm (w : LanePlace) (lane : Fin 5) (margin : Byte) (s : State) := finish s (
  match w with
  | .dtcLink side p l => s.linkMargin side p l lane.val margin
  | .fabric q => s.portMargin q.val lane.val margin
  | .partner => s.portMargin 17 lane.val margin)

def execSwapReqReceive (w : LanePlace) (lane : Fin 5) (s : State) := finish s (
  match w with
  | .dtcLink side p l => s.linkSwapReq side p l lane.val
  | .fabric q => s.portSwapReq q.val lane.val
  | .partner => s.portSwapReq 17 lane.val)

def execSwapMirrorReceive (w : LanePlace) (lane : Fin 5) (matched : Bool) (s : State) := finish s (
  match w with
  | .dtcLink side p l => s.linkSwapMirror side p l lane.val matched
  | .fabric q => s.portSwapMirror q.val lane.val matched
  | .partner => s.portSwapMirror 17 lane.val matched)

def execSwapDoneReceive (w : LanePlace) (lane : Option (Fin 5)) (s : State) := finish s (
  let x := lane.map (·.val)
  match w with
  | .dtcLink side p l => s.linkSwapDone side p l x
  | .fabric q => s.portSwapEnd q.val x
  | .partner => s.portSwapEnd 17 x)

def execSwapTimeout (w : LanePlace) (s : State) := finish s (
  match w with
  | .dtcLink side p l => s.linkSwapTimeout side p l
  | .fabric q => s.portSwapExpiry q.val
  | .partner => s.portSwapExpiry 17)

def execPortSwapTimeout (port : Fin 16) (s : State) := finish s (s.portSwapExpiry port.val)

/-! ## Port events (R441, R443, R444, R447) -/

/-- PORT_HELLO_SEND: every 1 ms once the link is up. -/
def execPortHelloSend (port : Fin 16) (s : State) := finish s (
  let p := s.netPort port.val
  if p.spareMode && p.st == .inService && (p.lastHello == 0 || p.lastHello + 1000000 ≤ s.now) then
    (s.setNetPort port.val { p with lastHello := s.now }).sendPortControl port.val 1 0
  else s)

/-- A port control item: an OP that R447 does not list is discarded and counted. -/
def State.portControl (s : State) (n op lane : Nat) : State :=
  let p := s.netPort n
  match op with
  | 1 => s.setNetPort n { p with helloSeen := true }
  | 3 => if lane < 5 then s.portSwapReq n lane else s.setNetPort n { p with discards := satInc 64 p.discards }
  | 4 => s.portSwapMirror n lane false
  | 5 => s.portSwapEnd n (if lane < 5 then some lane else none)
  | _ => s.setNetPort n { p with discards := satInc 64 p.discards }

/-- PORT_CONTROL_RECEIVE. -/
def execPortControlReceive (port : Fin 16) (op lane : Byte) (s : State) := finish s (s.portControl port.val op.toNat lane.toNat)

def execSpareFallbackTimeout (port : Fin 16) (s : State) := finish s (
  let p := s.netPort port.val
  if p.spareMode && p.st == .inService && !p.helloSeen && p.upSince + 10000000 ≤ s.now then s.setNetPort port.val { p with fallback := true } else s)

/-- Move the class-0 frames that wait at a port to the partner path; of the rest, timing frames are dropped (R444). -/
def State.rerouteZero (s : State) (n : Nat) : State :=
  let p := s.netPort n
  let e := Tbl.get {} 0 p.queues
  let timing := e.frames.filter (·.timing)
  let move := if s.pair.partnerUp then e.frames.filter fun f => !f.timing && !f.linkLocal else []
  let stay := e.frames.filter fun f => !f.timing && (f.linkLocal || !s.pair.partnerUp)
  let s1 := s.setNetPort n { p with queues := Tbl.set {} 0 { e with frames := stay } p.queues
                                    rerouted := satAdd 64 p.rerouted move.length
                                    outageDrops := satAdd 64 p.outageDrops timing.length }
  move.foldl (fun t f => t.toPartner f) s1

/-- A retrain of a port (R443, R444). -/
def State.retrainPort (s : State) (n : Nat) (atLimit : Bool) : State :=
  let p := s.netPort n
  if p.st != .inService then s
  else
    let bad (x : Nat) : Bool := !(p.lane x).lock || (p.lane x).alarm
    let p1 := match (p.roles.take 4).find? bad with
      | some x => if p.swappable n && !bad p.spare then p.retire x else p
      | none => p
    (s.setNetPort n { p1 with st := .retraining, outSince := s.now, retrains := satInc 32 p.retrains, rxSwap := .none, txSwap := .none
                              window := if atLimit then p.limit else p.window }).rerouteZero n

/-- PORT_RETRAIN: a lane without signal retrains the port only while no swap is in progress. -/
def execPortRetrain (port : Fin 16) (cause : PortCause) (s : State) := finish s (
  let p := s.netPort port.val
  if cause == .laneSignal && (p.rxSwap != .none || p.txSwap != .none) then s else s.retrainPort port.val (cause == .limit))

/-- FEC_WINDOW_END: the uncorrectable codewords of the window that ends; one that reached the limit has retrained the port. -/
def execFecWindowEnd (port : Fin 16) (uncorrectable : Nat) (s : State) := finish s (
  let p := s.netPort port.val
  let i := s.msIndex .agg 0
  if i ≤ p.windowIndex then s
  else
    let s1 := s.setNetPort port.val { p with fec := satAdd 64 p.fec uncorrectable, windowIndex := i }
    let s2 := if p.limit ≤ uncorrectable && p.window < p.limit then s1.retrainPort port.val true else s1
    s2.setNetPort port.val { s2.netPort port.val with window := 0 })

/-- PORT_OUTAGE_TIMEOUT: after 100 us out of service, classes 1 and 2 take the partner path too. -/
def execPortOutageTimeout (port : Fin 16) (s : State) := finish s (
  let p := s.netPort port.val
  if p.st != .inService && !p.outage && p.outSince + 100000 ≤ s.now then
    let move := if s.pair.partnerUp then (Tbl.get {} 1 p.queues).frames ++ (Tbl.get {} 2 p.queues).frames else []
    let qs := if s.pair.partnerUp then
        Tbl.set {} 2 { Tbl.get {} 2 p.queues with frames := [] } (Tbl.set {} 1 { Tbl.get {} 1 p.queues with frames := [] } p.queues)
      else p.queues
    move.foldl (fun t f => t.toPartner f) (s.setNetPort port.val { p with outage := true, queues := qs })
  else s)

/-- PORT_IN_SERVICE: an enabled port whose link is up. -/
def execPortInService (port : Fin 16) (s : State) := finish s (
  let p := s.netPort port.val
  if p.enabled && p.st != .disabled && p.st != .inService then
    s.setNetPort port.val { p with st := .inService, outage := false, upSince := s.now, helloSeen := false, lastHello := 0 }
  else s)

/-! ## Verbs of class 0x07 (R469, R470) -/

/-- An entry of either table in range, its reserved bits zero. -/
def tableIndexValid (x : Sentence) : Bool := (x.b 0 == 0 && x.f 4 4 < 1048576) || (x.b 0 == 1 && x.f 4 4 < 4096)
def routeEntryValid (x : Sentence) : Bool :=
  tableIndexValid x &&
    if x.b 0 = 0 then x.f 8 4 == 0 && x.f 12 4 / 4096 % 4 == 0 && x.f 12 4 / 16384 % 32 ≤ 17 else x.f 8 8 / 4096 % 8 == 0

def routeSetBody (x : Sentence) (s : State) : State × Answer :=
  if !s.domainOn 94 then (s, .final St.state)
  else if x.b 0 = 0 then
    ({ s with net := { s.net with routes := Tbl.set 0 (x.f 4 4) (BitVec.ofNat 32 (x.f 12 4)) s.net.routes } }, .final St.ok)
  else ({ s with net := { s.net with hops := Tbl.set 0 (x.f 4 4) (BitVec.ofNat 64 (x.f 8 8)) s.net.hops } }, .final St.ok)

def routeGetBody (x : Sentence) (s : State) : State × Answer :=
  if !s.domainOn 94 then (s, .final St.state)
  else (s, .final St.ok (be 8 (if x.b 0 = 0 then (Tbl.get 0 (x.f 4 4) s.net.routes).toNat else (Tbl.get 0 (x.f 4 4) s.net.hops).toNat)))

def policerValid (x : Sentence) : Bool :=
  let burst (n : Nat) : Bool := 1 ≤ n && n ≤ 65535
  x.f 0 2 < 1024 && x.b 2 ≤ 2 && 3 ≤ x.b 3 && x.b 3 ≤ 7 && x.f 8 4 != 0 && x.f 4 4 ≤ x.f 8 4 && burst (x.f 12 4) && burst (x.f 16 4) && burst (x.f 24 4)

def policerSetBody (x : Sentence) (s : State) : State × Answer :=
  let c : PolicerConfig := { mode := x.b 2, respClass := some (x.b 3), cir := x.f 4 4, pir := x.f 8 4, cbs := x.f 12 4, pbs := x.f 16 4
                             fbRate := x.f 20 4, fbBurst := x.f 24 4 }
  (s.setPolicer (x.f 0 2) { s.policer (x.f 0 2) with next := some c }, .final St.ok)

def queueSetBody (x : Sentence) (s : State) : State × Answer :=
  let p := s.netPort (x.b 0)
  if !s.domainOn (portDomain (x.b 0)) then (s, .final St.state)
  else
    let qs := (List.range 5).foldl (fun t i => Tbl.set {} (3 + i) { Tbl.get {} (3 + i) t with nextWeight := some (x.b (4 + i)) } t) p.queues
    (s.setNetPort (x.b 0) { p with queues := qs }, .final St.ok)

def shaperSetBody (x : Sentence) (s : State) : State × Answer :=
  let p := s.netPort (x.b 0)
  if !s.domainOn (portDomain (x.b 0)) then (s, .final St.state)
  else
    let e := { Tbl.get {} (x.b 1) p.queues with next := some (x.f 4 4, x.f 8 4) }
    (s.setNetPort (x.b 0) { p with queues := Tbl.set {} (x.b 1) e p.queues }, .final St.ok)

/-- The entries of a gate list: mask and duration. -/
def gateEntries (x : Sentence) : List (Nat × Nat) := (List.range (x.f 2 2)).map fun i => (x.b (32 + 8 * i), x.f (36 + 8 * i) 4)

def gateListValid (x : Sentence) : Bool :=
  let n := x.f 2 2
  let es := gateEntries x
  x.b 0 ≤ 15 && n ≤ 256 && x.plen == 32 + 8 * n && x.f 12 4 < 1000000000 &&
    (n == 0 || (1000 ≤ x.f 20 4 && x.f 20 4 ≤ 1000000000 && es.all (fun e => e.1 % 2 == 1 && 32 ≤ e.2 && e.2 ≤ 1000000000) &&
      (es.map (·.2)).foldl (· + ·) 0 == x.f 20 4))

def gateListSetBody (x : Sentence) (s : State) : State × Answer :=
  let p := s.netPort (x.b 0)
  if !s.domainOn (portDomain (x.b 0)) then (s, .final St.state)
  else
    let base := ofStamp (stampAt x.params 4)
    let g : GateList := { base := base, cycle := x.f 20 4, entries := gateEntries x, stamp := stampAt x.params 4
                          activation := max base (if x.staged then s.svc else s.svc + twoUs) }
    (s.setNetPort (x.b 0) { p with gatePending := some g }, .final St.ok)

def gateListGetBody (x : Sentence) (s : State) : State × Answer :=
  let p := s.netPort (x.b 0)
  if !s.domainOn (portDomain (x.b 0)) then (s, .final St.state)
  else match if x.b 1 = 0 then p.gate else p.gatePending with
    | none => (s, .final St.ok (zeros 40))
    | some g => (s, .final St.ok (be 2 g.entries.length ++ be 1 1 ++ be 1 0 ++ stampBytes (emittedStamp g.stamp) ++ be 4 g.cycle ++
        stampBytes (stampOf g.activation s.svcFlags) ++ (g.entries.map fun e => be 1 e.1 ++ zeros 3 ++ be 4 e.2).flatten))

def PortState.code : PortState → Nat
  | .down => 0 | .training => 1 | .inService => 2 | .retraining => 3 | .disabled => 4

/-- The port form of GET_PORT_STATUS; the management port shows lane 0 only and no spare or FEC fields (R442). -/
def portStatus (p : Port) (n draw : Nat) : Bytes :=
  let mgmt := n = 16
  let lane (i : Nat) : Bytes :=
    let k := p.lane i
    if mgmt && i != 0 then zeros 8
    else [k.margin] ++ be 1 p.threshold ++ be 1 (flagBit k.lock 0 + flagBit k.alarm 1) ++ be 1 0 ++
      (if mgmt then zeros 4 else be 4 (Config.fecSymbols draw i).toNat)
  be 1 p.st.code ++ (if mgmt then zeros 5 else (List.range 5).map fun i => BitVec.ofNat 8 (p.roles.getD i 0)) ++
    be 1 (flagBit (p.spareMode && !mgmt) 0 + flagBit (p.fallback && !mgmt) 1 + flagBit (p.lanes.any fun e => e.2.alarm) 2) ++ be 1 0 ++
    ((List.range 5).map lane).flatten ++ be 8 p.sent ++ be 8 p.received ++
    (if mgmt then zeros 12 else be 8 p.fec ++ be 2 p.window ++ be 2 p.limit) ++ be 4 p.retrains ++ be 4 p.swaps ++ zeros 4 ++
    ((List.range 8).map fun q => let e := Tbl.get {} q p.queues; be 4 e.tailDrops ++ be 4 e.windowDrops).flatten ++
    be 8 p.discards ++ be 8 p.noRoute ++ be 8 p.rerouted

def getPortStatusBody (x : Sentence) (s : State) : State × Answer :=
  if x.subunit = 0 then
    if !s.domainOn (portDomain (x.b 0)) then (s, .final St.state)
    else
      let r := s.draw
      (r.2, .final St.ok (portStatus (s.netPort (x.b 0)) (x.b 0) r.1))
  else
    let p := s.policer (x.subunit.toNat - 1)
    (s, .final St.ok (be 8 p.green ++ be 8 p.yellow ++ be 8 p.red ++ be 8 p.fallback ++ be 1 p.cfg.mode ++
      be 1 (flagBit (p.cfg.mode = 0 || s.net.rewriting) 0) ++ zeros 2))

def portTouch (_ : State) (x : Sentence) : List Touch :=
  if x.subunit = 0 then [⟨7, [0], false⟩] else [⟨6, [x.subunit.toNat - 1], false⟩]

def vRouteSet : Verb :=
  { code := 0x0700, mgmt := true, stageable := true, minLen := 16, maxLen := 16, check := fun _ x => routeEntryValid x }
def vRouteGet : Verb :=
  { code := 0x0701, mgmt := true, minLen := 8, maxLen := 8, check := fun _ x => tableIndexValid x, zeroLen := fun _ _ => 8 }
def vPolicerSet : Verb :=
  { code := 0x0702, mgmt := true, stageable := true, minLen := 32, maxLen := 32, check := fun _ x => policerValid x }
def vQueueSet : Verb :=
  { code := 0x0703, mgmt := true, stageable := true, minLen := 12, maxLen := 12
    check := fun _ x => x.b 0 ≤ 16 && (List.range 5).all fun i => x.b (4 + i) != 0 }
def vShaperSet : Verb :=
  { code := 0x0704, mgmt := true, stageable := true, minLen := 12, maxLen := 12
    check := fun _ x => x.b 0 ≤ 16 && 1 ≤ x.b 1 && x.b 1 ≤ 7 && 1 ≤ x.f 8 4 && x.f 8 4 ≤ 65535 }
def vGateListSet : Verb :=
  { code := 0x0705, mgmt := true, stageable := true, minLen := 32, maxLen := 2080, check := fun _ x => gateListValid x }
def vGateListGet : Verb :=
  { code := 0x0706, mgmt := true, minLen := 4, maxLen := 4, check := fun _ x => x.b 0 ≤ 15 && x.b 1 ≤ 1, zeroLen := fun _ _ => 40 }
def vGetPortStatus : Verb :=
  { code := 0x0707, standby := .own, subMax := 1024, maxLen := 4, touches := portTouch
    zeroLen := fun _ x => if x.subunit = 0 then 176 else 36
    check := fun _ x => if x.subunit = 0 then x.plen == 4 && x.b 0 ≤ 16 else x.plen == 0 }

def execRouteSet (x : Sentence) (s : State) := finish s (s.runSentence vRouteSet routeSetBody x)
def execRouteGet (x : Sentence) (s : State) := finish s (s.runSentence vRouteGet routeGetBody x)
def execPolicerSet (x : Sentence) (s : State) := finish s (s.runSentence vPolicerSet policerSetBody x)
def execQueueSet (x : Sentence) (s : State) := finish s (s.runSentence vQueueSet queueSetBody x)
def execShaperSet (x : Sentence) (s : State) := finish s (s.runSentence vShaperSet shaperSetBody x)
def execGateListSet (x : Sentence) (s : State) := finish s (s.runSentence vGateListSet gateListSetBody x)
def execGateListGet (x : Sentence) (s : State) := finish s (s.runSentence vGateListGet gateListGetBody x)
def execGetPortStatus (x : Sentence) (s : State) := finish s (s.runSentence vGetPortStatus getPortStatusBody x)

end Sys2Proof.Machine
end

