-- ==== Sys2Proof/Machine/Front.lean ====
section
/-! DEFINITION. The feature front stage (chapter 09): the feature map image and its checks, the sources, the vectors, and the ingest of
bodies (R183, R269, R299 to R321). -/

namespace Sys2Proof.Machine
open Sys2Proof

/-! ## The feature map image (R299 to R302) -/

def mapN (m : Bytes) : Nat := fld m 6 2
def mapT (m : Bytes) : Nat := fld m 12 2
def mapC (m : Bytes) : Nat := fld m 14 2
def mapDense (m : Bytes) : Nat := byteAt m 20
/-- Entry i; boundary table t; cross table c. -/
def mapEntry (m : Bytes) (i : Nat) : Bytes := sub m (32 + 32 * i) 32
def mapTable (m : Bytes) (t : Nat) : Bytes := sub m (32 + 32 * mapN m + 1024 * t) 1024
def mapCross (m : Bytes) (c : Nat) : Bytes := sub m (32 + 32 * mapN m + 1024 * mapT m + 256 * c) 256

/-- Fields of an entry (R300). -/
def entOp (e : Bytes) : Nat := byteAt e 0
def entSrc (e : Bytes) : Nat := byteAt e 1
def entRate (e : Bytes) : Bool := byteAt e 2 % 2 == 1
def entSource (e : Bytes) : Nat := fld e 4 2
def entA (e : Bytes) : Nat := fld e 6 2
def entB (e : Bytes) : Nat := fld e 8 2
def entC (e : Bytes) : Nat := byteAt e 10
def entShiftA (e : Bytes) : Nat := byteAt e 11 % 16
def entShiftB (e : Bytes) : Nat := byteAt e 11 / 16
def word32 (b : Bytes) (off : Nat) : Word := BitVec.ofNat 32 (fld b off 4)

/-- The n boundaries of a table. -/
def tableCount (t : Bytes) : Nat := fld t 0 2
def boundary (t : Bytes) (k : Nat) : Word := word32 t (4 + 4 * k)

/-- A source index in range, and the OPs it allows (R304). -/
def sourceValid (op src source : Nat) : Bool :=
  let any := op == 1 || op == 2 || op == 3
  match src with
  | 0 => source == 0 && (op == 0 || op == 4 || op == 5)
  | 1 => source < 1024 && any
  | 2 => source < 1024 && (op == 1 || op == 2)
  | 3 | 4 | 5 | 6 => source < 4096 && any
  | 7 => source / 16384 == 0 && any
  | 8 | 9 | 10 => source < 64 && any
  | 11 => source < 64 && op == 2
  | _ => false

/-- The fields that an OP does not use are zero. -/
def unusedZero (e : Bytes) : Bool :=
  let op := entOp e
  let cross := op == 4 || op == 5
  (op == 1 || cross || entA e == 0) && (cross || entB e == 0) && (cross || entC e == 0) && (op == 5 || byteAt e 11 == 0) &&
    (op == 1 || op == 2 || op == 3 || (zeroAt e 12 8)) && (op == 3 || zeroAt e 20 8) &&
    byteAt e 2 / 2 == 0 && byteAt e 3 == 0 && zeroAt e 28 4

/-- Entry i of a map (R302). `use` is 0 request, 1 telemetry. -/
def entryValid (m : Bytes) (use i : Nat) : Bool :=
  let e := mapEntry m i
  let op := entOp e
  let src := entSrc e
  let crossing (k : Nat) : Bool := k < i && (entOp (mapEntry m k) == 1 || entOp (mapEntry m k) == 2)
  op ≤ 5 && sourceValid op src (entSource e) &&
    (if use = 1 then src != 1 && src != 2 else !(3 ≤ src && src ≤ 11)) &&
    (!entRate e || (3 ≤ src && src ≤ 7)) &&
    (op != 1 || entA e < mapT m) && (op != 5 || entC e < mapC m) &&
    ((op != 4 && op != 5) || (crossing (entA e) && crossing (entB e))) &&
    entShiftA e ≤ 4 && entShiftB e ≤ 4 &&
    !isNan (word32 e 12) && !isNan (word32 e 16) && fle (word32 e 12) (word32 e 16) && !nonFinite (word32 e 20) && !nonFinite (word32 e 24) &&
    unusedZero e

def boundariesValid (t : Bytes) : Bool :=
  let n := tableCount t
  n ≤ 255 && zeroAt t 2 2 && zeroAt t (4 + 4 * n) (1020 - 4 * n) &&
    (List.range n).all (fun k => !nonFinite (boundary t k) && boundary t k != 0x80000000 && (k == 0 || flt (boundary t (k - 1)) (boundary t k)))

/-- A map image that SET_FEATURE_MAP accepts for a model of this USE (R302). -/
def mapValid (m : Bytes) (use : Nat) : Bool :=
  let n := mapN m
  fld m 0 4 == 0x4F464D31 && fld m 4 2 == 1 && fld m 8 4 == m.length && m.length == 32 + 32 * n + 1024 * mapT m + 256 * mapC m &&
    fld m 16 4 == crc32c (m.drop 32) && 1 ≤ n && n ≤ 1024 && mapT m ≤ 1024 && mapC m ≤ 256 && mapDense m ≤ 1 && zeroAt m 21 11 &&
    (List.range n).all (entryValid m use) && (List.range (mapT m)).all fun t => boundariesValid (mapTable m t)

/-! ## Values (R304 to R308) -/

/-- What a source delivers: a number, a pre-binned byte, a missing telemetry field, or no field in the request. -/
inductive Val where
  | num (v : Word)
  | byte (n : Nat)
  | missing
  | absent
deriving DecidableEq, Repr

/-- fp32(v), or fp32(v) × Q with Q nearest to 1,000 / E (R305). -/
def rated (rate : Bool) (epoch v : Nat) : Val :=
  if rate then .num (fmul (ofNat32 v) ((Fp.fin false 1000 0).div (.fin false epoch 0)).bits) else .num (ofNat32 v)

/-- Position of a counter among the members of ranges. -/
def memberIndex (rs : List (Nat × Nat)) (c : Nat) : Option Nat := (rangeMembers rs).findIdx? (· == c)

/-- The counter set that a body names (R183): set 0 is all counters. -/
def AggPort.setOf (a : AggPort) (id : Nat) : Option (List (Nat × Nat)) :=
  if id = 0 then some [(0, 4096)] else (a.sets.find? fun c => c.id == id).map (·.ranges)
def AggPort.redOf (a : AggPort) (id : Nat) : Option (List (Nat × Nat)) := (a.reds.find? fun r => r.id == id).map (·.ranges)

/-- A window or histogram body counts once its EPOCH_INDEX lies after the last reset and the last change (R306). -/
def Die.fresh (d : Die) (index : Nat) : Bool := d.lastReset ≤ index && d.lastChange ≤ index

/-- One sensor statistic (R194, R304): signed for channels 0 to 15. -/
def sensorValue (e : Bytes) (ch off : Nat) : Val :=
  if e.isEmpty || byteAt e 6 / 4 % 4 != 0 then .missing
  else
    let v := fld e off 2
    .num (if ch < 16 then ofInt32 (toSigned 16 v) else ofNat32 v)

/-- The value of an entry's source for a die at a tick whose counter-epoch body is given, if it is complete. -/
def dieValue (d : Die) (a : AggPort) (body : Option Bytes) (epoch : Nat) (e : Bytes) : Val :=
  let k := entSource e
  let usable := match body with
    | some b => if fld b 10 2 % 2 = 1 then none else some b
    | none => none
  match entSrc e with
  | 3 => match usable with
    | some b => match (a.setOf (fld b 8 2)).bind fun rs => memberIndex rs k with
      | some i => rated (entRate e) epoch (fld b (24 + 6 * i) 6)
      | none => .missing
    | none => .missing
  | 11 => match usable with
    | some b => .num (ofNat32 (fld b 16 8 / 2 ^ k % 2))
    | none => .missing
  | 7 => match Tbl.find? (k / 256 % 64) d.hists with
    | some (i, b) => if d.fresh i then rated (entRate e) epoch (fld b (24 + 4 * (k % 256)) 4) else .missing
    | none => .missing
  | 8 => sensorValue (Tbl.get [] k d.sensors) k 0
  | 9 => sensorValue (Tbl.get [] k d.sensors) k 2
  | 10 => sensorValue (Tbl.get [] k d.sensors) k 4
  | src => match d.window with
    | some (i, b) =>
      if !d.fresh i then .missing
      else match (a.redOf (fld b 8 2)).bind fun rs => memberIndex rs k with
        | some j =>
          let at_ := 16 + 20 * j
          rated (entRate e) epoch (if src = 4 then fld b at_ 6 else if src = 5 then fld b (at_ + 6) 6 else fld b (at_ + 12) 8)
        | none => .missing
    | none => .missing

/-- The value of an entry's source for a request's payload (R304, R385). -/
def requestValue (payload : Bytes) (e : Bytes) : Val :=
  let nr := fld payload 0 2
  let nb := fld payload 2 2
  let k := entSource e
  if entSrc e = 1 then (if k < nr then .num (word32 payload (8 + 4 * k)) else .absent)
  else if k < nb then .byte (byteAt payload (8 + 4 * nr + k)) else .absent

/-- The number that validity compares. -/
def Val.number : Val → Option Word
  | .num v => some v
  | .byte n => some (ofNat32 n)
  | _ => none

/-- An integer from 0 to 255, for DIRECT (R308). -/
def directOf (v : Word) : Option Nat :=
  match fp v with
  | .fin n m e =>
    let r := roundTo m e 0
    if (ofNat32 r).toNat % 2 ^ 31 = v.toNat % 2 ^ 31 && r ≤ 255 && (!n || r = 0) then some r else none
  | _ => none

/-- A valid value of an entry (R308). -/
def validVal (m e : Bytes) (v : Val) : Bool :=
  match v.number with
  | none => false
  | some w => !isNan w && fle (word32 e 12) w && fle w (word32 e 16) &&
    match v with
    | .byte n => entOp e != 1 || n ≤ tableCount (mapTable m (entA e))
    | _ => entOp e != 2 || (directOf w).isSome

/-- The number of boundaries at or below x, by the search of R311. -/
def binOf (t : Bytes) (x : Word) : Nat :=
  let n := tableCount t
  [7, 6, 5, 4, 3, 2, 1, 0].foldl (fun bin s => let k := bin + 2 ^ s; if k ≤ n && fle (boundary t (k - 1)) x then k else bin) 0

/-! ## Operations (R311 to R315) -/

def crossHash (seed a b : Nat) : Nat := (seed * 65536 + a * 256 + b) * 0x9E3779B1 % 2 ^ 32 / 2 ^ 24

def crossTable (t : Bytes) (sa sb a b : Nat) : Nat := byteAt t (16 * min (a >>> sa) 15 + min (b >>> sb) 15)

/-- The bin of a valid base feature; 0 for EMPTY and SCALE. -/
def baseBin (m e : Bytes) (v : Val) : Nat :=
  match entOp e, v with
  | 1, .byte n => n
  | 1, .num x => binOf (mapTable m (entA e)) x
  | 2, .byte n => n
  | 2, .num x => (directOf x).getD 0
  | _, _ => 0

/-- A SCALE feature's dense value as bytes, and whether it saturated. -/
def scaled (dense : Nat) (e : Bytes) (x : Word) : Bytes × Bool :=
  let t := fma (word32 e 20) x (word32 e 24)
  if dense = 0 then let r := toInt8 t; (be 1 r.1, r.2) else let r := toBf16 t; (be 2 r.1, r.2)

/-- What the base pass leaves: bins so far, dense bytes, saturation, substitutions, a missing one, the lowest invalid feature. -/
structure Build where
  bins : List Nat := []
  dense : Bytes := []
  sat : Bool := false
  subs : Nat := 0
  miss : Bool := false
  bad : Option Nat := none
deriving DecidableEq, Repr

/-- Base features in ascending order; crossed ones get a placeholder. -/
def buildBase (m : Bytes) (value : Bytes → Val) (b : Build) (i : Nat) : Build :=
  let e := mapEntry m i
  match entOp e with
  | 1 | 2 | 3 =>
    let v := value e
    let ok := validVal m e v
    let width := if mapDense m = 0 then 1 else 2
    let b1 : Build := if ok then b else { b with subs := b.subs + 1, miss := b.miss || v == .missing, bad := b.bad <|> some i }
    if entOp e = 3 then
      let r := if ok then scaled (mapDense m) e (v.number.getD 0) else (zeros width, false)
      { b1 with bins := b1.bins ++ [0], dense := b1.dense ++ r.1, sat := b1.sat || r.2 }
    else { b1 with bins := b1.bins ++ [if ok then baseBin m e v else 0] }
  | _ => { b with bins := b.bins ++ [0] }

/-- Crossed features in ascending order. -/
def buildCross (m : Bytes) (bins : List Nat) : List Nat :=
  bins.zipIdx.map fun q =>
    let e := mapEntry m q.2
    let a := bins.getD (entA e) 0
    let c := bins.getD (entB e) 0
    match entOp e with
    | 4 => crossHash (entC e) a c
    | 5 => crossTable (mapCross m (entC e)) (entShiftA e) (entShiftB e) a c
    | _ => q.1

/-- The vectors of a scoring (R309, R316). -/
def buildVec (m : Bytes) (tolerate : Bool) (value : Bytes → Val) : Vec :=
  let b := (List.range (mapN m)).foldl (buildBase m value) {}
  let bins := buildCross m b.bins
  { bins := bins.map fun n => BitVec.ofNat 8 n, dense := b.dense, denseType := mapDense m
    flags := flagBit (b.subs != 0) 0 + flagBit b.miss 1 + flagBit b.sat 2 + b.subs % 65536 * 65536
    invalid := if tolerate then none else b.bad }

/-- Cycles from the first fetch to the complete vector (R318). -/
def vecCycles (m : Bytes) : Nat :=
  let nc := ((List.range (mapN m)).filter fun i => entOp (mapEntry m i) == 4 || entOp (mapEntry m i) == 5).length
  ceilDiv (mapN m - nc) 16 + ceilDiv nc 16 + 24

/-! ## Halves (R318 to R320) -/

def State.half (s : State) (h : Nat) : Half := if h % 2 = 0 then s.data.half0 else s.data.half1
def State.setHalf (s : State) (h : Nat) (v : Half) : State :=
  if h % 2 = 0 then { s with data := { s.data with half0 := v } } else { s with data := { s.data with half1 := v } }

/-- A die's vectors become ready: one per model in ascending model ID, behind the telemetry vectors already waiting (R320). -/
def State.readyDie (s : State) (p : Nat) (w : TickWait) : State :=
  let h := s.half p
  let jobs := w.models.map fun m => ({ src := .die p, model := m.1, map := m.2.1, tick := w.index, epoch := w.epoch, gen := m.2.2 } : VecJob)
  s.setHalf p { h with telemetry := h.telemetry ++ jobs }

/-- TOLERATE of a model image (R369). -/
def Model.tolerate (m : Model) : Bool := byteAt m.image 8 % 2 == 1

/-- The vector of a job, read now (R307). -/
def State.vecOf (s : State) (j : VecJob) : Vec :=
  let tol := (s.model j.model).tolerate
  match j.src with
  | .die p =>
    let d := s.die p
    let a := Tbl.get {} p s.ports
    let body := (d.bodies.find? fun b => b.1 == j.tick).map (·.2)
    buildVec j.map tol (dieValue d a body j.epoch)
  | .request i => buildVec j.map tol (requestValue (((Tbl.find? i s.data.requests).map (·.payload)).getD []))

/-- VECTOR_START: the next vector by fixed priority, telemetry first; a vector once started is not preempted. -/
def execVectorStart (half : Fin 2) (s : State) := finish s (
  let h := s.half half.val
  if h.busy.isSome then s
  else
    let run (j : VecJob) : VecJob × Vec × Nat := (j, s.vecOf j, s.now + s.cyclesOf (82 + half.val) (vecCycles j.map))
    match h.telemetry, h.requests with
    | j :: js, _ => s.setHalf half.val { h with telemetry := js, busy := some (run j) }
    | [], j :: js => s.setHalf half.val { h with requests := js, busy := some (run j) }
    | [], [] => s)

/-! ## Ingest (R183, R269, R287, R306, R307) -/

/-- The newest entries of a history ring that fit 192 MiB. -/
def trimRing : Nat → List Bytes → List Bytes
  | _, [] => []
  | room, b :: bs => if b.length ≤ room then b :: trimRing (room - b.length) bs else []

def Die.remember (d : Die) (b : Bytes) : Die := { d with history := trimRing 201326592 (b :: d.history) }

/-- The body of a delivered record (R245, R269); none where it is rejected. -/
def recordBody (w : Bytes) : Option Bytes :=
  if byteAt w 2 % 2 = 1 then inflate 4096 (fld w 0 2) (w.drop 8) else some ((w.drop 8).take (fld w 0 2))

/-- Start the vectors of a waiting tick of a die. -/
def State.startTick (s : State) (p : Nat) (w : TickWait) : State :=
  let d := s.die p
  (s.setDie p { d with waits := d.waits.filter fun v => v.index != w.index }).readyDie p w

/-- A counter-epoch body (R307): before the cut-off it starts the die's vectors; after it, it is counted as late. -/
def State.takeCounterEpoch (s : State) (p : Fin 64) (b : Bytes) : State :=
  let k := fld b 0 8
  let d := s.die p.val
  let d1 := { d.remember b with lastReset := if fld b 10 2 % 2 = 1 then k else d.lastReset }
  match (s.port p).setOf (fld b 8 2) with
  | none => (s.setDie p.val { d1 with waits := d1.waits.filter fun w => w.index != k }).onPort p fun a => { a with unknownSet := satInc 64 a.unknownSet }
  | some _ =>
    match d1.waits.find? fun w => w.index == k with
    | some w => (s.setDie p.val { d1 with bodies := ((k, b) :: d1.bodies).take 8 }).startTick p.val w
    | none =>
      if k ≤ s.data.lastIndex then s.setDie p.val { d1 with late := satInc 64 d1.late }
      else s.setDie p.val { d1 with bodies := ((k, b) :: d1.bodies).take 8 }

/-- A window body; one after the last known change whose REDUCTION_ID is not the last known is the first after a change made elsewhere (R306). -/
def Die.takeWindow (d : Die) (b : Bytes) : Die :=
  let k := fld b 0 8
  let id := fld b 8 2
  let d1 := if id = d.redId || k < d.lastChange then d else { d with redId := id, lastChange := k }
  { d1 with window := some (k, b) }

/-- The channels of a sensor body with their entries (R194). -/
def sensorEntries (b : Bytes) : List (Nat × Bytes) :=
  ((List.range 64).filter fun c => (fld b 8 8).testBit c).zipIdx.map fun q => (q.1, sub b (24 + 8 * q.2) 8)

/-- An ageing body's VALUEs of channels 48 to 63 join the week's sums (R513); EMPTY entries hold none. -/
def Die.addWeek (d : Die) (b : Bytes) : Die :=
  { d with week := ((sensorEntries b).filter fun e => 48 ≤ e.1 && byteAt e.2 6 / 8 % 2 = 0).foldl (fun t e =>
      let w := Tbl.get (0, 0) e.1 t
      Tbl.set (0, 0) e.1 (w.1 + fld e.2 0 2, w.2 + 1) t) d.week }

def Die.takeSensors (d : Die) (b : Bytes) : Die :=
  let d1 := { d with sensors := (sensorEntries b).foldl (fun t e => Tbl.set [] e.1 e.2 t) d.sensors }
  if byteAt b 16 / 2 % 2 = 1 then { d1.addWeek b with ageing := b } else d1

/-- A body of each journalled class. -/
def State.takeBody (s : State) (p : Fin 64) (cls : Nat) (b : Bytes) : State :=
  let d := s.die p.val
  match cls with
  | 0x10 => s.takeCounterEpoch p b
  | 0x11 => if ((s.port p).setOf (fld b 16 2)).isSome then s else s.onPort p fun a => { a with unknownSet := satInc 64 a.unknownSet }
  | 0x12 => s.setDie p.val (d.takeWindow b)
  | 0x13 => s.setDie p.val { d with hists := Tbl.set (0, []) (byteAt b 8 % 64) (fld b 0 8, b) d.hists }
  | 0x14 => s.setDie p.val (d.takeSensors b)
  | 0x15 => (s.setDie p.val { d with hangs := (b :: d.hangs).take 16 }).raise 2 0x0201 4 (sub b 16 28) 0xFFFF
      (some (BitVec.ofNat 32 (Tbl.get 0 p.val s.verbs.knownOid)))
  | _ => s.setDie p.val { d with faults := (b :: d.faults).take 16 }

/-- BODY_INGEST: the oldest delivered record of the port; a rejected compressed body is discarded, counted and recorded. -/
def execBodyIngest (p : Fin 64) (s : State) := finish s (
  let a := s.port p
  match a.bodies with
  | [] => s
  | (cls, w, at_) :: rest =>
    let s1 := s.setPort p { a with bodies := rest, instants := Tbl.set none cls at_ a.instants }
    match recordBody w with
    | some b => s1.takeBody p cls b
    | none => (s1.onPort p fun a => { a with rejected := satInc 64 a.rejected }).raise 2 0x0401 4
        (be 1 p.val ++ be 1 cls ++ be 4 (a.next - 1).toNat ++ [Config.causeCode 0x0401 0]))

/-- The cut-off of a die: 4 us and its longer measured one-way delay beyond 500 ns (R307). -/
def State.cutoffNs (s : State) (p : Fin 64) : Nat := 4000 + ((s.longerDelay p).getD 0 - 500)

/-- FEATURE_CUTOFF: the oldest tick of the die whose cut-off has passed starts without its body. -/
def execFeatureCutoff (p : Fin 64) (s : State) := finish s (
  match (s.die p.val).waits.find? fun w => w.instant + s.cutoffNs p * unit ≤ s.svc with
  | some w => s.startTick p.val w
  | none => s)

end Sys2Proof.Machine
end

