-- ==== Sys2Proof/Machine/Tartlet.lean ====
section
/-! DEFINITION. Tartlet arithmetic (chapter 10) and the model image (R369 to R372): trees, ensemble sums, output transforms, the dense lane,
and the work descriptors over a tartlet's scratch. -/

namespace Sys2Proof.Machine
open Sys2Proof

def pad64 (n : Nat) : Nat := ceilDiv n 64 * 64

/-! ## Trees (R327 to R334) -/

/-- A node's test (R328). -/
def nodeTest (op thr v : Nat) : Bool :=
  match op with
  | 0 => v ≤ thr
  | 1 => v < thr
  | 2 => v == thr
  | _ => v < 8 && thr.testBit v

/-- The node index that the walk reaches after n levels from node i (R334). -/
def walk (tree bins : Bytes) : Nat → Nat → Nat
  | 0, i => i
  | n + 1, i =>
    let w := fld tree (3 * i) 3
    let v := byteAt bins (w / 16384)
    walk tree bins n (if nodeTest (w / 16 % 4) (w / 64 % 256) v then 2 * i + 1 else 2 * i + 2)

/-- The leaf's 16 bits. -/
def leafOf (depth : Nat) (tree bins : Bytes) : Nat :=
  let leaf := walk tree bins depth 0 - (2 ^ depth - 1)
  fld tree (3 * (2 ^ depth - 1) + 2 * leaf) 2

/-- S(D) of R330. -/
def treeSize (d : Nat) : Nat := pad64 (3 * (2 ^ d - 1) + 2 * 2 ^ d)

/-! ## The ensemble image (R331, R332) -/

def ensDepth (e : Bytes) : Nat := byteAt e 6
def ensLeaf (e : Bytes) : Nat := byteAt e 7
def ensK (e : Bytes) : Nat := byteAt e 8
def ensTransform (e : Bytes) : Nat := byteAt e 9
def ensN (e : Bytes) : Nat := fld e 12 4
def ensTable (e : Bytes) : Bool := byteAt e 10 / 2 % 2 == 1
def ensTableLen (e : Bytes) : Nat := if ensTable e then pad64 (ensN e) else 0
def ensTree (e : Bytes) (t : Nat) : Bytes := sub e (128 + ensTableLen e + t * treeSize (ensDepth e)) (treeSize (ensDepth e))
/-- The class of a tree (R337), and the class list in ascending tree index. -/
def ensClass (e : Bytes) (t : Nat) : Nat := if ensTable e then byteAt e (128 + t) else t % ensK e
def classList (e : Bytes) (k : Nat) : List Nat := (List.range (ensN e)).filter fun t => ensClass e t == k

/-- LEAF, TRANSFORM and K as R342 allows them together. -/
def transformValid (leaf tr k : Nat) : Bool :=
  let lo := if tr = 2 || tr = 3 then 2 else 1
  lo ≤ k && k ≤ 16 &&
    match tr with
    | 0 | 3 => leaf ≤ 2
    | 1 | 2 => leaf ≤ 1
    | 4 => leaf == 3 && k == 1
    | _ => false

def treeValid (depth leaf features : Nat) (tree : Bytes) : Bool :=
  let n := 2 ^ depth - 1
  (List.range n).all (fun i => let w := fld tree (3 * i) 3; w % 16 == 0 && w / 16384 < features) &&
    (List.range (2 ^ depth)).all (fun j =>
      let v := fld tree (3 * n + 2 * j) 2
      (leaf != 0 || !halfSpecial v) && (leaf != 1 || !bf16Special v)) &&
    zeroAt tree (3 * n + 2 * 2 ^ depth) (treeSize depth - (3 * n + 2 * 2 ^ depth))

def baseValid (e : Bytes) (i : Nat) : Bool :=
  let v := word32 e (64 + 4 * i)
  if ensK e ≤ i || ensLeaf e = 3 then v == 0
  else if ensLeaf e = 2 then decide (-32768 ≤ toSigned 32 v.toNat) && decide (toSigned 32 v.toNat ≤ 32767)
  else !nonFinite v

/-- An ensemble image that the loader takes (R332). -/
def ensValid (e : Bytes) (features : Nat) : Bool :=
  let d := ensDepth e
  let n := ensN e
  128 ≤ e.length && fld e 0 4 == 0x4F545231 && fld e 4 2 == 1 && fld e 24 8 == e.length && 1 ≤ d && d ≤ 12 && ensLeaf e ≤ 3 &&
    ensTransform e ≤ 4 && transformValid (ensLeaf e) (ensTransform e) (ensK e) && 1 ≤ n && n ≤ 16777216 &&
    e.length == 128 + ensTableLen e + n * treeSize d && fld e 32 4 == crc32c (e.drop 64) &&
    byteAt e 10 / 4 == 0 && byteAt e 11 == 0 && zeroAt e 36 28 &&
    (if ensTable e then (List.range n).all (fun t => byteAt e (128 + t) < ensK e) && zeroAt e (128 + n) (ensTableLen e - n) else true) &&
    (List.range (ensK e)).all (fun k =>
      let len := (classList e k).length
      1 ≤ len && (ensLeaf e != 2 || len ≤ 65535)) &&
    (List.range 16).all (baseValid e) &&
    (if ensTransform e = 4 then !nonFinite (word32 e 20) && flt 0 (word32 e 20) else fld e 20 4 == 0) &&
    (List.range n).all fun t => treeValid d (ensLeaf e) features (ensTree e t)

/-! ## Sums and transforms (R337 to R346) -/

/-- The class scores as 32-bit words: FP32, or INT32 for INT16 leaves; for PATH the transform's input alone. -/
def classScores (e bins : Bytes) : List Word :=
  (List.range (ensK e)).map fun k =>
    let leaves := (classList e k).map fun t => leafOf (ensDepth e) (ensTree e t) bins
    let base := word32 e (64 + 4 * k)
    match ensLeaf e with
    | 0 => fadd base (canon (leaves.map fromHalf))
    | 1 => fadd base (canon (leaves.map fromBf16))
    | 2 => BitVec.ofNat 32 (ofSigned 32 (leaves.foldl (fun a v => a + toSigned 16 v) (toSigned 32 base.toNat)))
    | _ => exp2n (fmul (ofNat32 (leaves.foldl (· + ·) 0)) (word32 e 20))

/-- a is a better class score than b: greater, a NaN below every number; signed for INT32. -/
def better (int : Bool) (a b : Word) : Bool :=
  if int then decide (toSigned 32 b.toNat < toSigned 32 a.toNat)
  else if isNan b then !isNan a else flt b a

/-- The lowest class with the greatest score. -/
def argmax (int : Bool) (s : List Word) : Nat :=
  (s.zipIdx.foldl (fun (b : Nat × Word) q => if better int q.1 b.2 then (q.2, q.1) else b) (0, s.headD 0)).1

def softmax (s : List Word) : List Word :=
  if s.any nonFinite then s.map fun _ => canonicalNan
  else
    let m := s.getD (argmax false s) 0
    let e := s.map fun x => exp2n (fmul (fsub m x) 0x3FB8AA3B)
    let t := canon e
    e.map fun x => fdiv x t

/-- A score block (R341). -/
def scoreBlock (values : List Word) (cls : Nat) (verdict nonf : Bool) : Bytes :=
  ((List.range 16).map fun k => be 4 (values.getD k 0).toNat).flatten ++ be 1 cls ++ be 1 (flagBit verdict 0 + flagBit nonf 1) ++ zeros 2

/-- The score block of a tree model (R341, R342). -/
def treeBlock (e bins : Bytes) : Bytes :=
  let s := classScores e bins
  let int := ensLeaf e == 2
  let tr := ensTransform e
  let values := match tr with
    | 1 => s.map logistic
    | 2 => softmax s
    | _ => s
  let cls := if tr = 2 || tr = 3 then argmax int s else 0
  let v := values.getD cls 0
  let thr := word32 e 16
  let verdict := byteAt e 10 % 2 == 1 &&
    (if int then decide (toSigned 32 thr.toNat ≤ toSigned 32 v.toNat) else fle thr v)
  scoreBlock values cls verdict (ensLeaf e ≤ 1 && s.any nonFinite)

/-! ## The model image (R369 to R371, R395) -/

def mdKind (m : Bytes) : Nat := byteAt m 6
def mdUse (m : Bytes) : Nat := byteAt m 7
def mdOps (m : Bytes) : Nat := byteAt m 9
def mdFeatures (m : Bytes) : Nat := fld m 10 2
def mdOpsLen (m : Bytes) : Nat := pad64 (16 * mdOps m)
def mdEnsLen (m : Bytes) : Nat := fld m 40 8
def mdWgtLen (m : Bytes) : Nat := fld m 48 4
def mdDescs (m : Bytes) : Nat := fld m 52 2
def mdOp (m : Bytes) (i : Nat) : Bytes := sub m (64 + 16 * i) 16
def mdEns (m : Bytes) : Bytes := sub m (64 + mdOpsLen m) (mdEnsLen m)
def mdWeights (m : Bytes) : Bytes := sub m (64 + mdOpsLen m) (mdWgtLen m)
def mdDesc (m : Bytes) (i : Nat) : Bytes := sub m (64 + mdOpsLen m + mdWgtLen m + 64 * i) 64

/-- An operation of a sequence program (R395). -/
def opValid (telemetry : Bool) (i : Nat) (o : Bytes) : Bool :=
  let op := byteAt o 0
  let kind := byteAt o 1 / 64
  let n := byteAt o 1 % 16
  let base := byteAt o 2 / 64
  let bn := byteAt o 2 % 16
  1 ≤ op && op ≤ 4 && byteAt o 3 == 0 && byteAt o 1 / 16 % 4 == 0 && byteAt o 2 / 16 % 4 == 0 &&
    kind ≤ 2 && (kind != 1 || n < i) && (kind != 2 || n == 0) &&
    (if op = 2 then base ≤ 2 && (base != 2 || telemetry) && (base == 1 || bn == 0) && (base != 1 || bn < 8) else byteAt o 2 == 0) &&
    match op with
    | 1 => !nonFinite (word32 o 4) && fle 0 (word32 o 4) && fle (word32 o 4) 0x3F800000 && zeroAt o 8 8
    | 2 => (if base = 0 then !nonFinite (word32 o 4) else fld o 4 4 == 0) && !nonFinite (word32 o 8) && fle 0 (word32 o 8) &&
           !nonFinite (word32 o 12) && flt 0 (word32 o 12)
    | 3 => !nonFinite (word32 o 4) && 1 ≤ fld o 8 4 && fld o 8 4 ≤ 65535 && zeroAt o 12 4
    | _ => zeroAt o 4 12

/-- A CUSUM base of kind 1 names an EWMA operation. -/
def opBaseValid (m : Bytes) (o : Bytes) : Bool :=
  byteAt o 0 != 2 || byteAt o 2 / 64 != 1 || (byteAt o 2 % 16 < mdOps m && byteAt (mdOp m (byteAt o 2 % 16)) 0 == 1)

/-- Bytes of one dense element by type: INT8, E4M3, E5M2, BF16. -/
def typeBytes (t : Nat) : Nat := if t = 3 then 2 else 1
/-- Bytes of one output (R350). -/
def outBytes (t : Nat) : Nat := match t with | 0 | 5 => 4 | 1 => 2 | _ => 1

/-- The operand pairs of R347, as input and weight types. -/
def pairValid (i w : Nat) : Bool :=
  (i == 0 && w == 0) || ((i == 1 || i == 2) && (w == 1 || w == 2)) || (i == 3 && 1 ≤ w && w ≤ 3)

def inScratch (off len : Nat) : Bool := off + len ≤ 32768

def rowStride (w i : Nat) : Nat := pad64 (i * typeBytes w)

/-- A weight region holds no FP8 or BF16 NaN or infinity, and its padding is zero (R348, R351). -/
def weightsValid (wgt : Bytes) (w off i o : Nat) : Bool :=
  let st := rowStride w i
  (List.range o).all (fun r =>
    (List.range i).all (fun c =>
      let v := fld wgt (off + r * st + c * typeBytes w) (typeBytes w)
      match w with
      | 1 => !e4m3Special v
      | 2 => !e5m2Special v
      | 3 => !bf16Special v
      | _ => true) && zeroAt wgt (off + r * st + i * typeBytes w) (st - i * typeBytes w)) &&
    zeroAt wgt (off + o * st + 4 * o) (pad64 (o * st + 4 * o) - (o * st + 4 * o))

/-- A DENSE, SKETCH or scope-0 REDUCE descriptor of a model image (R352 to R358, R370). `denseType` is checked when a map is bound. -/
def descValid (wgt d : Bytes) : Bool :=
  let out := fld d 8 4
  let common := fld d 2 2 == 0 && fld d 4 4 == 0
  match byteAt d 0 with
  | 2 =>
    let w := byteAt d 16 % 16
    let i := byteAt d 16 / 16
    let n := fld d 20 2
    let o := fld d 22 2
    let off := fld d 24 4
    common && w ≤ 3 && i ≤ 3 && pairValid i w && byteAt d 17 ≤ 5 && byteAt d 18 ≤ 3 && (byteAt d 17 != 5 || (i == 0 && byteAt d 18 == 0)) &&
      1 ≤ n && n ≤ 4096 && 1 ≤ o && o ≤ 4096 && off % 64 == 0 &&
      off + pad64 (o * rowStride w n + 4 * o) ≤ wgt.length && weightsValid wgt w off n o &&
      ((fld d 28 4 == 0xFFFFFFFF && (i == 0 || i == 3)) || inScratch (fld d 28 4) (n * typeBytes i)) && inScratch out (o * outBytes (byteAt d 17)) &&
      o * ceilDiv n (if i = 3 then 16 else 64) + 24 ≤ 2400
  | 3 =>
    let rows := byteAt d 17
    let logw := byteAt d 18
    let cnt := fld d 28 2
    let size := if byteAt d 16 = 0 then 4 * (rows * 2 ^ logw) else 1024
    common && out == 0 && byteAt d 16 ≤ 1 &&
      (if byteAt d 16 = 0 then 1 ≤ rows && rows ≤ 8 && 4 ≤ logw && logw ≤ 12 && byteAt d 19 == 0 else rows == 0 && logw == 0 && byteAt d 19 ≤ 31) &&
      1 ≤ cnt && cnt ≤ 1024 && inScratch (fld d 20 4) size && inScratch (fld d 24 4) (8 * cnt) &&
      (if byteAt d 16 = 0 then cnt * rows + 16 else cnt + 16) ≤ 2400
  | 4 =>
    let op := byteAt d 16
    let n := fld d 28 2
    common && op ≤ 4 && byteAt d 17 == 0 && (op == 4 || fld d 24 4 == 0) && 1 ≤ n && n ≤ 4096 && zeroAt d 32 8 &&
      inScratch (fld d 20 4) (4 * n) && (op != 4 || inScratch (fld d 24 4) (4 * n)) &&
      inScratch out (if op = 1 then 8 else 4)
  | _ => false

/-- A model image that LOAD_MODEL takes in a context (R369, R370, R372). -/
def modelValid (m : Bytes) (ctx : Nat) : Bool :=
  let tree := mdKind m == 0
  let ops := mdOps m
  let tail := if tree then pad64 (mdEnsLen m) else mdWgtLen m + 64 * mdDescs m
  64 ≤ m.length && fld m 0 4 == 0x4F4D4431 && fld m 4 2 == 1 && mdKind m ≤ 1 && mdUse m ≤ 1 && (mdUse m == 0 || ctx == 0) &&
    ops ≤ 8 && 1 ≤ mdFeatures m && mdFeatures m ≤ 1024 &&
    fld m 16 8 == m.length && m.length == 64 + mdOpsLen m + tail && fld m 24 4 == crc32c (m.drop 64) &&
    zeroAt m (64 + 16 * ops) (mdOpsLen m - 16 * ops) &&
    (List.range ops).all (fun i => opValid (mdUse m == 1) i (mdOp m i) && opBaseValid m (mdOp m i)) &&
    (if tree then
      byteAt m 8 / 2 % 2 == 0 && fld m 28 2 == 0 && fld m 32 8 == 0 && mdWgtLen m == 0 && mdDescs m == 0 && ensValid (mdEns m) (mdFeatures m) &&
        zeroAt m (64 + mdOpsLen m + mdEnsLen m) (pad64 (mdEnsLen m) - mdEnsLen m)
     else
      mdEnsLen m == 0 && 64 ≤ mdWgtLen m && mdWgtLen m ≤ 128000 && mdWgtLen m % 64 == 0 && 1 ≤ mdDescs m && mdDescs m ≤ 64 &&
        1 ≤ fld m 28 2 && fld m 28 2 ≤ 16 && inScratch (fld m 32 4) (4 * fld m 28 2) && !isNan (word32 m 36) &&
        (List.range (mdDescs m)).all fun i => descValid (mdWeights m) (mdDesc m i))

/-! ## Scratch (R360) -/

/-- A scratch byte as a context reads it: zero where another context wrote the line last. -/
def Tartlet.read1 (t : Tartlet) (ctx a : Nat) : Byte := if Tbl.get 0 (a / 64) t.tags = ctx + 1 then Tbl.get 0 a t.scratch else 0
def Tartlet.read (t : Tartlet) (ctx off n : Nat) : Nat := ofBe ((List.range n).map fun i => t.read1 ctx (off + i))

/-- Write a byte: a line of another context is taken over with zeros. -/
def Tartlet.write1 (ctx : Nat) (t : Tartlet) (a : Nat) (b : Byte) : Tartlet :=
  let l := a / 64
  let t1 := if Tbl.get 0 l t.tags = ctx + 1 then t
    else { t with scratch := (List.range 64).foldl (fun m i => Tbl.erase (64 * l + i) m) t.scratch, tags := Tbl.set 0 l (ctx + 1) t.tags }
  { t1 with scratch := Tbl.set 0 a b t1.scratch }

def Tartlet.write (t : Tartlet) (ctx off : Nat) (bs : Bytes) : Tartlet := bs.zipIdx.foldl (fun t q => t.write1 ctx (off + q.2) q.1) t

/-! ## The dense lane (R347 to R351) -/

/-- An element in FP32. -/
def elemFp (t v : Nat) : Word := match t with | 1 => fromE4m3 v | 2 => fromE5m2 v | 3 => fromBf16 v | _ => ofInt32 (toSigned 8 v)

def activate (act : Nat) (t : Word) : Word :=
  let relu (x : Word) : Word := if isNan x then x else if flt 0 x then x else 0
  match act with
  | 1 => relu t
  | 2 => let r := relu t; if isNan r then r else if flt 0x40C00000 r then 0x40C00000 else r
  | 3 => logistic t
  | _ => t

def convertOut (out : Nat) (t : Word) : Bytes :=
  match out with
  | 0 => be 4 t.toNat
  | 1 => be 2 (toBf16 t).1
  | 2 => be 1 (toE4m3 t)
  | 3 => be 1 (toE5m2 t)
  | _ => be 1 (toInt8 t).1

/-- One output of a layer: its bytes, and whether its accumulator is a NaN or an infinity (R349, R350). -/
def denseOut (d wgt : Bytes) (xs : List Nat) (o : Nat) : Bytes × Bool :=
  let w := byteAt d 16 % 16
  let it := byteAt d 16 / 16
  let n := fld d 20 2
  let outs := fld d 22 2
  let off := fld d 24 4
  let st := rowStride w n
  let ws := (List.range n).map fun i => fld wgt (off + o * st + i * typeBytes w) (typeBytes w)
  let bias := word32 wgt (off + outs * st + 4 * o)
  if it = 0 then
    let acc := (ws.zip xs).foldl (fun a p => a + toSigned 8 p.1 * toSigned 8 p.2) 0
    if byteAt d 17 = 5 then (be 4 (ofSigned 32 acc), false)
    else (convertOut (byteAt d 17) (activate (byteAt d 18) (fma (ofInt32 acc) (word32 d 32) bias)), false)
  else
    let acc := canon ((ws.zip xs).map fun p => fmul (elemFp w p.1) (elemFp it p.2))
    (convertOut (byteAt d 17) (activate (byteAt d 18) (fma acc (word32 d 32) bias)), nonFinite acc)

/-- DENSE (R354). -/
def runDense (t : Tartlet) (ctx : Nat) (d wgt : Bytes) (v : Vec) : Tartlet × Bool :=
  let it := byteAt d 16 / 16
  let n := fld d 20 2
  let wd := typeBytes it
  let xs := (List.range n).map fun i => if fld d 28 4 = 0xFFFFFFFF then fld v.dense (i * wd) wd else t.read ctx (fld d 28 4 + i * wd) wd
  let rs := (List.range (fld d 22 2)).map (denseOut d wgt xs)
  (t.write ctx (fld d 8 4) (rs.map (·.1)).flatten, rs.any (·.2))

/-- The bucket of R190. -/
def logBucket (v s : Nat) : Nat :=
  let x := v >>> s
  if x < 8 then x else let e := Nat.log2 x; if 33 < e then 255 else 8 * (e - 2) + (x >>> (e - 3)) % 8

/-- Add to one counter, saturating (R355). -/
def Tartlet.bump (t : Tartlet) (ctx off inc : Nat) : Tartlet := t.write ctx off (be 4 (min (t.read ctx off 4 + inc) 0xFFFFFFFF))

/-- One item of a SKETCH. -/
def sketchItem (ctx : Nat) (d : Bytes) (t : Tartlet) (i : Nat) : Tartlet :=
  let at_ := fld d 24 4 + 8 * i
  let key := t.read ctx at_ 4
  let inc := t.read ctx (at_ + 4) 4
  let tab := fld d 20 4
  if byteAt d 16 = 1 then t.bump ctx (tab + 4 * logBucket key (byteAt d 19)) inc
  else
    let logw := byteAt d 18
    (List.range (byteAt d 17)).foldl (fun t r =>
      let k := key ^^^ (byteAt d (32 + r) * 2 ^ 24)
      let h := k * 0x9E3779B1 % 2 ^ 32 / 2 ^ (32 - logw)
      t.bump ctx (tab + 4 * (r * 2 ^ logw + h)) inc) t

/-- SKETCH (R355). -/
def runSketch (t : Tartlet) (ctx : Nat) (d : Bytes) : Tartlet := (List.range (fld d 28 2)).foldl (sketchItem ctx d) t

/-- Minimum or maximum of R356: a NaN gives the canonical NaN. -/
def extreme (least : Bool) (v : List Word) : Word :=
  if v.any isNan then canonicalNan
  else match v with
    | [] => 0
    | x :: xs => xs.foldl (fun a b => if least then (if totalLe a b then a else b) else (if totalLe a b then b else a)) x

/-- REDUCE of scope 0 (R356), and whether an FP sum is a NaN or an infinity. -/
def runReduce (t : Tartlet) (ctx : Nat) (d : Bytes) : Tartlet × Bool :=
  let elems (off : Nat) : List Word := (List.range (fld d 28 2)).map fun i => BitVec.ofNat 32 (t.read ctx (off + 4 * i) 4)
  let a := elems (fld d 20 4)
  let out := fld d 8 4
  match byteAt d 16 with
  | 0 => let s := canon a; (t.write ctx out (be 4 s.toNat), nonFinite s)
  | 1 => (t.write ctx out (be 8 (ofSigned 64 (a.foldl (fun z w => z + toSigned 32 w.toNat) 0))), false)
  | 2 => (t.write ctx out (be 4 (extreme true a).toNat), false)
  | 3 => (t.write ctx out (be 4 (extreme false a).toNat), false)
  | _ =>
    let b := elems (fld d 24 4)
    let s := canon ((a.zip b).map fun p => let x := fsub p.1 p.2; fmul x x)
    (t.write ctx out (be 4 s.toNat), nonFinite s)

/-- A descriptor's effect on its tartlet, and whether it met a NaN or an infinity. TREE_PASS and SCAN leave scratch alone here. -/
def runDescriptor (t : Tartlet) (ctx : Nat) (image d : Bytes) (v : Vec) : Tartlet × Bool :=
  match byteAt d 0 with
  | 2 => runDense t ctx d (mdWeights image) v
  | 3 => (runSketch t ctx d, false)
  | 4 => runReduce t ctx d
  | _ => (t, false)

/-- The score block of a dense model, from its tartlet's scratch (R371). -/
def denseBlock (t : Tartlet) (ctx : Nat) (image : Bytes) (nonf : Bool) : Bytes :=
  let values := (List.range (fld image 28 2)).map fun i => BitVec.ofNat 32 (t.read ctx (fld image 32 4 + 4 * i) 4)
  scoreBlock values 0 (byteAt image 8 / 2 % 2 == 1 && fle (word32 image 36) (values.headD 0)) nonf

/-! ## Sequence programs (R396) -/

/-- What a step has made so far: the state bytes, outputs and alarm bits. -/
structure Step where
  state : Bytes
  outs : List Word
  alarms : Nat
deriving DecidableEq, Repr

/-- One operation on its 32 bytes of state: new bytes, output, alarm. `mu` is the CUSUM base. -/
def seqOp (o : Bytes) (st : Bytes) (x mu : Word) : Bytes × Word × Bool :=
  match byteAt o 0 with
  | 1 =>
    if isNan x then (st, x, false)
    else
      let n := fld st 4 4
      let m := if n = 0 then x else fma (word32 o 4) (fsub x (word32 st 0)) (word32 st 0)
      (be 4 m.toNat ++ be 4 (min (n + 1) 0xFFFFFFFF) ++ zeros 24, m, false)
  | 2 =>
    if isNan x then (st, x, false)
    else
      let k := word32 o 8
      let d := fsub x mu
      let sp := fmaxNum 0 (fadd (word32 st 0) (fsub d k))
      let sm := fmaxNum 0 (fadd (word32 st 4) (fsub (d ^^^ 0x80000000) k))
      let out := fmaxNum sp sm
      if fle (word32 o 12) out then (zeros 32, out, true) else (be 4 sp.toNat ++ be 4 sm.toNat ++ zeros 24, out, false)
  | 3 =>
    let run := if isNan x then fld st 0 4 else if fle (word32 o 4) x then min (fld st 0 4 + 1) 0xFFFFFFFF else 0
    (be 4 run ++ zeros 28, ofNat32 run, !isNan x && fld o 8 4 ≤ run)
  | _ =>
    let ptr := byteAt st 28
    let fill := byteAt st 29
    let st1 := if isNan x then st else putAt st (4 * ptr) (be 4 x.toNat)
    let ptr1 := if isNan x then ptr else (ptr + 1) % 7
    let fill1 := if isNan x then fill else min 7 (fill + 1)
    let newest := (List.range fill1).map fun i => word32 st1 (4 * ((ptr1 + 7 - fill1 + i) % 7))
    (st1.take 28 ++ be 1 ptr1 ++ be 1 fill1 ++ zeros 2, if fill1 = 0 then 0 else canon newest, false)

/-- A step over a score block (R396). `baseline` is the group baseline of the tick. -/
def seqStep (image block state : Bytes) (baseline : Word) : Step :=
  (List.range (mdOps image)).foldl (fun (a : Step) i =>
    let o := mdOp image i
    let n := byteAt o 1 % 16
    let x : Word := match byteAt o 1 / 64 with
      | 0 => word32 block (4 * n)
      | 1 => a.outs.getD n 0
      | _ => if byteAt block 65 % 2 = 1 then 0x3F800000 else 0
    let mu : Word := match byteAt o 2 / 64 with
      | 0 => word32 o 4
      | 1 => word32 state (32 * (byteAt o 2 % 16))
      | _ => baseline
    let r := seqOp o (sub a.state (32 * i) 32) x mu
    { state := putAt a.state (32 * i) r.1, outs := a.outs ++ [r.2.1], alarms := a.alarms + flagBit r.2.2 i })
    { state := padTo 256 state, outs := [], alarms := 0 }

/-- An initial state that OPEN_SEQUENCE takes (R396). -/
def seqStateValid (image st : Bytes) : Bool :=
  zeroAt st (32 * mdOps image) (256 - 32 * mdOps image) &&
    (List.range (mdOps image)).all fun i =>
      let b := sub st (32 * i) 32
      match byteAt (mdOp image i) 0 with
      | 1 | 2 => zeroAt b 8 24
      | 3 => zeroAt b 4 28
      | _ => byteAt b 28 ≤ 6 && byteAt b 29 ≤ 7 && zeroAt b 30 2

end Sys2Proof.Machine
end

