-- ==== Sys2Proof/Machine/Groups.lean ====
section
/-! DEFINITION. What a reduction group makes of verdict records on its own member (chapter 12): configuration fields, keys and values of a die,
closes in flight, threshold and naming runs, baselines. Verdicts are kept behind their tick's instant in ns. -/

namespace Sys2Proof.Machine
open Sys2Proof

/-! ## Configuration (R436) -/

def gcEpoch (c : Bytes) : Nat := fld c 4 4
def gcKind (c : Bytes) : Nat := byteAt c 8
def gcN (c : Bytes) : Nat := byteAt c 9
def gcField (c : Bytes) : Nat := byteAt c 10
def gcF (c : Bytes) : Nat := byteAt c 11
def gcSource (c : Bytes) : Nat := fld c 12 2
def gcK (c : Bytes) : Nat := fld c 14 2
def gcP (c : Bytes) : Nat := fld c 16 2
def gcRun (c : Bytes) : Nat := byteAt c 18
def gcDir (c : Bytes) : Nat := byteAt c 19
def gcQuant (c : Bytes) : Nat := fld c 20 2
def gcDrift (c : Bytes) : Nat := byteAt c 22
def gcCause (c : Bytes) : Nat := fld c 24 2
def gcReport (c : Bytes) : Nat := fld c 28 4
/-- Position p is a member (byte 1,087 holds positions 7 to 0). -/
def gcMember (c : Bytes) (p : Nat) : Bool := (byteAt c (1087 - p / 8)).testBit (p % 8)
/-- A straggler pass is configured (R426). -/
def gcStraggler (c : Bytes) : Bool := gcKind c == 5 && gcRun c != 0

/-- The close period in epochs (R419): the default is the smallest that lasts 10 us, and takes over where P has become too short. -/
def Group.periodOf (g : Group) (epoch : Nat) : Nat :=
  let d := ceilDiv 10000 epoch
  let p := gcP g.config
  if p = 0 || g.defaulted || p * epoch < 10000 then d else p

/-! ## Values of a die (R411, R412) -/

/-- What a FIELD gives: an integer score, a binary32 value. -/
inductive Score where
  | int (z : Int)
  | real (w : Word)
deriving DecidableEq, Repr

/-- FIELD j of a verdict record. VALUE of an INT16 ensemble is INT32 (R337, R342). -/
def scoreOf (image : Bytes) (rec_ : Bytes) (j : Nat) : Score :=
  if 16 ≤ j then .real (word32 rec_ (96 + 4 * (j - 16)))
  else if mdKind image = 0 && ensLeaf (mdEns image) = 2 then .int (toSigned 32 (fld rec_ (20 + 4 * j) 4))
  else .real (word32 rec_ (20 + 4 * j))

/-- floor(x · 2^F) clamped to lo … hi; none for a NaN. -/
def Score.scaled (v : Score) (f : Nat) (lo hi : Int) : Option Int :=
  match v with
  | .int z => some (max lo (min hi (z * (2 ^ f : Nat))))
  | .real w =>
    if isNan w then none
    else if isInf w then some (if fpNeg w then lo else hi)
    else (floorScaled (fp w) f).map fun z => max lo (min hi z)

/-- The unsigned key u, and the signed value s. -/
def Score.key (v : Score) (f : Nat) : Option Int := v.scaled f 0 4294967295
def Score.value (v : Score) (f : Nat) : Option Int := v.scaled f (-9223372036854775808) 9223372036854775807

def recTick (r : Bytes) : Nat := fld r 0 8
def recModel (r : Bytes) : Nat := fld r 8 2
def recStatus (r : Bytes) : Nat := fld r 10 2
def recPort (r : Bytes) : Nat := byteAt r 14
def recClass (r : Bytes) : Nat := byteAt r 84
def recVerdict (r : Bytes) : Bool := byteAt r 85 % 2 == 1
def recAlarm (r : Bytes) (op : Nat) : Bool := op < 8 && (byteAt r 92).testBit op

/-- The better of two keys for a close (R412): greatest under DIR 0, least under DIR 1. -/
def bestKey (dir : Nat) (a b : Int) : Int := if dir = 0 then max a b else min a b

/-- A close takes one record of its period: key, drift alarm, class of the cause model at its last tick. -/
def Close.note (c : Close) (cfg image : Bytes) (at_ : Nat) (r : Bytes) : Close :=
  let p := recPort r
  let c1 :=
    if recModel r = gcSource cfg && recStatus r = St.ok then
      let k := (scoreOf image r (gcField cfg)).key (gcF cfg)
      let d := if recAlarm r (gcDrift cfg) && !c.drift.contains p then p :: c.drift else c.drift
      match k with
      | some u => { c with drift := d, keys := Tbl.insert p (match Tbl.find? p c.keys with | some v => bestKey (gcDir cfg) u v | none => u) c.keys }
      | none => { c with drift := d }
    else c
  if recModel r = gcCause cfg && gcCause cfg != 0 && recStatus r = St.ok && at_ = nsOf c.instant then
    { c1 with classes := Tbl.insert p (recClass r) c1.classes }
  else c1

/-- The record's instant lies in the close's period. -/
def Close.covers (c : Close) (at_ : Nat) : Bool := nsOf c.since < at_ && at_ ≤ nsOf c.instant

/-! ## Closes in flight (R423) -/

/-- The member holds the close's final result. -/
def Close.complete (c : Close) : Bool := !c.summary.isEmpty && (!gcStraggler c.config || c.finalList.isSome)

/-- A close begins at its tick; a ninth in flight abandons the oldest (R423). A straggler pass keeps a complete close until every die is judged. -/
def Group.openClose (g : Group) (image : Bytes) (c : Close) : Group :=
  let c1 := g.verdicts.foldl (fun (a : Close) v => if c.covers (fld v 0 8) then a.note c.config image (fld v 0 8) (v.drop 8) else a) c
  let fl := g.closes.filter fun d => !d.complete
  let g1 := if 8 ≤ fl.length then
      let old := (fl.head?.map (·.instant)).getD 0
      { g with closes := g.closes.filter (fun d => d.instant != old || d.complete), abandoned := satInc 32 g.abandoned }
    else g
  { g1 with closes := g1.closes ++ [c1], lastClose := c.instant }

/-! ## Naming (R426 to R428) -/

/-- The die is beyond threshold T (R422). -/
def beyond (dir : Nat) (t : Nat) (u : Int) : Bool := if dir = 0 then decide ((t : Int) ≤ u) else decide (u < (t : Int))

/-- An entry of a top-K list (R416). A die named by drift alone that has no close key has no RANK in the spec: a free value. -/
def topEntry (dir : Nat) (key : Option Int) (oid reasons cls run : Nat) : Bytes :=
  let rank := match key with
    | some u => ofSigned 64 (if dir = 0 then u else -u)
    | none => (Config.rankKey oid).toNat
  be 8 rank ++ be 4 oid ++ be 1 reasons ++ be 1 cls ++ be 1 (min run 255) ++ be 1 0

/-- Compare a die with the threshold of a close and name it. -/
def Group.judge (g : Group) (c : Close) (p oid : Nat) : Group × Close :=
  if c.judged.contains p then (g, c)
  else
    let key := Tbl.find? p c.keys
    let past := match key with
      | some u => fld c.summary 18 1 % 2 = 0 && beyond (gcDir c.config) (fld c.summary 8 8) u
      | none => false
    let run := if past then Tbl.get 0 p g.runs + 1 else 0
    let drift := c.drift.contains p
    let c1 := { c with judged := p :: c.judged }
    let g1 := { g with runs := Tbl.set 0 p run g.runs }
    if (past && gcRun c.config ≤ run) || drift then
      let e := topEntry (gcDir c.config) key oid (flagBit (past && gcRun c.config ≤ run) 0 + flagBit drift 1 + flagBit g.suspect 2) (Tbl.get 0 p c.classes) run
      if c.passTwo then ({ g1 with lateNamed := g1.lateNamed ++ [be 8 (nsOf c.instant) ++ e] }, c1)
      else (g1, { c1 with named := c1.named ++ [e] })
    else (g1, c1)

/-- A verdict of model k for die p at or before an instant is still to come. -/
def State.verdictDue (s : State) (p k at_ : Nat) : Bool :=
  let mine (j : VecJob) : Bool := j.src == .die p && j.model == k && j.tick * j.epoch ≤ at_
  let h := s.data
  (Tbl.get ({} : Die) p h.dies).waits.any (fun w => nsOf w.instant ≤ at_ && w.models.any (·.1 == k)) ||
    [h.half0, h.half1].any (fun x => x.telemetry.any mine || (x.busy.map fun b => mine b.1).getD false) ||
    h.works.any (fun w => w.src == .die p && w.model == k && w.tick * w.epoch ≤ at_) ||
    h.scored.any (fun w => w.src == .die p && w.model == k && w.tick * w.epoch ≤ at_)

/-- The ports with a die, and their OIDs. -/
def State.diePorts (s : State) : List (Nat × Nat) := s.verbs.knownOid.filter fun e => e.1 < 64 && e.2 != 0

def State.group (s : State) (i : Nat) : Group := Tbl.get {} i s.data.groups
def State.setGroup (s : State) (i : Nat) (g : Group) : State := { s with data := { s.data with groups := Tbl.set {} i g s.data.groups } }

/-- Judge every die of a close whose last key has come; all of them once 100 us have passed (R427). -/
def State.judgeClose (s : State) (g : Group) (c : Close) : Group × Close :=
  let late := decide (c.instant + 100000 * unit ≤ s.svc)
  s.diePorts.foldl (fun a e =>
    if late || !s.verdictDue e.1 (gcSource c.config) (nsOf c.instant) then a.1.judge a.2 e.1 e.2 else a) (g, c)

/-- Every die of the close has been compared. -/
def State.judgedAll (s : State) (c : Close) : Bool := s.diePorts.all fun e => c.judged.contains e.1

/-- Apply the closes whose summaries have arrived, in close order; one without a summary holds back those after it (R426). A complete close
leaves once every die is compared. -/
def State.applyCloses (s : State) (g : Group) : List Close → Group × List Close
  | [] => (g, [])
  | c :: cs =>
    if c.summary.isEmpty then (g, c :: cs)
    else
      let r := if gcStraggler c.config then s.judgeClose g c else (g, c)
      let c1 := { r.2 with applied := true }
      let rest := s.applyCloses r.1 cs
      (rest.1, if c1.complete && (!gcStraggler c.config || s.judgedAll c1) then rest.2 else c1 :: rest.2)

def State.applyGroup (s : State) (i : Nat) : State :=
  let g := s.group i
  let r := s.applyCloses g g.closes
  s.setGroup i { r.1 with closes := r.2 }

/-! ## Verdicts (R399, R420, R427) -/

/-- A group takes a verdict record of its source or cause model. -/
def State.verdictTo (s : State) (at_ : Nat) (r : Bytes) (i : Nat) : State :=
  let g := s.group i
  let mine (c : Bytes) : Bool := !c.isEmpty && (recModel r == gcSource c || recModel r == gcCause c)
  if (g.joined && mine g.config) || g.closes.any fun c => mine c.config then
    let img := (s.model (recModel r)).image
    let now := nsOf s.svc
    let keep (c : Close) : Close :=
      if c.covers at_ && now ≤ nsOf c.instant + 100000 && !c.judged.contains (recPort r) then c.note c.config img at_ r else c
    (s.setGroup i { g with verdicts := g.verdicts ++ [be 8 at_ ++ r], closes := g.closes.map keep }).applyGroup i
  else s

/-- Pass a verdict record to the reduction engine. -/
def State.toGroups (s : State) (at_ : Nat) (r : Bytes) : State :=
  s.data.groups.foldl (fun t e => t.verdictTo at_ r e.1) s

/-! ## Baselines (R429) -/

/-- The baseline in force at a service instant: a NaN before any. -/
def Baseline.at (b : Baseline) (t : Nat) : Word := ((b.values.find? fun v => v.1 ≤ t).map (·.2)).getD 0x7FC00000

/-- A new value, in force from 2 us after now. -/
def Baseline.put (b : Baseline) (now : Nat) (v : Word) : Baseline := { b with values := ((now + twoUs, v) :: b.values).take 64 }

end Sys2Proof.Machine
end

