-- ==== Sys2Proof/Machine/Models.lean ====
section
/-! DEFINITION. Models (chapter 11, first part): loading of images and feature maps, placement, unloading, and the verbs of R405. -/

namespace Sys2Proof.Machine
open Sys2Proof

def xModel (x : Sentence) : Nat := modelNum x.tenant.toNat (x.f 0 2)
def keyNum (m : ModelKey) : Nat := modelNum m.ctx.toNat m.id.toNat

/-! ## The stores (R287, R303, R376) -/

/-- Pages in use by a context: its models, and what is being zeroed. -/
def State.pagesOf (s : State) (c : Nat) : Nat :=
  (s.data.models.filter fun e => modelCtx e.1 == c).foldl (fun a e => a + e.2.pages) 0 + (Tbl.get [] c s.data.zeroing).length
def State.pagesUsed (s : State) : Nat :=
  s.data.models.foldl (fun a e => a + e.2.pages) 0 + s.data.zeroing.foldl (fun a e => a + e.2.length) 0

/-- The quota of a context (R542): the pages of its windows of kind 4 with write. -/
def State.pageQuota (s : State) (c : Nat) : Nat :=
  if c = 0 then storePages
  else (s.sec.windows.filter fun w => w.ctx == c && w.kind == 4 && w.rights.getLsbD 1).foldl (fun a w => a + (w.range.extractLsb' 32 32).toNat) 0

/-- Map bytes held, the model's own image aside, and the maps held (R303). -/
def State.mapBytes (s : State) (k : Nat) : Nat :=
  s.data.models.foldl (fun a e => a + (if e.1 = k then 0 else e.2.map.length) + ((e.2.mapNext.map (·.1.length)).getD 0) +
    (if e.1 = k then 0 else (e.2.mapLoad.map LoadState.stored).getD 0)) 0
def State.mapCount (s : State) : Nat := (s.data.models.filter fun e => !e.2.map.isEmpty).length

/-! ## Sealed images (R554) -/

/-- The header of a sealed image agrees with the slot and with the chunk header. -/
def State.sealMatches (s : State) (c id : Nat) (b : Bytes) : Bool :=
  let v := Tbl.get {} c s.sec.vault
  v.state == 1 && fld b 6 2 == c && fld b 8 2 == id && fld b 12 4 == v.keyId.toNat

/-- The plaintext of what has arrived of a sealed image of `total` bytes, under a context's weight key. -/
def State.unseal (s : State) (c total : Nat) (b : Bytes) : Bytes :=
  gcmStream (Tbl.get {} c s.sec.vault).weightKey (sub b 24 12) ((b.drop 64).take (total - 80))

/-- The tag of a whole sealed image. -/
def State.tagHolds (s : State) (c : Nat) (b : Bytes) : Bool :=
  gcmTag (Tbl.get {} c s.sec.vault).weightKey (sub b 24 12) (b.take 32) ((b.drop 64).take (b.length - 80)) == b.drop (b.length - 16)

/-- The inner image of a whole load: context 0 may send either form; a tag that fails gives none. -/
def State.openImage (s : State) (c : Nat) (b : Bytes) : Option Bytes :=
  if isSealed b then
    if fld b 4 2 == 1 && fld b 16 8 + 80 == b.length && s.tagHolds c b then some (s.unseal c b.length b) else none
  else if c = 0 then some b else none

/-- The bytes of the inner image that a chunk of a load brings, with their place in it. -/
def State.chunkPlain (s : State) (c : Nat) (x : Sentence) (l : LoadState) : Nat × Bytes :=
  if isSealed l.received then
    let off := min (x.f 4 8 - 64) (l.total - 80)
    (off, (s.unseal c l.total l.received).drop off)
  else (x.f 4 8, x.params.drop 32)

/-! ## Chunks (R373, R374) -/

def chFirst (x : Sentence) : Bool := x.b 2 % 2 == 1
def chLast (x : Sentence) : Bool := x.b 2 / 2 % 2 == 1
def chOffset (x : Sentence) : Nat := x.f 4 8
def chTotal (x : Sentence) : Nat := x.f 12 8
def chBytes (x : Sentence) : Bytes := x.params.drop 32

def chunkValid (x : Sentence) : Bool :=
  x.f 0 2 != 0 && (!chFirst x || chOffset x == 0) && chOffset x + (chBytes x).length ≤ chTotal x &&
    (!chLast x || chOffset x + (chBytes x).length == chTotal x)

/-- The load after a chunk, or none where the chunk does not continue it. -/
def nextLoad (now : Nat) (l : Option LoadState) (x : Sentence) : Option LoadState :=
  if chFirst x then some ⟨chBytes x, chTotal x, now⟩
  else match l with
    | some q => if chOffset x == q.received.length && chTotal x == q.total then some { q with received := q.received ++ chBytes x, last := now } else none
    | none => none

/-- A chunk taken: ST_ACCEPTED, then ST_OK once its bytes are in the store. -/
def State.chunkDone (s : State) (x : Sentence) (results : Bytes := []) : State × Answer :=
  ((s.acceptedReply x (s.bufOf .agg x.ticket)).final .agg x.ticket St.ok results, .done)

/-- Discard a model load: the model returns to ABSENT, and its pages are zeroed. -/
def State.discardLoad (s : State) (k : Nat) : State :=
  let m := s.model k
  (s.setModel k {}).zeroPages (modelCtx k) m.at_

/-- A mechanism that a part held at level 2 lacks (R528): CUSUM base kind 2, WINDOW. -/
def usesLevel3 (image : Bytes) : Bool :=
  (List.range (mdOps image)).any fun i => byteAt (mdOp image i) 0 == 4 || (byteAt (mdOp image i) 0 == 2 && byteAt (mdOp image i) 2 / 64 == 2)

def loadModelBody (x : Sentence) (s : State) : State × Answer :=
  let c := x.tenant.toNat
  let k := xModel x
  let m := s.model k
  let absent := m == {}
  if (chFirst x && !absent) || (!chFirst x && m.st != 1) then (s, .final St.state)
  else match nextLoad s.now m.load x with
    | none => (s, .final St.state)
    | some l =>
      if chFirst x && 4096 ≤ s.data.models.length then (s, .final St.busy)
      else
        let s1 := s.setModel k { m with st := 1, load := some l }
        if storePages < s1.pagesUsed || s.pageQuota c < s1.pagesOf c then (s1.discardLoad k, .final St.busy)
        else if isSealed l.received && 64 ≤ l.received.length && !s.sealMatches c (x.f 0 2) l.received then (s1.discardLoad k, .final St.state)
        else
          let b := s.chunkPlain c x l
          let s2 := s1.storeImage k b.1 b.2
          if !chLast x then s2.chunkDone x
          else match s.openImage c l.received with
            | none => (s2.discardLoad k, .final St.param)
            | some image =>
              if !modelValid image c || (s.level .agg < 3 && usesLevel3 image) then (s2.discardLoad k, .final St.param)
              else
                let m1 : Model := { st := 2, image := image, at_ := (s2.model k).at_ }
                (s2.setModel k m1).chunkDone x (be 8 (crc64 image) ++ be 8 (m1.pages * pageBytes))

/-- The whole map of a last chunk, as it stands after the load, or the status that refuses it. -/
def State.mapOf (s : State) (x : Sentence) (l : LoadState) : Nat × Bytes :=
  match s.openImage x.tenant.toNat l.received with
  | none => (St.param, [])
  | some b =>
    let m := s.model (xModel x)
    if mapValid b (mdUse m.image) && mapN b == mdFeatures m.image then (St.ok, b) else (St.param, [])

/-- SET_FEATURE_MAP. `apply` is the staged last chunk at its tick, where the map takes effect at once (R375). -/
def mapChunkBody (apply : Bool) (x : Sentence) (s : State) : State × Answer :=
  let k := xModel x
  let m := s.model k
  if (m.st != 2 && m.st != 4 && !(m.st == 3 && m.place.isSome)) || (chFirst x && m.mapLoad.isSome) then (s, .final St.state)
  else match nextLoad s.now m.mapLoad x with
    | none => (s, .final St.state)
    | some l =>
      let s1 := s.setModel k { m with mapLoad := some l }
      let drop := s.setModel k { m with mapLoad := none }
      if 8388608 < s1.mapBytes k + l.stored || (m.map.isEmpty && 4096 ≤ s.mapCount) then (drop, .final St.busy)
      else if isSealed l.received && 64 ≤ l.received.length && !s.sealMatches x.tenant.toNat (x.f 0 2) l.received then (drop, .final St.state)
      else if !chLast x then s1.chunkDone x
      else
        let r := s1.mapOf x l
        if r.1 != St.ok then (drop, .final r.1)
        else if apply then (s.setModel k { m with mapLoad := none, map := r.2, mapNext := none }, .final St.ok (be 4 r.2.length))
        else (s.setModel k { m with mapLoad := none, mapNext := some (r.2, s.now + 2000) }).chunkDone x (be 4 r.2.length)

def setFeatureMapBody : Sentence → State → State × Answer := mapChunkBody false

/-- LOAD_TIMEOUT (R374): no chunk for 1 s; a staged last chunk that waits in a set keeps its map load. -/
def State.stagedChunk (s : State) (k : Nat) : Bool :=
  s.verbs.staging.any fun e =>
    let has (cs : List (Nat × Sentence)) : Bool := cs.any fun c => c.1 == 0x0503 && xModel c.2 == k
    ((e.2.opened.map fun g => has g.changes).getD false) || ((e.2.committed.map fun g => has g.set.changes).getD false)

def execLoadTimeout (k : ModelKey) (s : State) := finish s (
  let n := keyNum k
  let m := s.model n
  let s1 := match m.load with
    | some l => if m.st = 1 && l.last + 1000000000 ≤ s.now then s.discardLoad n else s
    | none => s
  match (s1.model n).mapLoad with
  | some l => if l.last + 1000000000 ≤ s.now && !s.stagedChunk n then s1.setModel n { s1.model n with mapLoad := none } else s1
  | none => s1)

/-- The map of a model in force now (R321): an unstaged map from the first tick at least 2 us after acceptance on. -/
def State.mapNow (s : State) (m : Model) : Bytes :=
  match m.mapNext with
  | some (b, due) => if (s.dueTick due).isSome then b else m.map
  | none => m.map

def State.settleMap (s : State) (k : Nat) : State :=
  let m := s.model k
  match m.mapNext with
  | some (b, due) => if (s.dueTick due).isSome then s.setModel k { m with map := b, mapNext := none } else s
  | none => s

def execFeatureMapEffective (k : ModelKey) (s : State) := finish s (s.settleMap (keyNum k))

/-! ## Layout (R379, R383) -/

/-- The smallest power of two at least n. -/
def pow2AtLeast (n : Nat) : Nat := if n ≤ 1 then 1 else 2 ^ (Nat.log2 (n - 1) + 1)

/-- Slots that a tree of depth d takes (R333). -/
def slotsOf (d : Nat) : Nat := if d ≤ 8 then 1 else 1 + 2 ^ (d - 8)

/-- Slot `slot` of a bank is free at one position of every replica. -/
def slotFree (dir : Tbl SlotDir) (taken : List SlotPlace) (reps : List (List Nat)) (pos bank slot : Nat) : Bool :=
  reps.all (fun ts => (Tbl.find? (slotKey (ts.getD pos 0) bank slot) dir).isNone) &&
    !taken.any (fun q => q.pos == pos && q.bank == bank && q.slot ≤ slot && slot < q.slot + q.len)

/-- The lowest free run of len slots in a bank. -/
def freeRun (dir : Tbl SlotDir) (taken : List SlotPlace) (reps : List (List Nat)) (pos bank len : Nat) : Option Nat :=
  (List.range (26 - len)).find? fun b => (List.range len).all fun i => slotFree dir taken reps pos bank (b + i)

/-- The trees that tartlet i of a group of n receives: its block of every class, in class order. -/
def shareOf (e : Bytes) (n i : Nat) : List Nat :=
  ((List.range (ensK e)).map fun k =>
    let l := classList e k
    let b := pow2AtLeast (ceilDiv l.length n)
    (l.drop (i * b)).take b).flatten

/-- Deal the trees of one tartlet over its banks. -/
def dealTrees (dir : Tbl SlotDir) (reps : List (List Nat)) (len pos : Nat) (acc : Option (List SlotPlace)) (q : Nat × Nat) : Option (List SlotPlace) :=
  match acc with
  | none => none
  | some a => (freeRun dir a reps pos (q.2 % 4) len).map fun b => a ++ [⟨pos, q.2 % 4, b, len, q.1⟩]

/-- The slots of a placement, none where they do not fit. -/
def layout (dir : Tbl SlotDir) (image : Bytes) (p : Placement) : Option (List SlotPlace) :=
  let reps := (List.range p.replicas).map p.tartlets
  let n := (p.tartlets 0).length
  if p.mode = 1 then
    (List.range (16 * n)).foldl (fun acc i => dealTrees dir reps 1 (i / 16) acc (i % 16, i % 16)) (some [])
  else if mdKind image = 0 then
    let e := mdEns image
    (List.range n).foldl (fun acc i => (shareOf e n i).zipIdx.foldl (dealTrees dir reps (slotsOf (ensDepth e)) i) acc) (some [])
  else
    let banks := ceilDiv (mdWgtLen image) 32000
    if (List.range banks).all fun b => (List.range 25).all fun i => slotFree dir [] reps 0 b i then
      some ((List.range banks).map fun b => ⟨0, b, 0, 25, b⟩)
    else none

/-- A run of 64 free sequence entries from a multiple of 64 on (R381). -/
def State.freeSeqRun (s : State) : Option Nat :=
  ((List.range 1024).map (64 * ·)).find? fun b => (List.range 64).all fun i =>
    let e := Tbl.get ({} : SeqEntry) (b + i) s.data.seqs
    !e.isOpen && e.port.isNone

/-! ## PLACE_MODEL (R379 to R383, R406) -/

def placeMask (x : Sentence) : Nat := x.f 4 8
def placeOf (x : Sentence) : Placement :=
  { mask := placeMask x, replicas := x.b 2, mode := x.b 3, intervalMs := if x.f 12 4 = 0 then 1000 else x.f 12 4 }

/-- The mask and mode suit the model (R377, R378, R383). -/
def placeSuits (image : Bytes) (p : Placement) : Bool :=
  let cs := maskClusters p.mask
  cs.length % p.replicas == 0 &&
    (if mdUse image = 1 then cs.all (fun c => c % 16 < 12) && p.mode == 0
     else cs.all (fun c => 2 ≤ c % 16) && (List.range p.replicas).any fun r => (p.clusters r).all fun c => 12 ≤ c % 16) &&
    (p.mode == 0 || (mdKind image == 0 && mdUse image == 0 && ensDepth (mdEns image) ≤ 8 && p.replicas == 1))

/-- The results of a placement at its tick (R405). -/
def placeResults (t flags : Nat) (p : Placement) : Bytes :=
  stampBytes (stampOf t flags) ++ be 2 (if p.mask = 0 then 0 else (p.tartlets 0).length) ++ be 2 0 ++
    be 4 ((p.slots.map (·.len)).foldl (· + ·) 0) ++ be 4 p.seqBase

/-- Take the slots and the sequence entries of a new placement; the model passes to PLACING. A cluster that is off refuses it (R281). -/
def State.beginPlace (s : State) (x : Sentence) (staged : Bool) : State × Nat :=
  let k := xModel x
  let m := s.model k
  let p := placeOf x
  if (m.st != 2 && m.st != 4) || m.next.isSome then (s, St.state)
  else if p.mask = 0 then
    (s.setModel k { m with st := 3, next := some { plan := { replicas := 1 }, ticket := x.ticket, staged := staged, copied := true, copiedAt := s.now } }, St.ok)
  else if !placeSuits m.image p then (s, St.param)
  else if (maskClusters p.mask).any fun c => !s.powered c then (s, St.state)
  else if (maskClusters p.mask).any fun c => s.rel.retired.any fun r => r.1 == c then (s, St.state)
  else
    let tel := mdUse m.image == 1
    let held := (m.place.map (·.seqBase)).getD 0xFFFFFFFF
    let base := if !tel then some 0xFFFFFFFF else if held != 0xFFFFFFFF then some held else s.freeSeqRun
    match layout s.data.directory m.image p, base with
    | some slots, some b =>
      let p1 := { p with slots := slots, seqBase := b }
      let mode := if p.mode = 1 then 1 else if mdKind m.image = 1 then 2 else 0
      let s1 := s.takeSlots k p1 mode
      let s2 := if tel && held = 0xFFFFFFFF then
          { s1 with data := { s1.data with seqs := (List.range 64).foldl (fun t i =>
              Tbl.set {} (b + i) { Tbl.get ({} : SeqEntry) (b + i) t with model := k, port := some i } t) s1.data.seqs } }
        else s1
      (s2.setModel k { m with st := 3, next := some { plan := p1, ticket := x.ticket, staged := staged } }, St.ok)
    | _, _ => (s, St.busy)

def placeModelBody (x : Sentence) (s : State) : State × Answer :=
  let r := s.beginPlace x false
  if r.2 = St.ok then (r.1, .accepted) else (s, .final r.2)

/-- A work item, a vector or a scoring of model k is under way. -/
def State.modelBusy (s : State) (k : Nat) : Bool :=
  let job (j : VecJob) : Bool := j.model == k
  let h := s.data
  [h.half0, h.half1].any (fun x => x.telemetry.any job || x.requests.any job || (x.busy.map fun b => job b.1).getD false) ||
    h.works.any (fun w => w.model == k) || h.scored.any (fun w => w.model == k) || h.heldWork.any (fun w => job w.1) ||
    h.requests.any (fun e => e.2.model == k && e.2.resp.isNone)

/-- Work bound to a model's placement of a number is waiting or under way (R115). -/
def State.boundTo (s : State) (k gen : Nat) : Bool :=
  let job (j : VecJob) : Bool := j.model == k && j.gen == gen
  let h := s.data
  [h.half0, h.half1].any (fun x => x.telemetry.any job || x.requests.any job || (x.busy.map fun b => job b.1).getD false) ||
    h.works.any (fun w => w.model == k && w.gen == gen) || h.heldWork.any (fun w => job w.1) ||
    h.dies.any fun d => d.2.waits.any fun w => w.models.any fun e => e.1 == k && e.2.2 == gen

/-- Free the slots of replaced placements whose last work item has completed (R380), and the whole of an unloading model once its work is done
(R382). -/
def State.sweepModel (s : State) (k : Nat) : State :=
  let m := s.model k
  let idle := m.place.isSome || !s.modelBusy k
  let done (o : Placement × Nat) : Bool := idle && !s.boundTo k o.2
  let s1 := (m.old.filter done).foldl (fun t o => t.freeSlots o.1) s
  let m1 := { m with old := m.old.filter fun o => !done o }
  if m.st = 5 && !s.modelBusy k then
    let s2 := m1.old.foldl (fun t o => t.freeSlots o.1) s1
    let s3 := match m1.place with
      | some p => (s2.freeSlots p).freeTelemetrySeqs p.seqBase
      | none => s2
    (s3.setModel k {}).zeroPages (modelCtx k) m.at_
  else if m1 == m then s1 else s1.setModel k m1

/-- A copied placement takes effect at a tick (R380, R381). -/
def State.applyPlace (s : State) (k : Nat) : State :=
  let m := s.model k
  match m.next with
  | none => s
  | some n =>
    let old := match m.place with
      | some p => m.old ++ [(p, m.gen)]
      | none => m.old
    if n.plan.mask = 0 then
      let s1 := match m.place with
        | some p => s.freeTelemetrySeqs p.seqBase
        | none => s
      (s1.setModel k { m with st := 2, place := none, gen := m.gen + 1, next := none, old := old, pass := none, out := [], mismatches := 0 }).sweepModel k
    else
      let p := n.plan
      let s1 := if p.seqBase = 0xFFFFFFFF || m.place.isSome then s
        else { s with data := { s.data with seqs := (List.range 64).foldl (fun t i =>
          let g := (Tbl.get ({} : SeqEntry) (p.seqBase + i) t).gen
          Tbl.set {} (p.seqBase + i) { isOpen := true, gen := if 65535 ≤ g then 1 else g + 1, model := k, port := some i } t) s.data.seqs } }
      (s1.setModel k { m with st := 4, place := some p, gen := m.gen + 1, next := none, old := old, out := [], mismatches := 0, digests := [], lastScan := 0,
                              scannedAt := s.now }).sweepModel k

/-- PLACE_COPY_COMPLETE: the trees and weights lie in their slots. -/
def execPlaceCopyComplete (k : ModelKey) (s : State) := finish s (
  let m := s.model (keyNum k)
  match m.next with
  | some n => if n.copied then s else s.setModel (keyNum k) { m with next := some { n with copied := true, copiedAt := s.now } }
  | none => s)

/-- PLACEMENT_EFFECTIVE: the first tick at least 2 us after the copy. -/
def execPlacementEffective (k : ModelKey) (s : State) := finish s (
  let i := keyNum k
  match (s.model i).next with
  | some n =>
    if n.staged || !n.copied then s
    else match s.dueTick (n.copiedAt + 2000) with
      | some t => (s.applyPlace i).finalAt .agg n.ticket St.ok (placeResults t s.svcFlags n.plan) (cstampOf true t)
      | none => s
  | none => s)

/-- A staged PLACE_MODEL joins its set and starts its copy; where it cannot, preparation refuses it. -/
def State.stagePlace (s : State) (x : Sentence) : State :=
  match (s.stagingOf x.req).opened with
  | some g => if g.changes.any (fun c => c.1 == 0x0502 && c.2.ticket == x.ticket) && !((s.model (xModel x)).next.map fun n => n.ticket == x.ticket).getD false
              then (s.beginPlace x true).1 else s
  | none => s

/-- A staged PLACE_MODEL at preparation and at its tick (R114, R380). -/
def placeApplyBody (x : Sentence) (s : State) : State × Answer :=
  let k := xModel x
  match (s.model k).next with
  | some n =>
    if n.staged && n.ticket == x.ticket then
      if n.copied then (s.applyPlace k, .final St.ok (placeResults s.sys.lastTick s.svcFlags n.plan)) else (s, .final St.busy)
    else (s, .final St.state)
  | none => (s, .final (s.beginPlace x true).2)

/-! ## UNLOAD_MODEL (R382) -/

def unloadModelBody (x : Sentence) (s : State) : State × Answer :=
  let k := xModel x
  let m := s.model k
  if m == {} || m.st = 5 then (s, .final St.state)
  else (s.setModel k { m with unloadAt := some s.now }, .final St.ok)

/-- The model passes to UNLOADING; a placement that waits is given up. -/
def State.unload (s : State) (k : Nat) : State :=
  let m := s.model k
  if m == {} then s
  else if m.st = 1 then s.discardLoad k
  else
    let s1 := match m.next with
      | some n => (s.dropNext k).final .agg n.ticket St.state
      | none => s
    (s1.setModel k { s1.model k with st := 5, unloadAt := none, mapLoad := none, mapNext := none }).sweepModel k

def unloadApplyBody (x : Sentence) (s : State) : State × Answer :=
  let m := s.model (xModel x)
  if m == {} || m.st = 5 then (s, .final St.state) else (s.unload (xModel x), .final St.ok)

def execUnloadEffective (k : ModelKey) (s : State) := finish s (
  let i := keyNum k
  match (s.model i).unloadAt with
  | some t => if (s.dueTick (t + 2000)).isSome then s.unload i else s
  | none => if (s.model i).st = 5 then s.sweepModel i else s)

/-! ## Sequences (R393, R394, R397) -/

def State.seq (s : State) (i : Nat) : SeqEntry := Tbl.get {} i s.data.seqs
def State.setSeq (s : State) (i : Nat) (e : SeqEntry) : State := { s with data := { s.data with seqs := Tbl.set {} i e s.data.seqs } }

/-- The lowest free entry of a table with keys 0 to n − 1. -/
def freeIndex (used : Nat → Bool) (n : Nat) : Option Nat := (List.range n).find? fun i => !used i

def SeqEntry.used (e : SeqEntry) : Bool := e.isOpen || e.port.isSome

def openSequenceBody (x : Sentence) (s : State) : State × Answer :=
  let k := xModel x
  let m := s.model k
  if (m.st != 2 && m.st != 4 && !m.serving) || mdUse m.image = 1 || mdOps m.image = 0 then (s, .final St.state)
  else
    let st := if x.plen = 4 then zeros 256 else x.params.drop 4
    if !seqStateValid m.image st then (s, .final St.param)
    else match freeIndex (fun i => (s.seq i).used) 65536 with
      | none => (s, .final St.busy)
      | some i =>
        let g := (s.seq i).gen
        let g1 := if 65535 ≤ g then 1 else g + 1
        (s.setSeq i { isOpen := true, gen := g1, model := k, steps := 0, state := st }, .final St.ok (be 4 (g1 * 65536 + i)))

/-- The open entry that a sequence ID names in a context. -/
def State.seqNamed (s : State) (c id : Nat) : Option (Nat × SeqEntry) :=
  let e := s.seq (id % 65536)
  if e.isOpen && e.port.isNone && e.gen == id / 65536 && modelCtx e.model == c then some (id % 65536, e) else none

def closeResults (e : SeqEntry) : Bytes := be 8 e.steps ++ padTo 256 e.state

/-- Close an entry; its generation stays (R394). -/
def State.closeSeq (s : State) (i : Nat) (e : SeqEntry) : State := s.setSeq i { gen := e.gen }

/-- A sentence waiting for a sequence's admitted steps completes once none is left. -/
def State.settleSeq (s : State) (i : Nat) : State :=
  let e := s.seq i
  match e.closing with
  | some t => if e.order.isEmpty then (s.closeSeq i e).final .agg t St.ok (closeResults e) else s
  | none => s

def closeSequenceBody (x : Sentence) (s : State) : State × Answer :=
  match s.seqNamed x.tenant.toNat (x.f 0 4) with
  | none => (s, .final St.state)
  | some (i, e) =>
    if e.closing.isSome then (s, .final St.state)
    else if e.order.isEmpty then (s.closeSeq i e, .final St.ok (closeResults e))
    else (s.setSeq i { e with closing := some x.ticket }, .later)

/-! ## Status (R405) -/

def getJobsBody (x : Sentence) (s : State) : State × Answer := (s, .final St.ok (be 8 (Tbl.get 0 (x.f 0 2) s.data.jobs)))

def getModelStatusBody (x : Sentence) (s : State) : State × Answer :=
  let m := s.model (xModel x)
  let p := m.place.getD {}
  let placed := m.place.isSome
  (s, .final St.ok (be 1 m.st ++ be 1 (mdKind m.image) ++ be 1 (mdUse m.image) ++ be 1 (if placed then p.replicas else 0) ++ be 1 p.mode ++
    be 1 (flagBit (!m.map.isEmpty) 0 + flagBit ((m.next.map fun n => n.staged && n.copied).getD false) 1 + flagBit m.suspended 2) ++
    be 2 (mdFeatures m.image) ++ be 8 (if m.image.isEmpty then 0 else crc64 m.image) ++ be 8 p.mask ++
    be 4 (if mdKind m.image = 0 then ensN (mdEns m.image) else 0) ++ be 4 p.seqBase ++ be 8 m.lastScan ++
    ((List.range 4).map fun r => be 8 (m.digests.getD r 0)).flatten ++ be 8 m.mismatches))

/-! ## The verbs -/

def pageTouch (_ : State) (_ : Sentence) : List Touch := [⟨4, [0], true⟩]
def placeTouch (_ : State) (x : Sentence) : List Touch := [⟨3, maskClusters (placeMask x), true⟩]
def modelIdValid (x : Sentence) : Bool := x.f 0 2 != 0

def vLoadModel : Verb :=
  { code := 0x0500, minLen := 33, maxLen := 4096, touches := pageTouch, deferred := fun _ => true
    zeroLen := fun _ x => if chLast x then 16 else 0, check := fun _ x => chunkValid x }
def vUnloadModel : Verb := { code := 0x0501, stageable := true, minLen := 4, maxLen := 4, check := fun _ x => modelIdValid x }
def vPlaceModel : Verb :=
  { code := 0x0502, stageable := true, minLen := 16, maxLen := 16, touches := placeTouch, deferred := fun _ => true, zeroLen := fun _ _ => 28
    check := fun _ x => modelIdValid x && 1 ≤ x.b 2 && x.b 2 ≤ 4 && x.b 3 ≤ 1 && (x.f 12 4 == 0 || (10 ≤ x.f 12 4 && x.f 12 4 ≤ 3600000)) }
def vSetFeatureMap : Verb :=
  { code := 0x0503, stageable := true, minLen := 33, maxLen := 4096, touches := pageTouch, deferred := fun _ => true
    zeroLen := fun _ x => if chLast x then 4 else 0, check := fun _ x => chunkValid x && (!x.staged || chLast x) }
def vOpenSequence : Verb :=
  { code := 0x0504, nonIdem := true, minLen := 4, maxLen := 260, zeroLen := fun _ _ => 4
    check := fun _ x => modelIdValid x && (x.plen == 4 || x.plen == 260) }
def vCloseSequence : Verb := { code := 0x0505, minLen := 4, maxLen := 4, zeroLen := fun _ _ => 264 }
def vGetJobs : Verb :=
  { code := 0x0506, minLen := 4, maxLen := 4, touches := fun _ x => [⟨6, [x.f 0 2], false⟩], zeroLen := fun _ _ => 8, check := fun _ x => x.f 0 2 < 1024 }
def vGetModelStatus : Verb := { code := 0x0507, minLen := 4, maxLen := 4, zeroLen := fun _ _ => 80, check := fun _ x => modelIdValid x }

def execLoadModel (x : Sentence) (s : State) := finish s (s.runSentence vLoadModel loadModelBody x)
def execUnloadModel (x : Sentence) (s : State) := finish s (s.runSentence vUnloadModel unloadModelBody x)
/-- A staged PLACE_MODEL that has just joined its set starts its copy; a sentence sent again does not (R105). -/
def execPlaceModel (x : Sentence) (s : State) := finish s (
  let t := s.runSentence vPlaceModel placeModelBody x
  if x.staged && (t.stagingOf x.req).opened != (s.stagingOf x.req).opened then t.stagePlace x else t)
def execSetFeatureMap (x : Sentence) (s : State) := finish s (s.runSentence vSetFeatureMap setFeatureMapBody x)
def execOpenSequence (x : Sentence) (s : State) := finish s (s.runSentence vOpenSequence openSequenceBody x)
def execCloseSequence (x : Sentence) (s : State) := finish s (s.runSentence vCloseSequence closeSequenceBody x)
def execGetJobs (x : Sentence) (s : State) := finish s (s.runSentence vGetJobs getJobsBody x)
def execGetModelStatus (x : Sentence) (s : State) := finish s (s.runSentence vGetModelStatus getModelStatusBody x)

end Sys2Proof.Machine
end

