-- ==== Sys2Proof/Machine/Serve.lean ====
section
/-! DEFINITION. Scoring (chapter 11, second part): requests and their responses, work items on replicas, tartlets and streamed passes, sequence
steps and verdict records. -/

namespace Sys2Proof.Machine
open Sys2Proof

/-! ## Engine posts (R472) -/

/-- An engine agent posts 1 to every object whose PRODUCER names it. -/
def State.enginePost (s : State) (agent : Nat) (oid : Option Word) : State :=
  s.sync.objects.foldl (fun t e =>
    if e.2.producer = agent && (oid.map fun o => o == e.2.producerOid).getD true then (t.post e.1 1 (agent, e.2.producerOid) 0).1 else t) s

/-! ## Verdict records (R399) -/

/-- A verdict of the tick at this instant, of any model and die, is still to come. -/
def State.tickDue (s : State) (at_ : Nat) : Bool :=
  let isDie (w : WorkSrc) : Bool := match w with | .die _ => true | _ => false
  let job (j : VecJob) : Bool := isDie j.src && j.tick * j.epoch == at_
  let h := s.data
  h.dies.any (fun d => d.2.waits.any fun w => nsOf w.instant == at_ && !w.models.isEmpty) ||
    [h.half0, h.half1].any (fun x => x.telemetry.any job || (x.busy.map fun b => job b.1).getD false) ||
    h.works.any (fun w => isDie w.src && w.tick * w.epoch == at_) || h.scored.any (fun w => isDie w.src && w.tick * w.epoch == at_)

/-- The record of a scoring. -/
def verdictBytes (tick model status feature port stepped vflags : Nat) (block : Bytes) (steps alarms : Nat) (outs : List Word) : Bytes :=
  be 8 tick ++ be 2 model ++ be 2 status ++ be 2 feature ++ be 1 port ++ be 1 stepped ++ be 4 vflags ++ padTo 68 block ++ be 4 steps ++
    be 1 alarms ++ zeros 3 ++ ((List.range 8).map fun i => be 4 (outs.getD i 0).toNat).flatten

/-- Write a verdict record to the die's history ring and pass it to the reduction engine; the last of a tick lets the sequence engine post. -/
def State.verdict (s : State) (port at_ : Nat) (rec_ : Bytes) : State :=
  let s1 := (s.setDie port ((s.die port).remember rec_)).toGroups at_ rec_
  if s1.tickDue at_ then s1 else s1.enginePost 0x101 none

/-! ## Requests (R385 to R392) -/

def rqSeq (h : Bytes) : Bool := byteAt h 1 % 2 == 1
def rqModel (h : Bytes) : Nat := fld h 2 2
def rqTag (h : Bytes) : Word := BitVec.ofNat 32 (fld h 4 4)
def rqTenant (h : Bytes) : Nat := fld h 16 2

/-- Hand a response to the transport of its request (R386): the completion of a queue pair, or a frame of the context's response class. -/
def State.sendResponse (s : State) (req : Requester) (port tenant : Nat) (buf : Option ResultBuffer) (bytes : Bytes) : State :=
  match req with
  | .eth o => s.sendOr port o (s.responseClass tenant) 0x88B6 (shim s.dev.oid 4 1 ++ pad4 bytes)
  | r => s.transmit r buf s.dev.oid bytes

/-- A request of a queue pair that gets no response frees its place in flight. -/
def State.dropRequest (s : State) (req : Requester) : State :=
  match req with
  | .qp n => let q := s.qp n; s.setQp n { q with inFlight := q.inFlight - 1, enabled := q.enable || q.inFlight != 1 }
  | _ => s

/-- A response without an entry. -/
def State.refuseRequest (s : State) (q : RequestIn) (st : Nat) (results : Bytes := []) : State :=
  s.sendResponse q.req q.port.val (rqTenant q.header) (some ⟨q.resultAddr.toNat, q.resultSize.toNat, true, match q.req with | .qp n => (s.qp n).sqHead | _ => 0⟩)
    (replyBytes (rqTag q.header) st results s.cs)

/-- The payload's counts agree with PLEN and its reserved bytes are zero (R385). -/
def payloadValid (h p : Bytes) : Bool :=
  let nr := fld p 0 2
  let nb := fld p 2 2
  let n := 8 + 4 * nr + nb
  p.length == ceilDiv n 4 * 4 && zeroAt p 4 4 && zeroAt p n (p.length - n) && byteAt h 1 / 2 == 0 && zeroAt h 24 4 && (rqSeq h || zeroAt h 12 4)

/-- The requester may act for the tenant (R546, step 5). -/
def State.requestAllowed (s : State) (req : Requester) (tenant : Nat) : Bool :=
  match s.mapEntry req with
  | none => false
  | some e => e.planes.getLsbD 2 && tenant < 1024 && (e.ctx == 0xFFFF || e.ctx == tenant)

/-- The model and sequence of a request are as step 7 asks. -/
def State.requestReady (s : State) (h : Bytes) : Bool :=
  let k := modelNum (rqTenant h) (rqModel h)
  let m := s.model k
  m.serving && mdUse m.image == 0 && !(s.mapNow m).isEmpty &&
    (!rqSeq h || match s.seqNamed (rqTenant h) (fld h 12 4) with
      | some (_, e) => e.closing.isNone && e.model == k
      | none => false)

/-- The bounds of step 9 (R392, R457, R490). -/
def State.requestBusy (s : State) (tenant : Nat) (yellow : Bool) : Bool :=
  let n := s.data.requests.length
  let mine := (s.data.requests.filter fun e => rqTenant e.2.header == tenant).length
  (if yellow then 49152 else 65536) ≤ n || (if yellow then 12288 else 16384) ≤ mine || 1048576 ≤ s.data.stored.length ||
    (s.mirrors && 1048576 ≤ s.pair.unacked.foldl (fun a u => a + u.2.2.length) 0)

def State.reqEntry (s : State) (i : Nat) : Option ReqEntry := Tbl.find? i s.data.requests

/-- Step 10: the entry is written, the job counted, the vector asked for. -/
def State.acceptRequest (s : State) (q : RequestIn) : State :=
  let h := q.header
  let c := rqTenant h
  let k := modelNum c (rqModel h)
  match freeIndex (fun i => (s.reqEntry i).isSome) 65536 with
  | none => s.refuseRequest q St.busy
  | some i =>
    let buf := match q.req with
      | .qp n => some ⟨q.resultAddr.toNat, q.resultSize.toNat, true, (s.qp n).sqHead⟩
      | _ => none
    let n := s.data.orderNext
    let s1 := s.mirror 1 (be 2 i ++ be 8 n ++ be 5 (reqKey q.req) ++ be 1 q.port.val ++ h ++ q.payload)
    let e : ReqEntry := { req := q.req, port := q.port.val, header := h, payload := q.payload, buf := buf, model := k, order := n,
                          mseq := if s.mirrors then s1.lastMseq else 0 }
    let s2 := { s1 with data := { s1.data with requests := Tbl.insert i e s1.data.requests, orderNext := n + 1,
                                               jobs := Tbl.set 0 c ((Tbl.get 0 c s1.data.jobs + 1) % 2 ^ 64) s1.data.jobs } }
    let s3 := if rqSeq h then let j := fld h 12 4 % 65536; s2.setSeq j { s2.seq j with order := (s2.seq j).order ++ [i] } else s2
    let v := s3.half i
    s3.setHalf i { v with requests := v.requests ++ [{ src := .request i, model := k, map := s.mapNow (s.model k), order := n, gen := (s.model k).gen }] }

/-- The steps of R388. -/
def State.takeRequest (s : State) (q : RequestIn) : State :=
  let h := q.header
  let c := rqTenant h
  let tag := rqTag h
  if !headerGood h || byteAt h 0 != 2 then ({ s with data := { s.data with reqBadHcrc := satInc 64 s.data.reqBadHcrc } }).dropRequest q.req
  else
    let met := if c < 1024 then s.meter c q.yellow else (s, Colour.green)
    let s := met.1
    let pcie := match q.req with | .qp _ => true | _ => false
    if met.2 == .red || met.2 == .dropped then (if pcie then s.refuseRequest q St.busy else s)
    else if 4096 < fld h 18 2 || fld h 18 2 != q.payload.length then s.refuseRequest q St.length
    else if fld h 20 4 != crc32c q.payload then s.refuseRequest q St.crc
    else if s.data.requests.any fun e => e.2.req == q.req && rqTenant e.2.header == c && rqTag e.2.header == tag then
      ({ s with data := { s.data with reqDiscards := satInc 64 s.data.reqDiscards } }).dropRequest q.req
    else match s.data.stored.find? fun r => r.req == q.req && r.tenant == c && r.tag == tag && s.now < r.since + 10000000 with
      | some r =>
        s.sendResponse q.req q.port.val c (some ⟨q.resultAddr.toNat, q.resultSize.toNat, true, match q.req with | .qp n => (s.qp n).sqHead | _ => 0⟩) r.bytes
      | none =>
        if !s.requestAllowed q.req c then (s.violation q.req c 0 (rqModel h) (0, 0)).refuseRequest q St.ok (zeros 76)
        else if s.sys.profile == .h then s.refuseRequest q St.busy
        else if !s.requestReady h then s.refuseRequest q St.state
        else if !payloadValid h q.payload then s.refuseRequest q St.param
        else if s.requestBusy c (met.2 == .yellow) then s.refuseRequest q St.busy
        else s.acceptRequest q

/-- REQUEST_RECEIVE: a request of a queue pair counts in flight as it is fetched. -/
def execRequestReceive (q : RequestIn) (s : State) := finish s (
  if !s.dev.fwReady then s
  else match q.req with
    | .qp n => (s.setQp n { s.qp n with inFlight := (s.qp n).inFlight + 1 }).takeRequest q
    | .eth _ => s.takeRequest q
    | _ => s)

/-- The response leaves: the entry is freed, and the response stored for 10 ms (R389, R390). -/
def State.handResponse (s : State) (i : Nat) : State :=
  match s.reqEntry i with
  | none => s
  | some e => match e.resp with
    | none => s
    | some bytes =>
      let s1 := { s with data := { s.data with requests := Tbl.erase i s.data.requests,
                                               stored := ⟨e.req, rqTenant e.header, rqTag e.header, bytes, s.now⟩ :: s.data.stored } }
      if s.active then s1.sendResponse e.req e.port (rqTenant e.header) e.buf bytes else s1

/-- A request ends: the response is formed, and withheld while its type-1 entry is not acknowledged (R387, R490). -/
def State.respond (s : State) (i st : Nat) (results : Bytes) : State :=
  match s.reqEntry i with
  | none => s
  | some e =>
    let h := e.header
    let j := fld h 12 4 % 65536
    let s1 := if rqSeq h then (s.setSeq j { s.seq j with order := (s.seq j).order.filter (· != i) }) else s
    let q := s1.seq j
    let s2 := s1.mirror 2 (be 2 i ++ be 2 st ++ be 4 (fld h 12 4) ++ be 8 (if rqSeq h then q.steps else 0) ++ padTo 256 (if rqSeq h then q.state else []))
    let e1 := { e with resp := some (replyBytes (rqTag h) st results s.cs) }
    let s3 := { s2 with data := { s2.data with requests := Tbl.insert i e1 s2.data.requests } }
    let s4 := if rqSeq h then s3.settleSeq j else s3
    let s5 := if s4.mirrors && s4.pair.mseqAcked < e.mseq then
        { s4 with pair := { s4.pair with withheld := s4.pair.withheld ++ [(e.mseq, .response i)] } }
      else s4.handResponse i
    s5.sweepModel e.model

/-- RESPONSE_STORE_EXPIRY (R390). -/
def execResponseStoreExpiry (s : State) := finish s (
  { s with data := { s.data with stored := s.data.stored.filter fun r => s.now < r.since + 10000000 } })

/-- The results of a response (R387). -/
def responseBytes (model flags : Nat) (block : Bytes) : Bytes := be 2 model ++ be 2 0 ++ be 4 flags ++ padTo 68 block
def stepBytes (steps alarms : Nat) (outs : List Word) : Bytes :=
  be 4 steps ++ be 1 alarms ++ zeros 3 ++ ((List.range 8).map fun i => be 4 (outs.getD i 0).toNat).flatten

/-! ## Work items (R398, R400) -/

/-- The placement that work runs on: the one to which it was bound as it was admitted, of that number (R115, R380). -/
def Model.placeFor (m : Model) (gen : Nat) : Option Placement :=
  match m.old.find? fun o => o.2 == gen with
  | some o => some o.1
  | none => match m.place with
    | some p => some p
    | none => (m.old.getLast?).map (·.1)

/-- Tartlets of a replica that hold trees or weights, ascending. -/
def Placement.users (p : Placement) (r : Nat) : List Nat :=
  let ts := p.tartlets r
  ((List.range ts.length).filter fun i => p.slots.any fun q => q.pos == i).map fun i => ts.getD i 0

/-- A replica that a request may take: in service, all its clusters up and in the lend partition (R378). -/
def State.eligible (s : State) (m : Model) (p : Placement) (r : Nat) : Bool :=
  !m.out.contains r && (p.clusters r).all fun c => s.inLend c && s.clusterUp c

/-- The replica for a request: fewest queued work items, then the lower. -/
def State.requestReplica (s : State) (k : Nat) (m : Model) (p : Placement) : Option Nat :=
  let queued (r : Nat) : Nat := (s.data.works.filter fun w => w.model == k && w.replica == r).length
  ((List.range p.replicas).filter (s.eligible m p)).foldl (fun a r =>
    match a with
    | none => some r
    | some b => if queued r < queued b then some r else some b) none

/-- The replica for a die: p mod R, or the lowest in service where that one is out (R402). The crossings of a cluster that is off are closed, and its
replica gets no transfer (R281). -/
def State.dieReplica (s : State) (m : Model) (p : Placement) (port : Nat) : Option Nat :=
  let serves (r : Nat) : Bool := !m.out.contains r && (p.clusters r).all fun c => s.powered c
  let r := port % p.replicas
  if serves r then some r else (List.range p.replicas).find? serves

/-! ### Crossings from the front stage to the clusters (R278, R281) -/

/-- The front stage half of a scoring (R318). -/
def WorkSrc.half : WorkSrc → Nat
  | .die p => p % 2
  | .request i => i % 2

def State.crossing (s : State) (k : Nat) : List Transfer := Tbl.get [] k s.data.crossings

/-- A crossing that holds as many transfers as it can holds its source. How many that is, at least one, is left open. -/
def State.crossingFull (s : State) (k : Nat) : Bool := !(s.crossing k).isEmpty && Config.crossingDepth k ≤ (s.crossing k).length

/-- The whole nanoseconds within two cycles of the source's clock and three of the destination's. -/
def State.crossingNs (s : State) (a b : Nat) : Nat :=
  (200000 * s.clockOf b + 300000 * s.clockOf a) / (s.clockOf a * s.clockOf b)

/-- A crossing accepts a transfer, behind those it has accepted before. -/
def State.intoCrossing (s : State) (h c work : Nat) : State :=
  let k := 64 * h + c
  let q := s.crossing k
  let due := max (s.now + s.crossingNs (82 + h) c) ((q.getLast?.map (·.due)).getD 0)
  { s with data := { s.data with crossings := Tbl.set [] k (q ++ [⟨work, due⟩]) s.data.crossings } }

/-- The first transfers of a crossing are delivered: their work items wait at the cluster. -/
def State.crossOver (s : State) (k n : Nat) : State :=
  let q := s.crossing k
  let here (w : Work) : Bool := (q.take n).any fun t => t.work == w.id
  { s with data := { s.data with
      crossings := Tbl.set [] k (q.drop n) s.data.crossings
      works := s.data.works.map fun w =>
        if here w && w.crossing.contains (k % 64) then { w with crossing := w.crossing.filter (· != k % 64), undispatched := w.undispatched ++ [k % 64] } else w } }

/-- The clusters that a work item of a placement's replica crosses to: none for a streamed pass. -/
def Placement.targets (p : Placement) (r : Nat) : List Nat := if p.mode = 1 then [] else ((p.users r).map (· / 64)).eraseDups

/-- A crossing that the vector of a half needs is full. -/
def State.crossingHolds (s : State) (h : Nat) (p : Placement) (r : Nat) : Bool := (p.targets r).any fun c => s.crossingFull (64 * h + c)

/-- Put a work item on a replica: its vector goes into the crossing of every cluster it needs. -/
def State.addWork (s : State) (j : VecJob) (v : Vec) (p : Placement) (r : Nat) : State :=
  let w : Work := { id := s.data.workNext, src := j.src, model := j.model, replica := r, tick := j.tick, epoch := j.epoch, order := j.order,
                    vec := v, undispatched := [], todo := [], pass := p.mode == 1, gen := j.gen, crossing := p.targets r }
  (p.targets r).foldl (fun t c => t.intoCrossing j.src.half c w.id)
    { s with data := { s.data with works := s.data.works ++ [w], workNext := s.data.workNext + 1 } }

/-- End a scoring without a score: ST_FEATURE_INVALID or ST_HW_FAULT. The sequence takes no step (R397). -/
def State.failScoring (s : State) (src : WorkSrc) (k tick epoch flags st feature : Nat) : State :=
  match src with
  | .die p => (s.verdict p (tick * epoch) (verdictBytes tick (modelId k) st feature p 0 flags [] 0 0 [])).sweepModel k
  | .request i => s.respond i st (if st = St.featureInvalid then be 2 (modelId k) ++ be 2 feature else [])

/-- The replica that a scoring takes now. -/
def State.replicaFor (s : State) (j : VecJob) (p : Placement) : Option Nat :=
  match j.src with
  | .die d => s.dieReplica (s.model j.model) p d
  | .request _ => s.requestReplica j.model (s.model j.model) p

/-- The placement and the replica that a built vector goes to. -/
def State.goesTo (s : State) (j : VecJob) : Option (Placement × Nat) :=
  ((s.model j.model).placeFor j.gen).bind fun p => (s.replicaFor j p).map fun r => (p, r)

/-- Give a built vector to a replica. A request without one waits (R400, R402), and so does a scoring whose crossing is full (R278); a die without
one ends with ST_HW_FAULT. -/
def State.assignWork (s : State) (j : VecJob) (v : Vec) : State :=
  let wait : State := { s with data := { s.data with heldWork := s.data.heldWork ++ [(j, v)] } }
  match (s.model j.model).placeFor j.gen with
  | none => s.failScoring j.src j.model j.tick j.epoch v.flags St.hwFault 0xFFFF
  | some p =>
    match s.replicaFor j p, j.src with
    | some r, _ => if s.crossingHolds j.src.half p r then wait else s.addWork j v p r
    | none, .die _ => s.failScoring j.src j.model j.tick j.epoch v.flags St.hwFault 0xFFFF
    | none, .request _ => wait

/-- Try the scorings that wait for a replica again. -/
def State.retryHeld (s : State) : State :=
  s.data.heldWork.foldl (fun t w => t.assignWork w.1 w.2) { s with data := { s.data with heldWork := [] } }

/-- Everything whose time has come is delivered; what waited for a crossing tries again. -/
def State.deliverDue (s : State) : State :=
  if s.data.crossings.any fun e => e.2.any fun q => q.due ≤ s.now then
    (s.data.crossings.foldl (fun t e => t.crossOver e.1 ((e.2.takeWhile fun q => q.due ≤ s.now).length)) s).retryHeld
  else s

/-- VECTOR_COMPLETE (R309, R318): the vector crosses to the clusters as a work item, or ends the scoring. A full crossing holds the half (R278). -/
def execVectorComplete (half : Fin 2) (s : State) := finish s (
  let h := s.half half.val
  match h.busy with
  | none => s
  | some (j, v, due) =>
    let full := (v.invalid.isNone && ((s.goesTo j).map fun g => s.crossingHolds half.val g.1 g.2).getD false)
    if s.now < due || full then s
    else
      let s1 := s.setHalf half.val { h with busy := none }
      match v.invalid with
      | some f => s1.failScoring j.src j.model j.tick j.epoch v.flags St.featureInvalid f
      | none => s1.assignWork j v)

/-- Take a work item and its queued descriptors away. -/
def State.dropWork (s : State) (id : Nat) (keepRunning : Bool) : State :=
  let strip (t : Tartlet) : Tartlet :=
    let q := if keepRunning then t.queue.take 1 ++ (t.queue.drop 1).filter (fun d => d.work != id) else t.queue.filter fun d => d.work != id
    { t with queue := q }
  { s with data := { s.data with works := s.data.works.filter (fun w => w.id != id),
                                 tartlets := Tbl.mapAll {} strip s.data.tartlets,
                                 models := Tbl.mapAll {} (fun m => { m with pass := match m.pass with
                                   | some p => if p.works.contains id then
                                       (if (p.works.filter (· != id)).isEmpty then none else some { p with works := p.works.filter (· != id) }) else some p
                                   | none => none }) s.data.models } }

/-- Lend work on clusters that leave the lend partition runs again from its start elsewhere (R34, R362, R400); a running descriptor completes. -/
def State.yieldLend (s : State) : State :=
  let moved := s.data.works.filter fun w => match w.src with
    | .request _ => match (s.model w.model).placeFor w.gen with
      | some p => (p.clusters w.replica).any fun c => !s.inLend c
      | none => false
    | _ => false
  moved.foldl (fun t w => (t.dropWork w.id true).assignWork
    { src := w.src, model := w.model, map := [], tick := w.tick, epoch := w.epoch, order := w.order, gen := w.gen } w.vec) s

/-! ## Dispatch (R352, R353, R361) -/

/-- The trees of a placement at one position, ascending. -/
def treesAt (p : Placement) (pos : Nat) : List Nat := (p.slots.filter fun q => q.pos == pos).map (·.tree)

/-- The descriptors of a work item for one tartlet. -/
def descriptorsFor (image : Bytes) (k id : Nat) (p : Placement) (pos : Nat) : List Bytes :=
  if mdKind image = 0 then
    let ts := treesAt p pos
    [be 1 1 ++ be 1 1 ++ be 2 (modelCtx k) ++ be 4 id ++ zeros 8 ++ be 4 (ts.foldl min (ts.headD 0)) ++ be 4 ts.length ++ zeros 40]
  else (List.range (mdDescs image)).map fun i => let d := mdDesc image i; d.take 2 ++ be 2 (modelCtx k) ++ be 4 id ++ d.drop 8

/-- The order in which a cluster takes work: telemetry first, earlier tick or admission, then port or index. -/
def workBefore (a b : Work) : Bool :=
  match a.src, b.src with
  | .die p, .die q => if a.tick * a.epoch = b.tick * b.epoch then p < q else a.tick * a.epoch < b.tick * b.epoch
  | .die _, .request _ => true
  | .request _, .die _ => false
  | .request i, .request j => if a.order = b.order then i < j else a.order < b.order

/-- Telemetry work of the ticks before instant t (ns) is still to come: a die that waits for its body, a vector that waits or is built, a work item. -/
def State.telemetryBefore (s : State) (t : Nat) : Bool :=
  let job (j : VecJob) : Bool := match j.src with
    | .die _ => j.tick * j.epoch < t
    | _ => false
  s.data.dies.any (fun d => d.2.waits.any fun w => nsOf w.instant < t && !w.models.isEmpty) ||
    [s.data.half0, s.data.half1].any (fun h => h.telemetry.any job || (h.busy.map fun b => job b.1).getD false) ||
    s.data.works.any fun w => match w.src with
      | .die _ => w.tick * w.epoch < t
      | _ => false

/-- A cluster that passed to lend finishes the telemetry work of the ticks before the change first (R35). -/
def State.lendWaits (s : State) (c : Nat) : Bool :=
  match Tbl.find? c s.sys.passed with
  | some t => s.telemetryBefore t
  | none => false

/-- The next work item of a cluster. -/
def State.nextWork (s : State) (c : Nat) : Option Work :=
  (s.data.works.filter fun w => w.undispatched.contains c && match w.src with
    | .die _ => true
    | .request _ => !s.lendWaits c).foldl (fun a w =>
    match a with
    | none => some w
    | some b => if workBefore w b then some w else some b) none

def State.updWork (s : State) (id : Nat) (f : Work → Work) : State :=
  { s with data := { s.data with works := s.data.works.map fun w => if w.id = id then f w else w } }

/-- WORK_DISPATCH: the work item's descriptors join the queues of the cluster's tartlets. -/
def execWorkDispatch (c : Fin 64) (s : State) := finish s (
  if !s.clusterUp c.val then s
  else match s.nextWork c.val with
    | none => s
    | some w =>
      let m := s.model w.model
      match m.placeFor w.gen with
      | none => s
      | some p =>
        let ts := p.tartlets w.replica
        let mine := (p.users w.replica).filter fun t => t / 64 == c.val
        let s1 := mine.foldl (fun a t =>
          let pos := (ts.findIdx? (· == t)).getD 0
          let tt := a.tartlet t
          a.setTartlet t { tt with queue := tt.queue ++ (descriptorsFor m.image w.model w.id p pos).map fun d => ⟨w.id, d⟩ }) s
        s1.updWork w.id fun v => { v with undispatched := v.undispatched.filter (· != c.val), todo := v.todo ++ mine })

/-! ## Completion (R341, R359, R371, R397) -/

/-- A score block is formed: a response or verdict without a step, or a scoring that waits for its sequence step. -/
def State.scored (s : State) (w : Work) (block : Bytes) : State :=
  let m := s.model w.model
  let s1 := { s with data := { s.data with works := s.data.works.filter fun v => v.id != w.id } }
  match w.src with
  | .die p =>
    if mdOps m.image = 0 then
      (s1.verdict p (w.tick * w.epoch) (verdictBytes w.tick (modelId w.model) St.ok 0xFFFF p 0 w.vec.flags block 0 0 [])).sweepModel w.model
    else
      let base := ((m.placeFor w.gen).map (·.seqBase)).getD 0
      { s1 with data := { s1.data with scored := s1.data.scored ++ [⟨w.src, w.model, w.tick, w.epoch, w.vec.flags, block, base + p⟩] } }
  | .request i =>
    match s.reqEntry i with
    | none => s1
    | some e =>
      if rqSeq e.header then
        { s1 with data := { s1.data with scored := s1.data.scored ++ [⟨w.src, w.model, w.tick, w.epoch, w.vec.flags, block, fld e.header 12 4 % 65536⟩] } }
      else s1.respond i St.ok (responseBytes (modelId w.model) w.vec.flags block)

/-- The hub has every result of a work item. -/
def State.finishWork (s : State) (w : Work) (last : Nat) : State :=
  let m := s.model w.model
  if mdKind m.image = 0 then s.scored w (treeBlock (mdEns m.image) w.vec.bins)
  else s.scored w (denseBlock (s.tartlet last) (modelCtx w.model) m.image w.nonFinite)

/-- DESCRIPTOR_COMPLETE: the tartlet's running descriptor has its effect. -/
def execDescriptorComplete (t : Fin 4096) (s : State) := finish s (
  let tt := s.tartlet t.val
  match tt.queue with
  | [] => s
  | d :: ds =>
    match s.data.works.find? fun w => w.id == d.work with
    | none => s.setTartlet t.val { tt with queue := ds }
    | some w =>
      let r := runDescriptor tt (modelCtx w.model) (s.model w.model).image d.bytes w.vec
      let more := ds.any fun e => e.work == d.work
      let w1 : Work := { w with nonFinite := w.nonFinite || r.2, todo := if more then w.todo else w.todo.filter (· != t.val) }
      let s1 := (s.setTartlet t.val { r.1 with queue := ds }).updWork w.id fun _ => w1
      if w1.todo.isEmpty && w1.undispatched.isEmpty && w1.crossing.isEmpty then s1.finishWork w1 t.val else s1)

/-- SEQUENCE_STEP: the oldest scoring of the entry whose turn it is steps (R396, R397). -/
def execSequenceStep (idx : Fin 65536) (s : State) := finish s (
  let mine := s.data.scored.filter fun q => q.seq == idx.val
  let turn (q : Scored) : Bool := match q.src with
    | .die p => !s.verdictDue p q.model (q.tick * q.epoch - 1)
    | .request i => (s.seq idx.val).order.head? == some i
  match mine.find? turn with
  | none => s
  | some q =>
    let m := s.model q.model
    let e := s.seq idx.val
    let r := seqStep m.image q.block e.state (m.baseline.at (q.tick * q.epoch * unit))
    let steps := (e.steps + 1) % 2 ^ 64
    let s1 := { s with data := { s.data with scored := s.data.scored.filter fun v => v != q } }
    let s2 := s1.setSeq idx.val { e with steps := steps, state := r.state }
    match q.src with
    | .die p =>
      (s2.verdict p (q.tick * q.epoch) (verdictBytes q.tick (modelId q.model) St.ok 0xFFFF p 1 q.flags q.block (steps % 2 ^ 32) r.alarms r.outs)).sweepModel q.model
    | .request i =>
      s2.respond i St.ok (responseBytes (modelId q.model) q.flags q.block ++ stepBytes (steps % 2 ^ 32) r.alarms r.outs))

/-! ## Streamed passes (R383, R384) -/

/-- Chunks of a pass: blocks of 16 class-list positions, 64 per cluster and chunk. -/
def passChunks (e : Bytes) (clusters : Nat) : Nat :=
  let blocks := ((List.range (ensK e)).map fun k => ceilDiv (classList e k).length 16).foldl (· + ·) 0
  ceilDiv blocks (64 * max 1 clusters)

/-- STREAM_PASS_START: the oldest work items, up to four, whose vectors are complete, on the placement of the first. -/
def execStreamPassStart (key : ModelKey) (s : State) := finish s (
  let k := keyNum key
  let m := s.model k
  let all := s.data.works.filter fun w => w.model == k && w.pass
  let gen := (all.head?.map (·.gen)).getD m.gen
  let ready := (all.filter fun w => w.gen == gen).take 4
  match m.placeFor gen with
  | none => s
  | some p =>
    if m.pass.isSome || ready.isEmpty || p.mode != 1 || !s.eligible m p 0 then s
    else s.setModel k { m with pass := some ⟨ready.map (·.id), 0⟩ })

/-- STREAM_CHUNK_LOADED: the chunk is evaluated against the pass's vectors; after the last one the hub forms the score blocks. -/
def execStreamChunkLoaded (key : ModelKey) (s : State) := finish s (
  let k := keyNum key
  let m := s.model k
  match m.pass with
  | none => s
  | some q =>
    let ws := s.data.works.filter fun w => q.works.contains w.id
    let n := match ws.head? with
      | some w => ((m.placeFor w.gen).map fun p => (p.clusters 0).length).getD 1
      | none => 1
    if q.chunk + 1 < passChunks (mdEns m.image) n then s.setModel k { m with pass := some { q with chunk := q.chunk + 1 } }
    else ws.foldl (fun t w => t.finishWork w 0) (s.setModel k { m with pass := none }))

/-! ## Tartlet memory errors (R326) -/

/-- Take the replica of a slot's model out of service until the slot is reloaded. -/
def State.replicaOut (s : State) (k t : Nat) : State :=
  let m := s.model k
  match m.place with
  | none => s
  | some p => match (List.range p.replicas).find? fun r => (p.tartlets r).contains t with
    | some r => if m.out.contains r then s else s.setModel k { m with out := m.out ++ [r] }
    | none => s

/-- The slot of a bank that a byte address names: 25 where the bank is a weight region. -/
def State.slotAt (s : State) (t bank addr : Nat) : Nat :=
  match Tbl.find? (slotKey t bank 0) s.data.directory with
  | some d => if d.mode = 2 then 25 else addr / 1280
  | none => addr / 1280

def execTartletEccError (t : Fin 4096) (region : MemRegion) (addr : Nat) (s : State) := finish s (
  let tt := s.tartlet t.val
  let work := (tt.queue.head?.map (·.work)).getD 0
  let code := match region with | .treeArray _ => 0 | .scratch => 1 | .clusterCache => 2
  let at_ := match region with | .treeArray b => 32000 * b.val + addr | _ => addr
  let ctx := match s.data.works.find? fun w => w.id == work with
    | some w => modelCtx w.model
    | none => 0xFFFF
  let s1 := s.raise 5 0x0501 4 (be 2 t.val ++ be 1 code ++ be 4 at_ ++ be 4 work) ctx
  let s2 := match region with
    | .treeArray b =>
      let slot := s1.slotAt t.val b.val addr
      match Tbl.find? (slotKey t.val b.val (if slot = 25 then 0 else slot)) s1.data.directory with
      | some d => (s1.setTartlet t.val { tt with bad := if tt.bad.contains (b.val * 32 + slot) then tt.bad else tt.bad ++ [b.val * 32 + slot] }).replicaOut d.model t.val
      | none => s1
    | _ => s1
  match s2.data.works.find? fun w => w.id == work with
  | some w => (s2.dropWork w.id false).failScoring w.src w.model w.tick w.epoch w.vec.flags St.hwFault 0xFFFF
  | none => s2)

end Sys2Proof.Machine
end

