-- ==== Sys2Proof/Machine/Engines.lean ====
section
/-! DEFINITION. What the engines count of themselves (R363, R565 to R567): the cycles of their islands since power-up, and for each engine those in which
its work advanced and those in which it stalled, by reason. -/

namespace Sys2Proof.Machine
open Sys2Proof

/-! ## The engines (R565) -/

/-- The island of an engine. -/
def engineIsland (e : Nat) : Nat :=
  if e < 4096 then e / 64 else if e < 4160 then e - 4096 else if e < 4162 then 82 + (e - 4160) else if e < 4164 then 84 + (e - 4162)
  else if e < 4166 then 86 + (e - 4164) else if e < 4170 then 64 + (e - 4166) else if e < 4174 then 68 + (e - 4170)
  else if e = 4174 then 88 else if e = 4175 then 89 else if e < 4181 then 90 else if e < 4189 then 92 else if e < 4193 then 91
  else if e = 4193 then 95 else 81

/-- The reason list of an engine (R363, R565). -/
def engineReasons (e : Nat) : List Nat :=
  if e < 4096 then [1, 2, 3, 4, 5, 6, 7, 8, 9] else if e < 4160 then [1, 3, 5, 9, 10] else if e < 4162 then [1, 9, 10, 11, 12]
  else if e < 4164 then [9, 10, 12, 13] else if e < 4166 then [9, 10, 11] else if e < 4170 then [10] else if e < 4174 then [10, 11, 12, 15]
  else if e = 4174 then [10, 12, 15] else if e = 4175 then [9, 10, 13] else if e < 4180 then [9, 11, 13, 14] else if e = 4180 then [9, 10, 11]
  else if e < 4193 then [9, 10, 11, 14] else if e = 4193 then [5, 9, 10] else [10, 14]

/-- The islands that hold engines. -/
def engineIslands : List Nat := List.range 72 ++ [81, 82, 83, 84, 85, 86, 87, 88, 89, 90, 91, 92, 95]

/-! ## Work and reasons (R363, R566) -/

/-- The ports of a DTC-port group that the boot configuration or traffic has brought up. -/
def State.groupPorts (s : State) (g : Nat) : List (Nat × AggPort) := s.ports.filter fun e => e.1 / 16 == g

/-- A unit or compression engine waits for bytes of the tray host (space 1). -/
def State.hostAwaited (s : State) (e : Nat) : Bool :=
  if e < 4189 then ((Tbl.get none (e - 4181) s.obs.units).map fun q => byteAt q.params 1 == 1).getD false
  else ((Tbl.get none (e - 4189) s.obs.engines).map fun q => byteAt q.params 2 == 1).getD false

/-- The engine has work queued. The queues of engines whose work State does not hold as a queue are left open (log entry 329). -/
def State.engineQueued (s : State) (draw e : Nat) : Bool :=
  let h := s.data
  if e < 4096 then !(s.tartlet e).queue.isEmpty
  else if e < 4160 then
    h.works.any (fun w => w.undispatched.contains (e - 4096)) || h.tartlets.any fun t => t.1 / 64 == e - 4096 && !t.2.queue.isEmpty
  else if e < 4162 then let v := s.half (e - 4160); !v.telemetry.isEmpty || !v.requests.isEmpty || v.busy.isSome
  else if 4170 ≤ e && e < 4174 then (s.groupPorts (e - 4170)).any fun p => !p.2.hold.isEmpty || !p.2.bodies.isEmpty
  else if e = 4174 then s.net.ports.any fun p => p.2.queues.any fun q => !q.2.frames.isEmpty
  else if 4181 ≤ e && e < 4187 then (Tbl.get none (e - 4181) s.obs.units).isSome
  else if 4189 ≤ e && e < 4193 then (Tbl.get none (e - 4189) s.obs.engines).isSome
  else if e = 4193 then s.rel.screen.isSome
  else Config.engineQueued draw e

/-- An egress queue takes no further frame (R460). -/
def EgressQueue.full (q : EgressQueue) : Bool := 1024 ≤ q.frames.length || 4194304 < q.frames.foldl (fun a f => a + f.len) 0 + 64

/-- A reason holds for an engine. Those that the spec ties to no state (1 to 8 and 11 throughout) are left open. -/
def State.engineHolds (s : State) (draw e c : Nat) : Bool :=
  match c with
  | 9 => !fixedClock (engineIsland e) && (s.sys.capSlowed || (s.sys.lendSlowed && engineIsland e < 64 && s.inLend (engineIsland e)))
  | 10 => 4160 ≤ e && e < 4162 && (List.range 64).any fun k => s.crossingFull (64 * (e - 4160) + k)
  | 12 =>
    if e = 4162 || e = 4163 || e = 4174 then s.net.ports.any fun p => p.2.queues.any fun q => q.2.full
    else if 4170 ≤ e && e < 4174 then (s.groupPorts (e - 4170)).any fun p => 512 ≤ p.2.hold.length
    else Config.engineWaits draw e c
  | 13 => !s.pair.withheld.isEmpty
  | 14 => if 4181 ≤ e && e < 4193 then s.hostAwaited e else Config.engineWaits draw e c
  | 15 =>
    if e = 4174 then s.net.ports.any fun p => p.2.enabled && p.2.st != .inService
    else (s.groupPorts (e - 4170)).any fun p => Tbl.get 0 p.1 s.verbs.knownOid != 0 && p.2.e.st != .inService
  | _ => Config.engineWaits draw e c

/-- The reason, if any, to which a cycle with work is charged: the lowest that holds, 0 where none does and the work does not advance; none where it
advances. A lowered clock alone stops no work. -/
def State.engineStall (s : State) (draw e : Nat) : Option Nat :=
  let held := (engineReasons e).filter fun c => s.engineHolds draw e c
  if held.all (· == 9) && Config.engineAdvances draw e then none else some ((held.head?).getD 0)

/-! ## Counting -/

/-- The cycles that island i completes in this nanosecond. -/
def State.newCycles (s : State) (i : Nat) : Nat :=
  let a := Tbl.get 0 i s.obs.cycles
  (a + s.clockOf i) / 100000 - a / 100000

/-- The engines that a cycle concerns. -/
def State.engines (s : State) : List Nat :=
  (s.data.tartlets.map (·.1)) ++ (List.range 99).map (4096 + ·)

/-- Charge one engine's cycles of this nanosecond. -/
def State.charge (s : State) (draw : Nat) (t : Tbl EngineCount) (e : Nat) : Tbl EngineCount :=
  let i := engineIsland e
  let n := s.newCycles i
  let c := Tbl.get {} e t
  if !s.powered i || !s.engineQueued draw e then t
  else match s.engineStall draw e with
    | none => Tbl.set {} e { c with busy := c.busy + n } t
    | some r => Tbl.set {} e { c with stalls := Tbl.set 0 r (Tbl.get 0 r c.stalls + n) c.stalls, last := if n = 0 then c.last else r } t

/-- One nanosecond of every island and engine. -/
def State.countEngines (s : State) (draw : Nat) : State :=
  { s with obs := { s.obs with
      counts := s.engines.foldl (s.charge draw) s.obs.counts
      cycles := engineIslands.foldl (fun t i => if s.powered i then Tbl.set 0 i (Tbl.get 0 i t + s.clockOf i) t else t) s.obs.cycles } }

/-- An island switched on or off: its counts start again (R567). -/
def ObsState.restart (o : ObsState) (i : Nat) : ObsState :=
  { o with counts := o.counts.filter fun e => engineIsland e.1 != i, cycles := Tbl.set 0 i 0 o.cycles }

end Sys2Proof.Machine
end

