-- ==== Sys2Proof/Machine/Clock.lean ====
section
/-! DEFINITION. What one cycle of the time clock does on an empty queue (log entry 3): every clock advances by 1 ns the engines count (R565), the trace buffers drain (R208) and the crossings deliver (R278).
The aggregator's clock stands while POR_N holds the part in cold reset. -/

namespace Sys2Proof.Machine
open Sys2Proof

/-- A change of FLAGS [15:8] of the time copy owes a BASE (R246). -/
def Dtc.watchFlags (d : Dtc) : Dtc :=
  if !d.ready || d.flags / 256 = d.journal.flagsSeen then d
  else { d with journal := { d.journal with flagsSeen := d.flags / 256, baseOwed := true } }

/-- One cycle of a DTC: its clock, then its trace drain. -/
def Dtc.clockCycle (d : Dtc) (draw : Nat) : Dtc := (d.cycle.drainTrace draw).watchFlags

/-- One cycle of every part. The trace drain of DTC p has draw free + p for what it compresses. -/
def State.tick (s : State) : State :=
  let s1 := { s with
    free := s.free + 65
    time := if s.phys.porLow then s.time else s.time.cycle
    dtcs := (s.dtcs.map fun (e : Nat × Dtc) => (e.1, e.2.clockCycle (s.free + e.1))).filter fun (e : Nat × Dtc) => decide (e.2 ≠ ({ } : Dtc)) }
  (s1.countEngines (s.free + 64)).drainHub.deliverDue

end Sys2Proof.Machine
end

