-- ==== Sys2Proof/Machine/Power.lean ====
section
/-! DEFINITION. The power controller (R276 to R282, R567): domains on and off, what a cluster loses, replicas that return; the temperatures of R293. -/

namespace Sys2Proof.Machine
open Sys2Proof

/-! ## Temperature (R293) -/

/-- Tj of an island in 0.125 degC. -/
def State.tjOf (s : State) (i : Nat) : Int := (Tbl.get 0 i s.sys.tj).toInt

/-- The hottest island, the lowest of equals, and its Tj. -/
def State.hottest (s : State) : Nat × Int :=
  (List.range 97).foldl (fun a i => if a.2 < s.tjOf i then (i, s.tjOf i) else a) (0, s.tjOf 0)

/-- The hottest Tj as the 16-bit field that records and results carry. -/
def State.tjField (s : State) : Nat := ofSigned 16 s.hottest.2

/-! ## Domains (R279, R567) -/

/-- Switch domain n on: its 16-bit count of power-ups wraps. -/
def State.switchOn (s : State) (n : Nat) : State :=
  if s.dev.domains.getLsbD n then s
  else
    let ups := Tbl.set 0 n ((Tbl.get 0 n s.dev.powerUps + 1) % 65536) s.dev.powerUps
    { s with dev := { s.dev with domains := s.dev.domains ||| (1#96 <<< n), powerUps := ups }, obs := s.obs.restart n }

def State.switchOff (s : State) (n : Nat) : State :=
  { s with dev := { s.dev with domains := s.dev.domains &&& ~~~(1#96 <<< n) }, obs := s.obs.restart n }

/-- A cluster that switches off loses its tree arrays, scratch and cache (R279). What its crossings have accepted is delivered first (R281). -/
def State.clusterOff (s : State) (c : Nat) : State :=
  let s0 := ((s.crossOver c (s.crossing c).length).crossOver (64 + c) (s.crossing (64 + c)).length)
  let s1 := s0.switchOff c
  { s1 with
    dev := { s1.dev with reload := s1.dev.reload &&& ~~~(1#64 <<< c), powerUp := s1.dev.powerUp &&& ~~~(1#64 <<< c) }
    data := { s1.data with tartlets := s1.data.tartlets.filter fun e => e.1 / 64 != c } }

/-- A cluster that switches on waits for its trees (R282). -/
def State.clusterOn (s : State) (c : Nat) : State :=
  let s1 := s.switchOn c
  { s1 with dev := { s1.dev with reload := s1.dev.reload ||| (1#64 <<< c), powerUp := s1.dev.powerUp &&& ~~~(1#64 <<< c) } }

/-! ## Work on clusters -/

/-- Work of any kind uses cluster c. -/
def State.clusterBusy (s : State) (c : Nat) : Bool :=
  s.data.works.any (fun w => w.crossing.contains c || w.undispatched.contains c || w.todo.any fun t => t / 64 == c) ||
    s.data.tartlets.any fun e => e.1 / 64 == c && !e.2.queue.isEmpty

/-! ## Replicas that return (R326, R402) -/

/-- A slot of tartlet t that holds part of model k awaits its reload. -/
def State.badFor (s : State) (k t : Nat) : Bool :=
  (s.tartlet t).bad.any fun b =>
    match Tbl.find? (slotKey t (b / 32) (if b % 32 = 25 then 0 else b % 32)) s.data.directory with
    | some d => d.model == k
    | none => false

/-- Replicas of model k whose slots are all good again take work. -/
def State.replicaBack (s : State) (k : Nat) : State :=
  let m := s.model k
  match m.place with
  | none => s
  | some p => s.setModel k { m with out := m.out.filter fun r => (p.tartlets r).any (s.badFor k) }

/-- A telemetry cluster still waits for its trees, or for its power before them (R282). -/
def State.telemetryReloads (s : State) : Bool :=
  (List.range 64).any fun c => inTelemetry s.sys.profile c && (s.dev.reload.getLsbD c || s.dev.powerUp.getLsbD c)

/-- CLUSTER_RELOAD_COMPLETE: the cluster takes work again. Telemetry trees come first: the reload of a lend cluster does not end before those of the
telemetry clusters (R282). -/
def execClusterReloadComplete (c : Fin 64) (s : State) := finish s (
  if !s.dev.reload.getLsbD c.val || (!inTelemetry s.sys.profile c.val && s.telemetryReloads) then s
  else
    let s1 := { s with dev := { s.dev with reload := s.dev.reload &&& ~~~(1#64 <<< c.val) } }
    let s2 := (List.range 64).foldl (fun t i => let k := 64 * c.val + i; t.setTartlet k { t.tartlet k with bad := [] }) s1
    (s2.data.models.foldl (fun t e => if e.2.out.isEmpty then t else t.replicaBack e.1) s2).retryHeld)

/-- SLOT_RELOAD_COMPLETE: a slot, or a whole weight bank, is written and rescanned (R326, R402). -/
def execSlotReloadComplete (t : Fin 4096) (bank : Fin 4) (slot : Fin 25) (s : State) := finish s (
  let key := slotKey t.val bank.val slot.val
  match Tbl.find? key s.data.directory with
  | none => s
  | some d =>
    let name := bank.val * 32 + (if d.mode = 2 then 25 else slot.val)
    let tt := s.tartlet t.val
    if !tt.bad.contains name then s
    else ((s.setTartlet t.val { tt with bad := tt.bad.filter (· != name) }).replicaBack d.model).retryHeld)

/-- CLUSTER_POWER_UP: the next group of eight, lowest first (R282). -/
def execClusterPowerUp (s : State) := finish s (
  (((List.range 64).filter fun c => s.dev.powerUp.getLsbD c).take 8).foldl State.clusterOn s)

end Sys2Proof.Machine
end

