-- ==== Sys2Proof/Machine/Ageing.lean ====
section
/-! DEFINITION. Reliability (chapter 15), first part: fuse words read twice (R522, R523), ageing monitors and guards (R507, R508), the margin planner and
its log (R509 to R512), the end-of-life projection (R513, R514), in-service margins (R515). -/

namespace Sys2Proof.Machine
open Sys2Proof

/-! ## Fuse words (R522, R523) -/

/-- The six reads: normal and margin of copy 0, 1, 2. -/
def fuseReads (c : FuseCopies) : List Word := [c.n0, c.m0, c.n1, c.m1, c.n2, c.m2]

/-- The value that at least two copies read alike at both references. -/
def fuseValue (c : FuseCopies) : Option Word :=
  let good := (if c.n0 = c.m0 then [c.n0] else []) ++ (if c.n1 = c.m1 then [c.n1] else []) ++ (if c.n2 = c.m2 then [c.n2] else [])
  good.find? fun v => 2 ≤ (good.filter (· == v)).length

/-- Some read differs from v. -/
def fuseMarginal (c : FuseCopies) (v : Word) : Bool := (fuseReads c).any (· != v)

/-- The reads that differ from v, as bits. -/
def fuseDiffer (c : FuseCopies) (v : Word) : Nat := ((fuseReads c).zipIdx.map fun r => if r.1 = v then 0 else 2 ^ r.2).foldl (· + ·) 0

/-- DATA of records 0x0907 and 0x0908. -/
def fuseData (s : State) (w : Nat) (c : FuseCopies) : Bytes := be 2 w ++ ((fuseReads c).map fun r => be 4 r.toNat).flatten ++ be 2 s.tjField

def State.mark (s : State) (w : Nat) : FuseMark := Tbl.get {} w s.rel.marks
def State.setMark (s : State) (w : Nat) (m : FuseMark) : State := { s with rel := { s.rel with marks := Tbl.set {} w m s.rel.marks } }

/-- One word read again: newly marginal, or drifted. -/
def State.rereadWord (n : Nat) (s : State) (w : Nat) : State :=
  let r (j : Nat) : Word := Config.fuseRead n w j
  let c : FuseCopies := ⟨r 0, r 2, r 4, r 1, r 3, r 5⟩
  let m := s.mark w
  let latched := Tbl.get 0 w s.rel.latched
  match fuseValue c with
  | none =>
    if m.drifted then s
    else (s.setMark w { m with drifted := true, reads := fuseDiffer c latched }).raise 12 0x0908 6 (fuseData s w c)
  | some v =>
    if !fuseMarginal c v || m.service then s
    else
      let s1 := s.setMark w { m with service := true, reads := fuseDiffer c v }
      if m.boot then s1 else s1.raise 12 0x0907 3 (fuseData s w c)

/-- Every word is read again at both references. -/
def State.rereadFuses (s : State) : State :=
  let d := s.draw
  let s1 := (List.range 512).foldl (State.rereadWord d.1) d.2
  { s1 with rel := { s1.rel with rereadAt := s.cs, rereadTj := s.tjField } }

def getFuseStatusBody (_ : Sentence) (s : State) : State × Answer :=
  let count (f : FuseMark → Bool) : Nat := (s.rel.marks.filter fun e => f e.2).length
  let entry (e : Nat × FuseMark) : Bytes :=
    be 2 e.1 ++ be 1 (flagBit e.2.boot 0 + flagBit e.2.service 1 + flagBit e.2.drifted 2) ++ be 1 e.2.reads
  (s, .final St.ok (be 2 512 ++ be 2 (count (·.boot)) ++ be 2 (count (·.service)) ++ be 2 (count (·.drifted)) ++ be 8 s.rel.rereadAt ++
    be 2 s.rel.bootTj ++ be 2 s.rel.rereadTj ++ zeros 4 ++ ((s.rel.marks.take 128).map entry).flatten))

/-! ## Islands (R277, R507, R508, R593) -/

def State.island (s : State) (i : Nat) : Island := Tbl.get {} i s.rel.islands
def State.setIsland (s : State) (i : Nat) (v : Island) : State := { s with rel := { s.rel with islands := Tbl.set {} i v s.rel.islands } }

/-- The rail that feeds an island (R593). -/
def railOf (i : Nat) : Nat :=
  if i < 64 then i / 4
  else if i < 68 then 17
  else if i < 82 || i = 93 then 18
  else if i = 96 then 19
  else 16

/-- D105 in 1/800 ps (R508). -/
def d105 (i : Nat) (delay tj : BitVec 16) : Int :=
  (delay.toNat : Int) * 800 + ((Config.delayCoefficient i).toNat : Int) * (840 - tj.toInt)

/-- Dmax in 1/800 ps over the last 24 h. -/
def Island.dmax (v : Island) : Int := (v.hist.map (·.2)).foldl max ((v.hist.head?.map (·.2)).getD 0)

/-- The guard in 0.01 % (R508), rounded down; none below 3,600 samples in 24 h. -/
def Island.guard (v : Island) (i : Nat) : Option Int :=
  if v.hist.length < 3600 then none
  else some ((10000 * 1600000000 - v.dmax * (islandClock i : Int) * (200 - (v.fstep : Int))) / 1600000000)

def guardField (i : Nat) (g : Option Int) : Nat :=
  match g with
  | some z => ofSigned 16 (max (-32768) (min 32767 z))
  | none => (Config.noGuard i).toNat

/-- The 16-byte sample of R507. -/
def Island.sample (v : Island) (i : Nat) : Bytes :=
  be 2 v.ro.toNat ++ be 2 v.delay.toNat ++ be 2 v.tj.toNat ++ be 2 v.volt.toNat ++ be 1 v.vstep ++ be 1 v.fstep ++
    be 1 (flagBit (!v.sampled) 0 + flagBit v.eol 1 + flagBit (fixedClock i) 2) ++ zeros 5

/-- AGEING_SAMPLE: every powered island at a whole second of service time. -/
def execAgeingSample (samples : List IslandSample) (s : State) := finish s (
  if !s.timeValid then s
  else
    let sec := s.svcNs / 1000000000
    (List.range 97).foldl (fun t i =>
      let v := t.island i
      match samples.find? fun q => q.island.val == i && t.powered i with
      | some q => t.setIsland i { v with sampled := true, ro := q.ro, delay := q.delay, tj := q.tj, volt := q.volt
                                         hist := (sec, d105 i q.delay q.tj) :: v.hist.filter fun h => sec < h.1 + 86400 }
      | none => t.setIsland i { v with sampled := false, hist := v.hist.filter fun h => sec < h.1 + 86400 }) s)

/-! ## The planner (R510) -/

/-- One island's change. -/
def planIsland (v : Island) (i : Nat) (g : Option Int) (railGood : Bool) : PlanChange :=
  match g with
  | none => ⟨i, v.vstep, v.fstep, false, g⟩
  | some z =>
    if z < 600 then
      if v.vstep < 24 then ⟨i, v.vstep + 1, v.fstep, false, g⟩
      else if !fixedClock i && v.fstep < 20 then ⟨i, v.vstep, v.fstep + 1, true, g⟩
      else ⟨i, v.vstep, v.fstep, true, g⟩
    else if 1000 ≤ z && 0 < v.fstep then ⟨i, v.vstep, v.fstep - 1, false, g⟩
    else if 1000 ≤ z && 0 < v.vstep && 7 ≤ v.quiet && railGood then ⟨i, v.vstep - 1, v.fstep, false, g⟩
    else ⟨i, v.vstep, v.fstep, false, g⟩

/-- The plan over the islands in ascending index. -/
def State.planAll (s : State) : List PlanChange :=
  let g (i : Nat) : Option Int := (s.island i).guard i
  let good (r : Nat) : Bool := (List.range 97).all fun j => railOf j != r || ((g j).map fun z => decide (1000 ≤ z)).getD false
  (List.range 97).map fun i => planIsland (s.island i) i (g i) (good (railOf i))

/-- A margin log entry (R512), written to flash and to the event recorder. -/
def State.logMargin (s : State) (i kind old new : Nat) (g : Option Int) : State :=
  let v := s.island i
  let e := be 4 s.rel.marginSeq ++ be 8 s.cs ++ be 1 i ++ be 1 kind ++ be 1 old ++ be 1 new ++ be 2 (guardField i g) ++ be 2 v.tj.toNat ++
    be 2 (v.dmax / 800).toNat ++ be 1 (railOf i) ++ zeros 5
  ({ s with rel := { s.rel with marginSeq := (s.rel.marginSeq + 1) % 2 ^ 32, marginLog := ((e ++ be 4 (crc32c e)) :: s.rel.marginLog).take 32768 } }).raise 12 0x0901 3 e

/-- Start a run (R509): the fuse words are read again (R523). -/
def State.startPlan (s : State) (apply : Bool) (t : Option Ticket) : State :=
  let s1 := s.rereadFuses
  { s1 with rel := { s1.rel with run := some { apply := apply, ticket := t } } }

/-- MARGIN_PLAN_SCHEDULED: at its second of the TAI day; skipped while a run is in progress. -/
def execMarginPlanScheduled (s : State) := finish s (
  if s.timeValid && s.svcNs / 1000000000 % 86400 = s.rel.schedule && s.rel.run.isNone && s.dev.fwReady then s.startPlan true none else s)

/-- The results of a run: what changed, then per island the new steps and the guard. -/
def State.planResults (s : State) (plan : List PlanChange) (before : List (Nat × Nat)) (applied : Bool) : Bytes :=
  let steps (c : PlanChange) : Nat × Nat := if applied then ((s.island c.island).vstep, (s.island c.island).fstep) else (c.vstep, c.fstep)
  let changed := (plan.zip before).filter fun q => steps q.1 != q.2
  let eol := plan.filter fun c => c.eol || (s.island c.island).eol
  be 2 changed.length ++ be 2 (plan.filter fun c => c.guard.isSome).length ++ be 2 eol.length ++ zeros 2 ++
    (plan.map fun c => be 1 (steps c).1 ++ be 1 (steps c).2 ++ be 2 (guardField c.island c.guard)).flatten

/-- Log one island's changes (R512); END_OF_LIFE when first set also writes its record (R510). -/
def State.logChange (s : State) (c : PlanChange) : State :=
  let v := s.island c.island
  let s1 := if c.vstep != v.vstep then s.logMargin c.island 1 v.vstep c.vstep c.guard else s
  let s2 := if c.fstep != v.fstep then s1.logMargin c.island 2 v.fstep c.fstep c.guard else s1
  if c.eol && !v.eol then
    ((s2.logMargin c.island 3 0 1 c.guard).setIsland c.island { v with eol := true }).raise 12 0x0902 6
      (be 1 c.island ++ be 1 c.vstep ++ be 1 c.fstep ++ be 2 (guardField c.island c.guard))
  else s2

/-- VSTEP and FSTEP of the plan's islands now. -/
def State.stepsNow (s : State) (plan : List PlanChange) : List (Nat × Nat) := plan.map fun c => ((s.island c.island).vstep, (s.island c.island).fstep)

/-- MARGIN_PLAN_COMPLETE: a run without applying ends; the changes of another are logged and wait for the next tick. -/
def execMarginPlanComplete (s : State) := finish s (
  match s.rel.run with
  | none => s
  | some r =>
    if r.plan.isSome then s
    else
      let plan := s.planAll
      if r.apply then
        let s1 := plan.foldl State.logChange s
        { s1 with rel := { s1.rel with run := some { r with plan := some (plan, s.now), before := s.stepsNow plan } } }
      else
        let s1 := { s with rel := { s.rel with run := none } }
        match r.ticket with
        | some t => s1.final .agg t St.ok (s.planResults plan (s.stepsNow plan) false)
        | none => s1)

/-- End a run: the run counts of R510, and the final reply. -/
def State.endPlan (s : State) (r : PlanRun) (results : Bytes) : State :=
  let s1 := { s with rel := { s.rel with run := none } }
  match r.ticket with
  | some t => s1.final .agg t St.ok results
  | none => s1

/-- One rail (R511 step 2): written where its setpoint changes; unacknowledged, its islands keep their VSTEP. -/
def State.applyRail (plan : List PlanChange) (acked : List (Nat × Bool)) (s : State) (rail : Nat) : State :=
  let mine := plan.filter fun c => railOf c.island == rail
  let new := (mine.map (·.vstep)).foldl max 0
  let set (t : State) : State := mine.foldl (fun u c =>
    let v := u.island c.island
    u.setIsland c.island { v with vstep := c.vstep, quiet := if v.vstep < c.vstep then 0 else min 7 (v.quiet + 1) }) t
  if new = Tbl.get 0 rail s.rel.rails then set s
  else
    let address := fld s.phys.bootCfg (64 + 4 * rail) 1
    if address != 0 && ((acked.find? fun a => a.1 == rail).map (·.2)).getD false then
      let s1 := (set s).emit (.pmbus rail (7500 + 25 * new))
      { s1 with rel := { s1.rel with rails := Tbl.set 0 rail new s1.rel.rails } }
    else
      let s1 := mine.foldl (fun u c =>
        let v := u.island c.island
        let u1 := u.setIsland c.island { v with quiet := min 7 (v.quiet + 1) }
        if c.vstep = v.vstep then u1 else u1.logMargin c.island 4 v.vstep v.vstep c.guard) s
      s1.raise 12 0x0904 4 (be 1 rail ++ be 2 new)

/-- MARGIN_PLAN_APPLY (R511): at the first tick after the plan is complete. `acked` says which regulators acknowledged. -/
def execMarginPlanApply (acked : List (Nat × Bool)) (s : State) := finish s (
  match s.rel.run with
  | none => s
  | some r => match r.plan with
    | none => s
    | some (plan, at_) =>
      if r.wrote.isSome || (s.dueTick (at_ + 1)).isNone then s
      else
        let s1 := plan.foldl (fun t c =>
          let v := t.island c.island
          if v.fstep < c.fstep then t.setIsland c.island { v with fstep := c.fstep } else t) s
        let s2 := (List.range 20).foldl (State.applyRail plan acked) s1
        if plan.any fun c => decide (c.fstep < (s2.island c.island).fstep) then
          { s2 with rel := { s2.rel with run := some { r with wrote := some s.now } } }
        else s2.endPlan r (s2.planResults plan r.before true))

/-- FSTEP_DECREASE: at the first tick at least 1 ms after the last rail write (R511 step 3). -/
def execFstepDecrease (s : State) := finish s (
  match s.rel.run with
  | none => s
  | some r => match r.plan, r.wrote with
    | some (plan, _), some w =>
      if (s.dueTick (w + 1000000)).isNone then s
      else
        let s1 := plan.foldl (fun t c =>
          let v := t.island c.island
          if c.fstep < v.fstep then t.setIsland c.island { v with fstep := c.fstep } else t) s
        s1.endPlan r (s1.planResults plan r.before true)
    | _, _ => s)

/-- RUN_MARGIN_PLAN modes 0 and 1; the row of mode 2 is SET_MARGIN_SCHEDULE. -/
def runMarginPlanBody (x : Sentence) (s : State) : State × Answer :=
  if x.b 0 = 2 then ({ s with rel := { s.rel with schedule := x.f 4 4 } }, .final St.ok)
  else if s.rel.run.isSome then (s, .final St.state)
  else (s.startPlan (x.b 0 = 0) (some x.ticket), .accepted)

/-! ## The ageing log (R513, R514) -/

def isqrt (n : Nat) : Nat := (List.range (Nat.log2 n / 2 + 1)).foldr (fun i r => if (r + 2 ^ i) * (r + 2 ^ i) ≤ n then r + 2 ^ i else r) 0
/-- The square root and the fourth root of t in 2^-60, rounded down. -/
def root2 (t : Nat) : Nat := isqrt (t * 2 ^ 120)
def root4 (t : Nat) : Nat := isqrt (isqrt (t * 2 ^ 240))

/-- The sums of the fit over weeks 1 on: of the differences to `y0` times the fourth root, and of the square roots. -/
def fitSums (y0 : Int) (values : List Nat) : Int × Int :=
  values.reverse.zipIdx.foldl (fun (a : Int × Int) q =>
    if q.2 = 0 then a else (a.1 + ((q.1 : Int) - y0) * (root4 q.2 : Int), a.2 + (root2 q.2 : Int))) (0, 0)

/-- t_eol as a fraction: (limit / A)^4 with limit = num/den, for the sums. -/
def eolFraction (num den : Int) (sums : Int × Int) : Nat × Nat := (((num * sums.2).toNat) ^ 4, ((den * sums.1).toNat) ^ 4)

/-- Whole weeks from the current week to t_eol, saturating. -/
def weeksLeft (fr : Nat × Nat) (current : Nat) : Nat := min 0xFFFE (fr.1 / fr.2 - current)

/-- Weeks remaining of an island (R514): the offset in steps of 2.5 mV, the limit 24 steps. -/
def islandWeeks (v : Series) : Nat :=
  let sums := fitSums 0 v.values
  if v.values.length < 4 || sums.1 ≤ 0 then 0xFFFF else weeksLeft (eolFraction 24 1 sums) (v.values.length - 1)

/-- t_eol of an island lies below the rated 783 weeks. -/
def belowRated (v : Series) : Bool :=
  let sums := fitSums 0 v.values
  let fr := eolFraction 24 1 sums
  !(v.values.length < 4 || sums.1 ≤ 0) && decide (fr.1 < 783 * fr.2)

/-- Weeks remaining of a DTC channel: (D − D0) / D0 against 0.10. A week-0 value of 0 leaves the quotient open. -/
def channelWeeks (v : Series) : Nat :=
  let d0 : Int := ((v.values.getLast?).getD 0 : Nat)
  let sums := fitSums d0 v.values
  if v.values.length < 4 || sums.1 ≤ 0 then 0xFFFF
  else if d0 = 0 then (Config.weeksOfZero v.oid).toNat
  else weeksLeft (eolFraction d0 10 sums) (v.values.length - 1)

def State.series (s : State) (i : Nat) : Series := Tbl.get {} i s.rel.series
def Series.push (v : Series) (y : Nat) : Series := if v.values.length < 835 then { v with values := y :: v.values } else v
/-- The number of a DTC channel's series. -/
def channelSeries (port ch : Nat) : Nat := 97 + 16 * port + (ch - 48)

/-- The island whose projection is least, and its weeks. -/
def State.projection (s : State) : Nat × Nat :=
  (List.range 97).foldl (fun a i => let w := islandWeeks (s.series i); if w < a.2 then (i, w) else a) (0, islandWeeks (s.series 0))

/-- One channel's week: its mean VALUE; a DTC with a new OID starts new series. -/
def State.channelWeek (s : State) (p ch : Nat) : State :=
  let w := Tbl.get (0, 0) ch (s.die p).week
  let oid := Tbl.get 0 p s.verbs.knownOid
  let k := channelSeries p ch
  if w.2 = 0 then s
  else
    let v := if (s.series k).oid = oid then s.series k else { oid := oid }
    { s with rel := { s.rel with series := Tbl.set {} k (v.push (w.1 * 65536 / w.2)) s.rel.series } }

/-- AGEING_WEEK: every series grows by its weekly value; a projection below the rated life is recorded. -/
def execAgeingWeek (s : State) := finish s (
  let s1 := (List.range 97).foldl (fun t i =>
    { t with rel := { t.rel with series := Tbl.set {} i ((t.series i).push (t.island i).vstep) t.rel.series } }) s
  let s2 := s1.diePorts.foldl (fun t e => (List.range 16).foldl (fun u c => u.channelWeek e.1 (48 + c)) t) s1
  let s3 := { s2 with data := { s2.data with dies := Tbl.mapAll {} (fun d => { d with week := [] }) s2.data.dies } }
  let p := s3.projection
  if belowRated (s3.series p.1) then s3.raise 12 0x0903 4 (be 1 p.1 ++ be 2 p.2) else s3)

/-! ## Margins (R515) -/

/-- The number of a margin: kind, index, lane or channel, and for kind 4 the quantity. -/
def marginKey (kind index lane q : Nat) : Nat := ((kind * 256 + index) * 256 + lane) * 4 + q

def marginIndexValid (kind index lane : Nat) : Bool :=
  match kind with
  | 0 => index < 64 && lane < 3
  | 1 => index < 16 && lane < 5
  | 2 => index == 0 && lane < 5
  | 3 => index < 64 && lane == 0
  | 4 => index < 4 && lane < 16
  | _ => false

/-- Take one reading; an alarm writes its record at most once per day per index. -/
def State.takeMargin (s : State) (r : MarginReading) : State :=
  if !marginIndexValid r.kind.val r.index r.lane || (r.kind.val != 4 && r.quantity.val != 0) then s
  else
    let k := marginKey r.kind.val r.index r.lane r.quantity.val
    let m := Tbl.get ({} : Margin) k s.rel.margins
    let sec := s.now / 1000000000
    let v := r.value.toNat
    let alarm := if r.kind.val = 4 then r.alarm || (r.quantity.val < 2 && v < 32) else r.alarm
    let due := alarm && (m.alarmAt = 0 || m.alarmAt + 86400 ≤ sec + 1)
    let m1 : Margin := { current := v, day := (sec, v) :: m.day.filter (fun d => sec < d.1 + 86400), least := some (min v (m.least.getD v)),
                         alarm := alarm, alarmAt := if due then sec + 1 else m.alarmAt }
    let s1 := { s with rel := { s.rel with margins := Tbl.set {} k m1 s.rel.margins } }
    if due then s1.raise 12 0x0909 4 (be 1 r.kind.val ++ be 1 r.index ++ be 1 r.lane ++ be 2 v) else s1

/-- MARGIN_REFRESH: the readings of this second; the aggregator also asks every optical DTC link for its power (R156, R515). -/
def execMarginRefresh (readings : List MarginReading) (s : State) := finish s (
  let s1 := readings.foldl State.takeMargin s
  let ask (t : State) (p : Fin 64) : State :=
    if (t.dtc p).ties.optA && (t.port p).e.st == .inService && t.dev.fwReady then
      let f := Tbl.get 1 p.val t.verbs.nextFtag
      let x : Sentence := ⟨.agg, .mailbox, 0x0B, BitVec.ofNat 32 f, 0, 0, 0, zeros 4⟩
      (t.forward p 0x0400 x (BitVec.ofNat 32 (Tbl.get 1 p.val t.verbs.knownOid))).1
    else t
  allPorts.foldl ask s1)

/-- One margin's 8 bytes. -/
def Margin.bytes (m : Margin) : Bytes :=
  be 2 m.current ++ be 2 ((m.day.map (·.2)).foldl min m.current) ++ be 2 (m.least.getD 0) ++ be 1 (flagBit m.alarm 0) ++ zeros 1

def getMarginsBody (x : Sentence) (s : State) : State × Answer :=
  let m (q : Nat) : Bytes := (Tbl.get ({} : Margin) (marginKey (x.b 0) (x.b 1) (x.b 2) q) s.rel.margins).bytes
  (s, .final St.ok (if x.b 0 = 4 then m 0 ++ m 1 ++ m 2 else m 0))

/-! ## READ_AGEING (R532) -/

/-- Margin log entries at or after a cursor, oldest first, at most n. -/
def logFrom (log : List Bytes) (cursor : Word) (n : Nat) : List Bytes :=
  (log.reverse.filter fun e => !seqAfter cursor (BitVec.ofNat 32 (fld e 0 4))).take n

def readAgeingBody (x : Sentence) (s : State) : State × Answer :=
  let i := x.b 1
  match x.b 0 with
  | 0 =>
    let v := s.island i
    (s, .final St.ok (v.sample i ++ be 2 (v.dmax / 800).toNat ++ be 2 (guardField i (v.guard i)) ++ be 2 (islandWeeks (s.series i)) ++
      be 2 (s.series i).values.length ++ be 4 (Config.delayCoefficient i).toNat ++ zeros 4))
  | 1 =>
    let b := (s.die i).ageing
    let at_ := if b.isEmpty then 0 else cstampOf true (fld b 0 8 * s.sys.epoch * unit)
    (s, .final St.ok (be 8 at_ ++ ((List.range 16).map fun c => be 2 (channelWeeks (s.series (channelSeries i (48 + c))))).flatten ++ b))
  | 2 =>
    let es := logFrom s.rel.marginLog (BitVec.ofNat 32 (x.f 4 4)) 127
    (s, .final St.ok (be 2 es.length ++ zeros 6 ++ es.flatten))
  | _ =>
    let p := s.projection
    (s, .final St.ok (be 2 p.2 ++ be 1 p.1 ++ be 1 ((List.range 97).filter fun i => (s.island i).eol).length ++ zeros 4 ++
      ((List.range 97).map fun i => be 1 (s.island i).vstep).flatten ++ ((List.range 97).map fun i => be 1 (s.island i).fstep).flatten))

def vReadAgeing : Verb :=
  { code := 0x0900, mgmt := true, standby := .own, minLen := 8, maxLen := 8
    check := fun _ x => match x.b 0 with
      | 0 => x.b 1 ≤ 96
      | 1 => x.b 1 ≤ 63
      | 2 | 3 => true
      | _ => false
    zeroLen := fun _ x => match x.b 0 with
      | 0 => 32
      | 1 => 40
      | 2 => 8
      | _ => 202 }
def vRunMarginPlan : Verb :=
  { code := 0x0901, mgmt := true, standby := .own, nonIdem := true, minLen := 8, maxLen := 8, deferred := fun x => x.b 0 != 2
    check := fun _ x => x.b 0 < 2 || (x.b 0 == 2 && x.f 4 4 < 86400)
    zeroLen := fun _ x => if x.b 0 = 2 then 0 else 396 }
def vGetMargins : Verb :=
  { code := 0x0902, mgmt := true, standby := .own, minLen := 4, maxLen := 4, check := fun _ x => marginIndexValid (x.b 0) (x.b 1) (x.b 2)
    zeroLen := fun _ x => if x.b 0 = 4 then 24 else 8 }
def vGetFuseStatus : Verb := { code := 0x0906, mgmt := true, standby := .own, zeroLen := fun _ _ => 24 }

def execReadAgeing (x : Sentence) (s : State) := finish s (s.runSentence vReadAgeing readAgeingBody x)
def execRunMarginPlan (x : Sentence) (s : State) := finish s (s.formRow x (x.b 0 != 2) (s.runSentence vRunMarginPlan runMarginPlanBody x))
def execSetMarginSchedule (x : Sentence) (s : State) := finish s (s.formRow x (x.b 0 == 2) (s.runSentence vRunMarginPlan runMarginPlanBody x))
def execGetMargins (x : Sentence) (s : State) := finish s (s.runSentence vGetMargins getMarginsBody x)
def execGetFuseStatus (x : Sentence) (s : State) := finish s (s.runSentence vGetFuseStatus getFuseStatusBody x)

end Sys2Proof.Machine
end

