-- ==== Sys2Proof/Machine/Bar.lean ====
section
/-! DEFINITION. Writes to BAR0 registers that have no row of their own (R290, R291, R294, R295), by the field types of R11, and to the MSI-X table of
BAR2 (R288). -/

namespace Sys2Proof.Machine
open Sys2Proof

/-- Raise the vectors of the bits newly set in both GQ_IRQ_STATUS and GQ_IRQ_EN (R291). -/
def State.raiseVectors (s : State) (new : BitVec 5) : State :=
  (List.range 5).foldl (fun t i => if new.getLsbD i then t.signal (64 + i) else t) s

/-- A base register of queue pair n: it keeps its value while ENABLED is 1, and ERR is set with kind 3 (R295). -/
def State.writeBase (s : State) (n : Fin 64) (f : Qp → Qp) : State :=
  let q := s.qp n
  if q.enabled then s.qpError n 3 else s.setQp n (f q)

/-- A 64-bit base with its low half, bits 31 to 12, or its high half written. -/
def lowHalf (b : Nat) (v : Word) : Nat := b / 2 ^ 32 * 2 ^ 32 + v.toNat / 4096 * 4096
def highHalf (b : Nat) (v : Word) : Nat := v.toNat * 2 ^ 32 + b % 2 ^ 32

/-- A register of a queue pair's block. GQ_QP_CTRL has rows of its own. -/
def State.writeQp (s : State) (n : Fin 64) (o : Nat) (v : Word) : State :=
  match o with
  | 0x00 => s.writeBase n fun q => { q with sqBase := lowHalf q.sqBase v }
  | 0x04 => s.writeBase n fun q => { q with sqBase := highHalf q.sqBase v }
  | 0x08 => s.writeBase n fun q => { q with cqBase := lowHalf q.cqBase v }
  | 0x0C => s.writeBase n fun q => { q with cqBase := highHalf q.cqBase v }
  | 0x14 => let q := s.qp n; s.setQp n { q with err := q.err && !v.getLsbD 30 }
  | _ => s

/-- A word of the MSI-X table: address low and high, data, vector control. A vector that is unmasked with its pending bit set is signalled. -/
def State.writeVector (s : State) (n o : Nat) (v : Word) : State :=
  let e := s.vector n
  match o with
  | 0x0 => s.setVector n { e with addr := BitVec.ofNat 64 (e.addr.toNat / 2 ^ 32 * 2 ^ 32 + v.toNat) }
  | 0x4 => s.setVector n { e with addr := BitVec.ofNat 64 (highHalf e.addr.toNat v) }
  | 0x8 => s.setVector n { e with data := v }
  | _ =>
    let s1 := s.setVector n { e with control := v &&& 1, pending := e.pending && v.getLsbD 0 }
    if e.pending && !v.getLsbD 0 then s1.signal n else s1

/-- BAR_REGISTER_WRITE, in BAR2 where `reg.table`: an unaligned access, an offset that is not mapped and a read-only register take no write, and a halted
boot serves only the device window (R296). The pending bits of BAR2 are read-only. -/
def execBarRegisterWrite (reg : BarReg) (v : Word) (s : State) := finish s (
  let o := reg.off.toNat
  if o % 4 != 0 || (s.dev.halted && (reg.table || 0x1000 ≤ o)) then s
  else if reg.table then (if o < 0x8000 then s.writeVector (o / 16) (o % 16) v else s)
  else if o = 0x10 then { s with dev := { s.dev with scratch := v } }
  else if o = 0x20 then
    { s with dev := { s.dev with irqStatus := s.dev.irqStatus &&& (~~~(v.extractLsb' 0 5) ||| freshBits 5 s.dev.irqAt s.now) } }
  else if o = 0x24 then
    let en := v.extractLsb' 0 5
    ({ s with dev := { s.dev with irqEn := en } }).raiseVectors (s.dev.irqStatus &&& en &&& ~~~s.dev.irqEn)
  else if 0x10000 ≤ o && o < 0x11000 then
    s.writeQp ⟨(o - 0x10000) / 64 % 64, Nat.mod_lt _ (by decide)⟩ (o % 64) v
  else s)

end Sys2Proof.Machine
end

