-- ==== Sys2Proof/Machine/Reduction.lean ====
section
/-! DEFINITION. Reduction groups across the fabric (chapter 12): the tree over positions, folds and frames, closes with their summary, straggler
and report, and the verbs of R436. -/

namespace Sys2Proof.Machine
open Sys2Proof

/-! ## The tree (R408, R409) -/

/-- The members of in-half indices base to base + n − 1 of half h, ascending. -/
def membersIn (c : Bytes) (base n : Nat) : List Nat := (List.range n).filterMap fun i => if gcMember c (base + i) then some (base + i) else none

/-- First position of the level-L subtree that holds position p, and its size. -/
def subtreeSize (level : Nat) : Nat := 16 ^ min level 3
def subtreeBase (level p : Nat) : Nat := p / subtreeSize level * subtreeSize level

/-- The member that holds the node over a subtree: its lowest position. -/
def holderOf (c : Bytes) (base n : Nat) : Option Nat := (membersIn c base n).head?

/-- Position p holds its node of a level (level 4 with level 3). -/
def holds (c : Bytes) (p level : Nat) : Bool := holderOf c (subtreeBase level p) (subtreeSize level) == some p

/-- The half-root of the other half. -/
def peerRoot (c : Bytes) (p : Nat) : Option Nat := holderOf c (if p < 4096 then 4096 else 0) 4096

/-- The positions from which the level-L node of p expects a contribution, its own excepted. -/
def expected (c : Bytes) (p level : Nat) : List Nat :=
  if level = 4 then (peerRoot c p).toList
  else
    let n := subtreeSize (level - 1)
    ((List.range 16).filterMap fun i => holderOf c (subtreeBase level p + i * n) n).filter (· != p)

/-- The highest node level that p holds below the exchange; 0 for a member alone. -/
def topLevel (c : Bytes) (p : Nat) : Nat := if !holds c p 1 then 0 else if !holds c p 2 then 1 else if !holds c p 3 then 2 else 3

/-- The level whose fold p passes on at the top: 4 where the other half has members. -/
def lastLevel (c : Bytes) (p : Nat) : Nat := if topLevel c p = 3 && (peerRoot c p).isSome then 4 else topLevel c p

/-- The member that folds what p sends up. -/
def parentOf (c : Bytes) (p : Nat) : Option Nat :=
  let l := topLevel c p + 1
  holderOf c (subtreeBase l p) (subtreeSize l)

/-- The positions to which p passes a down frame: those its nodes expect from, below the exchange. -/
def childrenOf (c : Bytes) (p : Nat) : List Nat := ((List.range (topLevel c p)).map fun l => expected c p (l + 1)).flatten

/-- The members of the subtree that a child of a level-L node stands for. -/
def subtreeOf (c : Bytes) (p level : Nat) : Nat :=
  if level = 4 then (membersIn c (p / 4096 * 4096) 4096).length
  else (membersIn c (subtreeBase (level - 1) p) (subtreeSize (level - 1))).length

/-! ## Sections (R413 to R416) -/

/-- The log-histogram's bucket and its lowest key. -/
def bucketKey (u : Nat) : Nat := if u = 0 then 0 else let e := Nat.log2 u; 64 * e + (u * 64 / 2 ^ e) % 64
def lowKey (b : Nat) : Nat := if b = 0 then 0 else ((64 + b % 64) * 2 ^ (b / 64) + 63) / 64

/-- Rank order: higher rank first, then the lower OID. -/
def entryBefore (a b : Bytes) : Bool :=
  let ra := toSigned 64 (fld a 0 8)
  let rb := toSigned 64 (fld b 0 8)
  if ra = rb then fld a 8 4 < fld b 8 4 else decide (rb < ra)

def insertEntry (e : Bytes) : List Bytes → List Bytes
  | [] => [e]
  | x :: xs => if entryBefore e x then e :: x :: xs else x :: insertEntry e xs

/-- The first K of a union in rank order; of one OID only its first entry. -/
def mergeTop (k : Nat) (es : List Bytes) : List Bytes :=
  let sorted := es.foldr insertEntry []
  (sorted.foldl (fun (a : List Bytes) e => if a.any (fun x => fld x 8 4 == fld e 8 4) then a else a ++ [e]) []).take k

/-- A top-K section, and its entries. Level 2 carries 12 bytes an entry (R432). -/
def topSection (level : Nat) (es : List Bytes) : Bytes := be 2 es.length ++ zeros 6 ++ (es.map fun e => if level = 2 then e.take 12 else e).flatten
def topEntries (level : Nat) (b : Bytes) : List Bytes :=
  let n := if level = 2 then 12 else 16
  (List.range (fld b 0 2)).map fun i => padTo 16 (sub b (8 + n * i) n)

/-- The length of a section where it is fixed. -/
def sectionLen (c : Bytes) (level : Nat) (b : Bytes) : Nat :=
  match gcKind c with
  | 1 => 16 * gcN c
  | 2 | 3 => 8 * gcN c
  | 4 => 128
  | 5 => 8200
  | 6 => 8 + (if level = 2 then 12 else 16) * fld b 0 2
  | _ => 512

/-- Fold two sections of a kind. -/
def foldSection (c : Bytes) (level : Nat) (a b : Bytes) : Bytes :=
  let each (n w : Nat) (f : Nat → Nat → Nat) : Bytes := ((List.range n).map fun i => be w (f (fld a (w * i) w) (fld b (w * i) w))).flatten
  match gcKind c with
  | 1 => each (gcN c) 16 fun x y => (x + y) % 2 ^ 128
  | 2 => each (gcN c) 8 fun x y => if toSigned 64 x ≤ toSigned 64 y then x else y
  | 3 => each (gcN c) 8 fun x y => if toSigned 64 x ≤ toSigned 64 y then y else x
  | 4 => each 16 8 fun x y => (x + y) % 2 ^ 64
  | 5 => be 8 ((fld a 0 8 + fld b 0 8) % 2 ^ 64) ++
      ((List.range 2048).map fun i => be 4 (min (fld a (8 + 4 * i) 4 + fld b (8 + 4 * i) 4) 0xFFFFFFFF)).flatten
  | 6 => topSection level (mergeTop (gcK c) (topEntries level a ++ topEntries level b))
  | _ => each 512 1 fun x y => x ||| y

def addCounts (a b : FoldCounts) : FoldCounts :=
  { counted := a.counted + b.counted, missing := a.missing + b.missing, exclConfig := a.exclConfig + b.exclConfig,
    exclVersion := a.exclVersion + b.exclVersion, suspect := a.suspect + b.suspect, late := a.late + b.late, invalid := a.invalid + b.invalid,
    named := a.named + b.named, cut := a.cut || b.cut }

/-- Fold two contributions of a pass. An excluded or absent one has no section. -/
def foldTwo (c : Bytes) (level pass : Nat) (a b : Fold) : Fold :=
  let sec := if b.section_.isEmpty then a.section_ else if a.section_.isEmpty then b.section_
    else if pass = 2 then topSection level (mergeTop (gcK c) (topEntries level a.section_ ++ topEntries level b.section_))
    else foldSection c level a.section_ b.section_
  { counts := addCounts a.counts b.counts, section_ := sec, offsets := a.offsets ++ b.offsets, maxLevel := min a.maxLevel b.maxLevel }

/-! ## The local contribution (R411 to R413, R420) -/

/-- What records of a period give one element: values, with none for a NaN. -/
def elementValues (c image : Bytes) (rs : List Bytes) (j : Nat) : List (Option Int) :=
  rs.map fun r => (scoreOf image r (gcField c + j)).value (gcF c)

def keysOf (c image : Bytes) (rs : List Bytes) : List (Nat × Option Int) := rs.map fun r => (recPort r, (scoreOf image r (gcField c)).key (gcF c))

/-- The best key of each port. -/
def bestKeys (dir : Nat) (ks : List (Nat × Option Int)) : Tbl Int :=
  ks.foldl (fun t k => match k.2 with
    | some u => Tbl.insert k.1 (match Tbl.find? k.1 t with | some v => bestKey dir u v | none => u) t
    | none => t) []

/-- The section of the member's own records, and the values that were a NaN. -/
def localSection (c image : Bytes) (level : Nat) (oids : List (Nat × Nat)) (rs : List Bytes) : Bytes × Nat :=
  let ok := rs.filter fun r => recModel r == gcSource c && recStatus r == St.ok
  let elems := (List.range (gcN c)).map (elementValues c image ok)
  let badValues := (elems.map fun e => (e.filter (·.isNone)).length).foldl (· + ·) 0
  let pick (f : List Int → Int) (w : Nat) : Bytes := (elems.map fun e => be w (ofSigned (8 * w) (f (e.filterMap id)))).flatten
  let ks := keysOf c image ok
  let badKeys := (ks.filter fun k => k.2.isNone).length
  match gcKind c with
  | 1 => (pick (fun vs => vs.foldl (· + ·) 0) 16, badValues)
  | 2 => (pick (fun vs => vs.foldl min 9223372036854775807) 8, badValues)
  | 3 => (pick (fun vs => vs.foldl max (-9223372036854775808)) 8, badValues)
  | 4 => (((List.range 16).map fun j => be 8 (ok.filter fun r => recVerdict r && recClass r == j).length).flatten, 0)
  | 5 =>
    let bs := ks.filterMap fun k => k.2.map fun u => bucketKey u.toNat
    (be 8 badKeys ++ ((List.range 2048).map fun b => be 4 (bs.filter (· == b)).length).flatten, badKeys)
  | 6 => (topSection level (mergeTop (gcK c) ((bestKeys (gcDir c) ks).filterMap fun k =>
      (oids.find? fun o => o.1 == k.1).map fun o => topEntry (gcDir c) (some k.2) o.2 0 0 0)), badKeys)
  | _ =>
    let bits := (ks.filterMap fun k => k.2.map fun u => u.toNat % 4096).foldl (fun m b => m ||| 2 ^ b) 0
    (be 512 bits, badKeys)

/-! ## Frames (R417) -/

/-- The sections of a contribution going up. -/
def upSections (f : Fold) (timeReport : Bool) : Bytes :=
  f.section_ ++ (if timeReport then (f.offsets.map fun o => be 2 o.1 ++ be 2 (ofSigned 16 (max (-32767) (min 32767 o.2)))).flatten else [])

def sat16 (n : Nat) : Nat := min n 65535

/-- The header of a frame, FRAG, TSEND and TDOWN as given. -/
def redHeader (g gen index : Nat) (cfg : Bytes) (level maxLevel dir pass pos node flags : Nat) (k : FoldCounts) (frag : Nat) (tsend : Bytes) (tdown reach : Nat) :
    Bytes :=
  be 3 g ++ be 1 gen ++ be 8 index ++ be 4 (gcEpoch cfg) ++ be 1 level ++ be 1 maxLevel ++ be 1 dir ++ be 1 pass ++ be 2 pos ++ be 1 node ++ be 1 flags ++
    be 2 (sat16 k.counted) ++ be 2 (sat16 k.missing) ++ be 2 (sat16 k.exclConfig) ++ be 2 (sat16 k.exclVersion) ++ be 2 (sat16 k.suspect) ++ be 2 frag ++
    be 4 (min k.late 0xFFFFFFFF) ++ tsend ++ be 4 tdown ++ be 4 reach

/-- The OIDs of a position in the neighbour list. -/
def neighbourOids (ns : List Neighbour) (pos : Nat) : List Word :=
  match ns.find? fun n => n.pos == pos with
  | some n => [n.oid] ++ (if n.oid2 = 0 then [] else [n.oid2])
  | none => []

def Group.measuredOf (g : Group) (pos : Nat) : Measured := (g.measured.find? fun m => m.pos == pos).getD { pos := pos }

/-- The highest reduction format level of this part (R432, R528). -/
def State.redLevel (s : State) : Nat := if s.level .agg < 3 then 2 else 3

/-- Send a frame's fragments to both OIDs of a position (R410); the standby emits nothing. -/
def State.sendRed (s : State) (i : Nat) (g : Group) (c : Close) (dir pass node : Nat) (f : Fold) (reach maxLevel : Nat) (body : Bytes) (oids : List Word)
    (peer : Nat) : State :=
  if !s.active then s
  else
    let parts := if body.isEmpty then [[]] else chunks 9088 body
    let td := ofSigned 32 (g.measuredOf peer).tdown
    parts.zipIdx.foldl (fun t p =>
      oids.foldl (fun u o =>
        let h := redHeader i c.gen c.index c.config c.level maxLevel dir pass g.pos node (flagBit c.timeReport 0 + flagBit g.suspect 1) f.counts
          (p.2 * 256 + parts.length) (stampBytes u.stamp) td reach
        u.sendOr 17 o 1 0x88B6 (shim u.dev.oid 5 1 ++ h ++ p.1)) t) s

/-! ## Closes and nodes -/

def Group.close (g : Group) (index : Nat) : Option Close := g.closes.find? fun c => c.index == index
def Group.setClose (g : Group) (c : Close) : Group := { g with closes := g.closes.map fun d => if d.instant = c.instant then c else d }

/-- The reach of the level-L node of a member (R421): the greatest over its children, those of its lower nodes among them. -/
def Group.reachAt (g : Group) (cfg : Bytes) : Nat → Nat
  | 0 => 0
  | l + 1 => (expected cfg g.pos (l + 1)).foldl (fun a p =>
      let m := g.measuredOf p
      max a (m.reach + (match m.delay with | some d => (d / 16).toNat | none => 10000))) (g.reachAt cfg l)

/-- The node of a level and pass of a close. -/
def Close.node (c : Close) (pass level : Nat) : NodeFold := (c.nodes.find? fun n => n.pass == pass && n.level == level).getD { pass := pass, level := level }
def Close.setNode (c : Close) (n : NodeFold) : Close := { c with nodes := n :: c.nodes.filter fun m => !(m.pass == n.pass && m.level == n.level) }

/-- What the node below has folded: the member's own contribution under level 1. -/
def Close.below (c : Close) (pass level : Nat) : Option Fold :=
  if level = 0 then none
  else if level = 1 then (if pass = 1 then c.own else if c.passTwo then some (c.node 2 0).result else none)
  else let n := c.node pass (level - 1); if n.done then some n.result else none

/-- The instant at which a node folds at the latest, in ns (R421, R428). -/
def Group.foldAt (g : Group) (c : Close) (pass level : Nat) : Nat :=
  nsOf c.instant + (if pass = 1 then 6000 else 41000) + 2000 * level + g.reachAt c.config level

/-- Offsets of a child's members seen from this node (R433). -/
def shiftOffsets (theta : Int) (os : List (Nat × Int)) : List (Nat × Int) := os.map fun o => (o.1, o.2 + theta)

/-! ## Results of a close (R422 to R424, R426, R429, R433, R438) -/

/-- The summary record (R430). INVALID of a kind whose frames do not carry it, and NAMED where a full list hides it, are free values. -/
def summaryRecord (c : Close) (f : Fold) (named freeInvalid : Nat) : Bytes :=
  let cfg := c.config
  let hist := gcKind cfg == 5 && gcQuant cfg != 0
  let bs := (List.range 2048).map fun b => fld f.section_ (8 + 4 * b) 4
  let total := if gcKind cfg = 5 then bs.foldl (· + ·) 0 else 0
  let empty := gcKind cfg == 5 && total == 0
  let r := ceilDiv (total * gcQuant cfg) 65536
  let bq := if !hist || empty then 0 else
    (bs.zipIdx.foldl (fun (a : Nat × Option Nat) b => let t := a.1 + b.1; (t, if a.2.isNone && r ≤ t then some b.2 else a.2)) (0, none)).2.getD 2047
  let t := if !hist || empty then 2 ^ 32 else if gcDir cfg = 0 then lowKey (bq + 1) else lowKey bq
  let k := f.counts
  let invalid := if gcKind cfg = 5 then fld f.section_ 0 8 else if k.counted ≤ 1 || gcKind cfg = 4 then k.invalid else freeInvalid
  be 8 c.index ++ be 8 t ++ be 2 bq ++
    be 1 (flagBit empty 0 + flagBit c.early 1 + flagBit (k.missing != 0 || k.exclConfig != 0 || k.exclVersion != 0) 2 + flagBit (k.suspect != 0) 3) ++
    be 1 c.level ++ be 8 total ++ be 8 invalid ++ be 2 (sat16 k.counted) ++ be 2 (sat16 k.missing) ++ be 2 (sat16 k.exclConfig) ++
    be 2 (sat16 k.exclVersion) ++ be 2 (sat16 k.suspect) ++ be 2 0 ++ be 4 (min k.late 0xFFFFFFFF) ++ be 4 (named % 2 ^ 32) ++ zeros 8

/-- The median of offsets, the lower of the two middle ones, and the mask of those more than 20 ns away. -/
def suspectMask (os : List (Nat × Int)) : Bytes :=
  let sorted := (os.map (·.2)).foldr (fun x l => (l.takeWhile fun y => decide (y < x)) ++ [x] ++ l.dropWhile fun y => decide (y < x)) []
  let med := sorted.getD ((sorted.length - 1) / 2) 0
  be 1024 ((os.filter fun o => decide (320 < (o.2 - med).natAbs)).foldl (fun m o => m ||| 2 ^ o.1) 0)

/-- The payload result that a down frame carries. -/
def downPayload (cfg payload : Bytes) : Bytes := match gcKind cfg with | 5 | 6 => [] | _ => payload

/-- Models that follow a group take a new baseline (R429). -/
def State.baselineUpdate (s : State) (i : Nat) (c : Close) : State :=
  if gcKind c.config != 5 || fld c.summary 18 1 % 2 = 1 then s
  else
    let v := (Fp.fin false (lowKey (fld c.summary 16 2)) (-(gcF c.config : Int))).bits
    { s with data := { s.data with models := Tbl.mapAll {} (fun m => if m.baseline.group = some i then { m with baseline := m.baseline.put s.svc v } else m)
                                     s.data.models } }

/-- A close is complete: its results are retained, and the reduction engine posts (R438, R472). -/
def State.closeComplete (s : State) (i : Nat) (c : Close) (root : Bool) : State :=
  let g := s.group i
  let r : Retained := ⟨c.gen, c.index, c.summary, if root || gcKind c.config < 5 || gcKind c.config = 7 then some c.payload else none, c.finalList.getD []⟩
  (s.setGroup i { g with retained := (r :: g.retained).take 8, lastComplete := c.index }).enginePost 0x102 (some (BitVec.ofNat 32 i))

/-- The members below get a down frame (R423). -/
def State.sendDown (s : State) (i : Nat) (c : Close) (pass : Nat) : State :=
  let g := s.group i
  let body := if pass = 1 then downPayload c.config c.payload ++ c.summary ++ (if c.timeReport then g.suspects else [])
    else topSection c.level (topEntries 3 (c.finalList.getD [])) ++ c.summary
  let k : FoldCounts := { counted := fld c.summary 36 2, missing := fld c.summary 38 2, exclConfig := fld c.summary 40 2, exclVersion := fld c.summary 42 2,
                          suspect := fld c.summary 44 2, late := fld c.summary 48 4 }
  (childrenOf c.config g.pos).foldl (fun t p => t.sendRed i g c 3 pass 4 { counts := k } 0 g.nextLevel body (neighbourOids c.neighbours p) p) s

/-- The report frame of the lowest half-root (R424). -/
def State.sendReport (s : State) (i : Nat) (c : Close) : State :=
  let g := s.group i
  if topLevel c.config g.pos = 3 && (g.pos < 4096 || (holderOf c.config 0 4096).isNone) && gcReport c.config != 0 then
    s.sendRed i g c 4 (if gcStraggler c.config then 2 else 1) 4 {} 0 g.nextLevel
      (c.payload ++ (match c.finalList with | some l => topSection c.level (topEntries 3 l) | none => []) ++ c.summary)
      [BitVec.ofNat 32 (gcReport c.config)] 0
  else s

/-- The member has a summary: it sends it down, applies closes in order, follows baselines, and completes a close without a straggler pass. -/
def State.takeSummary (s : State) (i : Nat) (c : Close) (root : Bool) : State :=
  let s1 := (s.setGroup i ((s.group i).setClose c)).sendDown i c 1
  let s2 := s1.baselineUpdate i c
  let s3 := if gcStraggler c.config then s2 else ((if root then s2.sendReport i c else s2)).closeComplete i c root
  s3.applyGroup i

/-- The member has the final list. -/
def State.takeFinal (s : State) (i : Nat) (c : Close) (root : Bool) : State :=
  let s1 := (s.setGroup i ((s.group i).setClose c)).sendDown i c 2
  ((if root then s1.sendReport i c else s1).closeComplete i c root).applyGroup i

/-- The top of the tree has the fold of the whole group. -/
def State.rootFold (s : State) (i : Nat) (c : Close) (pass : Nat) (f : Fold) : State :=
  let r := s.draw
  let s0 := r.2
  let free := (Config.freeWord r.1).toNat
  let g := s0.group i
  if pass = 1 then
    let mask := if c.timeReport then suspectMask f.offsets else g.suspects
    let own := ((f.offsets.find? fun o => o.1 == g.pos).map (·.2)).getD 0
    let g1 := if c.timeReport then { g with suspects := mask, suspect := (ofBe mask).testBit g.pos, offset := own, nextLevel := f.maxLevel }
              else { g with nextLevel := f.maxLevel }
    let c1 := { c with summary := summaryRecord c f 0 free, payload := f.section_ }
    (s0.setGroup i (g1.setClose c1)).takeSummary i c1 true
  else
    let k := f.counts
    let c1 := { c with finalList := some (topSection 3 (topEntries c.level f.section_)),
                       summary := putAt c.summary 52 (be 4 ((if k.cut then free else k.named) % 2 ^ 32)) }
    s0.takeFinal i c1 true

/-! ## Folding (R421, R428, R431 to R433) -/

/-- Pass on what the highest node of a member has folded: up, to the exchange, or into the result. -/
def State.passOn (s : State) (i : Nat) (c : Close) (pass level : Nat) (f : Fold) : State :=
  let g := s.group i
  let top := topLevel c.config g.pos
  let maxLevel := f.maxLevel
  let send (dir : Nat) (p : Option Nat) (f : Fold) : State :=
    match p with
    | some q => s.sendRed i g c dir pass level f (g.reachAt c.config (min level 3)) maxLevel (upSections f c.timeReport) (neighbourOids c.neighbours q) q
    | none => s
  if level < top then s
  else if level = 4 || (level = 3 && (peerRoot c.config g.pos).isNone) then s.rootFold i c pass f
  else if level = 3 then send 2 (peerRoot c.config g.pos) f
  else send 1 (parentOf c.config g.pos) f

/-- Fold a node where every child has arrived or its cut-off has passed: the state, the close and the fold, or none where it does not fold. -/
def State.foldOnce (s : State) (i : Nat) (c : Close) (pass level : Nat) : Option (State × Close × Fold) :=
  let g := s.group i
  let n := c.node pass level
  let want := expected c.config g.pos level
  let here := n.arrived.map (·.1)
  let all := want.all here.contains
  match c.below pass level with
  | none => none
  | some own =>
    let held := level ≤ topLevel c.config g.pos || (level = 4 && lastLevel c.config g.pos = 4)
    if level = 0 || n.done || !held || (!all && nsOf s.svc < g.foldAt c pass level) then none
    else
      let lost := (want.filter fun p => !here.contains p).map fun p => subtreeOf c.config p level
      let shift (p : Nat) (f : Fold) : Fold := { f with offsets := shiftOffsets (g.measuredOf p).theta f.offsets }
      let mine : Fold := if level = 4 && 4096 ≤ g.pos then
          { own with offsets := shiftOffsets (-((want.head?.map fun p => (g.measuredOf p).theta).getD 0)) own.offsets } else own
      let f0 := n.arrived.foldl (fun a q => foldTwo c.config c.level pass a (if level = 4 && 4096 ≤ g.pos then q.2 else shift q.1 q.2)) mine
      let f := { f0 with counts := { f0.counts with missing := f0.counts.missing + lost.foldl (· + ·) 0 } }
      let bits := c.neighbours.zipIdx.foldl (fun m q => if q.1.rel = 1 && want.contains q.1.pos &&
        (!here.contains q.1.pos || n.arrived.any fun a => a.1 == q.1.pos && a.2.section_.isEmpty) then m ||| 2 ^ q.2 else m) 0
      let c1 := c.setNode { n with done := true, result := f }
      let tr := if level = 1 && pass = 1 then bits else g.trouble ||| bits
      some (s.setGroup i { g.setClose c1 with trouble := tr % 2 ^ 64 }, c1, f)

/-- Carry a fold on: through the nodes above that expect no child, which do not wait (R409), then to where the highest node passes it. -/
def State.carry : Nat → State → Nat → Close → Nat → Nat → Fold → State
  | 0, s, i, c, pass, level, f => s.passOn i c pass level f
  | n + 1, s, i, c, pass, level, f =>
    if level < topLevel c.config (s.group i).pos then
      if (expected c.config (s.group i).pos (level + 1)).isEmpty then
        match s.foldOnce i c pass (level + 1) with
        | some r => State.carry n r.1 i r.2.1 pass (level + 1) r.2.2
        | none => s
      else s
    else s.passOn i c pass level f

/-- A node folds, and its fold goes on. -/
def State.nodeFold (s : State) (i : Nat) (c : Close) (pass level : Nat) : State :=
  match s.foldOnce i c pass level with
  | some r => State.carry 3 r.1 i r.2.1 pass level r.2.2
  | none => s

def execNodeFold (g : BitVec 24) (close : BitVec 64) (pass : Fin 3) (level : Fin 5) (s : State) := finish s (
  match (s.group g.toNat).close close.toNat with
  | some c => if pass.val = 0 then s else s.nodeFold g.toNat c pass.val level.val
  | none => s)

/-- LOCAL_CONTRIBUTION_CUTOFF: the oldest close past tick + 5.5 us whose contribution is not formed. -/
def execLocalContributionCutoff (grp : BitVec 24) (s : State) := finish s (
  let i := grp.toNat
  let g := s.group i
  match g.closes.find? fun c => c.own.isNone && c.instant + 5500 * unit ≤ s.svc with
  | none => s
  | some c =>
    let at_ := nsOf c.instant
    let from_ := if g.fence ≤ at_ then g.fence else 0
    let use := g.verdicts.filter fun v => from_ ≤ fld v 0 8 && fld v 0 8 ≤ at_
    let late := (use.filter fun v => fld v 0 8 ≤ nsOf c.since && recModel (v.drop 8) == gcSource c.config && recStatus (v.drop 8) == St.ok).length
    let img := (s.model (gcSource c.config)).image
    let r := localSection c.config img c.level s.diePorts (use.map (·.drop 8))
    let f : Fold := { counts := { counted := 1, late := late, invalid := r.2, suspect := if g.suspect then 1 else 0 }, section_ := r.1,
                      offsets := if c.timeReport then [(g.pos, 0)] else [], maxLevel := s.redLevel }
    let c1 := { c with own := some f }
    let s1 := s.setGroup i { g.setClose c1 with verdicts := g.verdicts.filter fun v => at_ < fld v 0 8 }
    State.carry 3 s1 i c1 1 0 f)

/-- STRAGGLER_CUTOFF (R428): the member's best named dies, and those named after an earlier close's cut-off with their LAG. -/
def execStragglerCutoff (grp : BitVec 24) (close : BitVec 64) (s : State) := finish s (
  let i := grp.toNat
  let g := s.group i
  match g.close close.toNat with
  | none => s
  | some c =>
    if c.passTwo || !gcStraggler c.config || s.svc < c.instant + 41000 * unit then s
    else
      let per := g.periodOf s.sys.epoch * s.sys.epoch
      let lateE := g.lateNamed.map fun e => (e.drop 8).take 15 ++ be 1 (min 255 ((nsOf c.instant - fld e 0 8) / max 1 per))
      let names := c.named ++ lateE
      let es := mergeTop (gcK c.config) names
      let f : Fold := { counts := { counted := 1, suspect := if g.suspect then 1 else 0, named := names.length, cut := gcK c.config < names.length }, section_ := topSection c.level es,
                        maxLevel := s.redLevel }
      let c1 := ({ c with passTwo := true }).setNode { pass := 2, level := 0, done := true, result := f }
      let s1 := s.setGroup i { g.setClose c1 with lateNamed := [] }
      State.carry 3 s1 i c1 2 0 f)

/-- CLOSE_ABANDON (R423): no summary 100 us after the tick. Dies of an applied close that are not compared yet are compared now (R427). -/
def execCloseAbandon (grp : BitVec 24) (close : BitVec 64) (s : State) := finish s (
  let i := grp.toNat
  let g := s.group i
  match g.close close.toNat with
  | none => s
  | some c =>
    if s.svc < c.instant + 100000 * unit then s
    else if c.summary.isEmpty then
      (s.setGroup i { g with closes := g.closes.filter (fun d => d.instant != c.instant), abandoned := satInc 32 g.abandoned }).applyGroup i
    else s.applyGroup i)

/-! ## Arriving frames (R410, R417, R418) -/

/-- a is an older generation than b: generations count 1 to 255 and skip 0. -/
def genOlder (a b : Nat) : Bool := let d := (b + 256 - a) % 256; 1 ≤ d && d ≤ 127
def nextGen (g : Nat) : Nat := if 255 ≤ g then 1 else g + 1

/-- The frame's time relations in 1/16 ns (R421): arrival minus TSEND. -/
def State.sinceSend (s : State) (h : Bytes) : Int := ((frac16of s.svc : Int) - (stampFrac (stampAt h 40) : Int)) / 4096
where frac16of (t : Nat) : Nat := t / 2 ^ 32

def Group.measure (g : Group) (m : Measured) : Group := { g with measured := m :: g.measured.filter fun x => x.pos != m.pos }

/-- A child's frame measures it. A TDOWN of 0 says that no frame has come down yet. -/
def State.measureChild (s : State) (g : Group) (h : Bytes) : Group :=
  let pos := fld h 20 2
  let m := g.measuredOf pos
  let a := s.sinceSend h
  let b := toSigned 32 (fld h 56 4)
  let m1 := { m with maxLevel := byteAt h 17, reach := fld h 60 4 }
  g.measure (if fld h 56 4 = 0 then m1 else { m1 with delay := some ((a + b) / 2), theta := (b - a) / 2 })

/-- All fragments of a frame as its body, once they have come. -/
def Close.collect (c : Close) (h part : Bytes) : Close × Option Bytes :=
  let dir := byteAt h 18
  let pass := byteAt h 19
  let pos := fld h 20 2
  let n := byteAt h 35
  let mine (p : Partial) : Bool := p.dir == dir && p.pass == pass && p.pos == pos
  let old := ((c.frags.find? mine).map (·.parts)).getD []
  let parts := Tbl.insert (byteAt h 34) part old
  let rest := c.frags.filter fun p => !mine p
  if parts.length < n then ({ c with frags := ⟨dir, pass, pos, h, parts⟩ :: rest }, none) else ({ c with frags := rest }, some (parts.map (·.2)).flatten)

/-- A contribution of a child or of the other half-root (R431, R432). -/
def Close.foldOf (c : Close) (h body : Bytes) : Fold :=
  let k : FoldCounts := { counted := fld h 24 2, missing := fld h 26 2, exclConfig := fld h 28 2, exclVersion := fld h 30 2, suspect := fld h 32 2, late := fld h 36 4 }
  if fld h 12 4 != gcEpoch c.config then { counts := { exclConfig := k.counted }, maxLevel := byteAt h 17 }
  else if byteAt h 16 != c.level then { counts := { exclVersion := k.counted }, maxLevel := byteAt h 17 }
  else
    let n := if byteAt h 19 = 2 then 8 + (if c.level = 2 then 12 else 16) * fld body 0 2 else sectionLen c.config c.level body
    let os := (chunks 4 (body.drop n)).filterMap fun o => if o.length = 4 then some (fld o 0 2, toSigned 16 (fld o 2 2)) else none
    let listed := if byteAt h 19 = 2 then fld body 0 2 else 0
    { counts := { k with named := listed, cut := gcK c.config ≤ listed }, section_ := body.take n, offsets := if byteAt h 23 % 2 = 1 then os else [],
      maxLevel := byteAt h 17 }

/-- Take an up or an exchange frame whose fragments are complete. -/
def State.takeUp (s : State) (i : Nat) (c : Close) (h body : Bytes) : State :=
  let g := s.group i
  let pass := byteAt h 19
  let pos := fld h 20 2
  let level := if byteAt h 18 = 2 then 4 else byteAt h 22 + 1
  let n := c.node pass level
  if n.done || !(expected c.config g.pos level).contains pos then s.setGroup i { g with discards := satInc 32 g.discards }
  else
    let c1 := c.setNode { n with arrived := n.arrived.filter (fun a => a.1 != pos) ++ [(pos, c.foldOf h body)] }
    s.setGroup i (g.setClose c1)

/-- Take a down frame whose fragments are complete (R423). -/
def State.takeDown (s : State) (i : Nat) (c : Close) (h body : Bytes) : State :=
  let g := s.group i
  if byteAt h 19 = 1 then
    let n := match gcKind c.config with | 5 | 6 => 0 | _ => sectionLen c.config c.level body
    let mask := body.drop (n + 64)
    let g1 := if c.timeReport && mask.length = 1024 then { g with suspects := mask, suspect := (ofBe mask).testBit g.pos } else g
    let c1 := { c with summary := sub body n 64, payload := body.take n }
    if !c.summary.isEmpty then s
    else (s.setGroup i ({ g1 with nextLevel := byteAt h 17 }.setClose c1)).takeSummary i c1 false
  else if c.finalList.isSome || c.summary.isEmpty then s
  else
    let n := 8 + (if c.level = 2 then 12 else 16) * fld body 0 2
    s.takeFinal i { c with finalList := some (topSection 3 (topEntries c.level (body.take n))), summary := padTo 64 (sub body n 64) } false

/-- The checks of R418 and R410, then the frame by its direction. -/
def State.takeReduction (s : State) (source : Word) (frame : Bytes) : State :=
  let h := frame.take 64
  let i := fld h 0 3
  let lost : State := { s with data := { s.data with redDiscards := satInc 64 s.data.redDiscards } }
  match Tbl.find? i s.data.groups with
  | none => lost
  | some g0 =>
    let n := byteAt h 35
    let gen := byteAt h 3
    let gdiscard (f : Group → Group) : State := s.setGroup i (f g0)
    if frame.length < 64 || n = 0 || 8 < n || n ≤ byteAt h 34 || 9088 < frame.length - 64 then gdiscard fun g => { g with discards := satInc 32 g.discards }
    else
      let g := if g0.genOwed && byteAt h 18 = 3 then { g0 with gen := gen, genOwed := false, closes := g0.closes.map fun c => { c with gen := gen } } else g0
      let pos := fld h 20 2
      match g.closes.find? fun c => c.index == fld h 4 8 && c.gen == gen && !c.complete with
      | none =>
        if genOlder gen g.gen then gdiscard fun g => { g with stale := satInc 32 g.stale } else gdiscard fun g => { g with discards := satInc 32 g.discards }
      | some c =>
        if !(neighbourOids c.neighbours pos).contains source then gdiscard fun g => { g with unknown := satInc 32 g.unknown }
        else
          let dir := byteAt h 18
          let g1 := if dir = 1 then s.measureChild g h
            else if dir = 2 then (s.measureChild g h).measure { (s.measureChild g h).measuredOf pos with tdown := s.sinceSend h }
            else if dir = 3 then g.measure { g.measuredOf pos with tdown := s.sinceSend h } else g
          let r := c.collect h (frame.drop 64)
          let s1 := s.setGroup i (g1.setClose r.1)
          match r.2 with
          | none => s1
          | some body =>
            if dir = 1 || dir = 2 then s1.takeUp i r.1 h body
            else if dir = 3 then s1.takeDown i r.1 h body
            else s1

def execReductionFrameReceive (source : Word) (frame : Bytes) (s : State) := finish s (s.takeReduction source frame)

/-! ## Close ticks (R419, R434, R435) -/

/-- The first close tick of a group at or after a service instant. -/
def Group.closeTick (g : Group) (epoch t : Nat) : Nat := let p := g.periodOf epoch * epoch; ceilDiv (ceilDiv t unit) p * p * unit

/-- Open the close of an epoch tick (R419); `early` where a SET_EPOCH ends the period. -/
def State.openClose (s : State) (t index : Nat) (early : Bool) (i : Nat) : State :=
  let g := s.group i
  if g.joined && !g.config.isEmpty && (early || index % g.periodOf s.sys.epoch = 0) && g.lastClose < t then
    let c : Close := { index := index, instant := t, since := g.lastClose, gen := g.gen, config := g.config, neighbours := g.neighbours,
                       early := early && index % g.periodOf s.sys.epoch != 0, timeReport := nsOf t % 1000000000 == 0, level := min g.nextLevel s.redLevel }
    s.setGroup i ({ g with level := min g.nextLevel s.redLevel }.openClose (s.model (gcSource g.config)).image c)
  else s

def State.openCloses (s : State) (t index : Nat) (early : Bool) : State := s.data.groups.foldl (fun u e => u.openClose t index early e.1) s

/-- The close tick at which a waiting change applies, once that tick has been taken. -/
def State.changeTick (s : State) (g : Group) (p : GroupPending) : Option Nat :=
  if !s.timeValid then none
  else let t := g.closeTick s.sys.epoch (max (s.svcAt p.due) p.at_); if t ≤ s.svc && t ≤ s.data.lastTick then some t else none

def tickResult (s : State) (t : Nat) : Bytes := stampBytes (stampOf t s.svcFlags)

/-- A close at or after a fence tick belongs to the new generation and holds no die-tick before the fence (R434). -/
def Group.renewed (g : Group) (image : Bytes) (c : Close) (t gen : Nat) : Close :=
  let c0 : Close := { c with gen := gen, since := max c.since (t - unit), keys := [], drift := [], classes := [] }
  g.verdicts.foldl (fun (a : Close) v => if a.covers (fld v 0 8) then a.note c.config image (fld v 0 8) (v.drop 8) else a) c0

/-- Apply one change at its close tick. -/
def State.applyChange (s : State) (i t : Nat) (p : GroupPending) : State :=
  let g0 := s.group i
  let g := { g0 with pending := g0.pending.filter fun q => q != p }
  let done (s : State) (res : Bytes) : State := match p.ticket with
    | some k => s.finalAt .agg k St.ok res (cstampOf true t)
    | none => s
  match p.change with
  | .join pos gen ns =>
    let g1 := { g with joined := true, pos := pos, neighbours := ns, gen := if gen = 0 then g.gen else gen, genOwed := gen = 0 && !g.joined, lastClose := max g.lastClose t }
    done (s.setGroup i g1) (tickResult s t ++ be 1 g1.gen ++ zeros 3)
  | .leave => done (s.setGroup i { g with joined := false, verdicts := [] }) (tickResult s t)
  | .config c => done (s.setGroup i { g with config := c, defaulted := false }) []
  | .fence gen =>
    if g.gen = gen then
      let n := nextGen gen
      done (s.setGroup i { g with gen := n, fence := nsOf t, closes := g.closes.map fun c => if t ≤ c.instant then g.renewed (s.model (gcSource c.config)).image c t n else c }) (tickResult s t ++ be 1 n ++ zeros 3)
    else done (s.setGroup i g) (tickResult s t ++ be 1 g.gen ++ zeros 3)

def GroupChange.isFence : GroupChange → Bool
  | .fence _ => true
  | _ => false

/-- Apply the waiting changes of one kind whose close tick has come. -/
def State.applyChanges (s : State) (i : Nat) (fence : Bool) : State :=
  (s.group i).pending.foldl (fun t p => if p.change.isFence != fence then t else
    match t.changeTick (t.group i) p with
    | some k => t.applyChange i k p
    | none => t) s

def execGroupFenceTick (g : BitVec 24) (s : State) := finish s (s.applyChanges g.toNat true)
def execGroupChangeEffective (g : BitVec 24) (s : State) := finish s (s.applyChanges g.toNat false)

/-! ## The verbs (R436, R437) -/

def xGroup (x : Sentence) : Nat := x.f 0 4 % 2 ^ 24
def groupIdValid (x : Sentence) : Bool := 1 ≤ xGroup x && xGroup x ≤ 0xFFFFFE
def State.hasGroup (s : State) (i : Nat) : Bool := (Tbl.find? i s.data.groups).isSome

def addPending (g : Group) (p : GroupPending) : Group := { g with pending := g.pending ++ [p] }

def neighboursAt (x : Sentence) : List Neighbour :=
  (List.range (x.b 7)).map fun i => let o := 16 + 12 * i
    ⟨x.f o 2, x.b (o + 2), x.b (o + 3), BitVec.ofNat 32 (x.f (o + 4) 4), BitVec.ofNat 32 (x.f (o + 8) 4)⟩

def groupJoinBody (x : Sentence) (s : State) : State × Answer :=
  let i := xGroup x
  let g := s.group i
  if !s.hasGroup i && 256 ≤ s.data.groups.length then (s, .final St.busy)
  else if g.joined && g.pos != x.f 4 2 then (s, .final St.state)
  else if s.hasGroup i && x.b 6 != 0 && genOlder (x.b 6) g.gen then (s, .final St.staleGeneration)
  else (s.setGroup i (addPending g ⟨.join (x.f 4 2) (x.b 6) (neighboursAt x), s.now + 2000, 0, some x.ticket⟩), .accepted)

def groupLeaveBody (x : Sentence) (s : State) : State × Answer :=
  let i := xGroup x
  if !(s.group i).joined then (s, .final St.state)
  else (s.setGroup i (addPending (s.group i) ⟨.leave, s.now + 2000, 0, some x.ticket⟩), .accepted)

/-- GROUP_FENCE: a fence tick in the past, or none, is the first close tick at least 2 us after acceptance (R434). -/
def groupFenceBody (x : Sentence) (s : State) : State × Answer :=
  let i := xGroup x
  let g := s.group i
  let t := ofStamp (stampAt x.params 8)
  if !s.hasGroup i then (s, .final St.state)
  else if genOlder (x.b 4) g.gen then (s, .final St.staleGeneration)
  else if x.b 4 != g.gen then (s, .final St.state)
  else
    let p : GroupPending := if s.timeValid && s.svc < t then ⟨.fence (x.b 4), 0, t, some x.ticket⟩ else ⟨.fence (x.b 4), s.now + 2000, 0, some x.ticket⟩
    (s.setGroup i (addPending g p), .accepted)

/-- A telemetry model of context 0 that is loaded or placed. -/
def State.telemetryModel (s : State) (id : Nat) : Bool :=
  let m := s.model id
  (2 ≤ m.st && m.st ≤ 4) && mdUse m.image == 1

def groupSetBody (x : Sentence) (s : State) : State × Answer :=
  let i := xGroup x
  let g := s.group i
  let c := x.params
  if !s.hasGroup i && 256 ≤ s.data.groups.length then (s, .final St.busy)
  else if (g.joined && !gcMember c g.pos) || (gcP c != 0 && gcP c * s.sys.epoch < 10000) then (s, .final St.param)
  else if !s.telemetryModel (gcSource c) || (gcCause c != 0 && !s.telemetryModel (gcCause c)) then (s, .final St.state)
  else (s.setGroup i (addPending g ⟨.config c, s.now, 0, none⟩), .final St.ok)

def groupSetValid (x : Sentence) : Bool :=
  let c := x.params
  groupIdValid x && gcEpoch c != 0 && 1 ≤ gcKind c && gcKind c ≤ 7 && gcField c ≤ 23 && gcF c ≤ 31 && 1 ≤ gcK c && gcK c ≤ 1024 && gcP c ≤ 4096 &&
    gcDir c ≤ 1 && (gcDrift c ≤ 7 || gcDrift c == 255) &&
    (3 < gcKind c || (1 ≤ gcN c && gcN c ≤ 16 && (if gcField c < 16 then gcField c + gcN c ≤ 16 else gcField c + gcN c ≤ 24))) &&
    (gcRun c == 0 || (gcKind c == 5 && gcQuant c != 0))

def groupStatusBody (x : Sentence) (s : State) : State × Answer :=
  let i := xGroup x
  let g := s.group i
  if !s.hasGroup i then (s, .final St.state)
  else
    let top := if g.config.isEmpty then 0 else topLevel g.config g.pos
    let r := s.draw
    let off := if top = 3 then ofSigned 32 g.offset else (Config.freeWord r.1).toNat % 2 ^ 32
    (r.2, .final St.ok (be 1 g.gen ++ be 1 g.level ++
      be 1 (flagBit (top != 0) 0 + flagBit (top == 3) 1 + flagBit g.suspect 2 + flagBit (g.pending.any fun p => p.change.isFence) 3 +
        flagBit (g.pending.any fun p => match p.change with | .config _ => true | _ => false) 4) ++ be 1 0 ++
      be 4 (if g.config.isEmpty then 0 else gcEpoch g.config) ++ be 2 g.pos ++ be 2 (g.periodOf s.sys.epoch) ++ be 8 g.lastComplete ++
      be 4 (if g.config.isEmpty then 0 else g.reachAt g.config top) ++ be 4 off ++ be 4 g.abandoned ++ be 4 g.stale ++ be 4 g.unknown ++ be 8 g.trouble ++ zeros 16))

def readStragglersBody (x : Sentence) (s : State) : State × Answer :=
  let g := s.group (xGroup x)
  match g.retained.find? fun r => r.gen == x.b 4 && r.index == x.f 8 8 with
  | none => (s, .final (if s.hasGroup (xGroup x) && genOlder (x.b 4) g.gen then St.staleGeneration else St.state))
  | some r =>
    let part := match x.b 5 with
      | 0 => some r.summary
      | 1 => some r.final
      | _ => r.payload
    match part with
    | none => (s, .final St.state)
    | some p => (s, .final St.ok (be 8 r.index ++ be 4 p.length ++ zeros 4 ++ sub p (x.f 16 4) 4000))

def setBaselineBody (x : Sentence) (s : State) : State × Answer :=
  let k := x.f 0 2
  if !s.telemetryModel k then (s, .final St.state)
  else
    let m := s.model k
    let b : Baseline := if x.b 2 = 0 then { m.baseline.put s.svc (BitVec.ofNat 32 (x.f 4 4)) with group := none } else { m.baseline with group := some (x.f 8 4 % 2 ^ 24) }
    (s.setModel k { m with baseline := b }, .final St.ok)

def ctxZero (_ : State) (_ : Sentence) : List Touch := [⟨7, [0], true⟩]

def vGroupJoin : Verb :=
  { code := 0x0600, mgmt := true, minLen := 16, maxLen := 784, deferred := fun _ => true, zeroLen := fun _ _ => 20
    check := fun _ x => groupIdValid x && x.f 4 2 < 8192 && x.b 7 ≤ 64 && x.plen == 16 + 12 * x.b 7 &&
      (neighboursAt x).all fun n => n.pos < 8192 }
def vGroupLeave : Verb :=
  { code := 0x0601, mgmt := true, minLen := 4, maxLen := 4, deferred := fun _ => true, zeroLen := fun _ _ => 16, check := fun _ x => groupIdValid x }
def vGroupFence : Verb :=
  { code := 0x0602, mgmt := true, nonIdem := true, minLen := 24, maxLen := 24, deferred := fun _ => true, zeroLen := fun _ _ => 20
    check := fun _ x => groupIdValid x && x.b 4 != 0 && x.f 16 4 < 1000000000 }
def vGroupSet : Verb := { code := 0x0603, mgmt := true, stageable := true, minLen := 1088, maxLen := 1088, check := fun _ x => groupSetValid x }
def vGroupStatus : Verb := { code := 0x0604, minLen := 4, maxLen := 4, touches := ctxZero, zeroLen := fun _ _ => 64, check := fun _ x => groupIdValid x }
def vReadStragglers : Verb :=
  { code := 0x0605, minLen := 20, maxLen := 20, touches := ctxZero, zeroLen := fun _ _ => 16, check := fun _ x => groupIdValid x && x.b 4 != 0 && x.b 5 ≤ 2 }
def vSetBaseline : Verb :=
  { code := 0x0606, minLen := 12, maxLen := 12, touches := ctxZero, minLevel := 3
    check := fun _ x => x.f 0 2 != 0 && x.b 2 ≤ 1 && (x.b 2 == 0 || (1 ≤ x.f 8 4 % 2 ^ 24 && x.f 8 4 % 2 ^ 24 ≤ 0xFFFFFE)) }

def execGroupJoin (x : Sentence) (s : State) := finish s (s.runSentence vGroupJoin groupJoinBody x)
def execGroupLeave (x : Sentence) (s : State) := finish s (s.runSentence vGroupLeave groupLeaveBody x)
def execGroupFence (x : Sentence) (s : State) := finish s (s.runSentence vGroupFence groupFenceBody x)
def execGroupSet (x : Sentence) (s : State) := finish s (s.runSentence vGroupSet groupSetBody x)
def execGroupStatus (x : Sentence) (s : State) := finish s (s.runSentence vGroupStatus groupStatusBody x)
def execReadStragglers (x : Sentence) (s : State) := finish s (s.runSentence vReadStragglers readStragglersBody x)
def execSetBaseline (x : Sentence) (s : State) := finish s (s.runSentence vSetBaseline setBaselineBody x)

end Sys2Proof.Machine
end

