-- ==== Sys2Proof/Machine/Reliability.lean ====
section
/-! DEFINITION. Reliability (chapters 11 and 15), second part: replica digests (R333, R401, R402), silent-error reports (R516, R517), screen packs (R518 to
R521), behaviour pins (R527 to R530). -/

namespace Sys2Proof.Machine
open Sys2Proof

/-! ## Silent-error reports (R516, R517) -/

/-- What a report says besides its number, its stamp and the state of the tartlet's island. -/
structure Finding where
  source : Nat
  unit_ : Nat
  tartlet : Nat
  bank : Nat
  slot : Nat
  operation : Nat
  context : Nat
  object : Nat
  count : Nat
  since : Nat
  expected : BitVec 64
  found : BitVec 64
  replica : Nat
deriving DecidableEq, Repr

/-- Hold a report and write it to the event recorder, over four records. -/
def State.report (s : State) (f : Finding) : State :=
  let n := Tbl.get 0 f.tartlet s.rel.repeats + 1
  let i := f.tartlet / 64
  let b := be 4 s.rel.reportSeq ++ be 1 f.source ++ be 1 f.unit_ ++ be 2 f.tartlet ++ be 1 f.bank ++ be 1 f.slot ++ be 2 f.operation ++
    be 2 f.context ++ be 2 f.object ++ stampBytes s.stamp ++ be 2 (ofSigned 16 (s.tjOf i)) ++ be 2 (s.island i).volt.toNat ++ be 4 f.count ++ be 4 n ++
    be 8 f.since ++ be 8 s.cs ++ be 8 f.expected.toNat ++ be 8 f.found.toNat ++ be 1 f.replica ++ zeros 19
  ({ s with rel := { s.rel with reportSeq := (s.rel.reportSeq + 1) % 2 ^ 32, reports := (b :: s.rel.reports).take 4096,
                                repeats := Tbl.set 0 f.tartlet n s.rel.repeats } }).raiseGroup 12 0x0905 5 b (if f.context = 0 then 0xFFFF else f.context)

/-- READ_SILENT_ERRORS: the reports from a cursor, oldest first, and how many the ring has lost since it. -/
def readSilentErrorsBody (x : Sentence) (s : State) : State × Answer :=
  let c := BitVec.ofNat 32 (x.f 0 4)
  let rs := logFrom s.rel.reports c (x.b 4)
  let oldest := BitVec.ofNat 32 (((s.rel.reports.getLast?).map fun r => fld r 0 4).getD 0)
  let lost := if !s.rel.reports.isEmpty && seqAfter oldest c then (oldest - c).toNat else 0
  let next := match rs.getLast? with
    | some r => (fld r 0 4 + 1) % 2 ^ 32
    | none => c.toNat
  (s, .final St.ok (be 4 next ++ be 1 rs.length ++ zeros 3 ++ be 4 lost ++ zeros 4 ++ rs.flatten))

/-! ## Slots as SCAN reads them (R333) -/

/-- Subtree k of a tree of depth d above 8, as a depth-8 image: its nodes level by level, then its leaves. -/
def subtree (d : Nat) (tree : Bytes) (k : Nat) : Bytes :=
  let dt := d - 8
  let nodes := ((List.range 8).map fun l => sub tree (3 * (2 ^ (dt + l) - 1 + k * 2 ^ l)) (3 * 2 ^ l)).flatten
  padTo 1280 (nodes ++ sub tree (3 * (2 ^ d - 1) + 512 * k) 512)

/-- The i-th slot of a tree in the array. -/
def slotBytes (d : Nat) (tree : Bytes) (i : Nat) : Bytes :=
  if d ≤ 8 then padTo 1280 tree
  else if i = 0 then padTo 1280 (sub tree 0 (3 * (2 ^ (d - 8) - 1)))
  else subtree d tree (i - 1)

/-- The reference values of a placement (R401): (position, bank, slot, check value) in that order; 25 is a whole weight bank. -/
def references (image : Bytes) (p : Placement) : List (Nat × Nat × Nat × Nat) :=
  let all :=
    if mdKind image = 0 then
      let e := mdEns image
      (p.slots.map fun q => (List.range q.len).map fun i => (q.pos, q.bank, q.slot + i, crc64 (slotBytes (ensDepth e) (ensTree e q.tree) i))).flatten
    else p.slots.map fun q => (q.pos, q.bank, 25, crc64 (padTo 32000 ((mdWeights image).drop (32000 * q.tree))))
  all.mergeSort fun a b => decide (a.1 < b.1) || (a.1 == b.1 && (decide (a.2.1 < b.2.1) || (a.2.1 == b.2.1 && decide (a.2.2.1 ≤ b.2.2.1))))

/-! ## Replica digests (R401, R402) -/

/-- REPLICA_DIGEST_SCAN: at each interval of a model that is placed resident. -/
def execReplicaDigestScan (m : ModelKey) (s : State) := finish s (
  let k := keyNum m
  let v := s.model k
  match v.place with
  | some p =>
    if !v.serving || p.mode != 0 || v.scanning || s.now < v.scannedAt + p.intervalMs * 1000000 then s
    else s.setModel k { v with scanning := true, scannedAt := s.now }
  | none => s)

/-- A replica with differing slots: out of service, recorded, reported, its slots marked for reload. -/
def State.replicaDiffers (s : State) (k r : Nat) (p : Placement) (fs : List SlotFault) : State :=
  match fs.head? with
  | none => s
  | some f =>
    let ts := p.tartlets r
    let weight := mdKind (s.model k).image = 1
    let name (q : SlotFault) : Nat := q.bank.val * 32 + (if weight then 25 else q.slot)
    let s1 := fs.foldl (fun t q =>
      let i := ts.getD q.pos 0
      let tt := t.tartlet i
      t.setTartlet i { tt with bad := if tt.bad.contains (name q) then tt.bad else tt.bad ++ [name q] }) s
    let v := s1.model k
    let s2 := s1.setModel k { v with out := if v.out.contains r then v.out else v.out ++ [r], mismatches := (v.mismatches + 1) % 2 ^ 64 }
    let s3 := s2.raise 8 0x0502 5 (be 2 (modelId k) ++ be 1 r ++ be 4 fs.length) (modelCtx k)
    s3.report { source := 1, unit_ := if weight then 2 else 1, tartlet := ts.getD f.pos 0, bank := f.bank.val, slot := if weight then 255 else f.slot,
                operation := 1, context := modelCtx k, object := modelId k, count := fs.length, since := v.lastScan, expected := f.expected,
                found := f.found, replica := r }

/-- REPLICA_DIGEST_COMPLETE: every slot not named in `found` had its reference value. -/
def execReplicaDigestComplete (m : ModelKey) (found : List SlotFault) (s : State) := finish s (
  let k := keyNum m
  let v := s.model k
  match v.place with
  | some p =>
    if !v.scanning then s
    else
      let refs := references v.image p
      let here (f : SlotFault) : Bool := refs.any fun q => q.1 == f.pos && q.2.1 == f.bank.val && (q.2.2.1 == f.slot || q.2.2.1 == 25)
      let fs := found.filter here
      let mine (r : Nat) : List SlotFault := fs.filter fun f => f.replica.val == r
      let digest (r : Nat) : Nat := crc64 (refs.map fun q =>
        match (mine r).find? fun f => f.pos == q.1 && f.bank.val == q.2.1 && (f.slot == q.2.2.1 || q.2.2.1 == 25) with
        | some f => be 8 f.found.toNat
        | none => be 8 q.2.2.2).flatten
      let s1 := (List.range p.replicas).foldl (fun t r => t.replicaDiffers k r p (mine r)) s
      s1.setModel k { s1.model k with scanning := false, lastScan := s.cs, digests := (List.range p.replicas).map digest }
  | none => s)

/-! ## Screen packs (R518 to R521) -/

def packId (b : Bytes) : Nat := fld b 6 2
def packVersion (b : Bytes) : Nat := fld b 8 4
def packTests (b : Bytes) : Nat := fld b 14 2

/-- Lengths of a test's sections. -/
def tScr (h : Bytes) : Nat := fld h 4 4
def tWgt (h : Bytes) : Nat := fld h 8 4
def tEns (h : Bytes) : Nat := fld h 12 4
def tFeatures (h : Bytes) : Nat := fld h 16 2
def tDescs (h : Bytes) : Nat := byteAt h 3
def testLen (h : Bytes) : Nat :=
  32 + pad64 (tScr h) + pad64 (tWgt h) + 64 * tDescs h + pad64 (tEns h) + pad64 (tFeatures h) + (if tEns h = 0 then 0 else 128)

/-- The tests of a pack body, as their bytes. -/
def testsOf : Nat → Bytes → List Bytes
  | 0, _ => []
  | n + 1, b => b.take (testLen b) :: testsOf n (b.drop (testLen b))
def packTestList (b : Bytes) : List Bytes := testsOf (packTests b) (b.drop 64)

/-- A SCAN descriptor of a pack (R357, R358). -/
def packScanValid (d : Bytes) : Bool :=
  let region := byteAt d 16
  let size := if region = 0 then 128000 else if region = 1 then 32768 else 2097152
  byteAt d 0 == 5 && fld d 2 2 == 0 && fld d 4 4 == 0 && region ≤ 2 && byteAt d 17 == 6 && fld d 24 4 ≤ 131072 && fld d 20 4 + fld d 24 4 ≤ size && inScratch (fld d 8 4) 9

/-- A test that verification takes (R332, R358, R519). -/
def testValid (t : Bytes) : Bool :=
  let wgt := sub t (32 + pad64 (tScr t)) (tWgt t)
  let descs := 32 + pad64 (tScr t) + pad64 (tWgt t)
  let ens := sub t (descs + 64 * tDescs t) (tEns t)
  tDescs t ≤ 64 && tScr t ≤ 32768 && tWgt t ≤ 128000 && tWgt t % 64 == 0 &&
    (if tEns t = 0 then tFeatures t == 0
     else ensValid ens (tFeatures t) && ensDepth ens ≤ 8 && ensN ens ≤ 25 * (4 - ceilDiv (tWgt t) 32000)) &&
    (List.range (tDescs t)).all fun i => let d := sub t (descs + 64 * i) 64; descValid wgt d || packScanValid d

/-- A pack that boot stage 6 copies (R518): its signature holds under the screen-pack key, its level is at most the one in force. -/
def State.packValid (s : State) (key b : Bytes) : Bool :=
  fld b 0 4 == 0x4F535031 && fld b 4 2 == 1 && packId b != 0 && byteAt b 12 ≤ s.level .agg && 1 ≤ packTests b && packTests b ≤ 1024 &&
    fld b 16 8 == b.length && b.length == 160 + ((packTestList b).map List.length).foldl (· + ·) 0 &&
    Config.verify key (b.take (b.length - 96)) (b.drop (b.length - 96)) && (packTestList b).all testValid

/-- Test t of a pack. -/
def State.screenTest (s : State) (pack t : Nat) : Bytes := (packTestList (Tbl.get [] pack s.rel.packs)).getD t []

/-- The cluster may run a test now (R520). -/
def State.screenable (s : State) (c : Nat) : Bool :=
  s.inLend c && s.sys.profile != .h && !s.clusterBusy c && !(s.data.directory.any fun e => e.1 / 100 / 64 == c)

/-- The tree array of a test: weight banks from bank 0, then the trees of its ensemble in the slots that follow. -/
def testArray (t : Bytes) : Bytes :=
  let wgt := sub t (32 + pad64 (tScr t)) (tWgt t)
  let ens := sub t (32 + pad64 (tScr t) + pad64 (tWgt t) + 64 * tDescs t) (tEns t)
  padTo 128000 (padTo (32000 * ceilDiv (tWgt t) 32000) wgt ++ ((List.range (ensN ens)).map fun i => padTo 1280 (ensTree ens i)).flatten)

/-- SCAN (R357): the check value of a region's bytes; the cluster cache holds no bytes that the spec names. -/
def runScan (arr : Bytes) (draw : Nat) (t : Tartlet) (d : Bytes) : Tartlet :=
  let off := fld d 20 4
  let n := fld d 24 4
  let v := match byteAt d 16 with
    | 0 => crc64 (sub arr off n)
    | 1 => crc64 ((List.range n).map fun i => t.read1 0 (off + i))
    | _ => (Config.freeWord draw).toNat
  t.write 0 (fld d 8 4) (be 8 v ++ be 1 (if byteAt d 18 % 2 = 1 && v = fld d 28 8 then 1 else 0))

/-- A test leaves its preload and its descriptors' results in a tartlet's scratch, as context 0. -/
def runTest (t : Bytes) (draw : Nat) (tt : Tartlet) : Tartlet :=
  let wgt := sub t (32 + pad64 (tScr t)) (tWgt t)
  let descs := 32 + pad64 (tScr t) + pad64 (tWgt t)
  let bins := sub t (descs + 64 * tDescs t + pad64 (tEns t)) (tFeatures t)
  let image := putAt (zeros 64) 48 (be 4 wgt.length) ++ wgt
  let v : Vec := { bins := bins, dense := [], denseType := 0, flags := 0, invalid := none }
  (List.range (tDescs t)).foldl (fun a i =>
    let d := sub t (descs + 64 * i) 64
    if byteAt d 0 = 5 then runScan (testArray t) draw a d else (runDescriptor a 0 image d v).1) (tt.write 0 0 (sub t 32 (tScr t)))

/-- Run the test on a cluster: power cycle if asked, then scratch on one tartlet or on all. -/
def State.runTestOn (s : State) (c : Nat) (t : Bytes) : State :=
  let s1 := if byteAt t 2 % 2 = 1 then
      let u := (s.clusterOff c).switchOn c
      u
    else s
  let d := s1.draw
  (List.range (if byteAt t 2 / 2 % 2 = 1 then 64 else 1)).foldl (fun u i => u.setTartlet (64 * c + i) (runTest t d.1 (u.tartlet (64 * c + i)))) d.2

/-- The end of a run (R521, R532): clusters on which every test passed return to service. -/
def State.endScreen (s : State) (r : ScreenRun) (clusters : List Nat) : State :=
  let clean (c : Nat) : Bool := clusters.contains c && !r.bad.contains c && !r.unclean.contains c
  let s1 := { s with rel := { s.rel with screen := none, retired := s.rel.retired.filter fun q => !(q.2 == r.pack && clean q.1) } }
  s1.final .agg r.ticket St.ok (be 2 (r.ran % 65536) ++ be 2 (r.passed % 65536) ++ be 2 (r.failed % 65536) ++ be 2 (r.skipped % 65536) ++
    be 2 ((r.first.map (·.1)).getD 0xFFFF) ++ be 2 ((r.first.map (·.2)).getD 0) ++ zeros 4)

def runScreenPackBody (x : Sentence) (s : State) : State × Answer :=
  let id := x.f 0 2
  if x.b 2 = 1 then
    (s, .final St.ok (be 2 s.rel.packs.length ++ zeros 6 ++ (s.rel.packs.map fun e => be 2 e.1 ++ zeros 2 ++ be 4 (packVersion e.2)).flatten))
  else
    match s.rel.screen, Tbl.find? id s.rel.packs with
    | none, some p =>
      let cs := maskClusters (x.f 4 8)
      let todo := (cs.map fun c => (List.range (packTests p)).map fun t => (c, t)).flatten
      let r : ScreenRun := { ticket := x.ticket, pack := id, todo := todo }
      let s1 := { s with rel := { s.rel with screen := some { r with clusters := cs } } }
      if todo.isEmpty then (s1.acceptedReply x (s1.bufOf .agg x.ticket) |>.endScreen r [], .done) else (s1, .accepted)
    | _, _ => (s, .final St.state)

/-- SCREEN_TEST_OUTCOME: the next test of the run ends on its cluster; one that may not run there is skipped. -/
def execScreenTestOutcome (o : ScreenOutcome) (s : State) := finish s (
  match s.rel.screen with
  | none => s
  | some r => match r.todo with
    | [] => s
    | (c, i) :: rest =>
      let t := s.screenTest r.pack i
      let r1 := { r with todo := rest }
      let tid := fld t 0 2
      let next (u : State) (q : ScreenRun) : State :=
        let v := { u with rel := { u.rel with screen := some q } }
        if q.todo.isEmpty then v.endScreen q q.clusters else v
      let skip := next s { r1 with skipped := r.skipped + 1, unclean := c :: r.unclean }
      if !s.screenable c then skip
      else match o with
        | .skipped => skip
        | .passed =>
          let s1 := s.runTestOn c t
          let ts := (List.range (if byteAt t 2 / 2 % 2 = 1 then 64 else 1)).map (64 * c + ·)
          next { s1 with rel := { s1.rel with lastPass := ts.foldl (fun a k => Tbl.set 0 k s.cs a) s1.rel.lastPass } }
            { r1 with ran := r.ran + 1, passed := r.passed + 1 }
        | .failed ts =>
          let s1 := s.runTestOn c t
          let bad := ts.filter fun q => q.1 / 64 == c
          let fails := bad.foldl (fun a q => Tbl.set 0 q.1 (Tbl.get 0 q.1 a + 1) a) r.fails
          let s2 := bad.foldl (fun u q => u.report
            { source := 2, unit_ := 5, tartlet := q.1, bank := 255, slot := 255, operation := tid, context := 0, object := r.pack,
              count := Tbl.get 0 q.1 fails, since := Tbl.get 0 q.1 u.rel.lastPass, expected := q.2.1, found := q.2.2, replica := 255 }) s1
          let s3 := { s2 with rel := { s2.rel with retired := if s2.rel.retired.contains (c, r.pack) then s2.rel.retired else (c, r.pack) :: s2.rel.retired } }
          next s3 { r1 with ran := r.ran + 1, failed := r.failed + 1, fails := fails, bad := c :: r.bad
                            first := r.first <|> (bad.head?.map fun q => (tid, q.1)) })

/-! ## Behaviour pins (R529, R530) -/

/-- The aggregator holds state that level 2 does not have. -/
def State.needsLevel3 (s : State) : Bool :=
  s.data.models.any fun e => (2 ≤ e.2.st && usesLevel3 e.2.image) || e.2.baseline.group.isSome || !e.2.baseline.values.isEmpty

def pinBehaviourBody (x : Sentence) (s : State) : State × Answer :=
  let level := x.b 0
  match x.part with
  | .dtc p =>
    let d := s.dtc p
    if d.compEnable && d.compMask.getLsbD 4 then (s, .final St.state)
    else (s.onDtc p fun d => { d with pinNext := some (level, d.now + 2000, x.ticket) }, .accepted)
  | .agg =>
    let keep (t : State) (p : Fin 64) : State := { t with dev := { t.dev with dtcPins := Tbl.set 0 p.val (level + 1) t.dev.dtcPins } }
    if h : 1 ≤ x.subunit.toNat ∧ x.subunit.toNat ≤ 64 then
      let p : Fin 64 := ⟨x.subunit.toNat - 1, by omega⟩
      (((keep s p).forward p 0x0905 x (BitVec.ofNat 32 (Tbl.get 0 p.val s.verbs.knownOid))).1, .later)
    else if level = 2 && s.needsLevel3 then (s, .final St.state)
    else
      let earlier := (s.dev.pinNext.map fun q => q.2.2).getD []
      let s1 := allPorts.foldl keep s
      ({ s1 with dev := { s1.dev with pinNext := some (level, s.now + 2000, earlier ++ [x.ticket]) } }, .accepted)

/-- The tick of a DTC at or after nanosecond n of its clock, once reached. -/
def Dtc.dueTick (d : Dtc) (n : Nat) : Option Nat :=
  if !d.time.valid then none
  else
    let t := tickAtOrAfter d.epoch (max d.time.validAt (((d.time.time : Int) + ((n * unit : Nat) : Int) - (d.time.clock : Int)).toNat))
    if t ≤ d.time.time then some t else none

/-- The results of PIN_BEHAVIOUR: the tick, the level in force, the own level. -/
def pinResults (t flags level : Nat) : Bytes := stampBytes (stampOf t flags) ++ be 1 (if level = 0 then 3 else level) ++ be 1 3 ++ zeros 2

/-- PIN_EFFECTIVE: the first tick at least 2 us after acceptance. -/
def execPinEffective (part : Part) (s : State) := finish s (
  match part with
  | .agg => match s.dev.pinNext with
    | none => s
    | some (level, due, tickets) => match s.dueTick due with
      | none => s
      | some t =>
        let s1 := { s with dev := { s.dev with pinned := level, pinNext := none } }
        tickets.foldl (fun u k => u.finalAt .agg k St.ok (pinResults t s.svcFlags level) (cstampOf true t)) s1
  | .dtc p =>
    let d := s.dtc p
    match d.pinNext with
    | none => s
    | some (level, due, ticket) => match d.dueTick due with
      | none => s
      | some t => (s.onDtc p fun d => { d with pinned := BitVec.ofNat 8 level, pinNext := none }).finalAt (.dtc p) ticket St.ok
          (pinResults t d.flags level) (cstampOf true t))

/-! ## The verbs (R532, R533) -/

def vReadSilentErrors : Verb :=
  { code := 0x0904, mgmt := true, standby := .own, minLen := 8, maxLen := 8, check := fun _ x => 1 ≤ x.b 4 && x.b 4 ≤ 42, zeroLen := fun _ _ => 16 }
def vRunScreenPack : Verb :=
  { code := 0x0903, mgmt := true, standby := .own, nonIdem := true, minLen := 12, maxLen := 12, deferred := fun x => x.b 2 == 0
    check := fun _ x => x.b 2 ≤ 1 && (x.b 2 == 1 || x.f 0 2 != 0), zeroLen := fun _ x => if x.b 2 = 1 then 8 else 16 }
def vPinBehaviour : Verb :=
  { code := 0x0905, mgmt := true, dtc := true, subMax := 64, minLen := 4, maxLen := 4, deferred := fun _ => true, zeroLen := fun _ _ => 20
    check := fun _ x => x.b 0 == 0 || x.b 0 == 2 || x.b 0 == 3 }

def execReadSilentErrors (x : Sentence) (s : State) := finish s (s.runSentence vReadSilentErrors readSilentErrorsBody x)
def execRunScreenPack (x : Sentence) (s : State) := finish s (s.formRow x (x.b 2 != 1) (s.runSentence vRunScreenPack runScreenPackBody x))
def execListScreenPacks (x : Sentence) (s : State) := finish s (s.formRow x (x.b 2 == 1) (s.runSentence vRunScreenPack runScreenPackBody x))
def execPinBehaviour (x : Sentence) (s : State) := finish s (s.runSentence vPinBehaviour pinBehaviourBody x)

end Sys2Proof.Machine
end

