-- ==== Sys2Proof/Machine/Profile.lean ====
section
/-! DEFINITION. The epoch, the profile and the thermal hold (R16 to R44), and the tick bank of the self counters (R568). -/

namespace Sys2Proof.Machine
open Sys2Proof

/-! ## Profiles (R31, R36) -/

/-- The minimum epoch of a profile in ns; H takes that of the last other profile commanded. -/
def State.minEpoch (s : State) : Profile → Nat
  | .w => 1000
  | .b => 5000
  | .l => 20000
  | .h => match s.sys.lastOther with
    | .w => 1000
    | .l => 20000
    | _ => 5000

/-- The power cap in 0.1 W. -/
def powerCap : Profile → Nat
  | .h => 3800
  | _ => 6000

def getProfileBody (_ : Sentence) (s : State) : State × Answer :=
  (s, .final St.ok (be 1 s.sys.profile.code ++ be 1 s.sys.commanded.code ++ be 1 (if s.sys.thermal then 1 else 0) ++ be 1 0 ++
    be 2 s.tjField ++ zeros 2))

/-- 2 us from now as a service instant; 0 while time is not valid. -/
def State.dueInstant (s : State) : Nat := if s.timeValid then s.svcAt (s.now + 2000) else 0

/-- The tick of a pending change, once reached (R33, R38). -/
def State.profileTick (s : State) (q : PendingProfile) : Option Nat := if q.at_ = 0 then s.dueTick q.due else s.tickFrom q.at_

/-- SET_PROFILE (R33, R36): it waits for the first tick at least 2 us after acceptance, and lend work yields at once; in H no lend cluster passes to
telemetry (R41). The active carries the accepted change to its standby with the instant from which both look for its tick (R38). -/
def setProfileBody (x : Sentence) (s : State) : State × Answer :=
  match Profile.ofCode (x.b 0) with
  | none => (s, .final St.param)
  | some p =>
    let m := s.minEpoch p
    if s.sys.epoch < m || (s.sys.pendingEpoch.map fun e => decide (e.epoch < m)).getD false then (s, .final St.state)
    else if s.sys.profile == .h && p != .h && 800 ≤ s.hottest.2 then (s, .final St.state)
    else
      let s1 := { s with sys := { s.sys with
        pendingProfile := s.sys.pendingProfile ++ [({ profile := p, due := s.now + 2000, at_ := s.dueInstant, ticket := x.ticket } : PendingProfile)] } }
      let s2 := if s.sys.profile == .h then s1 else s1.yieldLend
      (s2.mirror 4 (effectEntry x .accepted ++ be 2 0x0C01 ++ be 8 s.cs ++ be 1 p.code ++ be 16 s.dueInstant), .accepted)

/-! ## Partitions (R377) -/

/-- Every cluster of the model's placement lies in the telemetry partition in force. -/
def State.inPartition (s : State) (m : Model) : Bool :=
  match m.place with
  | some p => (maskClusters p.mask).all (inTelemetry s.sys.profile)
  | none => false

/-- Note which telemetry models the profile in force suspends. -/
def State.noteSuspended (s : State) : State :=
  { s with data := { s.data with models := Tbl.mapAll {} (fun (m : Model) =>
      { m with suspended := mdUse m.image == 1 && m.place.isSome && !s.inPartition m }) s.data.models } }

/-- The commanded profile becomes p; H leaves the last other one as it was (R31, R38). -/
def SysState.command (y : SysState) (p : Profile) : SysState := { y with commanded := p, lastOther := if p == .h then y.lastOther else p }

/-- The clusters that pass from telemetry to lend as p takes effect, with the tick of the change (R35). -/
def State.passing (s : State) (p : Profile) : Tbl Nat :=
  if p == .h then [] else ((List.range 64).filter fun c => inTelemetry s.sys.profile c && !inTelemetry p c).map fun c => (c, s.svcNs / s.sys.epoch * s.sys.epoch)

/-- A profile takes effect (R31, R35, R224): record, interrupt, the floor of the trace hub, clusters on when H is left, lend work that moves. -/
def State.enforce (s : State) (p : Profile) (cause : Nat) : State :=
  let old := s.sys.profile
  let s1 := { s with sys := { s.sys with profile := p, thermal := cause == 1, former := if p == Profile.h && old != Profile.h then old else s.sys.former
                                         passed := s.passing p }
                     hub := { s.hub with floor := profileFloor p }.drops s.now }
  let s2 := (s1.raise 12 0x0C01 3 (be 1 old.code ++ be 1 p.code ++ be 1 cause)).irq 2
  let off := (List.range 64).filter fun c => !s2.dev.domains.getLsbD c
  let s3 := if old == .h && p != .h then
      { s2 with dev := { s2.dev with powerUp := off.foldl (fun b c => b ||| (1#64 <<< c)) s2.dev.powerUp } }
    else s2
  s3.noteSuspended.yieldLend.retryHeld

/-! ## Thermal hold (R39 to R41) -/

/-- The instant, as a service instant, at which an automatic entry is due; without valid time it is due at once, 2 us after the crossing. -/
def State.holdTick (s : State) : Option Nat :=
  match s.sys.hotNs with
  | none => none
  | some n => if s.timeValid then s.dueTick (n + 2000) else if n + 2000 ≤ s.now then some s.svc else none

/-- Enter the thermal hold; fuse words are read again (R523). -/
def State.enterThermal (s : State) : State :=
  (({ s with sys := { s.sys with hotNs := none } }).enforce .h 1).rereadFuses

/-- THERMAL_HOLD_ENTRY. An aggregator that is in H by command stays so. -/
def execThermalHoldEntry (s : State) := finish s (
  match s.holdTick with
  | none => s
  | some _ =>
    if s.sys.profile == .h then { s with sys := { s.sys with hotNs := none } }
    else s.enterThermal)

/-- THERMAL_HOLD_RETURN (R40): to the commanded profile, 10 s of cooling and 2 us later. An aggregator that is at 100 degC again by then crosses anew
(R39; DEDUCED, log entry 309). -/
def execThermalHoldReturn (s : State) := finish s (
  match s.sys.coolNs with
  | none => s
  | some n =>
    let due := n + 10000002000
    if s.sys.thermal && (if s.timeValid then (s.dueTick due).isSome else decide (due ≤ s.now)) then 
      let s1 := s.enforce s.sys.commanded 0
      { s1 with sys := { s1.sys with coolNs := none, hotNs := if 800 ≤ s.hottest.2 then some s.now else s1.sys.hotNs } }
    else s)

/-- The start of a cooling that has lasted its 10 s in the thermal hold (R40). -/
def State.returnFixed (s : State) : Option Nat := if s.sys.thermal then s.sys.coolNs.filter fun n => decide (n + 10000000000 ≤ s.now) else none

/-- THERMAL_CROSSING (R39, R40): an island's Tj as sampled; the hottest island rises to 100 degC, or falls to 95 degC. The first crossing fixes the
entry's tick, and 10 s of cooling fix the return, whatever Tj does until then. -/
def execThermalCrossing (island : Fin 97) (tj : BitVec 16) (s : State) := finish s (
  let before := s.hottest.2
  let s1 := { s with sys := { s.sys with tj := Tbl.set 0 island.val tj s.sys.tj } }
  let after := s1.hottest.2
  let rose : Bool := decide (before < 800) && decide (800 ≤ after)
  let fell : Bool := decide (760 < before) && decide (after ≤ 760)
  let s2 := { s1 with sys := { s1.sys with
    hotNs := if rose && !s.sys.thermal && s.sys.hotNs.isNone then some s.now else s1.sys.hotNs
    coolNs := if 760 < after then s.returnFixed else if s1.sys.coolNs.isSome then s1.sys.coolNs else some s.now } }
  if rose || fell then s2.irq 3 else s2)

/-- PROFILE_CHANGE_EFFECTIVE (R33, R37): the changes due at one tick; the last takes effect and every one of them reports it. While the thermal hold
lasts, or begins at that tick, they only set the commanded profile. -/
def execProfileChangeEffective (s : State) := finish s (
  match s.sys.pendingProfile with
  | [] => s
  | p :: _ => match s.profileTick p with
    | none => s
    | some t =>
      let same := s.sys.pendingProfile.filter fun q => s.profileTick q == some t
      let last := same.getLast?.getD p
      let s0 := { s with sys := { s.sys with
        pendingProfile := s.sys.pendingProfile.filter fun q => s.profileTick q != some t
        commanded := (s.sys.command last.profile).commanded, lastOther := (s.sys.command last.profile).lastOther } }
      let auto := match s.holdTick with
        | some h => h ≤ t && !s.sys.thermal
        | none => false
      let s1 := if auto then s0.enterThermal else if s0.sys.thermal then s0 else s0.enforce last.profile 0
      let res := be 8 (nsOf t / 1000000000) ++ be 4 (nsOf t % 1000000000) ++ be 1 s1.sys.profile.code ++ zeros 3
      same.foldl (fun u q => u.finalAt .agg q.ticket St.ok res (cstampOf true t)) s1)

/-- LEND_CLUSTERS_OFF (R41, R283): in H, clusters outside the telemetry partition go off once no lend request is left and every power-up has ended. -/
def execLendClustersOff (s : State) := finish s (
  let waiting := s.active && s.data.requests.any fun e => e.2.resp.isNone
  if s.sys.profile != .h || s.dev.powerUp != 0 || waiting then s
  else ((List.range 64).filter fun c => !inTelemetry .h c && s.dev.domains.getLsbD c && !s.clusterBusy c).foldl State.clusterOff s)

/-- The 380 W cap applies in H once the former lend clusters are off (R41). -/
def State.capped (s : State) : Bool := s.sys.profile == .h && (List.range 64).all fun c => inTelemetry .h c || !s.dev.domains.getLsbD c

/-- The power cap that applies. -/
def State.capNow (s : State) : Nat := if s.capped then powerCap .h else powerCap .b

/-- POWER_WINDOW (R32): the average of a 1 ms window. Above the cap of W, B and L, and of H until its own applies, lend clocks are lowered; above that
of H the clocks of what is left are. -/
def execPowerWindow (avg : BitVec 16) (s : State) := finish s
  { s with sys := { s.sys with powerAvg := avg.toNat
                               lendSlowed := !s.capped && decide (s.capNow < avg.toNat)
                               capSlowed := s.capped && decide (s.capNow < avg.toNat) } }

/-! ## The epoch (R16 to R20) -/

def State.epochBytes (s : State) : Bytes :=
  be 4 s.sys.epoch ++ be 4 ((s.sys.pendingEpoch.map (·.epoch)).getD 0) ++ be 8 ((s.sys.pendingEpoch.map (·.second)).getD 0)

def getEpochBody (_ : Sentence) (s : State) : State × Answer := (s, .final St.ok s.epochBytes)

/-- The epoch is one of R16. -/
def epochValid (e : Nat) : Bool := 1000 ≤ e && e ≤ 1000000000 && 1000000000 % e == 0

/-- The greatest counter-set minimum of the attached DTCs. -/
def State.setMinimum (s : State) : Nat :=
  (allPorts.filter fun p => Tbl.get 0 p.val s.verbs.knownOid != 0).foldl (fun m p =>
    let a := s.port p
    max m (s.portMinimum p (a.cfgSet, a.cfgRed, a.cfgHist))) 0

def setEpochBody (x : Sentence) (s : State) : State × Answer :=
  let e := x.f 0 4
  let sec := x.f 4 8
  if !s.timeValid then (s, .final St.state)
  else if !epochValid e || sec ≤ s.svcNs / 1000000000 then (s, .final St.param)
  else if e < s.minEpoch s.sys.profile || e < s.setMinimum then (s, .final St.state)
  else (({ s with sys := { s.sys with pendingEpoch := some ⟨e, sec, (s.sys.pendingEpoch.map (·.tickets)).getD [] ++ [x.ticket]⟩ } } : State).mirror 4
    (effectEntry x .accepted ++ be 2 0x0C03 ++ be 8 s.cs ++ be 4 e ++ be 8 sec), .accepted)

/-! ### The tick bank (R567, R568) -/

/-- Copy the counts of every engine at service instant `cs` (as a CSTAMP count): writing starts. -/
def SelfBank.freeze (b : SelfBank) (cs : Nat) (o : ObsState) (dev : DevState) : SelfBank :=
  { valid := true, stamp := cs, counts := o.counts, cycles := o.cycles, domains := dev.domains, powerUps := dev.powerUps, previous := b.powerUps, writing := true }

/-- TICK_BANK_FREEZE: at a tick at least 10 us after the last tick freeze. -/
def State.tickFreeze (s : State) (t : Nat) : State :=
  if !s.dev.domains.getLsbD 92 || nsOf t < s.obs.lastFreeze + 10000 then s
  else
    { s with obs := { s.obs with lastFreeze := nsOf t, gen := if s.obs.tick.writing then s.obs.gen else s.obs.gen + 1,
                                 tick := s.obs.tick.freeze (cstampOf true t) s.obs s.dev } }

/-! ### The tick -/

/-- Per-die models run at this tick: in H, and until every telemetry cluster has its trees again, only on the schedule of R42 (R282). -/
def State.scoresAt (s : State) (index : Nat) : Bool :=
  let n := ceilDiv 20000 s.sys.epoch
  !(s.sys.profile == .h || s.telemetryReloads) || index % n == 0

/-- The telemetry models that score at a tick, with their maps and the numbers of their placements, in ascending order (R320, R377). -/
def State.scoring (s : State) : List (Nat × Bytes × Nat) :=
  (s.data.models.filter fun e => e.2.serving && mdUse e.2.image == 1 && s.inPartition e.2 && !(s.mapNow e.2).isEmpty).map fun e =>
    (e.1, s.mapNow e.2, e.2.gen)

/-- A die waits for its body of the tick; a body already here starts its vectors (R307). -/
def State.waitTick (s : State) (w : TickWait) (p : Nat) : State :=
  let d := s.die p
  let s1 := s.setDie p { d with waits := d.waits ++ [w] }
  if d.bodies.any fun b => b.1 == w.index then s1.startTick p w else s1

/-- EPOCH_TICK (R17): maps take effect, dies wait for their bodies, groups open their closes, the tick bank freezes. -/
def execEpochTick (s : State) := finish s (
  let e := s.sys.epoch
  let t := s.svcNs / e * e * unit
  if !s.timeValid || t ≤ s.data.lastTick || t < s.time.sel.validAt then s
  else
    let i := epochIndex e t
    let s1 := s.data.models.foldl (fun u m => u.settleMap m.1) s
    let w : TickWait := { index := i, epoch := e, instant := t, models := if s1.scoresAt i then s1.scoring else [] }
    let s2 := s1.diePorts.foldl (fun u d => u.waitTick w d.1) s1
    let s3 := (s2.openCloses t i false).tickFreeze t
    { s3 with sys := { s3.sys with lastTick := t }, data := { s3.data with lastTick := t, lastIndex := i } })

/-- EPOCH_CHANGE_ACTIVATION (R19, R20): after the tick of the activation second, which still has the old epoch. Groups close their period early (R419),
and one whose period is then under 10 us falls back to the default. -/
def execEpochChangeActivation (s : State) := finish s (
  match s.sys.pendingEpoch with
  | none => s
  | some p =>
    let t := p.second * 1000000000 * unit
    if !s.timeValid || s.svc < t || s.data.lastTick < t then s
    else
      let old := s.sys.epoch
      let s1 := s.openCloses t (epochIndex old t) true
      let s2 := { s1 with sys := { s1.sys with epoch := p.epoch, pendingEpoch := none }
                          data := { s1.data with groups := Tbl.mapAll {} (fun (g : Group) =>
                            { g with defaulted := gcP g.config != 0 && gcP g.config * p.epoch < 10000 }) s1.data.groups } }
      let s3 := s2.raise 12 0x0C02 3 (be 4 old ++ be 4 p.epoch)
      p.tickets.foldl (fun u k => u.finalAt .agg k St.ok (be 4 p.epoch ++ be 4 0 ++ be 8 p.second) (cstampOf true t)) s3)

/-! ## Verbs (R44, R45) -/

def vGetProfile : Verb := { code := 0x0C00, mgmt := true, standby := .own, zeroLen := fun _ _ => 8 }
def vSetProfile : Verb :=
  { code := 0x0C01, mgmt := true, standby := .carry, minLen := 4, maxLen := 4, zeroLen := fun _ _ => 16, deferred := fun _ => true
    check := fun _ x => x.b 0 ≤ 3 }
def vGetEpoch : Verb := { code := 0x0C02, mgmt := true, standby := .own, zeroLen := fun _ _ => 16 }
def vSetEpoch : Verb :=
  { code := 0x0C03, mgmt := true, standby := .carry, minLen := 12, maxLen := 12, zeroLen := fun _ _ => 16, deferred := fun _ => true }

def execGetProfile (x : Sentence) (s : State) := finish s (s.runSentence vGetProfile getProfileBody x)
def execSetProfile (x : Sentence) (s : State) := finish s (s.runSentence vSetProfile setProfileBody x)
def execGetEpoch (x : Sentence) (s : State) := finish s (s.runSentence vGetEpoch getEpochBody x)
def execSetEpoch (x : Sentence) (s : State) := finish s (s.runSentence vSetEpoch setEpochBody x)

end Sys2Proof.Machine
end

