-- ==== Sys2Proof/Machine/Observability.lean ====
section
/-! DEFINITION. Observability (chapter 17): the event recorder and its persistence queue, the self-counter banks, the check-value units 0 to 5 and
the compression engines. -/

namespace Sys2Proof.Machine
open Sys2Proof

/-! ## The event recorder (R573 to R577) -/

/-- A record in its 64 bytes (R572). -/
def Record.bytes (r : Record) : Bytes :=
  be 4 r.seq.toNat ++ stampBytes r.raw.stamp ++ be 1 r.raw.severity ++ be 1 r.raw.source ++ be 2 r.raw.code ++ be 2 r.raw.ctx ++ be 1 r.raw.flags ++
    be 1 0 ++ be 4 r.raw.oid ++ padTo 28 r.raw.data ++ be 4 r.seq.toNat

/-- Remove the last member that satisfies p: of a list newest first, the oldest. -/
def dropOldestWhere {α : Type} (p : α → Bool) (l : List α) : List α :=
  match l.reverse.findIdx? p with
  | some i => (l.reverse.eraseIdx i).reverse
  | none => l

/-- Place a record among those held, newest first, `cap` at most (R576): none where it is dropped. -/
def placeRecord (cap : Nat) (r : Record) (held : List Record) : Option (List Record) :=
  if held.length < cap then some (r :: held)
  else
    let low := held.foldl (fun m q => min m q.raw.severity) 7
    if low ≤ r.raw.severity then some (r :: dropOldestWhere (fun q => q.raw.severity == low) held) else none

/-- Put an accepted record of severity 3 or above into the persistence queue (R577). -/
def ObsState.persist (o : ObsState) (r : Record) : ObsState :=
  if r.raw.severity < 3 then o
  else match placeRecord 8192 r o.pqueue.reverse with
    | some q => { o with pqueue := q.reverse }
    | none => { o with pdrops := satInc 32 o.pdrops }

/-- Copy every engine's counts into the hold bank now. -/
def State.holdFreeze (s : State) (cause : BitVec 2) (severity : Nat) (seq : Word) : State :=
  { s with obs := { s.obs with hold := s.obs.hold.freeze s.cs s.obs s.dev, held := true, holdCause := cause, holdSeverity := severity, holdSeq := seq } }

/-- The hold bank was frozen in this very cycle, by the other cause alone: the one freeze has both (R568). -/
def State.sameCycle (s : State) (cause : BitVec 2) : Bool :=
  s.obs.held && s.obs.hold.writing && s.obs.hold.stamp == s.cs && s.obs.holdCause == cause

/-- HOLD_BANK_FREEZE by a record of severity 5 or above. -/
def State.triggerFreeze (s : State) (r : Record) : State :=
  if r.raw.severity < 5 then s
  else if s.sameCycle 1 then
    { s with obs := { s.obs with holdCause := 3, holdSeverity := r.raw.severity, holdSeq := r.seq } }
  else if s.obs.held then { s with obs := { s.obs with ignored := satInc 32 s.obs.ignored } }
  else s.holdFreeze 2 r.raw.severity r.seq

/-- The recorder accepts a record: SEQ, PERSIST, its place, the persistence queue and the hold bank (R568, R574, R576, R577). -/
def State.accept (s : State) (raw : RawRecord) : State :=
  let r : Record := ⟨s.obs.nextSeq, { raw with flags := if 3 ≤ raw.severity then raw.flags ||| 1 else raw.flags }⟩
  let o := { s.obs with nextSeq := s.obs.nextSeq + 1 }
  let o1 := match placeRecord 65536 r o.recs with
    | some l => { o with recs := l }
    | none => { o with drops := satInc 32 o.drops }
  ({ s with obs := o1.persist r }).triggerFreeze r

/-- The source whose record is accepted next: the lowest that has one (R573). -/
def ObsState.nextSource (o : ObsState) : Option Nat := (List.find? (fun e => !e.2.isEmpty) o.queues).map (·.1)

/-- Accept the first record of a source, and with it the rest of a continued group (fuel: the queue). -/
def State.acceptFrom (s : State) (src : Nat) : Nat → State
  | 0 => s
  | n + 1 =>
    match Tbl.get [] src s.obs.queues with
    | [] => s
    | r :: rs =>
      let s1 := ({ s with obs := { s.obs with queues := Tbl.set [] src rs s.obs.queues } }).accept r
      if r.flags / 4 % 2 = 1 then s1.acceptFrom src n else s1

/-- RECORD_ACCEPT: from stage 6 on, the early buffer first. -/
def execRecordAccept (s : State) := finish s (
  if s.dev.stage < 6 then s
  else match s.obs.early with
    | r :: rs => ({ s with obs := { s.obs with early := rs } }).accept r
    | [] => match s.obs.nextSource with
      | some src => s.acceptFrom src 16
      | none => s)

/-- PERSISTENCE_WRITE: the n oldest queued records go to the log, a ring of 32,768. -/
def execPersistenceWrite (n : Nat) (s : State) := finish s (
  if !s.dev.fwReady then s
  else { s with obs := { s.obs with pqueue := s.obs.pqueue.drop n, plog := ((s.obs.pqueue.take n).reverse ++ s.obs.plog).take 32768 } })

/-- REC_CURSOR_WRITE. -/
def execRecCursorWrite (v : Word) (s : State) := finish s (if s.dev.halted then s else { s with obs := { s.obs with cursor := v } })

/-! ### READ_RECORDS (R580) -/

/-- Held records at or after a cursor, ascending. -/
def ObsState.from (o : ObsState) (cursor : Word) : List Record := (o.recs.filter fun r => (r.seq - cursor).toNat < 2 ^ 31).reverse

/-- The first n of the records that may be shown, and the last record examined. -/
def examine (shown : Record → Bool) : Nat → List Record → List Record × Option Word
  | 0, _ => ([], none)
  | _, [] => ([], none)
  | n + 1, r :: rs =>
    let q := examine shown (if shown r then n else n + 1) rs
    (if shown r then r :: q.1 else q.1, some (q.2.getD r.seq))

/-- The requester reads unfiltered: TENANT 0 and the management plane. -/
def State.readsAll (s : State) (x : Sentence) : Bool :=
  x.tenant == 0 && match s.mapEntry x.req with
    | some e => e.planes.getLsbD 1
    | none => false

def readRecordsBody (x : Sentence) (s : State) : State × Answer :=
  let all := s.readsAll x
  let cursor := BitVec.ofNat 32 (x.f 0 4)
  let shown (r : Record) : Bool := all || (r.raw.ctx == x.tenant.toNat && r.raw.flags / 2 % 2 == 0)
  let q := examine shown (x.b 4) (s.obs.from cursor)
  let next := match q.2 with
    | some (n : Word) => n + 1
    | none => cursor
  (s, .final St.ok (be 4 next.toNat ++ be 1 q.1.length ++ zeros 3 ++ be 4 ((s.obs.recs.getLast?.map (fun (r : Record) => r.seq)).getD 0).toNat ++
    be 4 (if all then s.obs.drops else 0) ++ (q.1.map Record.bytes).flatten))

/-! ## Self counters (R565 to R571) -/

/-- A snapshot entry (R569). STALLED is the sum of the reasons, and the three counts make up the island's cycles since power-up (R567). -/
def SelfBank.entry (b : SelfBank) (e : Nat) : Bytes :=
  let i := engineIsland e
  let off := !b.domains.getLsbD i
  let ups := Tbl.get 0 i b.powerUps
  let c : EngineCount := if off then {} else Tbl.get {} e b.counts
  let stalled := (List.range 16).foldl (fun a r => a + Tbl.get 0 r c.stalls) 0
  let idle := if off then 0 else Tbl.get 0 i b.cycles / 100000 - c.busy - stalled
  be 2 e ++ be 1 i ++ be 1 (flagBit off 0 + flagBit (ups != Tbl.get 0 i b.previous) 1) ++ be 2 ups ++ be 1 c.last ++ be 1 0 ++
    be 8 c.busy ++ be 8 stalled ++ be 8 idle ++ ((List.range 16).map fun r => be 8 (Tbl.get 0 r c.stalls)).flatten

/-- Release the hold bank. -/
def ObsState.release (o : ObsState) : ObsState := { o with held := false, holdCause := 0, holdSeverity := 0, holdSeq := 0 }

def readSelfCountersBody (x : Sentence) (s : State) : State × Answer :=
  let o := s.obs
  let b := if x.b 0 = 0 then o.tick else o.hold
  let rel := x.b 1 = 1
  if rel && o.hold.writing then (s, .final St.busy)
  else if (x.b 0 = 0 && !b.valid) || (x.b 0 = 1 && !o.held) then (s, .final St.state)
  else
    let es := ((List.range (x.f 4 2)).map fun i => b.entry (x.f 2 2 + i)).flatten
    (if rel then { s with obs := o.release } else s,
     .final St.ok (be 8 b.stamp ++ be 1 (flagBit o.held 0 + 2 * o.holdCause.toNat) ++ zeros 3 ++ be 4 o.gen.toNat ++ es))

/-- FREEZE. With a trigger record in the same cycle there is one freeze, with both causes. -/
def freezeBody (_ : Sentence) (s : State) : State × Answer :=
  if s.sameCycle 2 then ({ s with obs := { s.obs with holdCause := 3 } }, .final St.ok (be 8 s.obs.hold.stamp))
  else if s.obs.held || s.obs.hold.writing then (s, .final St.busy)
  else (s.holdFreeze 1 0 0, .final St.ok (be 8 s.cs))

/-- SC_RELEASE: refused while a freeze into the bank is being written. -/
def execScRelease (v : Word) (s : State) := finish s (
  if v.getLsbD 0 && !s.obs.hold.writing && !s.dev.halted then { s with obs := s.obs.release } else s)

/-- SELF_COUNTER_BANK_WRITTEN: bank 0 is the tick bank. -/
def execSelfCounterBankWritten (bank : Fin 2) (s : State) := finish s (
  if bank = 0 then
    if s.obs.tick.writing then { s with obs := { s.obs with gen := s.obs.gen + 1, tick := { s.obs.tick with writing := false } } } else s
  else { s with obs := { s.obs with hold := { s.obs.hold with writing := false } } })

/-! ## Check-value units (R582, R583) -/

/-- A range of n bytes from a in one of the two spaces. -/
def spaceValid (space a n : Nat) : Bool := space ≤ 1 && a + n ≤ (if space = 0 then 96 * 2 ^ 30 else 2 ^ 64)

def cvConfig (b : Bytes) : CheckConfig :=
  { w := byteAt b 2, poly := fld b 4 8, init := fld b 12 8, xor := fld b 20 8, refin := byteAt b 3 % 2 = 1, refout := byteAt b 3 / 2 % 2 = 1 }

def checkValueValid (x : Sentence) : Bool :=
  x.b 0 ≤ 5 && (cvConfig x.params).valid && x.b 3 < 4 && spaceValid (x.b 1) (x.f 28 8) (x.f 36 8)

def checkValueBody (x : Sentence) (s : State) : State × Answer :=
  let u := x.b 0
  if (Tbl.get none u s.obs.units).isSome then (s, .final St.busy)
  else if x.f 36 8 = 0 then
    ((s.acceptedReply x (s.bufOf .agg x.ticket)).final .agg x.ticket St.ok
      (be 8 (checkValueOf (cvConfig x.params) []) ++ be 8 0 ++ be 8 (2 ^ 64 - 1)), .done)
  else
    let s1 := { s with obs := { s.obs with units := Tbl.set none u (some ⟨x.ticket, x.params⟩) s.obs.units } }
    (if x.b 1 = 0 then s1 else s1.emit (.hubMemory (x.b 1) (x.f 28 8) (x.f 36 8)), .accepted)

/-- CHECK_VALUE_SCAN_COMPLETE: `data` are the bytes that the host gave, all of the range where no read failed; space 0 is read from the HBM
(R583). -/
def execCheckValueScanComplete (unit : Fin 6) (data : Bytes) (failAddr : Option (BitVec 64)) (s : State) := finish s (
  match Tbl.get none unit.val s.obs.units with
  | none => s
  | some q =>
    let n := fld q.params 36 8
    let s1 := { s with obs := { s.obs with units := Tbl.set none unit.val none s.obs.units } }
    let v := be 8 (checkValueOf (cvConfig q.params) (data.take n))
    match failAddr with
    | some a => if byteAt q.params 1 = 1 then s1.final .agg q.ticket St.hwFault (v ++ be 8 (data.take n).length ++ be 8 a.toNat) else s
    | none =>
      if byteAt q.params 1 = 0 then
        s1.final .agg q.ticket St.ok (be 8 (checkValueOf (cvConfig q.params) (s.hbmRead (fld q.params 28 8) n)) ++ be 8 n ++ be 8 (2 ^ 64 - 1))
      else if data.length = n then s1.final .agg q.ticket St.ok (v ++ be 8 n ++ be 8 (2 ^ 64 - 1)) else s)

/-! ## Compression engines (R584) -/

/-- An output of stored blocks of at most 16,384 bytes, ended by the flush of R267. -/
def storedStream (b : Bytes) : Bytes :=
  ((chunks 16384 b).map fun c =>
    [0#8] ++ (be 2 c.length).reverse ++ (be 2 (65535 - c.length)).reverse ++ c).flatten ++ [1#8, 0, 0, 0xFF, 0xFF]

/-- What an engine makes of its source: the status, the output, and whether the stream was rejected. -/
def engineOutput (op draw capacity : Nat) (src : Bytes) : Nat × Bytes :=
  let bits := bitsOf src
  let out : Option Bytes :=
    if op = 0 then
      if src.isEmpty then some (storedStream [])
      else let z := compressorStream draw src; some (if inflate 4096 src.length z == some src then z else storedStream src)
    else inflateBlocks 4096 (bits.length + 1) bits []
  match out with
  | none => (St.param, [])
  | some b => (if capacity < b.length then St.state else St.ok, b)

def compressValid (x : Sentence) : Bool :=
  x.b 0 ≤ 3 && x.b 1 ≤ 1 && x.f 20 8 ≤ 2 ^ 30 && x.f 28 8 ≤ 2 ^ 30 && spaceValid (x.b 2) (x.f 4 8) (x.f 20 8) && spaceValid (x.b 3) (x.f 12 8) (x.f 28 8)

def compressBody_ (x : Sentence) (s : State) : State × Answer :=
  let e := x.b 0
  if (Tbl.get none e s.obs.engines).isSome then (s, .final St.busy)
  else
    let s1 := { s with obs := { s.obs with engines := Tbl.set none e (some ⟨x.ticket, x.params⟩) s.obs.engines } }
    (if x.b 2 = 0 then s1 else s1.emit (.hubMemory (x.b 2) (x.f 4 8) (x.f 20 8)), .accepted)

/-- The output of an engine goes to its destination (R583, R584). -/
def State.writeOutput (s : State) (space a : Nat) (b : Bytes) : State := if space = 0 then s.hbmWrite a b else s.emit (.hostWrite a) b

/-- COMPRESSION_ENGINE_COMPLETE: `source` are the bytes that the host gave of a source there; space 0 is read from the HBM. An output beyond the
capacity leaves a part of it, how much is left open (R584). The spec does not say which byte's offset a rejection gives. -/
def execCompressionEngineComplete (engine : Fin 4) (source : Bytes) (s : State) := finish s (
  match Tbl.get none engine.val s.obs.engines with
  | none => s
  | some q =>
    let source := if byteAt q.params 2 = 0 then s.hbmRead (fld q.params 4 8) (fld q.params 20 8) else source
    if source.length != fld q.params 20 8 then s
    else
      let d := s.draw
      let s1 := { d.2 with obs := { d.2.obs with engines := Tbl.set none engine.val none s.obs.engines } }
      let r := engineOutput (byteAt q.params 1) d.1 (fld q.params 28 8) source
      if r.1 = St.ok then
        (s1.writeOutput (byteAt q.params 3) (fld q.params 12 8) r.2).final .agg q.ticket St.ok (be 8 r.2.length ++ be 8 source.length ++ be 8 (2 ^ 64 - 1))
      else if r.1 = St.param then
        let d1 := s1.draw
        let d2 := d1.2.draw
        d2.2.final .agg q.ticket St.param (be 8 (Config.freeWord d.1).toNat ++ be 8 (Config.freeWord d1.1).toNat ++ be 8 (Config.freeWord d2.1).toNat)
      else
        let d1 := s1.draw
        (d1.2.writeOutput (byteAt q.params 3) (fld q.params 12 8) (r.2.take ((Config.freeWord d1.1).toNat % (fld q.params 28 8 + 1)))).final .agg q.ticket r.1)

/-! ## Verbs (R586, R587) -/

def operatorOnly (_ : State) (_ : Sentence) : List Touch := [⟨7, [0], true⟩]

def vReadSelfCounters : Verb :=
  { code := 0x0B00, standby := .own, minLen := 8, maxLen := 8, touches := operatorOnly, zeroLen := fun _ x => 16 + 160 * x.f 4 2
    check := fun _ x => x.b 0 ≤ 1 && x.b 1 ≤ 1 && 1 ≤ x.f 4 2 && x.f 4 2 ≤ 25 && x.f 2 2 + x.f 4 2 ≤ 4195 && zeroAt x.params 6 2 }
def vFreeze : Verb := { code := 0x0B01, standby := .own, nonIdem := true, touches := operatorOnly, zeroLen := fun _ _ => 8 }
def vReadRecords : Verb :=
  { code := 0x0B02, standby := .own, minLen := 8, maxLen := 8, zeroLen := fun _ _ => 16
    check := fun _ x => 1 ≤ x.b 4 && x.b 4 ≤ 16 && zeroAt x.params 5 3 }
def vCheckValue : Verb :=
  { code := 0x0B03, standby := .own, nonIdem := true, minLen := 44, maxLen := 44, touches := operatorOnly, zeroLen := fun _ _ => 24
    deferred := fun _ => true, check := fun _ x => checkValueValid x }
def vCompress : Verb :=
  { code := 0x0B04, standby := .own, nonIdem := true, minLen := 36, maxLen := 36, touches := operatorOnly, zeroLen := fun _ _ => 24
    deferred := fun _ => true, check := fun _ x => compressValid x }

def execReadSelfCounters (x : Sentence) (s : State) := finish s (s.runSentence vReadSelfCounters readSelfCountersBody x)
def execFreeze (x : Sentence) (s : State) := finish s (s.runSentence vFreeze freezeBody x)
def execReadRecords (x : Sentence) (s : State) := finish s (s.runSentence vReadRecords readRecordsBody x)
def execCheckValue (x : Sentence) (s : State) := finish s (s.runSentence vCheckValue checkValueBody x)
def execCompress (x : Sentence) (s : State) := finish s (s.formRow x (x.b 1 != 1) (s.runSentence vCompress compressBody_ x))
def execDecompress (x : Sentence) (s : State) := finish s (s.formRow x (x.b 1 == 1) (s.runSentence vCompress compressBody_ x))

end Sys2Proof.Machine
end

