-- ==== Sys2Proof/Machine/Security.lean ====
section
/-! DEFINITION. Security (chapter 16): fuse words, attestation, key release and the vault, debug authorisation, the access map's verbs. -/

namespace Sys2Proof.Machine
open Sys2Proof

/-! ## Fuse words (R534, R535) -/

def State.fuse (s : State) (w : Nat) : Word := Tbl.get 0 w s.rel.latched

/-- Words a to a + n − 1 as bytes. -/
def State.fuseBytes (s : State) (a n : Nat) : Bytes := ((List.range n).map fun i => be 4 (s.fuse (a + i)).toNat).flatten

/-- The owner key hash; all zero when no owner is set. -/
def State.ownerHash (s : State) : Bytes := s.fuseBytes 49 12
def State.ownerSet (s : State) : Bool := s.ownerHash.any (· != 0)
def State.debugDisabled (s : State) : Bool := (s.fuse 71).getLsbD 1

/-- The anti-rollback count: the index of the highest 1 bit of words 61 and 62 plus 1. -/
def countOf (n : Nat) : Nat := if n = 0 then 0 else Nat.log2 n + 1
def State.antiRollback (s : State) : Nat := countOf (ofBe (s.fuseBytes 61 2))

/-- The identity key pair of this device (R550): its public key, and a signature made with it. -/
def State.idKey (s : State) : Bytes := padTo 96 (Config.identityKey (s.fuseBytes 63 8))
def State.identitySign (s : State) (data : Bytes) : Bytes × State :=
  let d := s.draw
  (padTo 96 (Config.sign 0 (s.idKey ++ data) d.1), d.2)

/-! ## Attestation (R557) -/

def State.attestFlags (s : State) : Nat :=
  flagBit s.sec.defaultMap 0 + flagBit s.sec.debugAuth.isSome 1 + flagBit s.ownerSet 2 + flagBit s.debugDisabled 3 +
    flagBit (s.rel.marks.any fun m => m.2.boot || m.2.service || m.2.drifted) 4

/-- Bytes 0 to 511 of the report. -/
def State.attestBody (s : State) (nonce : Bytes) : Bytes :=
  be 4 0x4F415231 ++ be 2 1 ++ be 1 (roleCode s) ++ be 1 s.attestFlags ++ be 4 s.dev.oid.toNat ++ be 4 versionRegister ++ be 1 s.dev.pinned ++
    be 1 s.antiRollback ++ zeros 2 ++ stampBytes s.stamp ++ padTo 32 nonce ++
    ([s.sec.m0, s.sec.m1, s.sec.m2, s.sec.m3, s.sec.m4].map (padTo 48)).flatten ++ s.ownerHash ++ be 4 s.sec.svn1 ++ be 4 s.sec.svn2 ++
    be 4 s.sec.mapVersion.toNat ++ be 4 s.sec.boots ++ s.idKey ++ zeros 44

def getAttestationBody (x : Sentence) (s : State) : State × Answer :=
  let b := s.attestBody x.params
  let r := s.identitySign b
  (r.2, .final St.ok (b ++ r.1))

/-! ## Key release (R551 to R553) -/

/-- The releases still outstanding: 10 s from BEGIN. -/
def State.openReleases (s : State) : List Release := s.sec.releases.filter fun r => s.now < r.since + 10000000000

def keyReleaseBeginBody (x : Sentence) (s : State) : State × Answer :=
  let c := x.f 0 2
  let others := s.openReleases.filter fun r => r.ctx.toNat != c
  if 64 ≤ others.length then (s, .final St.busy)
  else
    let d := s.draw
    let id : Word := (Config.freeWord d.1).truncate 32
    let s1 := { d.2 with sec := { d.2.sec with releases := others ++ [({ id := id, ctx := BitVec.ofNat 10 c, since := s.now, draw := d.1 } : Release)] } }
    let b := be 4 s.dev.oid.toNat ++ be 4 id.toNat ++ be 2 c ++ zeros 2 ++ be 8 s.cs ++ padTo 96 (Config.publicKey d.1)
    let r := s1.identitySign b
    (r.2, .final St.ok (b ++ r.1))

def State.keySlot (s : State) (c : Nat) : KeySlot := Tbl.get {} c s.sec.vault
def State.setKeySlot (s : State) (c : Nat) (k : KeySlot) : State := { s with sec := { s.sec with vault := Tbl.set {} c k s.sec.vault } }

/-- Put a weight key into slot c. A slot receives its memory key with its first weight key (R549); its models stay under that key (R552). -/
def State.installKey (s : State) (c : Nat) (id : Word) (key : Bytes) : State :=
  let k := s.keySlot c
  let d := s.draw
  if k.memKey.isSome then s.setKeySlot c { k with keyId := id, weightKey := key, state := 1 }
  else d.2.setKeySlot c { k with keyId := id, weightKey := key, state := 1, memKey := some d.1 }

/-- An installed key as the mirror stream carries it (R553): section 8, slot, KEY_ID, key. -/
def keyEntry (c : Nat) (id : Word) (key : Bytes) : Bytes := be 1 8 ++ be 8 0 ++ be 2 c ++ be 4 id.toNat ++ key

/-- KEY_INSTALL: the ephemeral key is destroyed whatever the outcome; the key is carried to the standby (R553). -/
def keyInstallBody (x : Sentence) (s : State) : State × Answer :=
  let id := BitVec.ofNat 32 (x.f 0 4)
  let c := x.f 4 2
  let keyId := BitVec.ofNat 32 (x.f 8 4)
  match s.openReleases.find? fun r => r.id == id with
  | none => (s, .final St.state)
  | some r =>
    let s1 := { s with sec := { s.sec with releases := s.sec.releases.filter fun q => q.id != id } }
    if r.ctx.toNat != c then (s1, .final St.param)
    else match Config.unwrap r.draw (be 4 s.dev.oid.toNat ++ be 4 id.toNat ++ be 2 c) x.params with
      | none => (s1, .final St.param)
      | some k =>
        let key := padTo 32 k
        let s2 := s1.installKey c keyId key
        (s2.mirror 9 (keyEntry c keyId key), .final St.ok (be 4 keyId.toNat))

/-- RELEASE_EXPIRY (R552). -/
def execReleaseExpiry (id : Word) (s : State) := finish s
  { s with sec := { s.sec with releases := s.sec.releases.filter fun r => r.id != id || s.now < r.since + 10000000000 } }

/-! ## Revocation (R556) -/

/-- The models of context c, by number. -/
def State.modelsOf (s : State) (c : Nat) : List Nat := (s.data.models.filter fun e => modelCtx e.1 == c).map (·.1)

/-- KEY_REVOKE: the weight key is destroyed, and loads in progress end; the rest follows at a tick. -/
def keyRevokeBody (x : Sentence) (s : State) : State × Answer :=
  let c := x.f 0 2
  let k := s.keySlot c
  if k.state != 1 then (s, .final St.state)
  else
    let s1 := s.setKeySlot c { k with weightKey := [], state := 2, revokeDue := s.now + 2000, revokeTick := 0, unloaded := 0, ticket := some x.ticket }
    let s2 := (s1.modelsOf c).foldl (fun t m =>
      if (t.model m).st = 1 then t.discardLoad m else t.setModel m { t.model m with mapLoad := none }) s1
    (s2, .accepted)

/-- The last page of a revoked context is zeroed: the memory key is destroyed and the slot becomes empty. A weight key installed since the
revocation stands (R556). -/
def State.endRevoke (s : State) (c : Nat) : State :=
  let k := s.keySlot c
  match k.ticket with
  | none => s
  | some t =>
    if k.revokeTick = 0 || s.pagesOf c != 0 then s
    else
      let k1 : KeySlot := if k.state = 2 then {} else { k with ticket := none, revokeTick := 0, unloaded := 0 }
      (s.setKeySlot c k1).final .agg t St.ok (stampBytes (stampOf k.revokeTick s.svcFlags) ++ be 2 k.unloaded ++ zeros 2)

/-- A sequence closed by a revocation: at once, or after the steps of the requests admitted for it (R397). -/
def State.revokeSeq (s : State) (i : Nat) : State :=
  let e := s.seq i
  if e.order.isEmpty then s.closeSeq i e
  else if e.closing.isSome then s else s.setSeq i { e with closing := some ⟨.pair, 0⟩ }

/-- KEY_REVOKE_EFFECTIVE: every model and map of the context is unloaded (R382), every open sequence closed. -/
def execKeyRevokeEffective (slot : BitVec 10) (s : State) := finish s (
  let c := slot.toNat
  let k := s.keySlot c
  if k.ticket.isNone || k.revokeTick != 0 then s
  else match s.dueTick k.revokeDue with
    | none => s
    | some t =>
      let ms := s.modelsOf c
      let s1 := s.setKeySlot c { k with revokeTick := t, unloaded := ms.length }
      let seqs := (s1.data.seqs.filter fun e => e.2.isOpen && e.2.port.isNone && modelCtx e.2.model == c).map (·.1)
      let s2 := seqs.foldl State.revokeSeq s1
      (ms.foldl State.unload s2).endRevoke c)

/-- STORE_PAGE_ZEROING_COMPLETE (R287, R556): the context's freed pages return to the pool. -/
def execStorePageZeroingComplete (ctx : BitVec 10) (s : State) := finish s (
  (s.pagesZeroed ctx.toNat).endRevoke ctx.toNat)

/-! ## Debug authorisation (R558, R559) -/

/-- An authorisation ends: hub sources are disabled and emit nothing further; what the merge buffer holds is still written (R232). -/
def State.endDebug (s : State) : State :=
  let off (k : TraceSource) : TraceSource := { k.disable with fifo := [] }
  State.endFlushes { s with sec := { s.sec with debugAuth := none }, hub := { s.hub with sources := s.hub.sources.map fun e => (e.1, off e.2) } } .agg

/-- The fields that must hold whatever the time: magic, the aggregator named, the window, reserved bits, a fresh serial, the owner's signature. -/
def State.authValid (s : State) (b : Bytes) : Bool :=
  fld b 0 4 == 0x4F444131 && fld b 4 4 == s.dev.oid.toNat && fld b 16 8 ≤ fld b 24 8 && fld b 24 8 ≤ fld b 16 8 + 86400 &&
    byteAt b 32 < 4 && byteAt b 33 < 2 && zeroAt b 34 30 && (s.sec.lastSerial.map fun n => decide (n < fld b 8 8)).getD true &&
    Config.verify s.ownerHash (b.take 64) (sub b 64 96)

def debugAuthoriseBody (x : Sentence) (s : State) : State × Answer :=
  let b := x.params
  let sec := s.svcNs / 1000000000
  if fld b 4 4 == s.pair.partnerOid.toNat && fld b 4 4 != s.dev.oid.toNat && x.req != .partner then
    (s.emit (.partnerLink 1) (shim s.dev.oid 1 1 ++ pad4 (sentenceBytes 0x0A04 x x.tag s.pair.partnerOid x.subunit.toNat)), .later)
  else if !s.ownerSet then (s, .final St.state)
  else if !s.authValid b then (s, .final St.param)
  else if s.debugDisabled || !s.timeValid || sec < fld b 16 8 || fld b 24 8 ≤ sec then (s, .final St.state)
  else
    let s1 := { s with sec := { s.sec with lastSerial := some (fld b 8 8) } }
    if byteAt b 33 = 1 then (s1.endDebug, .final St.ok (zeros 16))
    else
      let a : DebugAuth := ⟨BitVec.ofNat 8 (byteAt b 32), fld b 24 8⟩
      let s2 := if a.scope.getLsbD 0 then s1 else s1.endDebug
      ({ s2 with sec := { s2.sec with debugAuth := some a } }, .final St.ok (be 1 (byteAt b 32) ++ zeros 7 ++ be 8 (fld b 24 8)))

/-- DEBUG_AUTH_EXPIRY. -/
def execDebugAuthExpiry (s : State) := finish s (
  match s.sec.debugAuth with
  | some a => if s.timeValid && a.notAfter ≤ s.svcNs / 1000000000 then s.endDebug else s
  | none => s)

/-! ## The access map (R542, R563) -/

def MapRequester.bytes (r : MapRequester) : Bytes := be 1 r.kind ++ be 1 r.planes.toNat ++ be 2 r.ctx ++ be 4 r.first ++ be 4 r.last ++ zeros 4
def MapWindow.bytes (w : MapWindow) : Bytes := be 2 w.ctx ++ be 1 w.kind ++ be 1 w.rights.toNat ++ be 8 w.range.toNat ++ zeros 4

def getAccessMapBody (x : Sentence) (s : State) : State × Answer :=
  let all := if x.b 0 = 0 then s.sec.requesters.map MapRequester.bytes else s.sec.windows.map MapWindow.bytes
  if all.length < x.f 4 4 then (s, .final St.param)
  else
    let es := (all.drop (x.f 4 4)).take 248
    (s, .final St.ok (be 4 s.sec.mapVersion.toNat ++ be 1 (flagBit s.sec.defaultMap 0) ++ be 1 0 ++ be 2 s.sec.requesters.length ++
      be 2 s.sec.windows.length ++ be 2 es.length ++ zeros 4 ++ es.flatten))

/-! ## Verbs (R563, R564) -/

def vGetAttestation : Verb :=
  { code := 0x0A00, mgmt := true, standby := .own, nonIdem := true, minLen := 32, maxLen := 32, zeroLen := fun _ _ => 608 }
def vKeyReleaseBegin : Verb :=
  { code := 0x0A01, mgmt := true, nonIdem := true, minLen := 4, maxLen := 4, zeroLen := fun _ _ => 212, check := fun _ x => x.f 0 2 < 1024 }
def vKeyInstall : Verb :=
  { code := 0x0A02, mgmt := true, nonIdem := true, minLen := 168, maxLen := 168, zeroLen := fun _ _ => 4, check := fun _ x => x.f 4 2 < 1024 }
def vKeyRevoke : Verb :=
  { code := 0x0A03, mgmt := true, minLen := 4, maxLen := 4, zeroLen := fun _ _ => 20, deferred := fun _ => true
    check := fun _ x => 1 ≤ x.f 0 2 && x.f 0 2 < 1024 }
def vDebugAuthorise : Verb := { code := 0x0A04, mgmt := true, nonIdem := true, minLen := 160, maxLen := 160, zeroLen := fun _ _ => 16 }
def vGetAccessMap : Verb :=
  { code := 0x0A05, mgmt := true, standby := .own, minLen := 8, maxLen := 8, zeroLen := fun _ _ => 16, check := fun _ x => x.b 0 ≤ 1 }

def execGetAttestation (x : Sentence) (s : State) := finish s (s.runSentence vGetAttestation getAttestationBody x)
def execKeyReleaseBegin (x : Sentence) (s : State) := finish s (s.runSentence vKeyReleaseBegin keyReleaseBeginBody x)
def execKeyInstall (x : Sentence) (s : State) := finish s (s.runSentence vKeyInstall keyInstallBody x)
def execKeyRevoke (x : Sentence) (s : State) := finish s (s.runSentence vKeyRevoke keyRevokeBody x)
def execDebugAuthorise (x : Sentence) (s : State) := finish s (s.runSentence vDebugAuthorise debugAuthoriseBody x)
def execGetAccessMap (x : Sentence) (s : State) := finish s (s.runSentence vGetAccessMap getAccessMapBody x)

end Sys2Proof.Machine
end

