-- ==== Sys2Proof/Machine/Flash.lean ====
section
/-! DEFINITION. The boot flash with its erase journal (R524 to R526, R604, R605), the management SPI port (R608 to R612), fuse programming (R535,
R611) and the TAP (R613). -/

namespace Sys2Proof.Machine
open Sys2Proof

/-! ## Flash bytes -/

/-- n flash bytes from a on; erased bytes read 0xFF. -/
def flashBytes (f : Tbl Byte) (a n : Nat) : Bytes := (List.range n).map fun i => Tbl.get 0xFF (a + i) f

/-- Program bytes from a on. -/
def flashPut (f : Tbl Byte) (a : Nat) (bs : Bytes) : Tbl Byte := bs.zipIdx.foldl (fun t e => Tbl.set 0xFF (a + e.2) e.1 t) f

/-- Erase the 4 KiB sector at a. -/
def flashWipe (f : Tbl Byte) (a : Nat) : Tbl Byte := f.filter fun e => e.1 < a || a + 4096 ≤ e.1

/-! ## The erase journal (R524 to R526) -/

def journal0 : Nat := 0x2000
def journal1 : Nat := 0x3000
def otherJournal (base : Nat) : Nat := if base = journal0 then journal1 else journal0

/-- A slot of a journal sector. -/
def jSlot (f : Tbl Byte) (base i : Nat) : Bytes := flashBytes f (base + 32 * i) 32
def slotErased (b : Bytes) : Bool := b.all (· == 0xFF)
def slotGood (b : Bytes) : Bool := fld b 28 4 == crc32c (b.take 28)
/-- A slot with its CRC. -/
def sealSlot (b : Bytes) : Bytes := let p := padTo 28 b; p ++ be 4 (crc32c p)
/-- An entry of a type, a sector address and an erase number. -/
def jEntry (type address eseq : Nat) : Bytes := sealSlot (be 1 type ++ zeros 3 ++ be 4 address ++ be 4 eseq)
def jHeader (gen : Nat) : Bytes := sealSlot (be 4 0x4F464A31 ++ be 4 gen)

/-- The GEN of a sector with a valid header. -/
def jGen (f : Tbl Byte) (base : Nat) : Option Word :=
  let b := jSlot f base 0
  if slotGood b && fld b 0 4 == 0x4F464A31 then some (BitVec.ofNat 32 (fld b 4 4)) else none

/-- The active journal sector (R524). -/
def activeJournal (f : Tbl Byte) : Option Nat :=
  match jGen f journal0, jGen f journal1 with
  | some a, some b => some (if seqAfter b a then journal1 else journal0)
  | some _, none => some journal0
  | none, some _ => some journal1
  | none, none => none

/-- The valid entries of a sector: type, address, erase number (slots 1 to 126). -/
def jEntries (f : Tbl Byte) (base : Nat) : List (Nat × Nat × Nat) :=
  (List.range 126).filterMap fun i =>
    let b := jSlot f base (i + 1)
    if !slotErased b && slotGood b then some (byteAt b 0, fld b 4 4, fld b 8 4) else none

/-- The next erase number. -/
def nextEseq (f : Tbl Byte) : Nat :=
  ((jEntries f journal0 ++ jEntries f journal1).map (·.2.2)).foldl max 0 + 1

/-- Put an entry into the first erased slot of slots 1 to 126; none where all are used. -/
def jAppend (f : Tbl Byte) (base : Nat) (e : Bytes) : Option (Tbl Byte) :=
  ((List.range 126).find? fun i => slotErased (jSlot f base (i + 1))).map fun i => flashPut f (base + 32 * (i + 1)) e

/-- The second half of a switch: the other sector erased, its header with GEN + 1, every BAD entry carried over (R525). -/
def jCarry (f : Tbl Byte) (base : Nat) (gen : Word) : Tbl Byte :=
  let o := otherJournal base
  let bad := (jEntries f base).filter fun e => e.1 = 3
  let g := flashPut (flashWipe f o) o (jHeader (gen + 1).toNat)
  bad.foldl (fun t e => (jAppend t o (jEntry 3 e.2.1 e.2.2)).getD t) g

/-- The switch to the other sector. -/
def jSwitch (f : Tbl Byte) (base : Nat) : Tbl Byte :=
  jCarry (flashPut f (base + 32 * 127) (jEntry 4 (otherJournal base) (nextEseq f))) base ((jGen f base).getD 0)

/-- Write an entry, switching first where slots 1 to 126 are used. -/
def jWrite (f : Tbl Byte) (base : Nat) (e : Bytes) : Tbl Byte :=
  match jAppend f base e with
  | some g => g
  | none => let g := jSwitch f base; (jAppend g (otherJournal base) e).getD g

/-- A new journal on a flash without one: J0 with GEN 1. -/
def jFormat (f : Tbl Byte) : Tbl Byte := flashPut (flashWipe (flashWipe f journal0) journal1) journal0 (jHeader 1)

/-- The flash with a journal. -/
def jReady (f : Tbl Byte) : Tbl Byte := if (activeJournal f).isSome then f else jFormat f

/-- A sector marked BAD. -/
def sectorBad (f : Tbl Byte) (a : Nat) : Bool :=
  match activeJournal f with
  | some b => (jEntries f b).any fun e => e.1 == 3 && e.2.1 == a
  | none => false

/-- The sector at a with START written; then the erase and COMPLETE. -/
def jStart (f : Tbl Byte) (a : Nat) : Tbl Byte × Nat :=
  let g := jReady f
  let n := nextEseq g
  (jWrite g ((activeJournal g).getD journal0) (jEntry 1 a n), n)
def jFinish (f : Tbl Byte) (a n : Nat) : Tbl Byte :=
  let g := flashWipe f a
  jWrite g ((activeJournal g).getD journal0) (jEntry 2 a n)

/-- An erase under the journal (R525). -/
def journalledErase (f : Tbl Byte) (a : Nat) : Tbl Byte := let r := jStart f a; jFinish r.1 a r.2

/-- FLASH_JOURNAL_RECOVERY at the start of stage 3 (R526): the repeated erase leaves every byte 0xFF. -/
def recoverJournal (f : Tbl Byte) : Tbl Byte :=
  match activeJournal f with
  | none => jFormat f
  | some b =>
    let sw := jSlot f b 127
    let gen := (jGen f b).getD 0
    let f1 := if !slotErased sw && slotGood sw && byteAt sw 0 == 4 && jGen f (otherJournal b) != some (gen + 1) then jCarry f b gen else f
    let es := jEntries f b
    let undone := es.filter fun e => e.1 == 1 && !es.any fun d => (d.1 == 2 || d.1 == 3) && d.2.2 == e.2.2
    undone.foldl (fun t e => jFinish t e.2.1 e.2.2) f1

/-! ## Commands of the port (R611) -/

/-- MS_IRQ_N is low while DONE is 1. -/
def State.setMspi (s : State) (m : Mspi) : State := { s with phys := { s.phys with mspi := m } }

/-- Set the result of the command that runs. -/
def State.mspiResult (s : State) (r : Nat) : State :=
  match s.phys.mspi.run with
  | some c => s.setMspi { s.phys.mspi with run := some { c with result := some r } }
  | none => s

/-- The port runs this command and has not ended it. -/
def State.mspiRuns (s : State) (cmd : Nat) : Bool := s.phys.mspi.run == some ⟨cmd, none⟩

/-- Boot stages 2 to 4 read the flash. -/
def State.bootReads (s : State) : Bool := 2 ≤ s.dev.stage && s.dev.stage ≤ 4 && !s.dev.halted

/-- LEN and ADDR name a range of the flash. -/
def Mspi.rangeValid (m : Mspi) : Bool := 1 ≤ m.len && m.len ≤ 4096 && m.addr + m.len ≤ 0x4000000

/-- The regions that a program or an erase may touch (R611). -/
def writeRegions : List (Nat × Nat) := [(0, 0x2000), (0x100000, 0x340000), (0x400000, 0x3600000)]
def regionAllows (a n : Nat) : Bool := writeRegions.any fun r => r.1 ≤ a && a + n ≤ r.2

/-- Sectors of a range. -/
def sectorsOf (a n : Nat) : List Nat := (List.range (ceilDiv (a % 4096 + n) 4096)).map fun i => (a / 4096 + i) * 4096

/-- The behaviour pin copies and the logs of chapters 15 and 17, whose bytes the spec does not lay out. -/
def noLayout (a : Nat) : Bool := (0x4000 ≤ a && a < 0x6000) || 0x3600000 ≤ a

def Mspi.data (m : Mspi) (n : Nat) : Bytes := (List.range n).map fun i => Tbl.get 0 i m.buffer

/-- FLASH_READ. -/
def execFlashRead (s : State) := finish s (
  let m := s.phys.mspi
  if !s.mspiRuns 1 then s
  else if !m.rangeValid then s.mspiResult 8
  else if s.bootReads then s.mspiResult 6
  else
    let d := s.draw
    let read (i : Nat) : Byte := if noLayout (m.addr + i) then Config.flashByte d.1 (m.addr + i) else Tbl.get 0xFF (m.addr + i) s.phys.flash
    let b := (List.range m.len).foldl (fun t i => Tbl.set 0 i (read i) t) m.buffer
    (d.2.setMspi { m with buffer := b }).mspiResult 0)

/-- Leave a range of the flash at free values. -/
def State.scramble (s : State) (a n : Nat) : State :=
  let d := s.draw
  { d.2 with phys := { d.2.phys with flash := flashPut s.phys.flash a ((List.range n).map fun i => Config.flashByte d.1 (a + i)) } }

/-- FLASH_PROGRAM: what a range that was not erased holds afterwards is left open. -/
def execFlashProgram (ok : Bool) (s : State) := finish s (
  let m := s.phys.mspi
  if !s.mspiRuns 2 then s
  else if !m.rangeValid then s.mspiResult 8
  else if s.bootReads then s.mspiResult 6
  else if !regionAllows m.addr m.len then s.mspiResult 1
  else if (sectorsOf m.addr m.len).any (sectorBad s.phys.flash) then s.mspiResult 3
  else if !ok then (s.scramble m.addr m.len).mspiResult 2
  else if (flashBytes s.phys.flash m.addr m.len).any (· != 0xFF) then (s.scramble m.addr m.len).mspiResult 0
  else ({ s with phys := { s.phys with flash := flashPut s.phys.flash m.addr (m.data m.len) } }).mspiResult 0)

/-- FLASH_ERASE: the sector that holds ADDR. One that the flash does not complete leaves its START open. -/
def execFlashErase (ok : Bool) (s : State) := finish s (
  let m := s.phys.mspi
  let a := m.addr / 4096 * 4096
  if !s.mspiRuns 3 then s
  else if 0x4000000 ≤ m.addr then s.mspiResult 8
  else if s.bootReads then s.mspiResult 6
  else if !regionAllows a 4096 then s.mspiResult 1
  else if sectorBad s.phys.flash a then s.mspiResult 3
  else if ok then ({ s with phys := { s.phys with flash := journalledErase s.phys.flash a } }).mspiResult 0
  else (({ s with phys := { s.phys with flash := (jStart s.phys.flash a).1 } }).scramble a 4096).mspiResult 2)

/-- Blow the bits of words from w on: they change from 0 to 1 only (R535). -/
def State.blow (s : State) (w : Nat) (vs : List Word) : State :=
  { s with rel := { s.rel with fuses := vs.zipIdx.foldl (fun t e => Tbl.set 0 (w + e.2) (Tbl.get 0 (w + e.2) t ||| e.1) t) s.rel.fuses } }

/-- FUSE_OWNER (R535, R611): the owner key hash, then OWNER_LOCKED. The new values stand from the next reset. -/
def execFuseOwner (vqps verified : Bool) (s : State) := finish s (
  let m := s.phys.mspi
  let hash := m.data 48
  if !s.mspiRuns 4 then s
  else if (Tbl.get 0 71 s.rel.fuses).getLsbD 0 || !vqps || hash.all (· == 0) then s.mspiResult 4
  else
    let s1 := s.blow 49 ((List.range 12).map fun i => BitVec.ofNat 32 (fld hash (4 * i) 4))
    if verified then (s1.blow 71 [1]).mspiResult 0 else s1.mspiResult 5)

/-- FUSE_DEBUG_DISABLE. -/
def execFuseDebugDisable (vqps verified : Bool) (s : State) := finish s (
  if !s.mspiRuns 5 then s
  else if !vqps then s.mspiResult 4
  else (s.blow 71 [2]).mspiResult (if verified then 0 else 5))

/-- MSPI_COMMAND_DONE: BUSY falls, DONE and RESULT show, MS_IRQ_N goes low. -/
def execMspiCommandDone (s : State) := finish s (
  let m := s.phys.mspi
  match m.run with
  | some ⟨_, some r⟩ => (s.setMspi { m with run := none, done := true, result := r }).emit (.mspiIrq true)
  | _ => s)

/-! ## SPI transactions (R608 to R610) -/

/-- Record i of the early buffer; from stage 3 on it shows the SEQ it takes (R574). -/
def State.earlyRecord (s : State) (i : Nat) : Bytes :=
  match s.obs.early[i]? with
  | some r => Record.bytes ⟨if 3 ≤ s.dev.stage then s.obs.nextSeq + BitVec.ofNat 32 i else 0, r⟩
  | none => zeros 64

/-- A register of the SPI space as a 32-bit word. -/
def State.mspiValue (s : State) (a : Nat) : Nat :=
  let m := s.phys.mspi
  if 0x1000 ≤ a && a < 0x2000 then ofBe ((List.range 4).map fun i => Tbl.get 0 (a - 0x1000 + i) m.buffer)
  else if 0x2000 ≤ a && a < 0x3000 then fld (s.earlyRecord ((a - 0x2000) / 64)) (a % 64) 4
  else match a with
    | 0x0000 => versionRegister
    | 0x0004 => flagBit s.phys.tripped 31 + flagBit s.phys.cfgDefault 30 + s.phys.straps.bootSel.toNat * 2 ^ 28 + flagBit s.phys.straps.pairSel 27 +
        s.dev.fault * 65536 + s.dev.stage
    | 0x0008 => m.badop * 2 ^ 24 + m.partials * 65536 + m.extra
    | 0x0010 => flagBit m.run.isSome 31 + flagBit m.done 30 + flagBit m.overrun 29 + m.result
    | 0x0014 => m.addr
    | 0x0018 => m.len
    | 0x001C => s.obs.early.length
    | _ => 0

/-- A word written into the SPI space. -/
def State.mspiWrite (s : State) (a : Nat) (v : Word) : State :=
  let m := s.phys.mspi
  if 0x1000 ≤ a && a < 0x2000 then
    s.setMspi { m with buffer := (be 4 v.toNat).zipIdx.foldl (fun t e => Tbl.set 0 (a - 0x1000 + e.2) e.1 t) m.buffer }
  else match a with
    | 0x000C =>
      let cmd := v.toNat / 2 ^ 24
      if m.run.isSome then s.setMspi { m with overrun := true }
      else s.setMspi { m with run := some ⟨cmd, if 1 ≤ cmd && cmd ≤ 5 then none else some 7⟩ }
    | 0x0010 =>
      let s1 := s.setMspi { m with done := m.done && !v.getLsbD 30, overrun := m.overrun && !v.getLsbD 29 }
      if m.done && v.getLsbD 30 then s1.emit (.mspiIrq false) else s1
    | 0x0014 => s.setMspi { m with addr := v.toNat }
    | 0x0018 => s.setMspi { m with len := v.toNat % 8192 }
    | _ => s

/-- The header of a transaction is one of R608. -/
def spiHeaderValid (h : Word) : Bool :=
  let n := h.toNat / 65536 % 256
  let a := h.toNat % 65536
  (h.toNat / 2 ^ 24 == 1 || h.toNat / 2 ^ 24 == 2) && 1 ≤ n && n ≤ 64 && a % 4 == 0 && a + 4 * n ≤ 0x3000

/-- Write data words in order. -/
def State.mspiWrites (s : State) : Nat → List Word → State
  | _, [] => s
  | a, v :: vs => (s.mspiWrite a v).mspiWrites (a + 4) vs

/-- The port's error counts. -/
def State.spiCount (s : State) (f : Mspi → Mspi) : State := s.setMspi (f s.phys.mspi)

/-- MSPI_TRANSACTION. The bytes of MS_MISO are emitted: the header word, then the words of a read. -/
def execMspiTransaction (t : SpiTransaction) (s : State) := finish s (
  let cut (u : State) : State := if t.edges = 0 then u else u.spiCount fun m => { m with partials := satInc 8 m.partials }
  if s.phys.porLow then s
  else match t.header with
    | none => cut s
    | some h =>
      let n := h.toNat / 65536 % 256
      let a := h.toNat % 65536
      if !spiHeaderValid h then (s.spiCount fun m => { m with badop := satInc 8 m.badop }).emit .spi (be 4 0x5A5A5A5A)
      else
        let ds := t.data.take n
        let s1 := if h.toNat / 2 ^ 24 = 1 then
            s.emit .spi (be 4 0x5A5A5A5A ++ ((List.range ds.length).map fun i => be 4 (s.mspiValue (a + 4 * i))).flatten)
          else (s.mspiWrites a ds).emit .spi (be 4 0x5A5A5A5A)
        if ds.length = n then s1.spiCount fun m => { m with extra := satAdd 16 m.extra t.extra } else cut s1)

/-! ## The TAP (R613) and PERST_N (R288) -/

/-- Instructions that act only while TEST_EN is high and DEBUG_DISABLED is 0. -/
def tapRestricted : TapInstruction → Bool
  | .bypass | .idcode | .samplePreload => false
  | _ => true

def execTapInstructionUpdate (ir : TapInstruction) (s : State) := finish s (
  { s with phys := { s.phys with tap := if tapRestricted ir && !(s.phys.straps.testEn && !s.debugDisabled) then .bypass else ir } })

/-- PCIE_PERST_RELEASE (R288): the endpoint comes up, provided the always-on domain is up, with its MSI-X table as after a reset. -/
def execPciePerstRelease (s : State) := finish s (
  if s.phys.porLow then s else { s with dev := { s.dev with pcieUp := true, msix := [] } })

end Sys2Proof.Machine
end

