-- ==== Sys2Proof/Machine/Boot.lean ====
section
/-! DEFINITION. From power-up to service (R296 to R298): straps and cold reset (R597, R603), the boot chain (R536 to R545), the boot configuration
(R606, R607), margin restore (R512), screen packs and the report ring (R517, R518), whole-chip reset (R500), thermal trip (R602, R603). -/

namespace Sys2Proof.Machine
open Sys2Proof

/-! ## Status (R291) -/

/-- Change GQ_BOOT_STATUS: device event BOOT. -/
def State.bootStatus (s : State) (f : DevState → DevState) : State := ({ s with dev := f s.dev }).irq 0

/-- Enter a stage. -/
def State.enterStage (s : State) (n : Nat) : State := s.bootStatus fun d => { d with stage := n }

/-- A stage fails: FAULT, a record of severity 6, and the boot halts (R296, R539). -/
def State.bootFail (s : State) (fault : Nat) (tried : Bytes) : State :=
  (s.bootStatus fun d => { d with fault := fault, halted := true }).raise 11 0x0001 6 (be 1 s.dev.stage ++ be 1 fault ++ tried)

/-! ## Stage 1: fuse words (R522) -/

/-- The reads decide every word; a word that `reads` does not list reads its programmed value six times. -/
def State.latchFuses (s : State) (reads : List (Nat × FuseCopies)) : State :=
  let s0 := { s with rel := { s.rel with marks := [], latched := s.rel.fuses, bootTj := s.tjField } }
  if reads.any fun r => (fuseValue r.2).isNone then s0.bootFail 1 []
  else
    (reads.foldl (fun t r =>
      match fuseValue r.2 with
      | none => t
      | some v =>
        let t1 := { t with rel := { t.rel with latched := Tbl.set 0 r.1 v t.rel.latched } }
        if fuseMarginal r.2 v then
          (t1.setMark r.1 { boot := true, reads := fuseDiffer r.2 v }).raise 12 0x0907 3 (fuseData s r.1 r.2)
        else t1) s0).enterStage 2

/-! ## The boot configuration (R606, R607) -/

/-- A copy is valid: MAGIC, FORMAT and CHECK, fields in range, reserved bytes zero. -/
def cfgValid (b : Bytes) : Bool :=
  let z (off n : Nat) : Bool := zeroAt b off n
  fld b 0 4 == 0x4F424331 && fld b 4 2 == 1 && z 6 2 && fld b 8 4 != 0 && fld b 8 4 != 0xFFFFFFFF && byteAt b 12 < 16 && byteAt b 13 < 8 && z 14 2 &&
    z 42 22 && z 144 112 && z 512 3580 && fld b 4092 4 == crc32c (b.take 4092) &&
    ((List.range 20).all fun r => let a := byteAt b (64 + 4 * r); (a == 0 || (8 ≤ a && a ≤ 0x77)) && z (66 + 4 * r) 2) &&
    (List.range 16).all fun p => byteAt b (256 + 16 * p) < 4 && 1 ≤ fld b (258 + 16 * p) 2 && z (266 + 16 * p) 6

/-- The default configuration of R607 in the same layout. -/
def defaultCfg (pairSel : Bool) : Bytes :=
  let b := padTo 256 (be 4 0x4F424331 ++ be 2 1 ++ zeros 2 ++ be 4 (if pairSel then 0xFFFFFFF1 else 0xFFFFFFF0) ++ be 1 15) ++
    ((List.range 16).map fun _ => be 1 0 ++ be 1 32 ++ be 2 16 ++ zeros 12).flatten
  let c := padTo 4092 b
  c ++ be 4 (crc32c c)

/-- Read the configuration: copy 0, else copy 1, else the default. -/
def State.readConfig (s : State) : State :=
  let c0 := flashBytes s.phys.flash 0 4096
  let c1 := flashBytes s.phys.flash 0x1000 4096
  let good := cfgValid c0 || cfgValid c1
  let b := if cfgValid c0 then c0 else if cfgValid c1 then c1 else defaultCfg s.phys.straps.pairSel
  { s with phys := { s.phys with bootCfg := b, cfgDefault := !good }, dev := { s.dev with oid := BitVec.ofNat 32 (fld b 8 4) } }

/-! ## Margin restore (R512) -/

/-- NEW of the newest log entry of an island with one of the kinds, 0 without one. -/
def State.logged (s : State) (i : Nat) (kinds : List Nat) : Nat :=
  ((s.rel.marginLog.find? fun e => byteAt e 12 == i && kinds.contains (byteAt e 13)).map fun e => byteAt e 15).getD 0

/-- Each island takes its logged steps, every rail whose stored setpoint differs is written, and one entry of kind 5 per island follows. -/
def State.restoreMargins (s : State) : State :=
  let v (i : Nat) : Nat := s.logged i [1, 4, 5]
  let s1 := (List.range 97).foldl (fun t i =>
    t.setIsland i { t.island i with vstep := v i, fstep := if i = 81 || i = 96 then 0 else s.logged i [2], eol := s.logged i [3] != 0 }) s
  let s2 := (List.range 20).foldl (fun t r =>
    let new := (((List.range 97).filter fun i => railOf i == r).map v).foldl max 0
    if new = Tbl.get 0 r t.rel.rails || t.cfg (64 + 4 * r) 1 = 0 then t
    else let u := t.emit (.pmbus r (7500 + 25 * new)); { u with rel := { u.rel with rails := Tbl.set 0 r new u.rel.rails } }) s1
  (List.range 97).foldl (fun t i => t.logMargin i 5 (v i) (v i) none) s2

/-! ## Images (R536 to R539) -/

/-- Where a copy of an image of a type lies: 1 stage-1, 2 firmware, 3 access map (R605). -/
def imagePlace (type copy : Nat) : Nat :=
  match type with
  | 1 => 0x100000 + 0x100000 * copy
  | 2 => 0x400000 + 0x1100000 * copy
  | _ => 0x300000 + 0x20000 * copy

/-- The limit of BODY_LENGTH (R536). -/
def imageLimit : Nat → Nat
  | 1 => 524288
  | 2 => 16777216
  | _ => 73760

/-- The header of a copy, and the whole copy, header included. -/
def imageHeader (f : Tbl Byte) (type copy : Nat) : Bytes := flashBytes f (imagePlace type copy) 384
def imageAt (f : Tbl Byte) (type copy : Nat) : Bytes :=
  flashBytes f (imagePlace type copy) (384 + min (imageLimit type) (fld (imageHeader f type copy) 12 4))

/-- SVN, or MAP_VERSION of an access map. -/
def imageVersion (f : Tbl Byte) (type copy : Nat) : Nat := fld (imageHeader f type copy) 8 4

/-- The copies in the order boot tries them: the higher version first, copy 0 where they are equal (R538). -/
def copyOrder (f : Tbl Byte) (type : Nat) : List Nat := if imageVersion f type 0 < imageVersion f type 1 then [1, 0] else [0, 1]

/-- PUBKEY is a root key that is not revoked, or for an access map the owner key (R537). -/
def State.keyTrusted (s : State) (type : Nat) (b : Bytes) : Bool :=
  let hash := Config.sha384 (sub b 24 96)
  let slot := byteAt b 7
  if type = 3 then s.ownerSet && hash == s.ownerHash
  else slot < 4 && !(s.fuse 48).getLsbD slot && hash == s.fuseBytes (12 * slot) 12

def requesterOf (e : Bytes) : MapRequester := ⟨byteAt e 0, BitVec.ofNat 3 (byteAt e 1), fld e 2 2, fld e 4 4, fld e 8 4⟩
def windowOf (e : Bytes) : MapWindow := ⟨fld e 0 2, byteAt e 2, BitVec.ofNat 2 (byteAt e 3), BitVec.ofNat 64 (fld e 4 8)⟩

/-- A requester entry in range (R542). -/
def requesterValid (e : Bytes) : Bool :=
  let k := byteAt e 0
  let last := fld e 8 4
  k ≤ 3 && byteAt e 1 < 8 && (fld e 2 2 < 1024 || fld e 2 2 == 0xFFFF) && fld e 4 4 ≤ last && zeroAt e 12 4 &&
    (if k = 0 || k = 3 then last ≤ 63 else if k = 2 then last == 0 else true)

/-- A window entry in range. -/
def windowValid (e : Bytes) : Bool :=
  let k := byteAt e 2
  let a := fld e 4 4
  let b := fld e 8 4
  1 ≤ fld e 0 2 && fld e 0 2 < 1024 && 1 ≤ k && k ≤ 5 && byteAt e 3 < 4 && zeroAt e 12 4 &&
    (match k with
     | 1 => a ≤ b && b < 32768
     | 2 => a ≤ b && b < 1024
     | 5 => a ≤ b && b < 64
     | 4 => b == 0
     | _ => true)

/-- The entries of a map body; none where R542 makes the image not authentic. -/
def parseMap (b : Bytes) : Option (List MapRequester × List MapWindow) :=
  let nr := fld b 0 2
  let nw := fld b 2 2
  let rs := (List.range nr).map fun i => sub b (32 + 16 * i) 16
  let ws := (List.range nw).map fun i => sub b (32 + 16 * nr + 16 * i) 16
  if nr ≤ 512 && nw ≤ 4096 && zeroAt b 4 28 && b.length == 32 + 16 * nr + 16 * nw && rs.all requesterValid && ws.all windowValid then
    some (rs.map requesterOf, ws.map windowOf)
  else none

/-- The check that an image fails first, in the order of R537, then R538 and R542; none when it is authentic: 0 the header fields, 1 the key, 2 the
signature, 3 the body's hash, 4 LEVEL of a firmware, 5 an SVN above 64, 6 the body of an access map, 7 a rollback. -/
def State.imageCheck (s : State) (type : Nat) (b : Bytes) : Option Nat :=
  let body := b.drop 384
  if fld b 0 4 != 0x4F534931 || fld b 4 2 != 1 || byteAt b 6 != type || imageLimit type < fld b 12 4 then some 0
  else if !s.keyTrusted type b then some 1
  else if !Config.verify (sub b 24 96) (Config.sha384 (b.take 288)) (sub b 288 96) then some 2
  else if Config.sha384 body != sub b 120 48 then some 3
  else if type = 2 && (byteAt b 16 < 2 || 3 < byteAt b 16) then some 4
  else if type ≠ 3 && 64 < fld b 8 4 then some 5
  else if type = 3 && (parseMap body).isNone then some 6
  else if type ≠ 3 && fld b 8 4 < s.antiRollback then some 7
  else none

/-- The check a copy in flash fails. -/
def State.copyFault (s : State) (type copy : Nat) : Option Nat := s.imageCheck type (imageAt s.phys.flash type copy)

/-- The copy in use: the first authentic one. -/
def State.copyInUse (s : State) (type : Nat) : Option Nat := (copyOrder s.phys.flash type).find? fun c => (s.copyFault type c).isNone

/-- The copies found not authentic before one was, with the check each failed, as a record names them (R539). -/
def State.copiesFailed (s : State) (type : Nat) : List (Nat × Nat) :=
  ((copyOrder s.phys.flash type).takeWhile fun c => (s.copyFault type c).isSome).map fun c => (c, (s.copyFault type c).getD 0)
def failedBytes (code : Nat) (cs : List (Nat × Nat)) : Bytes := (cs.map fun c => be 1 c.1 ++ [Config.causeCode code c.2]).flatten

/-- FAULT when both copies failed: 4 where the later one failed only as a rollback (R539). -/
def State.imageFault (s : State) (type : Nat) : Nat :=
  if ((s.copiesFailed type).getLast?.map (·.2)) = some 7 then 4 else type + 1

/-! ## Stages 2 and 3 -/

/-- Stage 3 begins: the erase journal is recovered, the configuration read, SEQ set at a cold boot, margins restored, domain 90 powered (R512, R526,
R538, R574, R606). -/
def State.beginStage3 (s : State) : State :=
  let s1 := ({ s with phys := { s.phys with flash := recoverJournal s.phys.flash } }).readConfig
  let cold := s1.sec.boots = 0 && !s1.phys.tripped
  let seq : Word := match s1.obs.plog with
    | [] => 1
    | r :: rs => rs.foldl (fun m q => if seqAfter q.seq m then q.seq else m) r.seq + 1
  let s2 := if cold then { s1 with obs := { s1.obs with nextSeq := seq } } else s1
  (s2.restoreMargins.switchOn 90).enterStage 3

/-- Stage 2 ends: the first authentic stage-1 copy runs (R538). -/
def State.stage1Image (s : State) : State :=
  match s.copyInUse 1 with
  | none => s.bootFail (s.imageFault 1) (failedBytes 0x0001 (s.copiesFailed 1))
  | some c =>
    ({ s with sec := { s.sec with svn1 := imageVersion s.phys.flash 1 c, m0 := Config.sha384 (imageAt s.phys.flash 1 c) } }).beginStage3

/-- Stage 3 ends: the first authentic firmware copy is loaded. The level and the screen-pack key are those of its header. -/
def State.firmwareImage (s : State) : State :=
  match s.copyInUse 2 with
  | none => s.bootFail (s.imageFault 2) (failedBytes 0x0001 (s.copiesFailed 2))
  | some c =>
    let image := imageAt s.phys.flash 2 c
    ({ s with sec := { s.sec with svn2 := imageVersion s.phys.flash 2 c, m1 := Config.sha384 image, level := BitVec.ofNat 8 (byteAt image 16)
                                  auxKey := sub image 168 96 } }).enterStage 4

/-! ## Stage 4: the access map (R542 to R545) -/

/-- The default map (R544). -/
def defaultMap : List MapRequester := [⟨0, 7, 0xFFFF, 0, 63⟩, ⟨2, 7, 0xFFFF, 0, 0⟩]

/-- Write the map, lock it, fix M2 and M3 (R538, R541, R545). -/
def State.lockMap (s : State) (rs : List MapRequester) (ws : List MapWindow) (version : Word) (isDefault : Bool) : State :=
  let bytes := (rs.map MapRequester.bytes ++ ws.map MapWindow.bytes).flatten
  { s with sec := { s.sec with requesters := rs, windows := ws, mapVersion := version, defaultMap := isDefault, failedWords := [], locked := true
                               m2 := Config.sha384 bytes, m3 := Config.sha384 s.phys.bootCfg } }

/-- Stage 4 ends: the first authentic map is in force, else the default one. A copy that is not authentic is recorded and does not halt the boot
(R539). -/
def State.writeMap (s : State) : State :=
  let s1 := (s.copiesFailed 3).foldl (fun t c => t.raise 11 0x0002 4 (failedBytes 0x0002 [c])) s
  let map := (s.copyInUse 3).bind fun c => (parseMap ((imageAt s.phys.flash 3 c).drop 384)).map fun m => (imageVersion s.phys.flash 3 c, m)
  (match map with
   | some (version, rs, ws) => s1.lockMap rs ws (BitVec.ofNat 32 version) false
   | none => s1.lockMap defaultMap [] 0 true).enterStage 5

/-! ## Stages 5 and 6 -/

/-- Stage 5: the HBM stacks. -/
def State.hbmTrained (s : State) (ok : Bool) : State :=
  let hbm := [64, 65, 66, 67]
  if ok then (hbm.foldl State.switchOn s).enterStage 6 else (hbm.foldl State.switchOff s).bootFail 5 []

/-- A fabric port of the boot configuration is enabled (R440). -/
def State.cfgPort (s : State) (p : Nat) : Bool := s.cfg (256 + 16 * p) 1 % 2 == 1

/-- The domains that stage 6 powers (R279): not those of unused DTC-port groups and of disabled port pairs, and in profile H not the clusters outside
its partition. -/
def State.wanted (s : State) (n : Nat) : Bool :=
  if n < 64 then s.sys.profile != .h || inTelemetry .h n
  else if 68 ≤ n && n < 72 then (s.cfg 12 1).testBit (n - 68)
  else if 72 ≤ n && n < 80 then s.cfgPort (2 * (n - 72)) || s.cfgPort (2 * (n - 72) + 1)
  else true

/-- A fabric port as the boot configuration sets it. -/
def State.bootPort (s : State) (p : Nat) : Port :=
  let o := 256 + 16 * p
  { st := if s.cfgPort p then .training else .disabled, enabled := s.cfgPort p, spareMode := s.cfg o 1 / 2 % 2 == 1, threshold := s.cfg (o + 1) 1
    limit := s.cfg (o + 2) 2, mac := s.cfg (o + 4) 6 }

/-- The ports brought up: fabric, management, partner link (R440, R442, R487). -/
def State.bootPorts (s : State) : State :=
  let s1 := (List.range 16).foldl (fun t p => t.setNetPort p (s.bootPort p)) s
  (s1.setNetPort 16 { st := .inService, enabled := true, mac := s.cfg 36 6 }).setNetPort 17 { st := .training, enabled := true, spareMode := true }

/-- The packs of the screen-pack area, back to back (fuel: the most that fit). -/
def packsAt (f : Tbl Byte) : Nat → Nat → List Bytes
  | 0, _ => []
  | n + 1, a =>
    let h := flashBytes f a 64
    let len := fld h 16 8
    if fld h 0 4 = 0x4F535031 && 160 ≤ len && a + len ≤ 0x3600000 then flashBytes f a len :: packsAt f n (a + len) else []

/-- Copy one pack (R518). -/
def State.copyPack (s : State) (b : Bytes) : State :=
  let old := Tbl.find? (packId b) s.rel.packs
  if s.packValid s.sec.auxKey b then
    if (old.map fun o => decide (packVersion b ≤ packVersion o)).getD false then s
    else { s with rel := { s.rel with packs := Tbl.insert (packId b) b s.rel.packs } }
  else s.raise 12 0x0906 4 (be 2 (packId b) ++ be 4 (packVersion b) ++ [Config.causeCode 0x0906 (if s.level .agg < byteAt b 12 then 1 else 0)])

/-- The report ring rebuilt from the persisted records of code 0x0905, oldest first (R517). -/
def reportsOf : Bytes → List Record → List Bytes → List Bytes
  | _, [], acc => acc
  | part, r :: rs, acc =>
    let b := part ++ r.raw.data
    if r.raw.flags / 4 % 2 = 1 then reportsOf b rs acc else reportsOf [] rs (b.take 96 :: acc)

def State.rebuildReports (s : State) : State :=
  let rs := (reportsOf [] (s.obs.plog.reverse.filter fun r => r.raw.code == 0x0905) []).take 4096
  { s with rel := { s.rel with reports := rs, reportSeq := (rs.head?.map fun b => (fld b 0 4 + 1) % 2 ^ 32).getD 1 } }

/-- Stage 6 ends: remaining domains, FW_READY, packs, reports, M4; ports come up in stage 7 (R296). -/
def State.selfTested (s : State) (ok : Bool) : State :=
  if !ok then s.bootFail 6 []
  else
    let s1 := ((List.range 96).filter s.wanted).foldl State.switchOn s
    let s2 := ((packsAt s1.phys.flash 104857 0x2600000).foldl State.copyPack s1).rebuildReports
    let s3 := { s2 with sec := { s2.sec with m4 := Config.sha384 ((s2.rel.packs.map fun (e : Nat × Bytes) => e.2.take 64).flatten) } }
    (s3.bootPorts.bootStatus fun d => { d with fwReady := true }).enterStage 7

/-! ## Stages 7 to 9 -/

/-- ANTI_ROLLBACK_ADVANCE (R540): bits up to the greater of the running security versions. -/
def State.advanceRollback (s : State) : State :=
  let v := 2 ^ (max s.sec.svn1 s.sec.svn2) - 1
  s.blow 61 [BitVec.ofNat 32 (v / 2 ^ 32), BitVec.ofNat 32 v]

/-- SERVICE is set; the first time after a boot the anti-rollback count advances (R540). -/
def State.setService (s : State) : State :=
  if s.dev.service then s else (s.bootStatus fun d => { d with service := true }).advanceRollback

/-- Time is as stage 8 asks: TRACK or HOLD reached, as standby the phase lock. -/
def State.timeReady (s : State) : Bool :=
  s.timeValid && (s.pair.standby || s.time.sel.st != .init)

/-- The last cycle of the time clock reached an epoch tick. -/
def State.onTick (s : State) : Bool :=
  s.timeValid && tickAtOrAfter s.sys.epoch (((s.svc : Int) - s.time.sel.runIncr).toNat + 1) ≤ s.svc

/-- One stage ends (R296); the active enters service at an epoch tick. A result that is not one of the stage's leaves the boot where it is. -/
def State.stageEnds (s : State) (r : StageResult) : State :=
  match s.dev.stage, r with
  | 0, .done => if 2 ≤ s.phys.straps.bootSel.toNat || s.phys.straps.testEn then s else s.enterStage 1
  | 1, .done => s.latchFuses []
  | 1, .fuses reads => s.latchFuses reads
  | 2, .image => s.stage1Image
  | 3, .image => s.firmwareImage
  | 4, .accessMap => s.writeMap
  | 5, .hbm ok => s.hbmTrained ok
  | 6, .bist ok => s.selfTested ok
  | 7, .done => if s.pair.claiming then s else s.enterStage 8
  | 8, .done => if s.timeReady then s.enterStage 9 else s
  | 9, .done => if s.active && !s.dev.service && s.onTick then s.setService else s
  | _, _ => s

/-- BOOT_STAGE_COMPLETE. -/
def execBootStageComplete (r : StageResult) (s : State) := finish s (
  if s.phys.porLow || s.dev.halted || s.phys.tripShutdown then s else s.stageEnds r)

/-! ## Resets (R500, R597, R603) -/

/-- POR_RELEASE: straps sampled; slot 0 takes its memory key, unless TEST_EN keeps the vault cleared (R549, R613). -/
def execPorRelease (straps : Straps) (s : State) := finish s (
  if !s.phys.porLow then s
  else
    let d := s.draw
    let s1 := { d.2 with phys := { d.2.phys with porLow := false, straps := straps }
                         sec := { d.2.sec with vault := if straps.testEn then [] else Tbl.set {} 0 { memKey := some d.1 } d.2.sec.vault } }
    s1.switchOn 81)

/-- What flash, fuses and regulators keep of reliability through every reset. -/
def RelState.kept (r : RelState) : RelState :=
  { fuses := r.fuses, rails := r.rails, marginLog := r.marginLog, marginSeq := r.marginSeq, series := r.series
    margins := Tbl.mapAll {} (fun (m : Margin) => { least := m.least }) r.margins }

/-- POR_N_ASSERT: a cold reset. Flash, fuses and regulator setpoints stay, and so do the other parts of the tray. -/
def execPorNAssert (s : State) := finish s (
  { State.reset with
    pending := s.pending
    free := s.free
    out := s.out
    dtcs := s.dtcs
    rel := s.rel.kept
    obs := { plog := s.obs.plog }
    dev := { pinned := s.dev.pinned, dtcPins := s.dev.dtcPins }
    phys := { flash := s.phys.flash }
    hbm := s.hbm.lost })

/-- Whole-chip reset (R500): the always-on domain runs on, PCIe stays up with its queue pairs disabled, stack 0 keeps last words; then stage 1. -/
def State.wholeChipReset (s : State) : State :=
  let r : State :=
    { State.reset with
      pending := s.pending
      free := s.free
      out := s.out
      dtcs := s.dtcs
      time := s.time
      sys := { s.sys with pendingEpoch := none, pendingProfile := [], lendSlowed := false, capSlowed := false, passed := [] }
      hub := { floor := profileFloor s.sys.profile }
      phys := s.phys
      hbm := s.hbm.lost
      rel := { s.rel.kept with repeats := s.rel.repeats }
      obs := { nextSeq := s.obs.nextSeq, early := s.obs.early, plog := s.obs.plog
               counts := s.obs.counts.filter fun e => engineIsland e.1 == 81, cycles := Tbl.set 0 81 (Tbl.get 0 81 s.obs.cycles) [] }
      sec := { vault := s.sec.vault, releases := s.sec.releases, lastSerial := s.sec.lastSerial, boots := s.sec.boots + 1 }
      dev := { scratch := s.dev.scratch, irqStatus := s.dev.irqStatus, irqEn := s.dev.irqEn, msix := s.dev.msix, pcieUp := s.dev.pcieUp, powerUps := s.dev.powerUps
               domains := 1#96 <<< 81, pinned := s.dev.pinned, dtcPins := s.dev.dtcPins }
      pair := { own := s.pair.own, partner := s.pair.partner, takeovers := s.pair.takeovers, lastTakeover := s.pair.lastTakeover
                partnerOid := s.pair.partnerOid, recovering := true } }
  (r.emit .chipReset).enterStage 1

/-! ## The thermal trip (R602, R603) -/

/-- What lies in the switched domains is lost (R279): queues and windows, ports and routes, models and groups, objects, trace and links. -/
def State.lost (s : State) : State :=
  { s with verbs := {}, net := {}, data := {}, sync := {}, hub := { floor := profileFloor s.sys.profile }, sinks := [], ports := [], hbm := s.hbm.lost
           pair := { s.pair with partnerUp := false, mirrored := false } }

/-- THERMAL_TRIP: 115 degC is 920 eighths. -/
def execThermalTrip (island : Fin 97) (s : State) := finish s (
  if s.phys.porLow then s
  else
    let s1 := if s.active && s.pair.partnerUp then s.emit (.notice .partnerLink) (s.notice 2 .partnerLink) else s
    let s2 := { s1.lost with
      sys := { s1.sys with tj := Tbl.set 0 island.val 920 s1.sys.tj, coolNs := none }
      phys := { s1.phys with tripped := true, tripShutdown := true, thermtrip := true } }
    let s3 := s2.bootStatus fun d => { d with domains := 0, reload := 0, powerUp := 0, fwReady := false, service := false }
    s3.emit (.thermtrip true))

/-- THERMTRIP_RELEASE: after 10 s at or below 95 degC. -/
def execThermtripRelease (s : State) := finish s (
  match s.sys.coolNs with
  | some n => if s.phys.thermtrip && n + 10000000000 ≤ s.now then
      ({ s with phys := { s.phys with thermtrip := false } }).emit (.thermtrip false) else s
  | none => s)

/-- TRIP_RAIL_RESTORE: the boot runs from stage 1 as after a whole-chip reset; last words are lost with the rails. -/
def execTripRailRestore (s : State) := finish s (
  if !s.phys.tripShutdown || s.phys.thermtrip then s
  else
    let r := ({ s with phys := { s.phys with tripShutdown := false } }).wholeChipReset
    { r with sec := { r.sec with boots := s.sec.boots }, pair := { r.pair with own := {}, partner := {} } })

end Sys2Proof.Machine
end

