-- ==== Sys2Proof/Machine/VerbTable.lean ====
section
/-! DEFINITION. The verbs of R133 by code, each with the body that its rows run. A sentence whose effect was withheld, that a staged set holds, or that
a new active completes, runs by its code. -/

namespace Sys2Proof.Machine
open Sys2Proof

/-- A verb and its body. -/
structure VerbRow where
  verb : Verb
  body : Sentence → State → State × Answer

def rows0 : List VerbRow :=
  [⟨vNop, nopBody⟩, ⟨vGetVersion, getVersionBody⟩, ⟨vGetCaps, getCapsBody⟩, ⟨vGetVerbCounters, getVerbCountersBody⟩,
   ⟨vSetTransport, setTransportBody⟩, ⟨vSetOid, setOidBody⟩]
def rows1 : List VerbRow :=
  [⟨vGetTime, getTimeBody⟩, ⟨vSetIncrement, setIncrementBody⟩, ⟨vPhaseAdd, phaseAddBody⟩, ⟨vSetTime, setTimeBody⟩,
   ⟨vSetDomainState, setDomainStateBody⟩, ⟨vSetSelection, setSelectionBody⟩, ⟨vGetSelection, getSelectionBody⟩,
   ⟨vSetAsymmetry, setAsymmetryBody⟩, ⟨vSetTrigger, setTriggerBody⟩, ⟨vGetTrigger, getTriggerBody⟩, ⟨vSetCapture, setCaptureBody⟩,
   ⟨vReadCaptures, readCapturesBody⟩, ⟨vSetFreqSource, setFreqSourceBody⟩, ⟨vSetPtpPort, setPtpPortBody⟩, ⟨vGetPtpPort, getPtpPortBody⟩]
def rows2 : List VerbRow :=
  [⟨vSetCounterSet, (configBody 0x0200)⟩, ⟨vReadCounters, readCountersBody⟩, ⟨vFreezeCounters, freezeCountersBody⟩,
   ⟨vSetReduction, (configBody 0x0203)⟩, ⟨vSetHistogram, (configBody 0x0204)⟩, ⟨vReadSensors, readSensorsBody⟩,
   ⟨vReadEventRing, readEventRingBody⟩, ⟨vReadHang, readHangBody⟩, ⟨vSetCheckValue, setCheckValueBody⟩, ⟨vScan, scanBody⟩]
def rows3 : List VerbRow :=
  [⟨vSetTraceSource, setTraceSourceBody⟩, ⟨vSetTraceSink, setTraceSinkBody⟩, ⟨vTraceFlush, traceFlushBody⟩,
   ⟨vGetTraceStatus, getTraceStatusBody⟩]
def rows4 : List VerbRow :=
  [⟨vGetLinkStatus, getLinkStatusBody⟩, ⟨vLinkRetrain, linkModeBody⟩, ⟨vLaneSwap, laneSwapBody⟩, ⟨vSetCompression, setCompressionBody⟩,
   ⟨vGetJournal, getJournalBody⟩]
def rows5 : List VerbRow :=
  [⟨vLoadModel, loadModelBody⟩, ⟨vUnloadModel, unloadModelBody⟩, ⟨vPlaceModel, placeModelBody⟩, ⟨vSetFeatureMap, setFeatureMapBody⟩,
   ⟨vOpenSequence, openSequenceBody⟩, ⟨vCloseSequence, closeSequenceBody⟩, ⟨vGetJobs, getJobsBody⟩, ⟨vGetModelStatus, getModelStatusBody⟩]
def rows6 : List VerbRow :=
  [⟨vGroupJoin, groupJoinBody⟩, ⟨vGroupLeave, groupLeaveBody⟩, ⟨vGroupFence, groupFenceBody⟩, ⟨vGroupSet, groupSetBody⟩,
   ⟨vGroupStatus, groupStatusBody⟩, ⟨vReadStragglers, readStragglersBody⟩, ⟨vSetBaseline, setBaselineBody⟩]
def rows7 : List VerbRow :=
  [⟨vRouteSet, routeSetBody⟩, ⟨vRouteGet, routeGetBody⟩, ⟨vPolicerSet, policerSetBody⟩, ⟨vQueueSet, queueSetBody⟩,
   ⟨vShaperSet, shaperSetBody⟩, ⟨vGateListSet, gateListSetBody⟩, ⟨vGateListGet, gateListGetBody⟩, ⟨vGetPortStatus, getPortStatusBody⟩]
def rows8 : List VerbRow :=
  [⟨vSyncInit, syncInitBody⟩, ⟨vSyncPost, syncPostAnyBody⟩, ⟨vSyncWait, syncWaitBody⟩, ⟨vSyncRead, syncReadBody⟩, ⟨vGetHang, getHangBody⟩,
   ⟨vForceFailover, forceFailoverBody⟩, ⟨vResetDtc, resetDtcBody⟩, ⟨vGetPairStatus, getPairStatusBody⟩]
def rows9 : List VerbRow :=
  [⟨vReadAgeing, readAgeingBody⟩, ⟨vRunMarginPlan, runMarginPlanBody⟩, ⟨vGetMargins, getMarginsBody⟩, ⟨vRunScreenPack, runScreenPackBody⟩,
   ⟨vReadSilentErrors, readSilentErrorsBody⟩, ⟨vPinBehaviour, pinBehaviourBody⟩, ⟨vGetFuseStatus, getFuseStatusBody⟩]
def rowsA : List VerbRow :=
  [⟨vGetAttestation, getAttestationBody⟩, ⟨vKeyReleaseBegin, keyReleaseBeginBody⟩, ⟨vKeyInstall, keyInstallBody⟩,
   ⟨vKeyRevoke, keyRevokeBody⟩, ⟨vDebugAuthorise, debugAuthoriseBody⟩, ⟨vGetAccessMap, getAccessMapBody⟩]
def rowsB : List VerbRow :=
  [⟨vReadSelfCounters, readSelfCountersBody⟩, ⟨vFreeze, freezeBody⟩, ⟨vReadRecords, readRecordsBody⟩, ⟨vCheckValue, checkValueBody⟩,
   ⟨vCompress, compressBody_⟩]
def rowsC : List VerbRow :=
  [⟨vGetProfile, getProfileBody⟩, ⟨vSetProfile, setProfileBody⟩, ⟨vGetEpoch, getEpochBody⟩, ⟨vSetEpoch, setEpochBody⟩]
def rowsF : List VerbRow :=
  [⟨vStage, stageBody⟩, ⟨vCommit, commitBody⟩, ⟨vDiscard, discardBody⟩, ⟨vGetStaged, getStagedBody⟩]

/-- The whole table. -/
def verbTable : List VerbRow :=
  rows0 ++ rows1 ++ rows2 ++ rows3 ++ rows4 ++ rows5 ++ rows6 ++ rows7 ++ rows8 ++ rows9 ++ rowsA ++ rowsB ++ rowsC ++ rowsF

def rowOf (code : Nat) : Option VerbRow := verbTable.find? fun r => r.verb.code == code

/-- The body of a code; none of R133 answers ST_UNKNOWN_VERB. -/
def bodyOf (code : Nat) : Sentence → State → State × Answer :=
  match rowOf code with
  | some r => r.body
  | none => fun _ s => (s, .final St.unknownVerb)

end Sys2Proof.Machine
end

