-- ==== Sys2Proof/Machine/Staging.lean ====
section
/-! DEFINITION. Committed sets at preparation and at their tick (R113 to R116). -/

namespace Sys2Proof.Machine
open Sys2Proof

/-- A collection change at a standby: noted, and forwarded by the active alone. -/
def State.noteConfig (s : State) (code : Nat) (x : Sentence) : State :=
  (s.addressed x).foldl (fun t p => t.onPort p fun a => (a.configured (changeOf code x)).keepSet code x) s

/-- What a change of a set does at its tick; the collection changes of the set are checked together (R186). One that the access map denied does nothing and answers as a permitted one (R109). -/
def stagedBody (set : List (Nat × Sentence)) (code : Nat) (x : Sentence) (s : State) : State × Answer :=
  if 0x10000 ≤ code then
    (s, .final St.ok (zeros (((findTag s.verbs.tags x.req x.tag).bind fun e => (rowOf e.verb).map fun r => r.verb.zeroLen .agg x).getD 0)))
  else match code with
    | 0x0501 => unloadApplyBody x s
    | 0x0502 => placeApplyBody x s
    | 0x0503 => mapChunkBody true x s
    | _ =>
      if code / 256 = 2 then (if s.pair.standby then (s.noteConfig code x, .final St.ok) else s.configAll code x set)
      else bodyOf code x s

/-- The status with which an answer refuses; 0 where it does not. -/
def refusal : Answer → Nat
  | .final st _ => st
  | .finalAt st _ _ => st
  | _ => St.ok

/-- The changes run in staging order against the state that each one meets: their refusals (R114). -/
def dryRun (set : List (Nat × Sentence)) (s : State) : List (Nat × Sentence) → List Nat
  | [] => []
  | c :: cs => let r := stagedBody set c.1 c.2 s; refusal r.2 :: dryRun set r.1 cs

/-- The number of a ticket's gather takes the tick of its staged change (R98). -/
def State.stampGather (s : State) (k : Ticket) (cs : Nat) : State :=
  { s with verbs := { s.verbs with gathers := s.verbs.gathers.map fun g => if g.ticket == k then { g with tickCs := some cs } else g } }

/-- One change takes effect at tick t; one that DTCs carry out ends with their replies, with the tick as CSTAMP all the same (R98, R184). -/
def State.applyStaged (set : List (Nat × Sentence)) (t : Nat) (s : State) (c : Nat × Sentence) : State :=
  let r := stagedBody set c.1 c.2 s
  match r.2 with
  | .final st res => r.1.finalAt .agg c.2.ticket st res (cstampOf true t)
  | .finalAt st res _ => r.1.finalAt .agg c.2.ticket st res (cstampOf true t)
  | _ => r.1.stampGather c.2.ticket (cstampOf true t)

/-- A refused change takes its own status, every other ST_STATE, with the instant of the decision (R98, R114). -/
def State.refuseStaged (s : State) (c : (Nat × Sentence) × Nat) : State :=
  (s.dropStaged c.1.1 c.1.2).final .agg c.1.2.ticket (if c.2 = St.ok then St.state else c.2)

/-- COMMIT's results: the tick, the changes applied, the first refused change and its status. -/
def commitResults (tick : Stamp) (applied index st : Nat) : Bytes := stampBytes tick ++ be 2 applied ++ be 2 index ++ be 2 st ++ zeros 2

/-- No change of the set is applied: each ends, and COMMIT names the first refused one (R114). Such a set has no effective tick: its stamp is zero
(DESIGN CHOICE, log entry 69). -/
def State.refuseSet (s : State) (c : CommitWait) (sts : List Nat) : State :=
  let i := (sts.findIdx? (· != St.ok)).getD 0
  ((c.set.changes.zip sts).foldl State.refuseStaged s).final .agg c.ticket St.state (commitResults Stamp.zero 0 i (sts.getD i 0))

/-- STAGED_SET_PREPARED: a set with a refused change ends here (R114). -/
def execStagedSetPrepared (r : Requester) (s : State) := finish s (
  let g := s.stagingOf r
  match g.committed with
  | some c =>
    let sts := dryRun c.set.changes s c.set.changes
    if c.prepared.isSome then s
    else if sts.any (· != St.ok) then (s.setStaging r { g with committed := none }).refuseSet c sts
    else s.setStaging r { g with committed := some { c with prepared := some (s.now, sts) } }
  | none => s)

/-- The tick of a committed set, once reached (R113). -/
def State.commitTick (s : State) (c : CommitWait) : Option Nat :=
  match c.prepared with
  | none => none
  | some p =>
    if !s.timeValid then none
    else
      let t := tickAtOrAfter s.sys.epoch (max (max (s.svcAt (c.accepted + 2000)) (s.svcAt p.1)) c.notBefore)
      if t ≤ s.svc then some t else none

/-- A set of a requester of lower index is due at the same tick and comes first (R118). -/
def State.setBefore (s : State) (r : Requester) (t : Nat) : Bool :=
  s.verbs.staging.any fun e => e.1 < reqKey r && match e.2.committed with
    | some c => s.commitTick c == some t
    | none => false

/-- STAGED_SET_APPLY: all changes, or none. What the set meets may have changed since its preparation, so it is checked once more (log entry 69). -/
def execStagedSetApply (r : Requester) (s : State) := finish s (
  let g := s.stagingOf r
  match g.committed with
  | none => s
  | some c => match s.commitTick c with
    | none => s
    | some t =>
      let s0 := s.setStaging r { g with committed := none }
      let sts := dryRun c.set.changes s0 c.set.changes
      if s.setBefore r t then s
      else if sts.any (· != St.ok) then s0.refuseSet c sts
      else
        (c.set.changes.foldl (State.applyStaged c.set.changes t) s0).finalAt .agg c.ticket St.ok
          (commitResults (stampOf t s.svcFlags) c.set.changes.length 0xFFFF 0) (cstampOf true t))

end Sys2Proof.Machine
end

