-- ==== Sys2Proof/Machine/Mirror.lean ====
section
/-! DEFINITION. The mirror stream as the standby takes it, and the sections of a checkpoint copy (R489 to R493). A section of a copy is a run of items
(type, length, body); an item of a type below 16 has the body of the mirror entry of that type. -/

namespace Sys2Proof.Machine
open Sys2Proof

/-- The requester of a number of `reqKey`. -/
def requesterOfKey (k : Nat) : Requester :=
  if h : k < 64 then .qp ⟨k, h⟩
  else if k = 64 then .partner
  else if k < 65 + 2 ^ 32 then .eth (BitVec.ofNat 32 (k - 65))
  else if h : k - (65 + 2 ^ 32) < 64 then .dtcPort ⟨k - (65 + 2 ^ 32), h⟩
  else .pair

/-- The sentence of mirrored bytes. -/
def mirroredSentence (req : Requester) (b : Bytes) : Nat × Sentence := (fld b 2 2, parseSentence .agg req (b.take 32) (b.drop 32))

/-! ## What the standby executes (R130, R368, R407, R453, R529) -/

/-- Verbs that the standby executes as the active does: classes 0x05 to 0x07 and the settings that R130 carries. -/
def carried (code : Nat) (x : Sentence) : Bool :=
  (5 ≤ code / 256 && code / 256 ≤ 7) || [0x0104, 0x0105, 0x010C].contains code || (code == 0x0301 && x.subunit != 0) ||
    (code == 0x0905 && x.subunit == 0)

/-- Run a sentence here without a word to anyone, and what its final reply would be. -/
def State.silently (s : State) (code : Nat) (x : Sentence) : State × Option Reply :=
  let y := { x with flags := x.flags &&& 0xFE }
  let e : TagEntry := { x := y, verb := code, phase := .running, since := s.now, startCs := s.cs }
  let r := bodyOf code y { s with verbs := { s.verbs with tags := [e] } }
  let reply : Option Reply := match r.2 with
    | .final st res => some ⟨st, res, r.1.cs⟩
    | .finalAt st res c => some ⟨st, res, c⟩
    | .done => (findTag r.1.verbs.tags y.req y.tag).bind (·.reply)
    | _ => none
  ({ r.1 with out := s.out, verbs := { r.1.verbs with tags := s.verbs.tags } }, reply)

def Mirrored.is (m : Mirrored) (req : Requester) (tag : Word) : Bool := m.x.req == req && m.x.tag == tag
def State.setAccepted (s : State) (l : List Mirrored) : State := { s with pair := { s.pair with accepted := l } }
def State.onAccepted (s : State) (req : Requester) (tag : Word) (f : Mirrored → Mirrored) : State :=
  s.setAccepted (s.pair.accepted.map fun m => if m.is req tag then f m else m)

/-! ## Entries by type -/

/-- Type 1: a request enters the active request table and its context's job count; type 2: it leaves. -/
def State.applyRequest (s : State) (b : Bytes) : State :=
  let i := fld b 0 2
  let h := sub b 16 32
  let c := rqTenant h
  let e : ReqEntry := { req := requesterOfKey (fld b 10 5), port := byteAt b 15, header := h, payload := b.drop 48, buf := none
                        model := modelNum c (rqModel h), order := fld b 2 8 }
  let s1 := { s with data := { s.data with requests := Tbl.insert i e s.data.requests, orderNext := max s.data.orderNext (e.order + 1)
                                           jobs := Tbl.set 0 c ((Tbl.get 0 c s.data.jobs + 1) % 2 ^ 64) s.data.jobs } }
  if rqSeq h then let j := fld h 12 4 % 65536; s1.setSeq j { s1.seq j with order := (s1.seq j).order ++ [i] } else s1

def State.applyCompletion (s : State) (b : Bytes) : State :=
  let i := fld b 0 2
  match s.reqEntry i with
  | none => s
  | some e =>
    let j := fld b 4 4 % 65536
    let s1 := { s with data := { s.data with requests := Tbl.erase i s.data.requests } }
    let q := s1.seq j
    let s2 := if rqSeq e.header then s1.setSeq j { q with order := q.order.filter (· != i), steps := fld b 8 8, state := sub b 16 256 } else s1
    (if rqSeq e.header then s2.settleSeq j else s2).sweepModel e.model

/-- Type 3: a sentence accepted; one of the carried verbs has its effect here at once. -/
def State.applySentence (s : State) (b : Bytes) : State :=
  let m := mirroredSentence (requesterOfKey (fld b 0 5)) (b.drop 9)
  if m.2.req == .pair then s
  else
  let r := if fld b 5 4 = 0 && carried m.1 m.2 then s.silently m.1 m.2 else (s, none)
  r.1.setAccepted (r.1.pair.accepted ++ [⟨m.1, m.2, fld b 5 4, fld b 5 4 == 0 && carried m.1 m.2, r.2⟩])

/-- The type-4 entry of a SET_PROFILE or SET_EPOCH that the active has accepted (R38): the change itself, with the service instant from which its tick
is looked for. The part that carried the sentence to its active gives its requester the active's ST_ACCEPTED (R130). -/
def State.applyCarried (s : State) (req : Requester) (tag : Word) (b : Bytes) : State :=
  let mine := if req == .partner then
      s.verbs.tags.find? fun e => e.x.tag == tag && e.phase == .running && e.verb == fld b 0 2 else none
  let s1 := match mine with
    | some e => s.acceptedAt e.x e.buf (fld b 2 8)
    | none => s
  let k : Ticket := (mine.map (·.x.ticket)).getD ⟨req, tag⟩
  if fld b 0 2 = 0x0C01 then
    match Profile.ofCode (byteAt b 10) with
    | some p =>
      let s2 := { s1 with sys := { s1.sys with pendingProfile := s1.sys.pendingProfile ++ [⟨p, s.now + 2000, fld b 11 16, k⟩] } }
      if s.sys.profile == .h then s2 else s2.yieldLend
    | none => s1
  else { s1 with sys := { s1.sys with pendingEpoch := some ⟨fld b 10 4, fld b 14 8, (s1.sys.pendingEpoch.map (·.tickets)).getD [] ++ [k]⟩ } }

/-- Type 4: the effect of a sentence, with the final reply it implies where that is known. -/
def State.applyEffect (s : State) (b : Bytes) : State :=
  let req := requesterOfKey (fld b 0 5)
  let tag := BitVec.ofNat 32 (fld b 5 4)
  let m := s.pair.accepted.find? fun m => m.is req tag
  if (m.map (·.verb)) == some 0x0C01 || (m.map (·.verb)) == some 0x0C03 then
    (s.onAccepted req tag fun m => { m with effect := true }).applyCarried req tag (b.drop 9)
  else s.onAccepted req tag fun m =>
    { m with effect := true, reply := if m.reply.isSome || b.length < 11 then m.reply else some ⟨fld b 9 2, b.drop 11, 0⟩ }

/-- Type 5: a final reply. For a sentence that this part carried to its partner, it is that sentence's own. -/
def State.applyTag (s : State) (b : Bytes) : State :=
  let req := requesterOfKey (fld b 0 5)
  let r := b.drop 5
  let tag := BitVec.ofNat 32 (fld r 0 4)
  let reply : Reply := ⟨fld r 4 2, r.drop 16, fld r 8 8⟩
  let s1 := s.setAccepted (s.pair.accepted.filter fun m => !m.is req tag)
  let mine := if req == .partner then s1.verbs.tags.find? fun e => e.x.tag == tag && e.phase == .running && [0x0C01, 0x0C03, 0x0A04].contains e.verb else none
  match mine with
  | some e => s1.finalAt .agg e.x.ticket reply.status reply.results reply.cstamp
  | none =>
    let x : Sentence := ⟨.agg, req, 0, tag, s.pair.partnerOid, 0, 0, []⟩
    let y := ((s.pair.accepted.find? fun m => m.is req tag).map fun m => (m.verb, m.x)).getD (0, x)
    let e : TagEntry := { x := y.2, verb := y.1, phase := .done, since := s.now, startCs := s.cs, reply := some reply }
    { s1 with verbs := { s1.verbs with tags := e :: s1.verbs.tags.filter fun d => !d.is req tag } }

/-- The object of a record of R471, with the waiters it had. -/
def objectOf (b : Bytes) (hseq : Nat) (waiters : List Waiter) : SyncObject :=
  { count := fld b 0 4, limit := fld b 4 4, level := fld b 8 4, producer := fld b 12 2, consumer := fld b 14 2
    producerOid := BitVec.ofNat 32 (fld b 16 4), ctx := fld b 20 2, vector := fld b 22 2, inited := byteAt b 26 % 2 == 1
    faulted := byteAt b 26 / 2 % 2 == 1, hseq := hseq, waiters := waiters.drop (waiters.length - fld b 24 2) }

/-- Type 6: a sync change. The sentence of the last type-3 entry tells whose wait it is; a doorbell post's SEQ settles the write held here. -/
def State.applySync (s : State) (b : Bytes) : State :=
  let i := fld b 0 4
  let r := sub b 4 32
  if b.length = 37 then
    let seq := byteAt b 36
    let s1 := { s with sync := { s.sync with heldPosts := s.sync.heldPosts.filter fun h => !(h.object == i && h.seq == seq) } }
    s1.setObject i (objectOf r seq (s1.object i).waiters)
  else
    let last := s.pair.accepted.reverse.find? fun m => m.verb / 256 == 8 && m.x.f 0 4 == i && !m.effect
    let s1 := match last with
      | some m =>
        let q := s.silently m.verb m.x
        q.1.onAccepted m.x.req m.x.tag fun m => { m with effect := true, reply := q.2 }
      | none => s
    s1.setObject i (objectOf r (byteAt r 27) (s1.object i).waiters)

/-- Type 7: staged sets (R116). -/
def State.applySet (s : State) (b : Bytes) : State :=
  let num := fld b 0 4
  let req := requesterOfKey (fld b 5 5)
  let code := fld b 10 4
  let m := mirroredSentence req (b.drop 14)
  let g := s.stagingOf req
  let s0 := { s with verbs := { s.verbs with setNumber := max s.verbs.setNumber (num + 1) } }
  match byteAt b 4 with
  | 0 => match g.opened with
    | some o => o.changes.foldl (fun t c => t.dropStaged c.1 c.2) (s0.setStaging req { g with opened := none })
    | none => s0
  | 1 => match g.opened with
    | some o =>
      let nb := stampAt m.2.params 0
      s0.setStaging req { g with opened := none, committed := some ⟨o, m.2.ticket, s.now, if nb = Stamp.zero then 0 else ofStamp nb, none⟩ }
    | none => s0
  | 2 =>
    let o := g.opened.getD ⟨num, [], s.now⟩
    (s0.setStaging req { g with opened := some { o with changes := o.changes ++ [(code, m.2)], last := s.now } }).stagePlace m.2
  | _ => s0.setStaging req { g with opened := some ⟨num, [], s.now⟩ }

/-- A sequence table entry: index, generation, open, model, port (255 none), step count, state. -/
def seqItem (i : Nat) (e : SeqEntry) : Bytes :=
  be 2 i ++ be 2 e.gen ++ be 1 (if e.isOpen then 1 else 0) ++ be 4 e.model ++ be 1 (e.port.getD 255) ++ be 8 e.steps ++ e.state

def State.applySeq (s : State) (b : Bytes) : State :=
  let i := fld b 0 2
  s.setSeq i { s.seq i with gen := fld b 2 2, isOpen := byteAt b 4 == 1, model := fld b 5 4
                            port := if byteAt b 9 = 255 then none else some (byteAt b 9), steps := fld b 10 8, state := b.drop 18 }

/-- The items of a run: type and body (fuel: the bytes). -/
def itemsOf : Nat → Bytes → List (Nat × Bytes)
  | 0, _ => []
  | n + 1, b => if b.length < 5 then [] else (byteAt b 0, sub b 5 (fld b 1 4)) :: itemsOf n (b.drop (5 + fld b 1 4))

def item (typ : Nat) (b : Bytes) : Bytes := be 1 typ ++ be 4 b.length ++ b

/-! ### Items of sections only -/

/-- A waiter of object i. -/
def waiterItem (i : Nat) (w : Waiter) : Bytes :=
  be 4 i ++ be 2 w.agent ++ be 4 w.oid.toNat ++ be 4 w.n ++ be 8 w.since ++ be 4 w.timeoutUs ++ be 5 (reqKey w.ticket.req) ++ be 4 w.ticket.tag.toNat ++ be 2 w.ctx

def State.applyWaiter (s : State) (b : Bytes) : State :=
  let o := s.object (fld b 0 4)
  let w : Waiter := ⟨fld b 4 2, BitVec.ofNat 32 (fld b 6 4), fld b 10 4, s.now, fld b 22 4, ⟨requesterOfKey (fld b 26 5), BitVec.ofNat 32 (fld b 31 4)⟩, fld b 35 2⟩
  s.setObject (fld b 0 4) { o with waiters := o.waiters ++ [w] }

/-- Slots of a placement. -/
def slotItem (q : SlotPlace) : Bytes := be 2 q.pos ++ be 1 q.bank ++ be 1 q.slot ++ be 2 q.len ++ be 4 q.tree
def slotsAt : Nat → Bytes → List SlotPlace
  | 0, _ => []
  | n + 1, b => ⟨fld b 0 2, byteAt b 2, byteAt b 3, fld b 4 2, fld b 6 4⟩ :: slotsAt n (b.drop 10)

/-- A model with its pages, its map and its placement. -/
def modelItem (k : Nat) (m : Model) : Bytes :=
  let p := m.place.getD { slots := [] }
  be 4 k ++ be 1 m.st ++ be 4 m.image.length ++ m.image ++ be 4 m.map.length ++ m.map ++ be 1 (if m.place.isSome then 1 else 0) ++ be 8 p.mask ++
    be 1 p.replicas ++ be 1 p.mode ++ be 2 p.intervalMs ++ be 4 p.seqBase ++ be 4 p.slots.length ++ (p.slots.map slotItem).flatten

/-- A merge section only adds what is not there (R492). -/
def State.applyModel (s : State) (b : Bytes) : State :=
  let k := fld b 0 4
  if s.model k != {} then s
  else
    let img := sub b 9 (fld b 5 4)
    let b1 := b.drop (9 + img.length)
    let map := sub b1 4 (fld b1 0 4)
    let b2 := b1.drop (4 + map.length)
    let m : Model := { st := if byteAt b2 0 = 1 then 4 else 2, image := img, map := map }
    let s := (s.setModel k m).storeImage k 0 img
    let m := s.model k
    if byteAt b2 0 = 0 then s
    else
      let p : Placement := { mask := fld b2 1 8, replicas := byteAt b2 9, mode := byteAt b2 10, intervalMs := fld b2 11 2, seqBase := fld b2 13 4
                             slots := slotsAt (fld b2 17 4) (b2.drop 21) }
      (s.takeSlots k p (if p.mode = 1 then 1 else if mdKind img = 1 then 2 else 0)).setModel k { m with place := some p, scannedAt := s.now }

/-- A reduction group as the receiver takes it from its partner (R435). -/
def groupItem (i : Nat) (g : Group) : Bytes :=
  be 4 i ++ be 1 g.gen ++ be 1 (if g.joined then 1 else 0) ++ be 2 g.pos ++ be 4 g.config.length ++ g.config ++
    (g.neighbours.map fun n => be 2 n.pos ++ be 1 n.rel ++ be 1 n.level ++ be 4 n.oid.toNat ++ be 4 n.oid2.toNat).flatten

def neighboursIn : Nat → Bytes → List Neighbour
  | 0, _ => []
  | n + 1, b => if b.length < 12 then [] else
      ⟨fld b 0 2, byteAt b 2, byteAt b 3, BitVec.ofNat 32 (fld b 4 4), BitVec.ofNat 32 (fld b 8 4)⟩ :: neighboursIn n (b.drop 12)

def State.applyGroupItem (s : State) (b : Bytes) : State :=
  let i := fld b 0 4
  if s.hasGroup i then s
  else
    let cfg := sub b 12 (fld b 8 4)
    s.setGroup i { gen := byteAt b 4, joined := byteAt b 5 == 1, pos := fld b 6 2, config := cfg, neighbours := neighboursIn b.length (b.drop (12 + cfg.length)) }

/-! ### Reduction accumulators (R25, R492) -/

/-- A fold as a section carries it. -/
def foldItem (f : Fold) : Bytes :=
  let k := f.counts
  ([k.counted, k.missing, k.exclConfig, k.exclVersion, k.suspect, k.late, k.invalid, k.named].map (be 4)).flatten ++ be 1 (if k.cut then 1 else 0) ++
    be 1 f.maxLevel ++ be 2 f.offsets.length ++ (f.offsets.map fun o => be 2 o.1 ++ be 8 (ofSigned 64 o.2)).flatten ++ be 4 f.section_.length ++ f.section_

/-- The offsets of a fold. -/
def offsetsAt : Nat → Bytes → List (Nat × Int)
  | 0, _ => []
  | n + 1, b => (fld b 0 2, sfld64 b 2) :: offsetsAt n (b.drop 10)

def foldAt (b : Bytes) : Fold :=
  let n := fld b 34 2
  let c := b.drop (36 + 10 * n)
  { counts := { counted := fld b 0 4, missing := fld b 4 4, exclConfig := fld b 8 4, exclVersion := fld b 12 4, suspect := fld b 16 4, late := fld b 20 4
                invalid := fld b 24 4, named := fld b 28 4, cut := byteAt b 32 == 1 }
    maxLevel := byteAt b 33, offsets := offsetsAt n (b.drop 36), section_ := sub c 4 (fld c 0 4) }

/-- A close in flight: its group and instants, its state, what it has so far. -/
def closeItem (i : Nat) (c : Close) : Bytes :=
  let block (b : Bytes) : Bytes := be 4 b.length ++ b
  be 4 i ++ be 8 c.index ++ be 16 c.instant ++ be 16 c.since ++ be 1 c.gen ++ be 1 c.level ++
    be 1 ((if c.early then 1 else 0) + (if c.timeReport then 2 else 0) + (if c.passTwo then 4 else 0) + (if c.finalList.isSome then 8 else 0) +
      (if c.own.isSome then 16 else 0) + (if c.applied then 32 else 0)) ++
    block c.config ++ block (c.neighbours.map fun n => be 2 n.pos ++ be 1 n.rel ++ be 1 n.level ++ be 4 n.oid.toNat ++ be 4 n.oid2.toNat).flatten ++
    block c.summary ++ block c.payload ++ block (c.finalList.getD []) ++ block (foldItem (c.own.getD {})) ++
    block (c.keys.map fun k => be 2 k.1 ++ be 8 (ofSigned 64 k.2)).flatten

/-- A node of a close, and a fold that has arrived at one. -/
def nodeItem (i : Nat) (c : Close) (n : NodeFold) : Bytes :=
  be 4 i ++ be 16 c.instant ++ be 1 n.pass ++ be 1 n.level ++ be 1 (if n.done then 1 else 0) ++ foldItem n.result
def arrivedItem (i : Nat) (c : Close) (n : NodeFold) (a : Nat × Fold) : Bytes :=
  be 4 i ++ be 16 c.instant ++ be 1 n.pass ++ be 1 n.level ++ be 2 a.1 ++ foldItem a.2

/-- The close keys of dies. -/
def keysAt : Nat → Bytes → Tbl Int
  | 0, _ => []
  | n + 1, b => if b.length < 10 then [] else (fld b 0 2, sfld64 b 2) :: keysAt n (b.drop 10)

def State.applyClose (s : State) (b : Bytes) : State :=
  let i := fld b 0 4
  let flags := byteAt b 46
  let next (b : Bytes) : Bytes × Bytes := (sub b 4 (fld b 0 4), b.drop (4 + fld b 0 4))
  let cfg := next (b.drop 47)
  let nb := next cfg.2
  let sum := next nb.2
  let pay := next sum.2
  let fin := next pay.2
  let own := next fin.2
  let keys := next own.2
  let c : Close :=
    { index := fld b 4 8, instant := fld b 12 16, since := fld b 28 16, gen := byteAt b 44, level := byteAt b 45
      early := flags % 2 == 1, timeReport := flags / 2 % 2 == 1, passTwo := flags / 4 % 2 == 1, applied := flags / 32 % 2 == 1
      config := cfg.1, neighbours := neighboursIn nb.1.length nb.1, summary := sum.1, payload := pay.1
      finalList := if flags / 8 % 2 = 1 then some fin.1 else none, own := if flags / 16 % 2 = 1 then some (foldAt own.1) else none
      keys := keysAt keys.1.length keys.1 }
  let g := s.group i
  s.setGroup i { g with closes := g.closes.filter (fun d => d.instant != c.instant) ++ [c] }

def State.applyNode (s : State) (b : Bytes) : State :=
  let g := s.group (fld b 0 4)
  match g.closes.find? fun c => c.instant == fld b 4 16 with
  | none => s
  | some c =>
    let n := c.node (byteAt b 20) (byteAt b 21)
    s.setGroup (fld b 0 4) (g.setClose (c.setNode { n with done := byteAt b 22 == 1, result := foldAt (b.drop 23) }))

def State.applyArrived (s : State) (b : Bytes) : State :=
  let g := s.group (fld b 0 4)
  match g.closes.find? fun c => c.instant == fld b 4 16 with
  | none => s
  | some c =>
    let n := c.node (byteAt b 20) (byteAt b 21)
    s.setGroup (fld b 0 4) (g.setClose (c.setNode { n with arrived := n.arrived ++ [(fld b 22 2, foldAt (b.drop 24))] }))

/-- Forwarding tags of a port (R126): the next one. -/
def State.applyFtag (s : State) (b : Bytes) : State :=
  { s with verbs := { s.verbs with nextFtag := Tbl.set 1 (byteAt b 0) (fld b 1 8) s.verbs.nextFtag } }

/-- A forwarding tag in use: the standby's own next tag lies after it, and a counter set that
passed decodes bodies here too (R183). The entry of a sentence that the active made itself gives the port as SUBUNIT. -/
def State.noteFtag (s : State) (b : Bytes) : State :=
  let m := mirroredSentence (requesterOfKey (fld b 0 5)) (b.drop 9)
  if fld b 5 4 = 0 then s
  else
    let q := if h : m.2.req = .pair ∧ 1 ≤ m.2.subunit.toNat ∧ m.2.subunit.toNat ≤ 64 then some (⟨m.2.subunit.toNat - 1, by omega⟩ : Fin 64) else s.dtcOf m.2.target
    match q with
    | some p => { s.onPort p (fun a => a.keepSet m.1 m.2) with verbs := { s.verbs with nextFtag := Tbl.set 1 p.val (max (Tbl.get 1 p.val s.verbs.nextFtag) (fld b 5 4 + 1)) s.verbs.nextFtag } }
    | none => s

/-- A key of the vault (R553): the receiver keeps its own memory key. -/
def State.applyKey (s : State) (b : Bytes) : State := s.installKey (fld b 9 2) (BitVec.ofNat 32 (fld b 11 4)) (b.drop 15)

/-- Apply one entry or item. -/
def State.applyItem (s : State) (typ : Nat) (b : Bytes) : State :=
  match typ with
  | 1 => s.applyRequest b
  | 2 => s.applyCompletion b
  | 3 => (s.applySentence b).noteFtag b
  | 4 => s.applyEffect b
  | 5 => s.applyTag b
  | 6 => s.applySync b
  | 7 => s.applySet b
  | 8 => (chunks 274 (b.drop 1)).foldl State.applySeq s
  | 16 => s.applyWaiter b
  | 17 => s.applySeq b
  | 18 => s.applyFtag b
  | 19 => { s with data := { s.data with jobs := Tbl.set 0 (fld b 0 2) (fld b 2 8) s.data.jobs } }
  | 20 => s.applyModel b
  | 21 => s.applyGroupItem b
  | 22 => s.setAccepted (s.pair.accepted ++ [let m := mirroredSentence (requesterOfKey (fld b 0 5)) (b.drop 9); ⟨m.1, m.2, fld b 5 4, false, none⟩])
  | 23 => s.applyClose b
  | 24 => s.applyNode b
  | 25 => s.applyArrived b
  | _ => s

/-! ## The sections of a copy (R492) -/

/-- 0 sync table, 1 active request table, 2 active sequence table, 3 reduction accumulators, 4 staged sets with waiting commits, 5 forwarding tags and
sentences in flight, 6 job counters, 7 tag store, 9 model store pages and feature maps with placements and groups. -/
def State.section_ (s : State) (n : Nat) : Bytes :=
  match n with
  | 0 => (s.sync.objects.map fun e => item 6 (be 4 e.1 ++ e.2.record) ++ (e.2.waiters.map fun w => item 16 (waiterItem e.1 w)).flatten).flatten
  | 1 => (s.data.requests.map fun e => if e.2.resp.isSome then [] else
      item 1 (be 2 e.1 ++ be 8 e.2.order ++ be 5 (reqKey e.2.req) ++ be 1 e.2.port ++ e.2.header ++ e.2.payload)).flatten
  | 2 => (s.data.seqs.map fun e => item 17 (seqItem e.1 e.2)).flatten
  | 3 => (s.data.groups.map fun e => (e.2.closes.map fun c => item 23 (closeItem e.1 c) ++ (c.nodes.reverse.map fun n =>
      item 24 (nodeItem e.1 c n) ++ (n.arrived.map fun a => item 25 (arrivedItem e.1 c n a)).flatten).flatten).flatten).flatten
  | 4 => (s.verbs.staging.map fun e =>
      let changes (g : StageSet) : Bytes := (g.changes.map fun c => item 7 (setEntry g.num 2 c.2 c.1)).flatten
      (match e.2.committed with
       | some c => changes c.set ++ item 7 (setEntry c.set.num 1 ⟨.agg, c.ticket.req, 0, c.ticket.tag, 0, 0, 0,
           stampBytes (if c.notBefore = 0 then Stamp.zero else stampOf c.notBefore 0)⟩ 0x0F01)
       | none => []) ++
      (match e.2.opened with
       | some g => be 1 7 ++ be 4 14 ++ be 4 g.num ++ be 1 3 ++ be 5 e.1 ++ be 4 0x0F00 ++ changes g
       | none => [])).flatten
  | 5 => (s.verbs.nextFtag.map fun e => item 18 (be 1 e.1 ++ be 8 e.2)).flatten ++
      (s.verbs.tags.reverse.map fun e => if e.reply.isSome then [] else
        item 22 (acceptedEntry e.verb e.x (match e.phase with | .forwarded _ f => f | _ => 0))).flatten
  | 6 => (s.data.jobs.map fun e => item 19 (be 2 e.1 ++ be 8 e.2)).flatten
  | 7 => (s.verbs.tags.reverse.map fun e => match e.reply with
      | some r => item 5 (be 5 (reqKey e.x.req) ++ replyBytes e.x.tag r.status r.results r.cstamp)
      | none => []).flatten
  | 9 => (s.data.models.map fun e => if e.2.st = 2 || e.2.st = 3 || e.2.st = 4 then item 20 (modelItem e.1 e.2) else []).flatten ++
      (s.data.groups.map fun e => item 21 (groupItem e.1 e.2)).flatten
  | _ => []

/-- The sections that replace what the receiver holds, and those that only add. -/
def replacing : List Nat := [0, 1, 2, 3, 4, 5, 6]
def merging : List Nat := [7, 9]

/-- The digest of a section: the check value of the 64-bit configuration (R201). -/
def State.digestOf (s : State) (n : Nat) : BitVec 64 := BitVec.ofNat 64 (crc64 (s.section_ n))

/-- The live regions that a copy replaces, emptied before its sections take their place. -/
def State.clearLive (s : State) : State :=
  { s with sync := { s.sync with objects := [] }
           verbs := { s.verbs with staging := [], nextFtag := [] }
           data := { s.data with requests := [], seqs := [], jobs := [], groups := Tbl.mapAll {} (fun (g : Group) => { g with closes := [] }) s.data.groups }
           pair := { s.pair with accepted := [] } }

/-- Make a section live; the job counts of its own section stand. -/
def State.applySection (s : State) (_n : Nat) (b : Bytes) : State := (itemsOf b.length b).foldl (fun t i => t.applyItem i.1 i.2) s

/-! ## Receiving (R489, R492, R493) -/

def emHeader (e : Bytes) : Nat × Nat × Nat := (fld e 0 8, fld e 8 4, byteAt e 12)
def entryBody (e : Bytes) : Bytes := sub e 16 (fld e 14 2)

/-- Acknowledge the highest entry applied (type 11). -/
def State.acknowledge (s : State) : State :=
  s.emit (.mirror s.pair.mseqApplied 11) (be 8 0 ++ be 4 s.pair.checkpoint ++ be 1 11 ++ be 1 0 ++ be 2 8 ++ be 8 s.pair.mseqApplied)

/-- COMMIT at the standby: with every digest right, sections and held entries take effect and it is acknowledged; else the copy is dropped. -/
def State.commitCopy (s : State) (c : Nat) (digests : List (Nat × BitVec 64)) : State :=
  match s.pair.copy with
  | none => s
  | some k =>
    if k.number != c then s
    else
      let good := digests.all fun d => BitVec.ofNat 64 (crc64 (Tbl.get [] d.1 k.sections)) == d.2
      let s0 := { s with pair := { s.pair with copy := none } }
      if !good then s0
      else
        let order := replacing.filter fun n => digests.any fun d => d.1 == n
        let s1 := order.foldl (fun t n => t.applySection n (Tbl.get [] n k.sections)) s0.clearLive
        let s2 := k.held.foldl (fun t e => t.applyItem (byteAt e 12) (entryBody e)) s1
        let s3 := { s2 with pair := { s2.pair with checkpoint := c, mirrored := s2.dev.service
                                                   readmitDue := if s2.dev.service then none else some s2.now } }
        s3.acknowledge

/-- A piece of a section: a merge section's items go to their live regions as they come whole (R492); a replacement section waits for COMMIT. -/
def State.takeSection (s : State) (b : Bytes) : State :=
  let n := byteAt b 0
  if n = 8 then s.applyKey b
  else match s.pair.copy with
    | none => s
    | some k =>
      let old := Tbl.get [] n k.sections
      let new := old.take (fld b 1 8) ++ b.drop 9
      let s1 := { s with pair := { s.pair with copy := some { k with sections := Tbl.set [] n new k.sections } } }
      if merging.contains n then s1.applySection n (b.drop 9) else s1

/-- PREPARE or COMMIT. -/
def State.takeCopyEntry (s : State) (b : Bytes) : State :=
  if byteAt b 0 = 0 then { s with pair := { s.pair with copy := some { number := fld b 1 4, since := s.now } } }
  else s.commitCopy (fld b 1 4) ((chunks 9 (b.drop 5)).map fun d => (byteAt d 0, BitVec.ofNat 64 (fld d 1 8)))

/-- MIRROR_ENTRY_RECEIVE. Entries apply in MSEQ order; PREPARE and keys sent before it begin a new run of numbers. Entries made during a copy are
held (R492). -/
def State.takeEntry (s : State) (e : Bytes) : State :=
  let (m, c, typ) := emHeader e
  let b := entryBody e
  let restart := (typ == 10 && byteAt b 0 == 0) || (typ == 9 && byteAt b 0 == 8)
  if !s.pair.standby || e.length < 16 then s
  else if m ≤ s.pair.mseqApplied && !restart then s.acknowledge
  else if m != s.pair.mseqApplied + 1 && !restart then s
  else
    let s1 := { s with pair := { s.pair with mseqApplied := m } }
    let s2 := match typ with
      | 9 => s1.takeSection b
      | 10 => s1.takeCopyEntry b
      | _ => match s1.pair.copy with
        | some k => if k.number = c then { s1 with pair := { s1.pair with copy := some { k with held := k.held ++ [e] } } } else s1.applyItem typ b
        | none => s1.applyItem typ b
    if typ = 10 && byteAt b 0 != 0 then s2 else s2.acknowledge

def execMirrorEntryReceive (entry : Bytes) (s : State) := finish s (s.takeEntry entry)

/-- CHECKPOINT_COMMIT_RECEIVE. -/
def execCheckpointCommitReceive (c : Word) (digests : List (Nat × BitVec 64)) (s : State) := finish s (
  if s.pair.standby then s.commitCopy c.toNat digests else s)

/-! ## Sending (R490 to R493) -/

/-- The stored reply of a ticket is the ST_OK of a FORCE_FAILOVER (R505). -/
def State.failoverAnswered (s : State) (t : Ticket) : Bool :=
  match findTag s.verbs.tags t.req t.tag with
  | some e => e.verb == 0x0805 && (e.reply.map (·.status)) == some St.ok
  | none => false

/-- Let go what waited for an entry: a reply is sent, after that of FORCE_FAILOVER the notice RELINQUISH (R488, R505), an effect takes place, a response
leaves (R490). -/
def State.letGo (s : State) (w : Withheld) : State :=
  match w with
  | .reply t => if s.failoverAnswered t then (s.sendStored .agg t).sendNotice 2 else s.sendStored .agg t
  | .effect code x => s.execute (bodyOf code) x
  | .response i => s.handResponse i

/-- Release what waits for entries up to m. -/
def State.release (s : State) (m : Nat) : State :=
  let go := s.pair.withheld.filter fun w => w.1 ≤ m
  go.foldl (fun t w => t.letGo w.2) { s with pair := { s.pair with withheld := s.pair.withheld.filter fun w => m < w.1 } }

/-- MIRROR_ACK_RECEIVE: the acknowledgement of COMMIT completes the copy. -/
def execMirrorAckReceive (mseq : BitVec 64) (s : State) := finish s (
  if !s.active || mseq.toNat ≤ s.pair.mseqAcked then s
  else
    let m := min mseq.toNat (s.pair.mseqNext - 1)
    let s1 := { s with pair := { s.pair with mseqAcked := m, unacked := s.pair.unacked.filter fun u => m < u.1 } }
    let s2 := match s1.pair.copy with
      | some k => if s1.pair.commitMseq != 0 && s1.pair.commitMseq ≤ m then
          { s1 with pair := { s1.pair with copy := none, commitMseq := 0, checkpoint := k.number, mirrored := true } } else s1
      | none => s1
    s2.release m)

/-- MIRROR_GAP_TIMEOUT: 10 us without the partner link; nothing is withheld from then on (R491). -/
def execMirrorGapTimeout (s : State) := finish s (
  if !s.pair.partnerUp || s.now < s.pair.link.heardAt + 10000 then s
  else
    let q := s.netPort 17
    let s1 := ({ s with pair := { s.pair with partnerUp := false, partnerDownSince := some s.now, mirrored := false } }).setNetPort 17
      { q with st := .retraining, outSince := s.now }
    s1.release s1.pair.mseqNext)

/-- Entries of a section in frames of at most 8,192 bytes. -/
def State.sendSection (s : State) (n : Nat) : State :=
  (chunks 8192 (s.section_ n)).zipIdx.foldl (fun t c => t.mirror 9 (be 1 n ++ be 8 (8192 * c.2) ++ c.1)) s

/-- CHECKPOINT_START: keys, PREPARE, sections, COMMIT with the digests (R492, R553). -/
def execCheckpointStart (s : State) := finish s (
  let p := s.pair
  if !s.active || p.mirrored || p.copy.isSome || !p.partnerUp || p.partnerRole != 1 || p.hangCause.isSome then s
  else
    let c := max p.checkpoint p.tried + 1
    let all := replacing ++ merging
    let s0 := { s with pair := { p with copy := some { number := c, since := s.now }, tried := c, unacked := [], commitMseq := 0 } }
    let keys := s.sec.vault.filter fun e => e.2.state == 1
    let s1 := keys.foldl (fun t e => t.mirror 9 (keyEntry e.1 e.2.keyId e.2.weightKey)) s0
    let s2 := s1.mirror 10 (be 1 0 ++ be 4 c)
    let s3 := all.foldl State.sendSection s2
    let s4 := s3.mirror 10 (be 1 1 ++ be 4 c ++ (all.map fun n => be 1 n ++ be 8 (s.digestOf n).toNat).flatten)
    { s4 with pair := { s4.pair with commitMseq := s4.lastMseq } })

/-- CHECKPOINT_ABORT: the partner link has been away for more than 100 us during a copy (R493). -/
def execCheckpointAbort (s : State) := finish s (
  match s.pair.copy, s.pair.partnerDownSince with
  | some _, some t => if !s.pair.partnerUp && t + 100000 < s.now then { s with pair := { s.pair with copy := none, commitMseq := 0 } } else s
  | _, _ => s)

end Sys2Proof.Machine
end

