-- ==== Sys2Proof/Machine/Pair.lean ====
section
/-! DEFINITION. The pair: claims and roles (R30, R488), notices and heartbeats (R485, R486), takeover (R494 to R496), hang handling, last words and
the return of an aggregator (R498 to R501). -/

namespace Sys2Proof.Machine
open Sys2Proof

/-! ## Fields of a notice (R485) -/

def ntRole (b : Bytes) : Nat := byteAt b 1
def ntFlags (b : Bytes) : Nat := byteAt b 2
def ntOid (b : Bytes) : Word := BitVec.ofNat 32 (fld b 4 4)
def ntTerm (b : Bytes) : Word := BitVec.ofNat 32 (fld b 8 4)

/-- Delay and offset of an exchange, the partner's clock less the own one, as R262 computes them. -/
def exchange (t1 t2 t3 t4 : Int) : Int × Int :=
  let d := ((t4 - t1) - (t3 - t2)).tdiv 2
  (d, (t2 - t1) - d)

/-- What a path has shown, with a notice that arrives at instant `arrival`. Before the partner has heard of this part there is no exchange. -/
def PathState.take (k : PathState) (b : Bytes) (arrival : Stamp) (now : Nat) : PathState :=
  let tsend := stampAt b 16
  let echo := stampAt b 32
  let e := if echo = Stamp.zero then (k.delay, k.offset)
    else exchange (stampFrac echo) (stampFrac (stampAt b 48)) (stampFrac tsend) (stampFrac arrival)
  { heard := true, tsend := tsend, trecv := arrival, delay := e.1, offset := e.2, lastSlot := nsOf (ofStamp tsend) / 2000, heardAt := now }

/-- The partner link is back: what the standby has not acknowledged is sent again (R491). -/
def State.linkBack (s : State) : State :=
  if s.pair.partnerUp then s
  else
    let s1 := ({ s with pair := { s.pair with partnerUp := true, partnerDownSince := none } }).setNetPort 17
      { s.netPort 17 with st := .inService, outage := false, upSince := s.now }
    if s.active then
      let t := s1.pair.unacked.foldl (fun u e => u.emit (.mirror e.1 e.2.1) e.2.2) s1
      { t with pair := { t.pair with resent := satAdd 32 t.pair.resent t.pair.unacked.length } }
    else s1

/-- The asymmetry register of the port on which a notice of the partner arrives (R75, R76): on the fabric path that of the port which the routing
table gives the partner's OID (DEDUCED, log entry 310). -/
def State.noticePort (s : State) (p : PairPath) (o : Word) : Nat :=
  match p with
  | .partnerLink => 17
  | .fabric => ((s.route o).map (·.1)).getD 255

/-- A notice arrives on a path; its stamp is taken at the line with that path's register. -/
def State.hear (s : State) (p : PairPath) (b : Bytes) : State :=
  let dly := ((Tbl.get {} (s.noticePort p (ntOid b)) s.time.asym).at s.now).toNat / 65536
  let s1 := s.setPath p ((s.pathOf p).take b (lineStamp s.svc dly s.svcFlags false) s.now)
  let s2 := { s1 with pair := { s1.pair with heardAny := true, partnerOid := ntOid b, partnerFlags := ntFlags b, partnerRole := ntRole b } }
  if p = .partnerLink then s2.linkBack else s2

/-- Notices are taken from stage 7 on, where the ports and the partner link come up (R296). -/
def State.takesNotices (s : State) : Bool := 7 ≤ s.dev.stage && !s.phys.porLow && !s.phys.tripShutdown

/-! ## Roles (R30, R488) -/

/-- The role settles: active under TERM 1, or standby under a TERM. -/
def State.becomeActive (s : State) : State :=
  ({ s with pair := { s.pair with claiming := false, standby := false, term := 1 } }).irq 1
def State.becomeStandby (s : State) (term : Word) : State :=
  ({ s with pair := { s.pair with claiming := false, standby := true, term := term } }).irq 1

/-- A notice outranks this active: it has a higher TERM, or the same from a lower OID. -/
def State.outranked (s : State) (b : Bytes) : Bool :=
  s.active && ntRole b == 0 && (s.pair.term < ntTerm b || (s.pair.term == ntTerm b && ntOid b < s.dev.oid))

/-- An active steps down: MIRRORED clear, and nothing that was under way is answered any more. -/
def State.stepDown (s : State) (term : Word) : State :=
  ({ s with
    pair := { s.pair with standby := true, mirrored := false, copy := none, commitMseq := 0, unacked := [], withheld := [], term := term, answersFor := none }
    verbs := { s.verbs with tags := (s.verbs.tags.filter fun (e : TagEntry) => e.reply.isSome).map (fun (e : TagEntry) => { e with phase := Phase.done }), staging := [], gathers := [], forwarded := [] }
    data := { s.data with requests := [] } }).irq 1

/-- CLAIM_SEND: every 2 us of the time clock while the role is not settled. -/
def execClaimSend (s : State) := finish s (
  let i := s.now / 2000
  if s.pair.claiming && s.takesNotices && s.pair.lastClaim < i then
    let s1 := s.sendNotice 4
    { s1 with pair := { s1.pair with firstClaim := some (s.pair.firstClaim.getD s.now), lastClaim := i } }
  else s)

/-- CLAIM_RECEIVE: the lower OID becomes active. -/
def State.takeClaim (s : State) (p : PairPath) (b : Bytes) : State :=
  if !s.takesNotices then s
  else
    let s1 := s.hear p b
    if !s1.pair.claiming then s1 else if s1.dev.oid < ntOid b then s1.becomeActive else s1.becomeStandby s1.pair.term

def execClaimReceive (p : PairPath) (b : Bytes) (s : State) := finish s (s.takeClaim p b)

/-- CLAIM_TIMEOUT: 50 ms or 250 ms after the first CLAIM without any notice. -/
def execClaimTimeout (s : State) := finish s (
  match s.pair.firstClaim with
  | some t => if s.pair.claiming && !s.pair.heardAny && t + (if s.phys.straps.pairSel then 250000000 else 50000000) ≤ s.now then s.becomeActive else s
  | none => s)

/-! ## Heartbeats (R486) -/

/-- HEARTBEAT_SEND: at every whole multiple of 2 us; an aggregator in hang handling has stopped (R498). -/
def execHeartbeatSend (s : State) := finish s (
  let i := nsOf s.lineTime / 2000
  if !s.pair.claiming && s.pair.hangCause.isNone && s.takesNotices && s.pair.lastBeat < i then
    let s1 := s.sendNotice 1
    { s1 with pair := { s1.pair with lastBeat := i } }
  else s)

/-- The standby follows the active's time (R69). Before its own time is valid it takes it by a step, the followed domain under it by the residual
(R62). After that service time never steps (R63): the offset of the partner link is left to the phase lock, which takes it up at a rate that the spec
does not give (free value, log entry 311). Time becomes valid with the active's. -/
def State.phaseLock (s : State) (b : Bytes) : State :=
  let k := s.time.sel
  let o : Int := s.pair.link.offset * ((2 ^ 32 : Nat) : Int)
  if stampAt b 32 = Stamp.zero then s
  else if k.valid then
    { s with free := s.free + 1, time := { s.time with sel := { k with lock := o, lockRem := 0, lockRate := (Config.lockRate s.free).toNat % 1000000000 } } }
  else
    let svc := ((k.svc : Int) + o).toNat
    let valid := 0x8000 ≤ (stampAt b 16).flags.toNat
    let s1 := { s with time := { s.time with sel := { k with svc := svc, valid := valid, validAt := if valid then svc else k.validAt } } }
    let s2 := s1.setDomain k.followed { s1.domain k.followed with base := ((svc : Int) - k.residual).toNat }
    if valid then s2.startTime else s2

def selStateOf : Nat → SelState
  | 1 => .track
  | 2 => .switch
  | 3 => .hold
  | _ => .init

/-- SELECT, DOMAIN, WTR and RESIDUAL of the active's heartbeat (R69). The domain followed lies under service time by the residual, so that service time
does not step (R62, R63); a residual that is slewed sets SLEW, and HOLD keeps the class of its domain at entry (R47, R68). -/
def State.takeSelection (s : State) (b : Bytes) : State :=
  let k := s.time.sel
  let left := fld b 68 4
  let st := selStateOf (byteAt b 64)
  let d : Fin 2 := if byteAt b 65 = 1 then 1 else 0
  let r : Int := sfld64 b 72 * ((2 ^ 32 : Nat) : Int)
  let follows := st == .track || st == .switch
  let s1 := { s with time := { s.time with sel := { k with
      st := st, followed := d, residual := r, slewRem := 0, hold := st == .hold, slew := follows && r != 0
      holdQual := if st == .hold && k.st != .hold then (s.domain d).cls else k.holdQual
      wtrExpired := false, betterSince := if left = 0 then none else some (s.now - (k.wtrSec * 1000000000 - left * 1000000)) } } }
  if follows && k.valid then s1.setDomain d { s1.domain d with base := ((k.svc : Int) - r).toNat } else s1

/-- A returning standby takes the pair's commanded profile (R38). -/
def State.takeProfile (s : State) (b : Bytes) : State :=
  match Profile.ofCode (byteAt b 3) with
  | some p => if s.pair.recovering && s.sys.commanded != p then
      let s1 := { s with sys := s.sys.command p }
      if s1.sys.thermal then s1 else s1.enforce p 0
    else s
  | none => s

/-- The standby takes the active's heartbeat. -/
def State.follow (s : State) (p : PairPath) (b : Bytes) : State :=
  let s1 := ({ s with pair := { s.pair with term := ntTerm b } }).takeSelection b
  (if p = .partnerLink then s1.phaseLock b else s1).takeProfile b

/-- HEARTBEAT_RECEIVE. An active that sees its partner re-admitted posts for it, and no longer answers for its OID (R496, R501). -/
def State.takeHeartbeat (s : State) (p : PairPath) (b : Bytes) : State :=
  if !s.takesNotices then s
  else
    let back := s.pair.partnerFlags / 8 % 2 == 1 && ntFlags b % 2 == 1 && ntFlags b / 8 % 2 == 0
    let s1 := s.hear p b
    if s1.pair.claiming then (if ntRole b = 0 then (s1.becomeStandby (ntTerm b)).follow p b else s1)
    else if s1.pair.standby then (if ntRole b = 0 then s1.follow p b else s1)
    else if s1.outranked b then s1.stepDown (ntTerm b)
    else if ntRole b = 1 && back then ({ s1 with pair := { s1.pair with answersFor := none } }).enginePost 0x100 none
    else s1

def execHeartbeatReceive (p : PairPath) (b : Bytes) (s : State) := finish s (s.takeHeartbeat p b)

/-- TAKEOVER_NOTICE_RECEIVE. -/
def State.takeTakeover (s : State) (p : PairPath) (b : Bytes) : State :=
  if !s.takesNotices then s
  else
    let s1 := s.hear p b
    if s1.pair.claiming then (if ntRole b = 0 then s1.becomeStandby (ntTerm b) else s1)
    else if s1.pair.standby then { s1 with pair := { s1.pair with term := ntTerm b } }
    else if s1.outranked b then s1.stepDown (ntTerm b)
    else s1

def execTakeoverNoticeReceive (p : PairPath) (b : Bytes) (s : State) := finish s (s.takeTakeover p b)

/-! ## Takeover (R494 to R496) -/

/-- A tag entry for a sentence that the former active had taken. -/
def State.adoptTag (s : State) (verb : Nat) (x : Sentence) (phase : Phase) : State :=
  let e : TagEntry := { x := x, verb := verb, phase := phase, since := s.now, startCs := s.cs }
  { s with verbs := { s.verbs with tags := e :: s.verbs.tags.filter fun d => !d.is x.req x.tag } }

/-- Step 4: a request without a completion goes again to its vector builder, in admission order; it is no new job. -/
def State.replayRequests (s : State) : State :=
  let es := s.data.requests.filter fun e => e.2.resp.isNone && !(s.half e.1).requests.any fun j => j.src == .request e.1
  let sorted := es.foldr (fun x l => (l.takeWhile fun (y : Nat × ReqEntry) => decide (y.2.order < x.2.order)) ++ [x] ++
    l.dropWhile fun (y : Nat × ReqEntry) => decide (y.2.order < x.2.order)) []
  sorted.foldl (fun t e =>
    let v := t.half e.1
    t.setHalf e.1 { v with requests := v.requests ++ [{ src := .request e.1, model := e.2.model, map := t.mapNow (t.model e.2.model), order := e.2.order, gen := (t.model e.2.model).gen }] }) s

/-- Step 5 for one sentence: forwarded again under its forwarding tag, given the reply that its effect implies, left to its pending effect, or executed. -/
def State.finishAccepted (s : State) (m : Mirrored) : State :=
  let x := m.x
  if m.ftag != 0 then
    match s.dtcOf x.target with
    | none => s.adoptTag m.verb x .running
    | some p =>
      let bytes := sentenceBytes m.verb x (BitVec.ofNat 32 m.ftag) x.target 0
      let own := (s.port p).e.st == .inService || (s.port p).e.st == .held
      let w : Forwarded := ⟨m.ftag, x.ticket, if own then .a else .b, s.now, s.now, m.verb, bytes, false⟩
      let s1 := s.adoptTag m.verb x (.forwarded p m.ftag)
      let q := Tbl.get [] p.val s1.verbs.forwarded
      ({ s1 with verbs := { s1.verbs with forwarded := Tbl.set [] p.val (q ++ [w]) s1.verbs.forwarded } }).sendVerb p bytes
  else
    let s1 := s.adoptTag m.verb x .running
    match m.effect, m.reply with
    | true, some r => s1.finalAt .agg x.ticket r.status r.results (if r.cstamp = 0 then s1.cs else r.cstamp)
    | true, none => s1
    | false, _ => s1.execute (bodyOf m.verb) x

/-- The sentences of staged sets and of waiting commits are in flight again (R116). -/
def State.adoptStaged (s : State) : State :=
  let of (g : StageSet) : List (Nat × Sentence) := g.changes
  let all := (s.verbs.staging.map fun (e : Nat × Staging) =>
    (match e.2.opened with | some g => of g | none => []) ++ (match e.2.committed with | some c => of c.set | none => [])).flatten
  all.foldl (fun t c => if (findTag t.verbs.tags c.2.req c.2.tag).isSome then t else t.adoptTag (c.1 % 65536) c.2 .running) s

/-- Step 6 for one close: what this part has folded and passes to another position is sent again; so are its down frames. -/
def State.resendClose (s : State) (i : Nat) (c : Close) : State :=
  if c.complete then s
  else
    let g := s.group i
    let last := lastLevel c.config g.pos
    let root := last = 3 || last = 4
    let s1 := match c.own with
      | some f => if topLevel c.config g.pos = 0 then s.passOn i c 1 0 f else s
      | none => s
    let s2 := c.nodes.foldl (fun t n =>
      if n.done && n.level == topLevel c.config g.pos && !(root && n.level == last) then t.passOn i c n.pass n.level n.result else t) s1
    let s3 := if c.summary.isEmpty then s2 else s2.sendDown i c 1
    if c.finalList.isSome then s3.sendDown i c 2 else s3

def State.resendReduction (s : State) : State :=
  s.data.groups.foldl (fun t e => e.2.closes.foldl (fun u c => u.resendClose e.1 c) t) s

/-- The new active's watchdogs count from its takeover: what reached the domains before reached the former active (R60, R70; DEDUCED, log entry 312). -/
def State.refreshDomains (s : State) : State :=
  (s.setDomain 0 { s.domain 0 with lastWrite := s.now }).setDomain 1 { s.domain 1 with lastWrite := s.now }

/-- The standby takes over (R495). `cause` 0: heartbeats missed, 1: RELINQUISH. -/
def State.takeover (s : State) (cause : Nat) : State :=
  let p := s.pair
  let s1 := { s with pair := { p with term := p.term + 1, standby := false, mirrored := false, copy := none, commitMseq := 0, partnerRole := 255
                                      answersFor := some p.partnerOid, takeovers := p.takeovers + 1, lastTakeover := s.stamp, accepted := [] } }
  let s2 := s1.refreshDomains.sendNotice 3
  let s3 := s2.sync.heldPosts.foldl (fun t h => t.doorbell h.object h.n h.seq) { s2 with sync := { s2.sync with heldPosts := [] } }
  let s4 := s3.replayRequests
  let s5 := (p.accepted.foldl State.finishAccepted s4).adoptStaged
  let s6 := s5.resendReduction
  let s7 := { s6 with
    sinks := s6.sinks.map fun (e : Nat × Sink) => if e.1 != 0 && e.2.size != 0 then (e.1, { e.2 with ovfs := e.2.ovfs ++ [6] }) else e }
  let s8 := (s7.raise 12 0x0803 5 (be 4 p.term.toNat ++ be 4 (p.term + 1).toNat ++ [Config.causeCode 0x0803 cause])).irq 1
  s8.enginePost 0x100 none

/-- RELINQUISH_RECEIVE. -/
def State.takeRelinquish (s : State) (p : PairPath) (b : Bytes) : State :=
  if !s.takesNotices then s
  else
    let s1 := s.hear p b
    if s1.pair.standby && !s1.pair.claiming then s1.takeover 1 else s1

def execRelinquishReceive (p : PairPath) (b : Bytes) (s : State) := finish s (s.takeRelinquish p b)

/-- ACTIVE_LOST: three heartbeat slots missed on every path. -/
def execActiveLost (s : State) := finish s (
  let p := s.pair
  if p.standby && !p.claiming && (p.link.heard || p.fabric.heard) && !s.pathUp p.link && !s.pathUp p.fabric then s.takeover 0 else s)

/-! ## Hang handling (R498 to R501) -/

def hangRow : HangCause → Nat
  | .watchdog => 1
  | .descriptor => 2
  | .tableEcc => 3
  | .crossing => 4

/-- The scratch prefixes, tartlet 0 first. -/
def State.scratchPrefixes (s : State) : Tbl Byte :=
  s.data.tartlets.foldl (fun t e => e.2.scratch.foldl (fun u b => if b.1 < 4096 then Tbl.set 0 (4096 * e.1 + b.1) b.2 u else u) t) []

/-- The own half of last words as it is written. -/
def State.lastWords (s : State) (row : Nat) : LastWords :=
  { present := true
    header := be 4 0x4F4C5731 ++ be 4 s.dev.oid.toNat ++ be 1 row ++ zeros 3 ++ be 4 s.pair.term.toNat ++ be 4 s.pair.checkpoint ++ stampBytes s.stamp ++
      padTo 64 s.sync.hang
    objects := s.sync.objects.map fun (e : Nat × SyncObject) => (e.1, e.2.record)
    records := ((s.obs.recs.take 4096).reverse).map Record.bytes
    scratch := s.scratchPrefixes }

/-- HANG_HANDLING_ENTRY: an active relinquishes; heartbeats stop. -/
def execHangHandlingEntry (c : HangCause) (unit_ : Word) (s : State) := finish s (
  if s.pair.hangCause.isSome || s.phys.porLow || s.phys.tripShutdown then s
  else
    let w := s.lastWords (hangRow c)
    let s1 := s.raise 12 0x0804 6 (be 1 (hangRow c) ++ be 4 unit_.toNat)
    let s2 := if s1.active then s1.sendNotice 2 else s1
    ({ s2 with rel := { s2.rel with run := none }, pair := { s2.pair with hangCause := some c, own := w } }).bootStatus fun d =>
      { d with fwReady := false, service := false })

/-- LAST_WORDS_COMPLETE: whole-chip reset follows; the partner's copy goes over the partner link, complete or not. -/
def execLastWordsComplete (partnerCopy : Bool) (s : State) := finish s (
  if s.pair.hangCause.isNone then s
  else
    let w := { s.pair.own with complete := true }
    (({ s with pair := { s.pair with own := w } }).emit (.lastWords partnerCopy) w.header).wholeChipReset)

/-- READMISSION: at the first tick at least 2 us after the COMMIT; the standby derives the post of R496 as the active makes it (R489). -/
def execReadmission (s : State) := finish s (
  match s.pair.readmitDue with
  | none => s
  | some t =>
    if s.pair.standby && !s.pair.claiming && s.dev.stage = 9 && (s.dueTick (t + 2000)).isSome then
      (({ s with pair := { s.pair with mirrored := true, recovering := false, readmitDue := none } }).setService).enginePost 0x100 none
    else s)

end Sys2Proof.Machine
end

