-- ==== Sys2Proof/Machine/Fabric.lean ====
section
/-! DEFINITION. Frames of the fabric and management ports, routed item by item (R446 to R452), and the fetching of submission entries, sentences and
requests alike (R119, R295, R386). -/

namespace Sys2Proof.Machine
open Sys2Proof

/-! ## Submission entries (R119, R121, R386) -/

/-- A submission entry whose byte 0 is 0x02 is a request; it counts in flight as it is fetched. -/
def State.fetchRequest (s : State) (n : Fin 64) (e : HostEntry) : State :=
  let s2 := s.takeQpEntry n e (fld e.header 18 2)
  let r : RequestIn := { req := .qp n, port := 17, yellow := false, header := e.header, payload := if fld e.header 18 2 = 0 then [] else e.params.getD []
                         resultAddr := BitVec.ofNat 64 e.resultAddr, resultSize := BitVec.ofNat 32 e.resultSize }
  if headerGood e.header && e.params.isNone && fld e.header 18 2 != 0 then s2.refuseRequest r St.hwFault else s2.takeRequest r

/-- SENTENCE_FETCH (R119): one from each in turn while both PCIe and Ethernet sentences wait. The operand is the entry of the queue
pair whose turn it is; an entry of another queue pair is not fetched. -/
def execSentenceFetch (e : HostEntry) (s : State) := finish s (
  if !s.dev.fwReady then s
  else
    let both := s.nextQp.isSome && !s.verbs.waiting.isEmpty
    let s1 := if both then { s with dev := { s.dev with ethTurn := !s.dev.ethTurn } } else s
    match s.nextQp with
    | some n => if both && s.dev.ethTurn then s1.fetchEth
                else if n = e.queue then (if byteAt e.header 0 = 2 then s1.fetchRequest n e else s1.fetchQp n e) else s
    | none => s.fetchEth)

/-! ## Arriving frames (R124, R446, R448) -/

/-- The multicast addresses of PTP over Ethernet and of the slow protocols that carry ESMC. -/
def timingMulticast : List Nat := [0x011B19000000, 0x0180C200000E, 0x0180C2000002]

/-- The unpadded length of the item at the front of a body. -/
def itemLen (kind : Nat) (b : Bytes) : Nat :=
  match kind with
  | 1 => 32 + fld b 16 2
  | 2 => 16 + fld b 6 2
  | 3 => 32 + fld b 18 2
  | 4 => 16 + fld b 6 2
  | 6 => 12
  | 7 => 80
  | _ => b.length

/-- Cut n padded items off a body, with what is left; none where the bytes do not hold them or a padding byte is not zero. -/
def cutItems (kind : Nat) : Nat → Bytes → Option (List Bytes × Bytes)
  | 0, b => some ([], b)
  | n + 1, b =>
    let len := itemLen kind b
    let padded := if kind = 5 then len else ceilDiv len 4 * 4
    if b.length < padded || b.isEmpty || !zeroAt b len (padded - len) then none
    else (cutItems kind n (b.drop padded)).map fun r => (b.take len :: r.1, r.2)

/-- Kinds that a frame of an EtherType carries. -/
def kindAllowed (sentence : Bool) (port kind : Nat) : Bool :=
  if sentence then kind == 1 || kind == 2 else kind == 3 || kind == 4 || kind == 5 || kind == 7 || (kind == 6 && port < 16)

/-- The source OID, kind and items of a frame that R448 and R124 accept. Only a frame of minimum size has bytes after its last item. -/
def State.frameItems (s : State) (port : Nat) (f : Frame) : Option (Nat × List Bytes) :=
  let et := f.etherType.toNat
  let kind := byteAt f.body 4
  let n := byteAt f.body 5
  let sentence := et == s.sentenceType port
  if !sentence && et != 0x88B6 then none
  else if f.body.length < 8 || !kindAllowed sentence port kind || n = 0 || 16 < n || (4 < kind && n != 1) then none
  else match cutItems kind n (f.body.drop 8) with
    | some (is, rest) => if rest.isEmpty || f.len ≤ 64 then some (kind, is) else none
    | none => none

/-- A frame that the port discards whatever its body. -/
def State.frameBad (s : State) (port : Nat) (f : Frame) : Bool :=
  !f.fcsOk || 9216 < f.len || !(f.dst.toNat == (s.netPort port).mac || timingMulticast.contains f.dst.toNat)

/-- A frame discarded whole: counted at its port, and among the discarded frames of the Ethernet transport (R124, R133). -/
def State.discardFrame (s : State) (port : Nat) : State :=
  let p := s.netPort port
  (s.setNetPort port { p with discards := satInc 64 p.discards }).bumpCounter .agg (.eth 0) fun c => { c with frames := satInc 64 c.frames }

/-! ## Routing items (R449, R451, R452) -/

/-- An item to pass on: egress, next hop, class, its padded bytes. -/
structure Onward where
  egress : Nat
  hop : BitVec 64
  cls : Nat
  dest : Word
  bytes : Bytes
deriving DecidableEq, Repr

/-- Look up an item for another OID: discarded and counted without a route, or where it would leave by the port on which it came. -/
def State.onward (s : State) (port cls : Nat) (dest : Word) (b : Bytes) : Option Onward :=
  match s.route dest with
  | some (eg, hop) => if eg = port then none else some ⟨eg, hop, cls, dest, pad4 b⟩
  | none => none

/-- Send items on, those of one egress, next hop and class packed into one frame, in arrival order (fuel: the items). -/
def State.sendOnward (s : State) (src : Word) (kind etherType : Nat) : Nat → List Onward → State
  | 0, _ => s
  | _ + 1, [] => s
  | n + 1, o :: os =>
    let same (q : Onward) : Bool := q.egress == o.egress && q.hop == o.hop && q.cls == o.cls
    let group := o :: os.filter same
    let body := shim src kind group.length ++ (group.map (·.bytes)).flatten
    let vlan := if o.hop.getLsbD 15 then some ((7 - o.cls) * 8192 + (o.hop.extractLsb' 0 12).toNat) else none
    let et := if kind ≤ 2 then s.sentenceType o.egress else etherType
    (s.enqueue o.egress o.cls { dst := (o.hop.extractLsb' 16 48).toNat, vlan := vlan, etherType := et, body := body,
                                len := frameLen vlan body, dest := o.dest.toNat }).sendOnward src kind etherType n (os.filter fun q => !same q)

/-- The class of a frame's tag, or a class without one. -/
def classOr (f : Frame) (c : Nat) : Nat := match f.vlan with
  | some v => 7 - v.toNat / 8192
  | none => c

def targetOf (b : Bytes) : Word := BitVec.ofNat 32 (fld b 8 4)
def tagOf (b : Bytes) : Word := BitVec.ofNat 32 (fld b 4 4)

/-- What an item does here, and what of it goes on. -/
abbrev Routed := State × List Onward

/-- Pass an item on, or count it. -/
def Routed.pass (r : Routed) (port : Nat) (o : Option Onward) : Routed :=
  match o with
  | some q => (r.1, r.2 ++ [q])
  | none => (r.1.countNoRoute port, r.2)

/-- A sentence: its own, an attached DTC's and those without a route wait to be fetched (R119, R127); the rest go on. -/
def routeSentence (port : Nat) (src : Word) (r : Routed) (b : Bytes) : Routed :=
  let s := r.1
  let t := targetOf b
  let h := b.take 32
  if !headerGood h || s.isOwn t || (s.dtcOf t).isSome || t == 0 || t == 0xFFFFFFFF || (s.route t).isNone then
    ({ s with verbs := { s.verbs with waiting := s.verbs.waiting ++ [(.eth src, b)] } }, r.2)
  else match s.onward port 2 t b with
    | some o => ({ s with verbs := { s.verbs with transit := (tagOf h, src) :: s.verbs.transit } }, r.2 ++ [o])
    | none => r.pass port none

/-- A reply: to the sentence of one of this part's own requesters that was routed on, else to the source OID of the frame that carried the original. -/
def routeReply (port : Nat) (src : Word) (r : Routed) (b : Bytes) : Routed :=
  let s := r.1
  let tag := BitVec.ofNat 32 (fld b 0 4)
  let st := fld b 4 2
  let mine := s.verbs.tags.filter fun e => e.phase == .running && e.x.tag == tag && !s.isOwn e.x.target && (s.dtcOf e.x.target).isNone
  match (mine.filter (fun e => e.x.target == src) ++ mine).head? with
  | some e =>
    if st = St.accepted then
      ((if e.x.wantsAll then s.deliver e.x e.buf b else s), r.2)
    else (s.finalAt .agg e.x.ticket st (b.drop 16) (fld b 8 8), r.2)
  | none => match s.verbs.transit.find? fun e => e.1 == tag with
    | some e =>
      let s1 := if st = St.accepted then s else { s with verbs := { s.verbs with transit := s.verbs.transit.erase e } }
      Routed.pass (s1, r.2) port (s1.onward port 2 e.2 b)
    | none => r.pass port none

/-- A request: an own one goes to the request engine, the rest on (R386, R449). -/
def routeRequest (port : Fin 17) (src : Word) (f : Frame) (r : Routed) (b : Bytes) : Routed :=
  let s := r.1
  let h := b.take 32
  let t := targetOf h
  let yellow := match f.vlan with
    | some v => v.getLsbD 12
    | none => false
  if !headerGood h || s.isOwn t then
    (if s.dev.fwReady then s.takeRequest { req := .eth src, port := ⟨port.val, by omega⟩, yellow := yellow, header := h, payload := b.drop 32
                                           resultAddr := 0, resultSize := 0 } else s, r.2)
  else match s.onward port.val (classOr f (s.responseClass (rqTenant h))) t b with
    | some o => ({ s with verbs := { s.verbs with transitRq := (tagOf h, src) :: s.verbs.transitRq } }, r.2 ++ [o])
    | none => r.pass port.val none

/-- A response goes to the source OID of the frame that carried its request. -/
def routeResponse (port : Nat) (f : Frame) (r : Routed) (b : Bytes) : Routed :=
  let s := r.1
  match s.verbs.transitRq.find? fun e => e.1 == BitVec.ofNat 32 (fld b 0 4) with
  | some e =>
    let s1 := { s with verbs := { s.verbs with transitRq := s.verbs.transitRq.erase e } }
    Routed.pass (s1, r.2) port (s1.onward port (classOr f 7) e.2 b)
  | none => r.pass port none

/-- A pair notice on the fabric path (R485). -/
def State.takeNotice (s : State) (p : PairPath) (b : Bytes) : State :=
  match byteAt b 0 with
  | 1 => s.takeHeartbeat p b
  | 2 => s.takeRelinquish p b
  | 3 => s.takeTakeover p b
  | 4 => s.takeClaim p b
  | _ => s

/-- The items of an accepted frame. -/
def State.takeItems (s : State) (port : Fin 17) (f : Frame) (kind : Nat) (is : List Bytes) : State :=
  let src := BitVec.ofNat 32 (fld f.body 0 4)
  let b := is.headD []
  match kind with
  | 5 => s.takeReduction src b
  | 6 => s.portControl port.val (byteAt b 0) (byteAt b 1)
  | 7 => s.takeNotice .fabric b
  | _ =>
    let r : Routed := is.foldl (fun r b => match kind with
      | 1 => routeSentence port.val src r b
      | 2 => routeReply port.val src r b
      | 3 => routeRequest port src f r b
      | _ => routeResponse port.val f r b) (s, [])
    r.1.sendOnward src kind f.etherType.toNat r.2.length r.2

/-- FABRIC_FRAME_RECEIVE (R448). PTP and ESMC messages have rows of their own; here their frames are counted. -/
def execFabricFrameReceive (port : Fin 17) (f : Frame) (s : State) := finish s (
  let p := s.netPort port.val
  let took : State := s.setNetPort port.val { p with received := satInc 64 p.received }
  if p.st != .inService then s
  else if s.frameBad port.val f then s.discardFrame port.val
  else if f.etherType = 0x88F7 || f.etherType = 0x8809 then took
  else match s.frameItems port.val f with
    | some (kind, is) => took.takeItems port f kind is
    | none => s.discardFrame port.val)

end Sys2Proof.Machine
end

