-- ==== Sys2Proof/Machine/Dispatch.lean ====
section
/-! DEFINITION. The meaning of every command: one arm per constructor, each one direct call. -/

namespace Sys2Proof.Machine
open Sys2Proof

def exec (i : Instr) (s : State) : Host.Outcome State Fault Refusal :=
  match i with
  | .nop x => Sys2Proof.Machine.execNop x s
  | .getVersion x => Sys2Proof.Machine.execGetVersion x s
  | .getCaps x => Sys2Proof.Machine.execGetCaps x s
  | .getVerbCounters x => Sys2Proof.Machine.execGetVerbCounters x s
  | .setTransport x => Sys2Proof.Machine.execSetTransport x s
  | .setOid x => Sys2Proof.Machine.execSetOid x s
  | .getTime x => Sys2Proof.Machine.execGetTime x s
  | .setIncrement x => Sys2Proof.Machine.execSetIncrement x s
  | .phaseAdd x => Sys2Proof.Machine.execPhaseAdd x s
  | .setTime x => Sys2Proof.Machine.execSetTime x s
  | .setDomainState x => Sys2Proof.Machine.execSetDomainState x s
  | .setSelection x => Sys2Proof.Machine.execSetSelection x s
  | .getSelection x => Sys2Proof.Machine.execGetSelection x s
  | .setAsymmetry x => Sys2Proof.Machine.execSetAsymmetry x s
  | .setTrigger x => Sys2Proof.Machine.execSetTrigger x s
  | .getTrigger x => Sys2Proof.Machine.execGetTrigger x s
  | .setCapture x => Sys2Proof.Machine.execSetCapture x s
  | .readCaptures x => Sys2Proof.Machine.execReadCaptures x s
  | .setFreqSource x => Sys2Proof.Machine.execSetFreqSource x s
  | .setPtpPort x => Sys2Proof.Machine.execSetPtpPort x s
  | .getPtpPort x => Sys2Proof.Machine.execGetPtpPort x s
  | .setCounterSet x => Sys2Proof.Machine.execSetCounterSet x s
  | .readCounters x => Sys2Proof.Machine.execReadCounters x s
  | .freezeCounters x => Sys2Proof.Machine.execFreezeCounters x s
  | .setReduction x => Sys2Proof.Machine.execSetReduction x s
  | .setHistogram x => Sys2Proof.Machine.execSetHistogram x s
  | .readSensors x => Sys2Proof.Machine.execReadSensors x s
  | .readEventRing x => Sys2Proof.Machine.execReadEventRing x s
  | .readHang x => Sys2Proof.Machine.execReadHang x s
  | .setCheckValue x => Sys2Proof.Machine.execSetCheckValue x s
  | .scanStart x => Sys2Proof.Machine.execScanStart x s
  | .scanAbort x => Sys2Proof.Machine.execScanAbort x s
  | .setTraceSource x => Sys2Proof.Machine.execSetTraceSource x s
  | .setTraceSink x => Sys2Proof.Machine.execSetTraceSink x s
  | .traceFlush x => Sys2Proof.Machine.execTraceFlush x s
  | .getTraceStatus x => Sys2Proof.Machine.execGetTraceStatus x s
  | .getLinkStatus x => Sys2Proof.Machine.execGetLinkStatus x s
  | .linkRetrain x => Sys2Proof.Machine.execLinkRetrain x s
  | .linkPrbs31Test x => Sys2Proof.Machine.execLinkPrbs31Test x s
  | .linkLoopbackTest x => Sys2Proof.Machine.execLinkLoopbackTest x s
  | .linkTakeOutOfService x => Sys2Proof.Machine.execLinkTakeOutOfService x s
  | .linkReturnToService x => Sys2Proof.Machine.execLinkReturnToService x s
  | .laneSwapRetire x => Sys2Proof.Machine.execLaneSwapRetire x s
  | .laneSwapSetAutomatic x => Sys2Proof.Machine.execLaneSwapSetAutomatic x s
  | .setCompression x => Sys2Proof.Machine.execSetCompression x s
  | .getJournal x => Sys2Proof.Machine.execGetJournal x s
  | .loadModel x => Sys2Proof.Machine.execLoadModel x s
  | .unloadModel x => Sys2Proof.Machine.execUnloadModel x s
  | .placeModel x => Sys2Proof.Machine.execPlaceModel x s
  | .setFeatureMap x => Sys2Proof.Machine.execSetFeatureMap x s
  | .openSequence x => Sys2Proof.Machine.execOpenSequence x s
  | .closeSequence x => Sys2Proof.Machine.execCloseSequence x s
  | .getJobs x => Sys2Proof.Machine.execGetJobs x s
  | .getModelStatus x => Sys2Proof.Machine.execGetModelStatus x s
  | .groupJoin x => Sys2Proof.Machine.execGroupJoin x s
  | .groupLeave x => Sys2Proof.Machine.execGroupLeave x s
  | .groupFence x => Sys2Proof.Machine.execGroupFence x s
  | .groupSet x => Sys2Proof.Machine.execGroupSet x s
  | .groupStatus x => Sys2Proof.Machine.execGroupStatus x s
  | .readStragglers x => Sys2Proof.Machine.execReadStragglers x s
  | .setBaseline x => Sys2Proof.Machine.execSetBaseline x s
  | .routeSet x => Sys2Proof.Machine.execRouteSet x s
  | .routeGet x => Sys2Proof.Machine.execRouteGet x s
  | .policerSet x => Sys2Proof.Machine.execPolicerSet x s
  | .queueSet x => Sys2Proof.Machine.execQueueSet x s
  | .shaperSet x => Sys2Proof.Machine.execShaperSet x s
  | .gateListSet x => Sys2Proof.Machine.execGateListSet x s
  | .gateListGet x => Sys2Proof.Machine.execGateListGet x s
  | .getPortStatus x => Sys2Proof.Machine.execGetPortStatus x s
  | .syncInit x => Sys2Proof.Machine.execSyncInit x s
  | .syncPost x => Sys2Proof.Machine.execSyncPost x s
  | .syncPostOrdered x => Sys2Proof.Machine.execSyncPostOrdered x s
  | .syncWait x => Sys2Proof.Machine.execSyncWait x s
  | .syncRead x => Sys2Proof.Machine.execSyncRead x s
  | .getHang x => Sys2Proof.Machine.execGetHang x s
  | .forceFailover x => Sys2Proof.Machine.execForceFailover x s
  | .resetDtc x => Sys2Proof.Machine.execResetDtc x s
  | .getPairStatus x => Sys2Proof.Machine.execGetPairStatus x s
  | .readAgeing x => Sys2Proof.Machine.execReadAgeing x s
  | .runMarginPlan x => Sys2Proof.Machine.execRunMarginPlan x s
  | .setMarginSchedule x => Sys2Proof.Machine.execSetMarginSchedule x s
  | .getMargins x => Sys2Proof.Machine.execGetMargins x s
  | .runScreenPack x => Sys2Proof.Machine.execRunScreenPack x s
  | .listScreenPacks x => Sys2Proof.Machine.execListScreenPacks x s
  | .readSilentErrors x => Sys2Proof.Machine.execReadSilentErrors x s
  | .pinBehaviour x => Sys2Proof.Machine.execPinBehaviour x s
  | .getFuseStatus x => Sys2Proof.Machine.execGetFuseStatus x s
  | .getAttestation x => Sys2Proof.Machine.execGetAttestation x s
  | .keyReleaseBegin x => Sys2Proof.Machine.execKeyReleaseBegin x s
  | .keyInstall x => Sys2Proof.Machine.execKeyInstall x s
  | .keyRevoke x => Sys2Proof.Machine.execKeyRevoke x s
  | .debugAuthorise x => Sys2Proof.Machine.execDebugAuthorise x s
  | .getAccessMap x => Sys2Proof.Machine.execGetAccessMap x s
  | .readSelfCounters x => Sys2Proof.Machine.execReadSelfCounters x s
  | .freeze x => Sys2Proof.Machine.execFreeze x s
  | .readRecords x => Sys2Proof.Machine.execReadRecords x s
  | .checkValue x => Sys2Proof.Machine.execCheckValue x s
  | .compress x => Sys2Proof.Machine.execCompress x s
  | .decompress x => Sys2Proof.Machine.execDecompress x s
  | .getProfile x => Sys2Proof.Machine.execGetProfile x s
  | .setProfile x => Sys2Proof.Machine.execSetProfile x s
  | .getEpoch x => Sys2Proof.Machine.execGetEpoch x s
  | .setEpoch x => Sys2Proof.Machine.execSetEpoch x s
  | .stage x => Sys2Proof.Machine.execStage x s
  | .commit x => Sys2Proof.Machine.execCommit x s
  | .discard x => Sys2Proof.Machine.execDiscard x s
  | .getStaged x => Sys2Proof.Machine.execGetStaged x s
  | .stagedSetPrepared r => Sys2Proof.Machine.execStagedSetPrepared r s
  | .stagedSetApply r => Sys2Proof.Machine.execStagedSetApply r s
  | .stageExpiry r => Sys2Proof.Machine.execStageExpiry r s
  | .fabricFrameReceive port f => Sys2Proof.Machine.execFabricFrameReceive port f s
  | .forwardedReplyReceive p l reply => Sys2Proof.Machine.execForwardedReplyReceive p l reply s
  | .forwardResendTimeout p ftag => Sys2Proof.Machine.execForwardResendTimeout p ftag s
  | .forwardLinkTimeout p ftag => Sys2Proof.Machine.execForwardLinkTimeout p ftag s
  | .qpEnable n msiEn => Sys2Proof.Machine.execQpEnable n msiEn s
  | .qpDisable n msiEn => Sys2Proof.Machine.execQpDisable n msiEn s
  | .qpSqTailDoorbell n v => Sys2Proof.Machine.execQpSqTailDoorbell n v s
  | .qpCqHeadDoorbell n v => Sys2Proof.Machine.execQpCqHeadDoorbell n v s
  | .sentenceFetch e => Sys2Proof.Machine.execSentenceFetch e s
  | .submissionReadFail n => Sys2Proof.Machine.execSubmissionReadFail n s
  | .syncDoorbell o v => Sys2Proof.Machine.execSyncDoorbell o v s
  | .barRegisterWrite reg v => Sys2Proof.Machine.execBarRegisterWrite reg v s
  | .scRelease v => Sys2Proof.Machine.execScRelease v s
  | .recCursorWrite v => Sys2Proof.Machine.execRecCursorWrite v s
  | .timeW0Read part => Sys2Proof.Machine.execTimeW0Read part s
  | .trbRegisterWrite p off en v => Sys2Proof.Machine.execTrbRegisterWrite p off en v s
  | .adpResetGo p ties => Sys2Proof.Machine.execAdpResetGo p ties s
  | .mailboxGo p len => Sys2Proof.Machine.execMailboxGo p len s
  | .dtcOriginatedReply p l reply => Sys2Proof.Machine.execDtcOriginatedReply p l reply s
  | .dtcColdReset p ties => Sys2Proof.Machine.execDtcColdReset p ties s
  | .dtcReset p ties => Sys2Proof.Machine.execDtcReset p ties s
  | .dtcReady p => Sys2Proof.Machine.execDtcReady p s
  | .tapAliveChange p g alive => Sys2Proof.Machine.execTapAliveChange p g alive s
  | .tapCodeInvalid p g line code => Sys2Proof.Machine.execTapCodeInvalid p g line code s
  | .sensorSample p chan word fromRpd => Sys2Proof.Machine.execSensorSample p chan word fromRpd s
  | .sensorStale p chan => Sys2Proof.Machine.execSensorStale p chan s
  | .queueStateUpdate p q st => Sys2Proof.Machine.execQueueStateUpdate p q st s
  | .hangEvaluation p => Sys2Proof.Machine.execHangEvaluation p s
  | .hostEvent p unit code data => Sys2Proof.Machine.execHostEvent p unit code data s
  | .eventRingAgeCheck p => Sys2Proof.Machine.execEventRingAgeCheck p s
  | .hmResponseBeat p data last err => Sys2Proof.Machine.execHmResponseBeat p data last err s
  | .hmResponseTimeout p => Sys2Proof.Machine.execHmResponseTimeout p s
  | .sramEccError p hit => Sys2Proof.Machine.execSramEccError p hit s
  | .dtcEpochTick p => Sys2Proof.Machine.execDtcEpochTick p s
  | .captureEdge part ix rising phase => Sys2Proof.Machine.execCaptureEdge part ix rising phase s
  | .collectionConfigActivation p => Sys2Proof.Machine.execCollectionConfigActivation p s
  | .journalFrameBuild p => Sys2Proof.Machine.execJournalFrameBuild p s
  | .linkSlot side p l => Sys2Proof.Machine.execLinkSlot side p l s
  | .linkFrameReceive side p l frame => Sys2Proof.Machine.execLinkFrameReceive side p l frame s
  | .ackReceive p l nextSeq missing => Sys2Proof.Machine.execAckReceive p l nextSeq missing s
  | .journalResendTimeout p l => Sys2Proof.Machine.execJournalResendTimeout p l s
  | .fcrcWindowEnd side p l => Sys2Proof.Machine.execFcrcWindowEnd side p l s
  | .trainingBlockReceive q l lane word0 word1 rest => Sys2Proof.Machine.execTrainingBlockReceive q l lane word0 word1 rest s
  | .laneLockChange q lane lock txlat rxlat => Sys2Proof.Machine.execLaneLockChange q lane lock txlat rxlat s
  | .laneMarginAlarm w lane margin => Sys2Proof.Machine.execLaneMarginAlarm w lane margin s
  | .beaconSend p => Sys2Proof.Machine.execBeaconSend p s
  | .beaconReceive p l data => Sys2Proof.Machine.execBeaconReceive p l data s
  | .timeEchoSend p l => Sys2Proof.Machine.execTimeEchoSend p l s
  | .timeEchoReceive p data => Sys2Proof.Machine.execTimeEchoReceive p data s
  | .dtcDiscipline p => Sys2Proof.Machine.execDtcDiscipline p s
  | .dtcHoldoverEntry p => Sys2Proof.Machine.execDtcHoldoverEntry p s
  | .linkCtrlStart p l seq reset => Sys2Proof.Machine.execLinkCtrlStart p l seq reset s
  | .linkCtrlResume p l seq => Sys2Proof.Machine.execLinkCtrlResume p l seq s
  | .swapReqReceive w lane => Sys2Proof.Machine.execSwapReqReceive w lane s
  | .swapMirrorReceive w lane matched => Sys2Proof.Machine.execSwapMirrorReceive w lane matched s
  | .swapDoneReceive w lane => Sys2Proof.Machine.execSwapDoneReceive w lane s
  | .linkCtrlRetrainReceive side p l => Sys2Proof.Machine.execLinkCtrlRetrainReceive side p l s
  | .swapTimeout w => Sys2Proof.Machine.execSwapTimeout w s
  | .linkEnterService side p l => Sys2Proof.Machine.execLinkEnterService side p l s
  | .linkLeaveService side p l => Sys2Proof.Machine.execLinkLeaveService side p l s
  | .linkHoldExpiry side p l => Sys2Proof.Machine.execLinkHoldExpiry side p l s
  | .bodyIngest p => Sys2Proof.Machine.execBodyIngest p s
  | .featureCutoff p => Sys2Proof.Machine.execFeatureCutoff p s
  | .vectorStart half => Sys2Proof.Machine.execVectorStart half s
  | .vectorComplete half => Sys2Proof.Machine.execVectorComplete half s
  | .workDispatch c => Sys2Proof.Machine.execWorkDispatch c s
  | .descriptorComplete t => Sys2Proof.Machine.execDescriptorComplete t s
  | .tartletEccError t region addr => Sys2Proof.Machine.execTartletEccError t region addr s
  | .sequenceStep idx => Sys2Proof.Machine.execSequenceStep idx s
  | .streamChunkLoaded m => Sys2Proof.Machine.execStreamChunkLoaded m s
  | .streamPassStart m => Sys2Proof.Machine.execStreamPassStart m s
  | .placeCopyComplete m => Sys2Proof.Machine.execPlaceCopyComplete m s
  | .placementEffective m => Sys2Proof.Machine.execPlacementEffective m s
  | .unloadEffective m => Sys2Proof.Machine.execUnloadEffective m s
  | .featureMapEffective m => Sys2Proof.Machine.execFeatureMapEffective m s
  | .loadTimeout m => Sys2Proof.Machine.execLoadTimeout m s
  | .replicaDigestScan m => Sys2Proof.Machine.execReplicaDigestScan m s
  | .replicaDigestComplete m found => Sys2Proof.Machine.execReplicaDigestComplete m found s
  | .requestReceive q => Sys2Proof.Machine.execRequestReceive q s
  | .responseStoreExpiry => Sys2Proof.Machine.execResponseStoreExpiry s
  | .bucketRefill => Sys2Proof.Machine.execBucketRefill s
  | .policerMemoryError addr => Sys2Proof.Machine.execPolicerMemoryError addr s
  | .egressSelect port => Sys2Proof.Machine.execEgressSelect port s
  | .gateEntryBoundary port => Sys2Proof.Machine.execGateEntryBoundary port s
  | .gateListActivation port => Sys2Proof.Machine.execGateListActivation port s
  | .portHelloSend port => Sys2Proof.Machine.execPortHelloSend port s
  | .portControlReceive port op lane => Sys2Proof.Machine.execPortControlReceive port op lane s
  | .spareFallbackTimeout port => Sys2Proof.Machine.execSpareFallbackTimeout port s
  | .fecWindowEnd port uncorrectable => Sys2Proof.Machine.execFecWindowEnd port uncorrectable s
  | .portRetrain port cause => Sys2Proof.Machine.execPortRetrain port cause s
  | .portOutageTimeout port => Sys2Proof.Machine.execPortOutageTimeout port s
  | .portInService port => Sys2Proof.Machine.execPortInService port s
  | .portSwapTimeout port => Sys2Proof.Machine.execPortSwapTimeout port s
  | .localContributionCutoff g => Sys2Proof.Machine.execLocalContributionCutoff g s
  | .reductionFrameReceive source frame => Sys2Proof.Machine.execReductionFrameReceive source frame s
  | .nodeFold g close pass level => Sys2Proof.Machine.execNodeFold g close pass level s
  | .stragglerCutoff g close => Sys2Proof.Machine.execStragglerCutoff g close s
  | .closeAbandon g close => Sys2Proof.Machine.execCloseAbandon g close s
  | .groupFenceTick g => Sys2Proof.Machine.execGroupFenceTick g s
  | .groupChangeEffective g => Sys2Proof.Machine.execGroupChangeEffective g s
  | .epochTick => Sys2Proof.Machine.execEpochTick s
  | .epochChangeActivation => Sys2Proof.Machine.execEpochChangeActivation s
  | .profileChangeEffective => Sys2Proof.Machine.execProfileChangeEffective s
  | .thermalCrossing island tj => Sys2Proof.Machine.execThermalCrossing island tj s
  | .thermalHoldEntry => Sys2Proof.Machine.execThermalHoldEntry s
  | .thermalHoldReturn => Sys2Proof.Machine.execThermalHoldReturn s
  | .lendClustersOff => Sys2Proof.Machine.execLendClustersOff s
  | .clusterPowerUp => Sys2Proof.Machine.execClusterPowerUp s
  | .clusterReloadComplete c => Sys2Proof.Machine.execClusterReloadComplete c s
  | .powerWindow avg => Sys2Proof.Machine.execPowerWindow avg s
  | .thermalTrip island => Sys2Proof.Machine.execThermalTrip island s
  | .thermtripRelease => Sys2Proof.Machine.execThermtripRelease s
  | .tripRailRestore => Sys2Proof.Machine.execTripRailRestore s
  | .selectionEvaluation => Sys2Proof.Machine.execSelectionEvaluation s
  | .waitToRestoreExpiry => Sys2Proof.Machine.execWaitToRestoreExpiry s
  | .residualReachesZero part => Sys2Proof.Machine.execResidualReachesZero part s
  | .domainWatchdogExpiry d => Sys2Proof.Machine.execDomainWatchdogExpiry d s
  | .ppsSilenceTimeout d => Sys2Proof.Machine.execPpsSilenceTimeout d s
  | .ppsPulse ix phase => Sys2Proof.Machine.execPpsPulse ix phase s
  | .todMessage ix msg => Sys2Proof.Machine.execTodMessage ix msg s
  | .ptpMessageReceive port m => Sys2Proof.Machine.execPtpMessageReceive port m s
  | .ptpMessageSend port kind => Sys2Proof.Machine.execPtpMessageSend port kind s
  | .esmcReceive port ql => Sys2Proof.Machine.execEsmcReceive port ql s
  | .freqReferenceChange cand lossOfSignal => Sys2Proof.Machine.execFreqReferenceChange cand lossOfSignal s
  | .triggerEdge part ix => Sys2Proof.Machine.execTriggerEdge part ix s
  | .claimSend => Sys2Proof.Machine.execClaimSend s
  | .claimReceive path item => Sys2Proof.Machine.execClaimReceive path item s
  | .claimTimeout => Sys2Proof.Machine.execClaimTimeout s
  | .heartbeatSend => Sys2Proof.Machine.execHeartbeatSend s
  | .heartbeatReceive path item => Sys2Proof.Machine.execHeartbeatReceive path item s
  | .takeoverNoticeReceive path item => Sys2Proof.Machine.execTakeoverNoticeReceive path item s
  | .relinquishReceive path item => Sys2Proof.Machine.execRelinquishReceive path item s
  | .activeLost => Sys2Proof.Machine.execActiveLost s
  | .mirrorEntryReceive entry => Sys2Proof.Machine.execMirrorEntryReceive entry s
  | .mirrorAckReceive mseq => Sys2Proof.Machine.execMirrorAckReceive mseq s
  | .mirrorGapTimeout => Sys2Proof.Machine.execMirrorGapTimeout s
  | .checkpointStart => Sys2Proof.Machine.execCheckpointStart s
  | .checkpointCommitReceive c digests => Sys2Proof.Machine.execCheckpointCommitReceive c digests s
  | .checkpointAbort => Sys2Proof.Machine.execCheckpointAbort s
  | .deadlockScan => Sys2Proof.Machine.execDeadlockScan s
  | .waitTimeout o r tag => Sys2Proof.Machine.execWaitTimeout o r tag s
  | .orderedPostApply r tag => Sys2Proof.Machine.execOrderedPostApply r tag s
  | .orderedPostTimeout r tag => Sys2Proof.Machine.execOrderedPostTimeout r tag s
  | .hangHandlingEntry cause unit => Sys2Proof.Machine.execHangHandlingEntry cause unit s
  | .lastWordsComplete partnerCopy => Sys2Proof.Machine.execLastWordsComplete partnerCopy s
  | .readmission => Sys2Proof.Machine.execReadmission s
  | .porRelease straps => Sys2Proof.Machine.execPorRelease straps s
  | .bootStageComplete r => Sys2Proof.Machine.execBootStageComplete r s
  | .marginPlanScheduled => Sys2Proof.Machine.execMarginPlanScheduled s
  | .marginPlanComplete => Sys2Proof.Machine.execMarginPlanComplete s
  | .marginPlanApply acked => Sys2Proof.Machine.execMarginPlanApply acked s
  | .fstepDecrease => Sys2Proof.Machine.execFstepDecrease s
  | .ageingSample samples => Sys2Proof.Machine.execAgeingSample samples s
  | .marginRefresh readings => Sys2Proof.Machine.execMarginRefresh readings s
  | .ageingWeek => Sys2Proof.Machine.execAgeingWeek s
  | .screenTestOutcome r => Sys2Proof.Machine.execScreenTestOutcome r s
  | .recordAccept => Sys2Proof.Machine.execRecordAccept s
  | .persistenceWrite n => Sys2Proof.Machine.execPersistenceWrite n s
  | .releaseExpiry id => Sys2Proof.Machine.execReleaseExpiry id s
  | .keyRevokeEffective slot => Sys2Proof.Machine.execKeyRevokeEffective slot s
  | .debugAuthExpiry => Sys2Proof.Machine.execDebugAuthExpiry s
  | .pinEffective part => Sys2Proof.Machine.execPinEffective part s
  | .mergeFillThreshold part => Sys2Proof.Machine.execMergeFillThreshold part s
  | .traceRecordTimeout p => Sys2Proof.Machine.execTraceRecordTimeout p s
  | .traceRecordReceive p body => Sys2Proof.Machine.execTraceRecordReceive p body s
  | .sinkRingPoll stream readOffset => Sys2Proof.Machine.execSinkRingPoll stream readOffset s
  | .mspiTransaction t => Sys2Proof.Machine.execMspiTransaction t s
  | .flashRead => Sys2Proof.Machine.execFlashRead s
  | .flashProgram ok => Sys2Proof.Machine.execFlashProgram ok s
  | .flashErase ok => Sys2Proof.Machine.execFlashErase ok s
  | .fuseOwner vqps verified => Sys2Proof.Machine.execFuseOwner vqps verified s
  | .fuseDebugDisable vqps verified => Sys2Proof.Machine.execFuseDebugDisable vqps verified s
  | .mspiCommandDone => Sys2Proof.Machine.execMspiCommandDone s
  | .checkValueScanComplete unit data failAddr => Sys2Proof.Machine.execCheckValueScanComplete unit data failAddr s
  | .compressionEngineComplete engine source => Sys2Proof.Machine.execCompressionEngineComplete engine source s
  | .storePageZeroingComplete ctx => Sys2Proof.Machine.execStorePageZeroingComplete ctx s
  | .selfCounterBankWritten bank => Sys2Proof.Machine.execSelfCounterBankWritten bank s
  | .policerRewriteComplete => Sys2Proof.Machine.execPolicerRewriteComplete s
  | .slotReloadComplete t bank slot => Sys2Proof.Machine.execSlotReloadComplete t bank slot s
  | .traceSourceCycle part src cy => Sys2Proof.Machine.execTraceSourceCycle part src cy s
  | .traceMergerTurn part => Sys2Proof.Machine.execTraceMergerTurn part s
  | .tapGroupClockEdge p g codes => Sys2Proof.Machine.execTapGroupClockEdge p g codes s
  | .porNAssert => Sys2Proof.Machine.execPorNAssert s
  | .pciePerstRelease => Sys2Proof.Machine.execPciePerstRelease s
  | .tapInstructionUpdate ir => Sys2Proof.Machine.execTapInstructionUpdate ir s
  | .esmcSend port => Sys2Proof.Machine.execEsmcSend port s
  | .trbUnmappedRead p off => Sys2Proof.Machine.execTrbUnmappedRead p off s

end Sys2Proof.Machine
end

