-- ==== Sys2Proof/Machine/BarRead.lean ====
section
/-! DEFINITION. What the host reads over PCI Express (R288, R290): the words of BAR0 window by window (R291 to R294, R479, R570, R578), of BAR2, and
the properties of the endpoint. RO, RW and RW1C fields read as they stand, WO and RSV fields as zero (R11). The table of commands has a row for the one
BAR0 read that changes state, that of GQ_SVC_TIME_W0 (R292). -/

namespace Sys2Proof.Machine
open Sys2Proof

/-! ## The endpoint (R288) -/

/-- The fixed properties of the PCI Express function. -/
structure PcieEndpoint where
  classCode : BitVec 24 := 0x120000
  functions : Nat := 1
  widths : List Nat := [16, 8, 4, 1]
  tenthsOfGt : List Nat := [320, 160, 80, 50, 25]
  maxPayload : Nat := 512
  maxReadRequest : Nat := 4096
  bar0Bytes : Nat := 0x1000000
  bar2Bytes : Nat := 0x10000
  vectors : Nat := 2048
  pendingBits : Nat := 0x8000
deriving DecidableEq, Repr

def pcieEndpoint : PcieEndpoint := {}

/-! ## Words -/

/-- Bytes that pack into 32-bit reads as R164 sets. -/
def packedWord (bs : Bytes) (k : Nat) : Nat := leWord (byteAt bs) k

/-- The device window (R291). -/
def State.deviceWord (s : State) : Nat → Nat
  | 0x00 => versionRegister
  | 0x04 => s.dev.oid.toNat
  | 0x08 => flagBit s.dev.fwReady 31 + flagBit s.dev.service 30 + s.dev.fault * 65536 + s.dev.stage
  | 0x0C => flagBit s.pair.claiming 2 + flagBit s.pair.partnerUp 1 + flagBit s.pair.standby 0
  | 0x10 => s.dev.scratch.toNat
  | 0x20 => s.dev.irqStatus.toNat
  | 0x24 => s.dev.irqEn.toNat
  | _ => 0

/-- A 64-bit value by halves, the upper half at the lower offset. -/
def halfWord (v o : Nat) : Nat := if o % 8 = 0 then v / 2 ^ 32 else v % 2 ^ 32

/-- The time window (R292): increments, the latched stamp, asymmetry registers. -/
def State.timeWord (s : State) (o : Nat) : Nat :=
  let asym (k : Nat) : Nat := (Tbl.get {} k s.time.asym).reg.toNat
  if o = 0x1000 || o = 0x1004 then halfWord s.time.domA.incr.toNat o
  else if o = 0x1008 || o = 0x100C then halfWord s.time.domB.incr.toNat o
  else if o = 0x1010 || o = 0x1014 then halfWord (ofSigned 64 s.time.sel.runIncr) o
  else if 0x1020 ≤ o && o ≤ 0x102C then fld (stampBytes s.time.latch) (o - 0x1020) 4
  else if 0x1100 ≤ o && o ≤ 0x1144 then asym ((o - 0x1100) / 4)
  else if 0x1200 ≤ o && o ≤ 0x12FC then asym (32 + (o - 0x1200) / 4)
  else 0

/-- The profile window (R293). -/
def State.profileWord (s : State) : Nat → Nat
  | 0x2000 => flagBit (s.sys.profile != .h && s.telemetryReloads) 7 + flagBit (!s.sys.pendingProfile.isEmpty) 6 + flagBit s.sys.thermal 4 +
      s.sys.commanded.code * 4 + s.sys.profile.code
  | 0x2004 => s.hottest.1 * 65536 + s.tjField
  | 0x2008 => s.capNow * 65536 + s.sys.powerAvg
  | _ => 0

/-- A register of a queue pair's block (R294). -/
def Qp.word (q : Qp) : Nat → Nat
  | 0x00 => q.sqBase % 2 ^ 32
  | 0x04 => q.sqBase / 2 ^ 32
  | 0x08 => q.cqBase % 2 ^ 32
  | 0x0C => q.cqBase / 2 ^ 32
  | 0x10 => flagBit q.msiEn 1 + flagBit q.enable 0
  | 0x14 => flagBit q.enabled 31 + flagBit q.err 30 + q.errKind * 2 ^ 28 + q.sqHead
  | _ => 0

/-- The doorbell page of a queue pair (R294). -/
def Qp.doorbellWord (q : Qp) : Nat → Nat
  | 0x000 => q.sqTail
  | 0x004 => q.cqHead
  | _ => 0

/-- The recorder window (R578); a slot beyond the newest record reads zero. -/
def State.recorderWord (s : State) (o : Nat) : Nat :=
  let b := s.obs
  let seq (r : Option Record) : Nat := (r.map fun r => r.seq.toNat).getD 0
  match o with
  | 0x00 => b.cursor.toNat
  | 0x04 => seq b.recs.head?
  | 0x08 => seq b.recs.getLast?
  | 0x0C => b.drops
  | 0x10 => b.qdrops
  | 0x14 => b.pdrops
  | 0x18 => b.pqueue.length * 65536 + b.recs.length % 65536
  | _ =>
    if 0x400 ≤ o && o < 0x800 then
      match (b.from b.cursor)[(o - 0x400) / 64]? with
      | some r => packedWord r.bytes (o % 64)
      | none => 0
    else 0

/-- The self-counter window (R570). -/
def State.selfWord (s : State) (o : Nat) : Nat :=
  let b := s.obs
  let bank (k : SelfBank) (q : Nat) : Nat := if q / 160 < 4195 then packedWord (k.entry (q / 160)) (q % 160) else 0
  match o with
  | 0x00 => b.gen.toNat
  | 0x04 => b.tick.stamp % 2 ^ 32
  | 0x08 => b.tick.stamp / 2 ^ 32
  | 0x0C => flagBit b.held 31 + b.holdCause.toNat * 256 + b.holdSeverity
  | 0x10 => b.hold.stamp % 2 ^ 32
  | 0x14 => b.hold.stamp / 2 ^ 32
  | 0x18 => b.holdSeq.toNat
  | 0x20 => b.ignored
  | _ => if 0x10000 ≤ o && o < 0x100000 then bank b.tick (o - 0x10000) else if 0x100000 ≤ o then bank b.hold (o - 0x100000) else 0

/-- The word that a 32-bit read of BAR0 at byte offset o returns: zero where the offset is unmapped or unaligned (R290), and outside the device window
while a boot is halted (R296). A read of GQ_SVC_TIME_W0 answers with the stamp that it latches. -/
def State.barWord (s : State) (o : Nat) : Nat :=
  if o % 4 != 0 || (s.dev.halted && 0x1000 ≤ o) then 0
  else if o < 0x1000 then s.deviceWord o
  else if o = 0x1020 then fld (stampBytes s.stamp) 0 4
  else if o < 0x2000 then s.timeWord o
  else if o < 0x3000 then s.profileWord o
  else if 0x10000 ≤ o && o < 0x11000 then (s.qp ⟨(o - 0x10000) / 64 % 64, Nat.mod_lt _ (by decide)⟩).word (o % 64)
  else if 0x40000 ≤ o && o < 0x80000 then (s.qp ⟨(o - 0x40000) / 4096 % 64, Nat.mod_lt _ (by decide)⟩).doorbellWord (o % 4096)
  else if 0x100000 ≤ o && o < 0x140000 then (if o % 8 = 4 then (s.object ((o - 0x100000) / 8)).count else 0)
  else if 0x200000 ≤ o && o < 0x300000 then s.recorderWord (o - 0x200000)
  else if 0x300000 ≤ o && o < 0x500000 then s.selfWord (o - 0x300000)
  else 0

/-- The word of BAR2 at byte offset o: the MSI-X table, and the pending bits from 0x8000 on (R288). -/
def State.tableWord (s : State) (o : Nat) : Nat :=
  if o % 4 != 0 || s.dev.halted then 0
  else if o < 0x8000 then
    let e := s.vector (o / 16)
    match o % 16 with
    | 0x0 => e.addr.toNat % 2 ^ 32
    | 0x4 => e.addr.toNat / 2 ^ 32
    | 0x8 => e.data.toNat
    | _ => e.control.toNat
  else if o < 0x8100 then
    (List.range 32).foldl (fun m i => m + flagBit (s.vector ((o - 0x8000) * 8 + i)).pending i) 0
  else 0

end Sys2Proof.Machine
end

