-- ==== Sys2Proof/WellFormed.lean ====
section
/-! DEFINITION. Commands in form: what every sender of a command keeps, whatever it asks for. A command out of form brings data that no transport, bus
or pin can carry. -/

namespace Sys2Proof

/-- PLEN has 16 bits (R92); the mailbox and the links reach DTCs, every other requester the aggregator (R120, R126, R128). -/
def sentenceOk (x : Sentence) : Bool :=
  decide (x.params.length < 65536) && match x.part, x.req with
    | .agg, .mailbox => false
    | .agg, _ => true
    | .dtc _, .mailbox => true
    | .dtc _, .pair => true
    | .dtc _, _ => false

/-- A submission entry is 64 bytes, and its parameters as long as PLEN says (R121). -/
def hostEntryOk (e : HostEntry) : Bool :=
  decide (e.entry.length = 64) && match e.params with
    | some p => decide (p.length < 65536)
    | none => true

/-- LEN counts 14 bytes of header, the tag, the body and the FCS (R446). -/
def frameOk (f : Frame) : Bool := decide (18 + (if f.vlan.isSome then 4 else 0) + f.body.length ≤ f.len)

/-- A request comes from a queue pair (port 17) or from a source OID (R386). -/
def requestOk (q : RequestIn) : Bool :=
  decide (q.header.length = 32) && decide (q.payload.length < 65536) && match q.req with
    | .qp _ => q.port.val == 17
    | .eth _ => q.port.val != 17
    | _ => false

/-- The frequencies of adp_ref_clk (R139). -/
def tiesOk (t : DtcTies) : Bool := [50, 100, 125, 200, 250].contains t.refMHz

/-- A word has 32 clock edges (R608). -/
def spiOk (t : SpiTransaction) : Bool := decide (t.edges < 32) && (t.header.isSome || t.data.isEmpty)

/-- There are 512 fuse words (R522), and two copies of every image (R605). -/
def stageOk : StageResult → Bool
  | .fuses rs => rs.all fun r => decide (r.1 < 512)
  | _ => true

/-- A pair notice has 80 bytes (R485), a mirror entry at least its header of 16 (R489). -/
def noticeOk (b : Bytes) : Bool := decide (b.length = 80)
def mirrorOk (b : Bytes) : Bool := decide (16 ≤ b.length)

/-- An address within the memory (R325): a bank of 32,000 bytes, a scratch of 32 KiB, a cluster cache of 2 MiB. -/
def regionOk (m : MemRegion) (addr : Nat) : Bool :=
  match m with
  | .treeArray _ => decide (addr < 32000)
  | .scratch => decide (addr < 32768)
  | .clusterCache => decide (addr < 2097152)

/-- The command is in form. -/
def Instr.wellFormed : Instr → Bool
  | .nop x => sentenceOk x
  | .getVersion x => sentenceOk x
  | .getCaps x => sentenceOk x
  | .getVerbCounters x => sentenceOk x
  | .setTransport x => sentenceOk x
  | .setOid x => sentenceOk x
  | .getTime x => sentenceOk x
  | .setIncrement x => sentenceOk x
  | .phaseAdd x => sentenceOk x
  | .setTime x => sentenceOk x
  | .setDomainState x => sentenceOk x
  | .setSelection x => sentenceOk x
  | .getSelection x => sentenceOk x
  | .setAsymmetry x => sentenceOk x
  | .setTrigger x => sentenceOk x
  | .getTrigger x => sentenceOk x
  | .setCapture x => sentenceOk x
  | .readCaptures x => sentenceOk x
  | .setFreqSource x => sentenceOk x
  | .setPtpPort x => sentenceOk x
  | .getPtpPort x => sentenceOk x
  | .setCounterSet x => sentenceOk x
  | .readCounters x => sentenceOk x
  | .freezeCounters x => sentenceOk x
  | .setReduction x => sentenceOk x
  | .setHistogram x => sentenceOk x
  | .readSensors x => sentenceOk x
  | .readEventRing x => sentenceOk x
  | .readHang x => sentenceOk x
  | .setCheckValue x => sentenceOk x
  | .scanStart x => sentenceOk x
  | .scanAbort x => sentenceOk x
  | .setTraceSource x => sentenceOk x
  | .setTraceSink x => sentenceOk x
  | .traceFlush x => sentenceOk x
  | .getTraceStatus x => sentenceOk x
  | .getLinkStatus x => sentenceOk x
  | .linkRetrain x => sentenceOk x
  | .linkPrbs31Test x => sentenceOk x
  | .linkLoopbackTest x => sentenceOk x
  | .linkTakeOutOfService x => sentenceOk x
  | .linkReturnToService x => sentenceOk x
  | .laneSwapRetire x => sentenceOk x
  | .laneSwapSetAutomatic x => sentenceOk x
  | .setCompression x => sentenceOk x
  | .getJournal x => sentenceOk x
  | .loadModel x => sentenceOk x
  | .unloadModel x => sentenceOk x
  | .placeModel x => sentenceOk x
  | .setFeatureMap x => sentenceOk x
  | .openSequence x => sentenceOk x
  | .closeSequence x => sentenceOk x
  | .getJobs x => sentenceOk x
  | .getModelStatus x => sentenceOk x
  | .groupJoin x => sentenceOk x
  | .groupLeave x => sentenceOk x
  | .groupFence x => sentenceOk x
  | .groupSet x => sentenceOk x
  | .groupStatus x => sentenceOk x
  | .readStragglers x => sentenceOk x
  | .setBaseline x => sentenceOk x
  | .routeSet x => sentenceOk x
  | .routeGet x => sentenceOk x
  | .policerSet x => sentenceOk x
  | .queueSet x => sentenceOk x
  | .shaperSet x => sentenceOk x
  | .gateListSet x => sentenceOk x
  | .gateListGet x => sentenceOk x
  | .getPortStatus x => sentenceOk x
  | .syncInit x => sentenceOk x
  | .syncPost x => sentenceOk x
  | .syncPostOrdered x => sentenceOk x
  | .syncWait x => sentenceOk x
  | .syncRead x => sentenceOk x
  | .getHang x => sentenceOk x
  | .forceFailover x => sentenceOk x
  | .resetDtc x => sentenceOk x
  | .getPairStatus x => sentenceOk x
  | .readAgeing x => sentenceOk x
  | .runMarginPlan x => sentenceOk x
  | .setMarginSchedule x => sentenceOk x
  | .getMargins x => sentenceOk x
  | .runScreenPack x => sentenceOk x
  | .listScreenPacks x => sentenceOk x
  | .readSilentErrors x => sentenceOk x
  | .pinBehaviour x => sentenceOk x
  | .getFuseStatus x => sentenceOk x
  | .getAttestation x => sentenceOk x
  | .keyReleaseBegin x => sentenceOk x
  | .keyInstall x => sentenceOk x
  | .keyRevoke x => sentenceOk x
  | .debugAuthorise x => sentenceOk x
  | .getAccessMap x => sentenceOk x
  | .readSelfCounters x => sentenceOk x
  | .freeze x => sentenceOk x
  | .readRecords x => sentenceOk x
  | .checkValue x => sentenceOk x
  | .compress x => sentenceOk x
  | .decompress x => sentenceOk x
  | .getProfile x => sentenceOk x
  | .setProfile x => sentenceOk x
  | .getEpoch x => sentenceOk x
  | .setEpoch x => sentenceOk x
  | .stage x => sentenceOk x
  | .commit x => sentenceOk x
  | .discard x => sentenceOk x
  | .getStaged x => sentenceOk x
  | .stagedSetPrepared _ => true
  | .stagedSetApply _ => true
  | .stageExpiry _ => true
  | .fabricFrameReceive _ f => frameOk f
  | .forwardedReplyReceive _ _ _ => true
  | .forwardResendTimeout _ _ => true
  | .forwardLinkTimeout _ _ => true
  | .qpEnable _ _ => true
  | .qpDisable _ _ => true
  | .qpSqTailDoorbell _ _ => true
  | .qpCqHeadDoorbell _ _ => true
  | .sentenceFetch e => hostEntryOk e
  | .submissionReadFail _ => true
  | .syncDoorbell _ _ => true
  | .barRegisterWrite reg _ => decide (reg.off.toNat % 4 = 0)
  | .scRelease _ => true
  | .recCursorWrite _ => true
  | .timeW0Read _ => true
  | .trbRegisterWrite _ off _ _ => decide (off.toNat % 4 = 0)
  | .adpResetGo _ ties => tiesOk ties
  | .mailboxGo _ _ => true
  | .dtcOriginatedReply _ _ _ => true
  | .dtcColdReset _ ties => tiesOk ties
  | .dtcReset _ ties => tiesOk ties
  | .dtcReady _ => true
  | .tapAliveChange _ _ _ => true
  | .tapCodeInvalid _ _ _ _ => true
  | .sensorSample _ _ _ _ => true
  | .sensorStale _ _ => true
  | .queueStateUpdate _ _ _ => true
  | .hangEvaluation _ => true
  | .hostEvent _ _ _ _ => true
  | .eventRingAgeCheck _ => true
  | .hmResponseBeat _ data _ _ => decide (data.length ≤ 64)
  | .hmResponseTimeout _ => true
  | .sramEccError _ _ => true
  | .dtcEpochTick _ => true
  | .captureEdge _ _ _ _ => true
  | .collectionConfigActivation _ => true
  | .journalFrameBuild _ => true
  | .linkSlot _ _ _ => true
  | .linkFrameReceive _ _ _ _ => true
  | .ackReceive _ _ _ _ => true
  | .journalResendTimeout _ _ => true
  | .fcrcWindowEnd _ _ _ => true
  | .trainingBlockReceive _ _ _ _ _ _ => true
  | .laneLockChange _ _ _ _ _ => true
  | .laneMarginAlarm _ _ _ => true
  | .beaconSend _ => true
  | .beaconReceive _ _ _ => true
  | .timeEchoSend _ _ => true
  | .timeEchoReceive _ _ => true
  | .dtcDiscipline _ => true
  | .dtcHoldoverEntry _ => true
  | .linkCtrlStart _ _ _ _ => true
  | .linkCtrlResume _ _ _ => true
  | .swapReqReceive _ _ => true
  | .swapMirrorReceive _ _ _ => true
  | .swapDoneReceive _ _ => true
  | .linkCtrlRetrainReceive _ _ _ => true
  | .swapTimeout _ => true
  | .linkEnterService _ _ _ => true
  | .linkLeaveService _ _ _ => true
  | .linkHoldExpiry _ _ _ => true
  | .bodyIngest _ => true
  | .featureCutoff _ => true
  | .vectorStart _ => true
  | .vectorComplete _ => true
  | .workDispatch _ => true
  | .descriptorComplete _ => true
  | .tartletEccError _ region addr => regionOk region addr
  | .sequenceStep _ => true
  | .streamChunkLoaded _ => true
  | .streamPassStart _ => true
  | .placeCopyComplete _ => true
  | .placementEffective _ => true
  | .unloadEffective _ => true
  | .featureMapEffective _ => true
  | .loadTimeout _ => true
  | .replicaDigestScan _ => true
  | .replicaDigestComplete _ _ => true
  | .requestReceive q => requestOk q
  | .responseStoreExpiry => true
  | .bucketRefill => true
  | .policerMemoryError _ => true
  | .egressSelect _ => true
  | .gateEntryBoundary _ => true
  | .gateListActivation _ => true
  | .portHelloSend _ => true
  | .portControlReceive _ _ _ => true
  | .spareFallbackTimeout _ => true
  | .fecWindowEnd _ _ => true
  | .portRetrain _ _ => true
  | .portOutageTimeout _ => true
  | .portInService _ => true
  | .portSwapTimeout _ => true
  | .localContributionCutoff _ => true
  | .reductionFrameReceive _ _ => true
  | .nodeFold _ _ _ _ => true
  | .stragglerCutoff _ _ => true
  | .closeAbandon _ _ => true
  | .groupFenceTick _ => true
  | .groupChangeEffective _ => true
  | .epochTick => true
  | .epochChangeActivation => true
  | .profileChangeEffective => true
  | .thermalCrossing _ _ => true
  | .thermalHoldEntry => true
  | .thermalHoldReturn => true
  | .lendClustersOff => true
  | .clusterPowerUp => true
  | .clusterReloadComplete _ => true
  | .powerWindow _ => true
  | .thermalTrip _ => true
  | .thermtripRelease => true
  | .tripRailRestore => true
  | .selectionEvaluation => true
  | .waitToRestoreExpiry => true
  | .residualReachesZero _ => true
  | .domainWatchdogExpiry _ => true
  | .ppsSilenceTimeout _ => true
  | .ppsPulse _ _ => true
  | .todMessage _ msg => decide (msg.length = 16)
  | .ptpMessageReceive _ _ => true
  | .ptpMessageSend _ _ => true
  | .esmcReceive _ _ => true
  | .freqReferenceChange _ _ => true
  | .triggerEdge _ _ => true
  | .claimSend => true
  | .claimReceive _ item => noticeOk item
  | .claimTimeout => true
  | .heartbeatSend => true
  | .heartbeatReceive _ item => noticeOk item
  | .takeoverNoticeReceive _ item => noticeOk item
  | .relinquishReceive _ item => noticeOk item
  | .activeLost => true
  | .mirrorEntryReceive entry => mirrorOk entry
  | .mirrorAckReceive _ => true
  | .mirrorGapTimeout => true
  | .checkpointStart => true
  | .checkpointCommitReceive _ _ => true
  | .checkpointAbort => true
  | .deadlockScan => true
  | .waitTimeout _ _ _ => true
  | .orderedPostApply _ _ => true
  | .orderedPostTimeout _ _ => true
  | .hangHandlingEntry _ _ => true
  | .lastWordsComplete _ => true
  | .readmission => true
  | .porRelease _ => true
  | .bootStageComplete r => stageOk r
  | .marginPlanScheduled => true
  | .marginPlanComplete => true
  | .marginPlanApply _ => true
  | .fstepDecrease => true
  | .ageingSample _ => true
  | .marginRefresh _ => true
  | .ageingWeek => true
  | .screenTestOutcome _ => true
  | .recordAccept => true
  | .persistenceWrite _ => true
  | .releaseExpiry _ => true
  | .keyRevokeEffective _ => true
  | .debugAuthExpiry => true
  | .pinEffective _ => true
  | .mergeFillThreshold _ => true
  | .traceRecordTimeout _ => true
  | .traceRecordReceive _ _ => true
  | .sinkRingPoll _ _ => true
  | .mspiTransaction t => spiOk t
  | .flashRead => true
  | .flashProgram _ => true
  | .flashErase _ => true
  | .fuseOwner _ _ => true
  | .fuseDebugDisable _ _ => true
  | .mspiCommandDone => true
  | .checkValueScanComplete _ _ _ => true
  | .compressionEngineComplete _ _ => true
  | .storePageZeroingComplete _ => true
  | .selfCounterBankWritten _ => true
  | .policerRewriteComplete => true
  | .slotReloadComplete _ _ _ => true
  | .traceSourceCycle _ _ _ => true
  | .traceMergerTurn _ => true
  | .tapGroupClockEdge _ _ codes => decide (codes.length ≤ 64)
  | .porNAssert => true
  | .pciePerstRelease => true
  | .tapInstructionUpdate _ => true
  | .esmcSend _ => true
  | .trbUnmappedRead _ _ => true

end Sys2Proof
end

