-- ==== Sys2Proof/Safety.lean ====
section
/-! DEFINITION. What claims are stated in: sentences that run, memories in canonical form, runs that do not stop. -/

namespace Sys2Proof.Machine
open Sys2Proof

/-! ## States that differ in what is sent -/

/-- t differs from s at most in what is emitted, queued, recorded, counted or mirrored: only `out`, `dev`, `net`, `ports`, `dtcs`, `verbs`, `obs` and `pair` may differ. -/
structure Quiet (s t : State) : Prop where
  pending : t.pending = s.pending
  free : t.free = s.free
  time : t.time = s.time
  sys : t.sys = s.sys
  sec : t.sec = s.sec
  phys : t.phys = s.phys
  hbm : t.hbm = s.hbm
  data : t.data = s.data
  rel : t.rel = s.rel
  sync : t.sync = s.sync
  hub : t.hub = s.hub
  sinks : t.sinks = s.sinks

/-! ## Sentences that run (R102) -/

/-- The state with the sentence in its tag window. -/
def State.taken (s : State) (v : Verb) (x : Sentence) : State := if s.isAdmitted v.code x then s else (s.takeIn v.code x none).1

/-- The sentence is past step 7 and its turn has come: its transport has admitted it, or it is fresh and within the in-flight bounds, and it need not
wait for an earlier one (R117, R118). -/
def State.admits (s : State) (v : Verb) (x : Sentence) : Bool :=
  (s.isAdmitted v.code x || (s.takeIn v.code x none).2) && !(s.taken v x).mustWait v.code x

/-- A sentence for the aggregator itself passes steps 5 to 11 of R102: it is past step 7 and in form for its verb. -/
def State.reaches (s : State) (v : Verb) (x : Sentence) : Bool :=
  x.part == .agg && s.dev.fwReady && s.admits v x && (s.taken v x).isOwn x.target && v.agg &&
    decide (v.minLevel ≤ (s.taken v x).level .agg) && headerValid v x && decide (x.plen ≤ v.maxLen) && decide (v.minLen ≤ x.plen) && v.check .agg x

/-- It also passes steps 12 and 13 and takes effect at once: it is permitted and unstaged, and this part is active without a mirroring standby. -/
def State.accepts (s : State) (v : Verb) (x : Sentence) : Bool :=
  s.reaches v x && ((s.taken v x).denied v x).isNone && !(s.taken v x).pair.standby && !x.staged && !(s.taken v x).mirrors

/-- A sentence for a DTC passes every step of R102 there (R126, R128). -/
def State.acceptsDtc (s : State) (v : Verb) (x : Sentence) : Bool :=
  match x.part with
  | .agg => false
  | .dtc p =>
    let d := (s.taken v x).dtc p
    (s.dtc p).ready && s.admits v x && v.dtc && !(x.req == .mailbox && v.mailbox == 0) &&
      decide (v.minLevel ≤ (s.taken v x).level x.part) && dtcHeaderValid v d x && decide (x.plen ≤ v.maxLen) && decide (v.minLen ≤ x.plen) &&
      v.check x.part x && !(x.req == .mailbox && v.mailbox == 1 && !(d.la.e.st != .inService && d.lb.e.st != .inService))

/-- A sentence that runs, at whichever part receives it. -/
def State.runs (s : State) (v : Verb) (x : Sentence) : Bool := s.accepts v x || s.acceptsDtc v x

/-- The state after a sentence whose effect is r, answered. -/
def State.ran (s : State) (v : Verb) (x : Sentence) (f : State → State × Answer) : State :=
  let r := f (s.taken v x)
  { r.1.giveAnswer x r.2 with pending := s.pending }

/-- Every sentence of the row c that runs, in a state that meets g once the sentence is taken, answers the next state that f gives. -/
def Does (c : Sentence → Instr) (v : Verb) (g : Sentence → State → Prop) (f : Sentence → State → State × Answer) : Prop :=
  ∀ (s : State) (x : Sentence), s.runs v x = true → g x (s.taken v x) → exec (c x) s = .next (s.ran v x (f x))

/-- Every such sentence answers ST_OK with n bytes of results, and changes nothing but its reply and k draws of free values. -/
def Shows (c : Sentence → Instr) (v : Verb) (g : Sentence → State → Prop) (k : Nat) (n : Sentence → State → Nat) : Prop :=
  ∀ (s : State) (x : Sentence), s.runs v x = true → g x (s.taken v x) →
    ∃ r : Bytes, r.length = n x (s.taken v x) ∧ exec (c x) s = .next (s.ran v x fun t => ({ t with free := t.free + k }, .final St.ok r))

/-- The row of a verb: the verb, its sentence, its body, and whether the sentence is of the row's own form (a row of one operation). -/
structure VerbCommand where
  verb : Verb
  x : Sentence
  body : Sentence → State → State × Answer
  own : State → Bool := fun _ => true

/-- The verb row of a command; an event has none. -/
def verbRow : Instr → Option VerbCommand
  | .nop x => some { verb := vNop, x := x, body := nopBody }
  | .getVersion x => some { verb := vGetVersion, x := x, body := getVersionBody }
  | .getCaps x => some { verb := vGetCaps, x := x, body := getCapsBody }
  | .getVerbCounters x => some { verb := vGetVerbCounters, x := x, body := getVerbCountersBody }
  | .setTransport x => some { verb := vSetTransport, x := x, body := setTransportBody }
  | .setOid x => some { verb := vSetOid, x := x, body := setOidBody }
  | .getTime x => some { verb := vGetTime, x := x, body := getTimeBody }
  | .setIncrement x => some { verb := vSetIncrement, x := x, body := setIncrementBody }
  | .phaseAdd x => some { verb := vPhaseAdd, x := x, body := phaseAddBody }
  | .setTime x => some { verb := vSetTime, x := x, body := setTimeBody }
  | .setDomainState x => some { verb := vSetDomainState, x := x, body := setDomainStateBody }
  | .setSelection x => some { verb := vSetSelection, x := x, body := setSelectionBody }
  | .getSelection x => some { verb := vGetSelection, x := x, body := getSelectionBody }
  | .setAsymmetry x => some { verb := vSetAsymmetry, x := x, body := setAsymmetryBody }
  | .setTrigger x => some { verb := vSetTrigger, x := x, body := setTriggerBody }
  | .getTrigger x => some { verb := vGetTrigger, x := x, body := getTriggerBody }
  | .setCapture x => some { verb := vSetCapture, x := x, body := setCaptureBody }
  | .readCaptures x => some { verb := vReadCaptures, x := x, body := readCapturesBody }
  | .setFreqSource x => some { verb := vSetFreqSource, x := x, body := setFreqSourceBody }
  | .setPtpPort x => some { verb := vSetPtpPort, x := x, body := setPtpPortBody }
  | .getPtpPort x => some { verb := vGetPtpPort, x := x, body := getPtpPortBody }
  | .setCounterSet x => some { verb := vSetCounterSet, x := x, body := configBody 0x0200 }
  | .readCounters x => some { verb := vReadCounters, x := x, body := readCountersBody }
  | .freezeCounters x => some { verb := vFreezeCounters, x := x, body := freezeCountersBody }
  | .setReduction x => some { verb := vSetReduction, x := x, body := configBody 0x0203 }
  | .setHistogram x => some { verb := vSetHistogram, x := x, body := configBody 0x0204 }
  | .readSensors x => some { verb := vReadSensors, x := x, body := readSensorsBody }
  | .readEventRing x => some { verb := vReadEventRing, x := x, body := readEventRingBody }
  | .readHang x => some { verb := vReadHang, x := x, body := readHangBody }
  | .setCheckValue x => some { verb := vSetCheckValue, x := x, body := setCheckValueBody }
  | .scanStart x => some { verb := vScan, x := x, body := scanBody, own := fun _ => (x.b 0 != 1 || x.params.isEmpty) }
  | .scanAbort x => some { verb := vScan, x := x, body := scanBody, own := fun _ => (x.b 0 == 1 || x.params.isEmpty) }
  | .setTraceSource x => some { verb := vSetTraceSource, x := x, body := setTraceSourceBody }
  | .setTraceSink x => some { verb := vSetTraceSink, x := x, body := setTraceSinkBody }
  | .traceFlush x => some { verb := vTraceFlush, x := x, body := traceFlushBody }
  | .getTraceStatus x => some { verb := vGetTraceStatus, x := x, body := getTraceStatusBody }
  | .getLinkStatus x => some { verb := vGetLinkStatus, x := x, body := getLinkStatusBody }
  | .linkRetrain x => some { verb := vLinkRetrain, x := x, body := linkModeBody, own := fun _ => (x.b 1 == 0 || 4 < x.b 1 || x.params.isEmpty) }
  | .linkPrbs31Test x => some { verb := vLinkRetrain, x := x, body := linkModeBody, own := fun _ => (x.b 1 == 1 || x.params.isEmpty) }
  | .linkLoopbackTest x => some { verb := vLinkRetrain, x := x, body := linkModeBody, own := fun _ => (x.b 1 == 2 || x.params.isEmpty) }
  | .linkTakeOutOfService x => some { verb := vLinkRetrain, x := x, body := linkModeBody, own := fun _ => (x.b 1 == 3 || x.params.isEmpty) }
  | .linkReturnToService x => some { verb := vLinkRetrain, x := x, body := linkModeBody, own := fun _ => (x.b 1 == 4 || x.params.isEmpty) }
  | .laneSwapRetire x => some { verb := vLaneSwap, x := x, body := laneSwapBody, own := fun _ => (x.b 1 != 1 || x.params.isEmpty) }
  | .laneSwapSetAutomatic x => some { verb := vLaneSwap, x := x, body := laneSwapBody, own := fun _ => (x.b 1 == 1 || x.params.isEmpty) }
  | .setCompression x => some { verb := vSetCompression, x := x, body := setCompressionBody }
  | .getJournal x => some { verb := vGetJournal, x := x, body := getJournalBody }
  | .loadModel x => some { verb := vLoadModel, x := x, body := loadModelBody }
  | .unloadModel x => some { verb := vUnloadModel, x := x, body := unloadModelBody }
  | .placeModel x => some { verb := vPlaceModel, x := x, body := placeModelBody }
  | .setFeatureMap x => some { verb := vSetFeatureMap, x := x, body := setFeatureMapBody }
  | .openSequence x => some { verb := vOpenSequence, x := x, body := openSequenceBody }
  | .closeSequence x => some { verb := vCloseSequence, x := x, body := closeSequenceBody }
  | .getJobs x => some { verb := vGetJobs, x := x, body := getJobsBody }
  | .getModelStatus x => some { verb := vGetModelStatus, x := x, body := getModelStatusBody }
  | .groupJoin x => some { verb := vGroupJoin, x := x, body := groupJoinBody }
  | .groupLeave x => some { verb := vGroupLeave, x := x, body := groupLeaveBody }
  | .groupFence x => some { verb := vGroupFence, x := x, body := groupFenceBody }
  | .groupSet x => some { verb := vGroupSet, x := x, body := groupSetBody }
  | .groupStatus x => some { verb := vGroupStatus, x := x, body := groupStatusBody }
  | .readStragglers x => some { verb := vReadStragglers, x := x, body := readStragglersBody }
  | .setBaseline x => some { verb := vSetBaseline, x := x, body := setBaselineBody }
  | .routeSet x => some { verb := vRouteSet, x := x, body := routeSetBody }
  | .routeGet x => some { verb := vRouteGet, x := x, body := routeGetBody }
  | .policerSet x => some { verb := vPolicerSet, x := x, body := policerSetBody }
  | .queueSet x => some { verb := vQueueSet, x := x, body := queueSetBody }
  | .shaperSet x => some { verb := vShaperSet, x := x, body := shaperSetBody }
  | .gateListSet x => some { verb := vGateListSet, x := x, body := gateListSetBody }
  | .gateListGet x => some { verb := vGateListGet, x := x, body := gateListGetBody }
  | .getPortStatus x => some { verb := vGetPortStatus, x := x, body := getPortStatusBody }
  | .syncInit x => some { verb := vSyncInit, x := x, body := syncInitBody }
  | .syncPost x => some { verb := vSyncPost, x := x, body := syncPostAnyBody, own := fun _ => (x.b 8 % 2 == 0 || x.params.isEmpty) }
  | .syncPostOrdered x => some { verb := vSyncPost, x := x, body := syncPostAnyBody, own := fun _ => (x.b 8 % 2 == 1 || x.params.isEmpty) }
  | .syncWait x => some { verb := vSyncWait, x := x, body := syncWaitBody }
  | .syncRead x => some { verb := vSyncRead, x := x, body := syncReadBody }
  | .getHang x => some { verb := vGetHang, x := x, body := getHangBody }
  | .forceFailover x => some { verb := vForceFailover, x := x, body := forceFailoverBody }
  | .resetDtc x => some { verb := vResetDtc, x := x, body := resetDtcBody }
  | .getPairStatus x => some { verb := vGetPairStatus, x := x, body := getPairStatusBody }
  | .readAgeing x => some { verb := vReadAgeing, x := x, body := readAgeingBody }
  | .runMarginPlan x => some { verb := vRunMarginPlan, x := x, body := runMarginPlanBody, own := fun _ => (x.b 0 != 2 || x.params.isEmpty) }
  | .setMarginSchedule x => some { verb := vRunMarginPlan, x := x, body := runMarginPlanBody, own := fun _ => (x.b 0 == 2 || x.params.isEmpty) }
  | .getMargins x => some { verb := vGetMargins, x := x, body := getMarginsBody }
  | .runScreenPack x => some { verb := vRunScreenPack, x := x, body := runScreenPackBody, own := fun _ => (x.b 2 != 1 || x.params.isEmpty) }
  | .listScreenPacks x => some { verb := vRunScreenPack, x := x, body := runScreenPackBody, own := fun _ => (x.b 2 == 1 || x.params.isEmpty) }
  | .readSilentErrors x => some { verb := vReadSilentErrors, x := x, body := readSilentErrorsBody }
  | .pinBehaviour x => some { verb := vPinBehaviour, x := x, body := pinBehaviourBody }
  | .getFuseStatus x => some { verb := vGetFuseStatus, x := x, body := getFuseStatusBody }
  | .getAttestation x => some { verb := vGetAttestation, x := x, body := getAttestationBody }
  | .keyReleaseBegin x => some { verb := vKeyReleaseBegin, x := x, body := keyReleaseBeginBody }
  | .keyInstall x => some { verb := vKeyInstall, x := x, body := keyInstallBody }
  | .keyRevoke x => some { verb := vKeyRevoke, x := x, body := keyRevokeBody }
  | .debugAuthorise x => some { verb := vDebugAuthorise, x := x, body := debugAuthoriseBody }
  | .getAccessMap x => some { verb := vGetAccessMap, x := x, body := getAccessMapBody }
  | .readSelfCounters x => some { verb := vReadSelfCounters, x := x, body := readSelfCountersBody }
  | .freeze x => some { verb := vFreeze, x := x, body := freezeBody }
  | .readRecords x => some { verb := vReadRecords, x := x, body := readRecordsBody }
  | .checkValue x => some { verb := vCheckValue, x := x, body := checkValueBody }
  | .compress x => some { verb := vCompress, x := x, body := compressBody_, own := fun _ => (x.b 1 != 1 || x.params.isEmpty) }
  | .decompress x => some { verb := vCompress, x := x, body := compressBody_, own := fun _ => (x.b 1 == 1 || x.params.isEmpty) }
  | .getProfile x => some { verb := vGetProfile, x := x, body := getProfileBody }
  | .setProfile x => some { verb := vSetProfile, x := x, body := setProfileBody }
  | .getEpoch x => some { verb := vGetEpoch, x := x, body := getEpochBody }
  | .setEpoch x => some { verb := vSetEpoch, x := x, body := setEpochBody }
  | .stage x => some { verb := vStage, x := x, body := stageBody }
  | .commit x => some { verb := vCommit, x := x, body := commitBody }
  | .discard x => some { verb := vDiscard, x := x, body := discardBody }
  | .getStaged x => some { verb := vGetStaged, x := x, body := getStagedBody }
  | _ => none

/-! ## Events -/

/-- The command answers the state t, with the queue as it stands. -/
def Goes (c : Instr) (s t : State) : Prop := exec c s = .next { t with pending := s.pending }

/-- The command answers the state unchanged. -/
def Stays (c : Instr) (s : State) : Prop := exec c s = .next s

/-! ## Memories -/

/-- The boot flash in canonical form: an address that is not listed reads 0xFF. -/
def Memory.wf (m : List Host.Cell) : Bool := Tbl.wf 0xFF m

/-- The address of the flash is listed only below 64 MiB (R604). -/
def Memory.bounded (m : List Host.Cell) : Bool := m.all fun c => decide (c.1 < 0x4000000)

/-! ## Runs -/

/-- k steps from s answer a next state each. -/
def Runs (k : Nat) (s : State) : Prop := ∃ t, core.run k s = .next t

end Sys2Proof.Machine
end

