-- ==== Sys2Proof/Certificates/Slice0/Obligations.lean ====
section
/-! DEFINITION. What is claimed of the model: one proposition per claim, each from a numbered rule of the specification or from the model's own choice
that its docstring names. -/

open Sys2Proof Sys2Proof.Machine

/-! ## Steps and the queue -/

/-- O1. A step takes the command at the front of the queue and runs it with the queue's rest. -/
def Obligations.StepRunsTheFrontCommand : Prop :=
  ∀ (c : Instr) (rest : List Instr) (s : State), step { s with pending := c :: rest } = exec c { s with pending := rest }

/-- O2. On an empty queue a step is one cycle of the time clock (the model's choice, log entry 3): the aggregator's time registers take one cycle unless
POR_N is low, and its clock advances by what service time advances, or before service time is valid by 1 ns (R616); 65 free values are passed over, the engines' counts run, and while the trace hub has nothing to drain no other state of the
aggregator changes; then what is due crosses the clock islands, and where nothing is due that is all. -/
def Obligations.EmptyQueueIsOneClockCycle : Prop :=
  ∀ s : State, s.pending = [] → ∃ t, step s = .next t.deliverDue ∧ t.pending = [] ∧ t.free = s.free + 65 ∧
    t.time = (if s.phys.porLow then s.time else s.time.cycle) ∧
    t.time.clock = s.time.clock + (if s.phys.porLow then 0 else if s.time.sel.valid then t.time.sel.svc - s.time.sel.svc else unit) ∧
    t.sys = s.sys ∧ t.sec = s.sec ∧ t.phys = s.phys ∧ t.hbm = s.hbm ∧ t.data = s.data ∧ t.rel = s.rel ∧ t.sync = s.sync ∧
    (s.hub.buffer = [] → t.out = s.out ∧ t.verbs = s.verbs ∧ t.dev = s.dev ∧ t.net = s.net ∧ t.pair = s.pair ∧ t.sinks = s.sinks ∧ t.ports = s.ports ∧
      t.obs = { s.obs with counts := t.obs.counts, cycles := t.obs.cycles }) ∧
    ((∀ e ∈ s.data.crossings, ∀ q ∈ e.2, t.now < q.due) → step s = .next t)

/-- O3. No command stops the block, and none touches the queue. -/
def Obligations.EveryCommandCompletesAndKeepsTheQueue : Prop :=
  ∀ (c : Instr) (s : State), ∃ t, exec c s = .next t ∧ t.pending = s.pending

/-- O4. The queue is worked off first in, first out: after as many steps as it holds commands it is empty, and its commands have run in order. -/
def Obligations.QueueIsWorkedOffInOrder : Prop :=
  ∀ (c : Instr) (rest : List Instr) (s : State), ∃ t u, exec c { s with pending := rest } = .next t ∧
    core.run (rest.length + 1) { s with pending := c :: rest } = .next u ∧ core.run rest.length t = .next u ∧ u.pending = []

/-! ## What no step breaks -/

/-- O5. The boot flash stays in canonical form over every step from any state that has it: no step lists an erased byte or an address twice (R524,
R604). -/
def Obligations.FlashStaysCanonical : Prop :=
  ∀ s t : State, Memory.wf s.phys.flash = true → step s = .next t → Memory.wf t.phys.flash = true

/-- O6. Only programming, erasing and a boot stage (the repeated erase of R525) write the boot flash: every other command leaves every byte of it. -/
def Obligations.OnlyFlashRowsWriteTheFlash : Prop :=
  ∀ (c : Instr) (s t : State), exec c s = .next t → (∀ ok, c ≠ .flashProgram ok) → (∀ ok, c ≠ .flashErase ok) → (∀ r, c ≠ .bootStageComplete r) →
    ∀ a : Nat, Tbl.get 0xFF a t.phys.flash = Tbl.get 0xFF a s.phys.flash

/-- O7. Fuse bits only ever change from 0 to 1, over every step from any state (R535). -/
def Obligations.FuseBitsNeverClear : Prop :=
  ∀ s t : State, step s = .next t → ∀ w b : Nat, (Tbl.get 0 w s.rel.fuses).getLsbD b = true → (Tbl.get 0 w t.rel.fuses).getLsbD b = true

/-- O8. Only the two fuse commands and the step into service (ANTI_ROLLBACK_ADVANCE, R540) blow fuses. -/
def Obligations.OnlyFuseRowsAndServiceBlowFuses : Prop :=
  ∀ (c : Instr) (s t : State), exec c s = .next t → (∀ v ok, c ≠ .fuseOwner v ok) → (∀ v ok, c ≠ .fuseDebugDisable v ok) →
    (c = .readmission ∨ c = .bootStageComplete .done → t.dev.service = s.dev.service) → t.rel.fuses = s.rel.fuses
/-! ## Admission, over every row of R133 -/

/-- O9. Before FW_READY the aggregator runs no sentence and before adp_ready a DTC none: the command of any verb changes nothing (R295, R168). -/
def Obligations.NoSentenceRunsBeforeItsPartIsReady : Prop :=
  ∀ (i : Instr) (r : VerbCommand) (s : State), verbRow i = some r →
    ((r.x.part = .agg ∧ s.dev.fwReady = false) ∨ ∃ p, r.x.part = .dtc p ∧ (s.dtc p).ready = false) → exec i s = .next s

/-- O10. A sentence of any verb that passes every step of R102, at the aggregator or at a DTC, runs its verb's body and is answered. -/
def Obligations.EverySentenceThatPassesRuns : Prop :=
  ∀ (i : Instr) (r : VerbCommand) (s : State), verbRow i = some r → r.own s = true → s.runs r.verb r.x = true →
    exec i s = .next (s.ran r.verb r.x (r.body r.x))

/-- O11. A sentence whose TAG is in its requester's window is not executed, whatever its verb and at either part: it gets ST_DUPLICATE with the stored
reply, or while the first is in flight with stored status ST_ACCEPTED, no stored results and the instant at which the first passed step 7; the next
state is the same state but for the aged window and that reply (R104, R105). -/
def Obligations.RepeatedTagIsNeverExecuted : Prop :=
  ∀ (i : Instr) (r : VerbCommand) (s : State) (e : TagEntry), verbRow i = some r → r.own s = true →
    (r.x.part = .agg → s.dev.fwReady = true ∧ (s.stagingOf r.x.req).expired = false) → (∀ p, r.x.part = .dtc p → (s.dtc p).ready = true) →
    s.isAdmitted r.verb.code r.x = false →
    findTag (window r.x.part (s.nowOf r.x.part) (s.tagsOf r.x.part)) r.x.req r.x.tag = some e →
    exec i s = .next { (s.setTags r.x.part (window r.x.part (s.nowOf r.x.part) (s.tagsOf r.x.part))).quickReply r.x none St.duplicate
      (match e.reply, e.inFlight with
        | some p, false => be 2 p.status ++ be 2 0 ++ p.results
        | _, _ => be 2 St.accepted ++ be 2 0)
      (match e.reply, e.inFlight with
        | some p, false => p.cstamp
        | _, _ => e.startCs) with pending := s.pending }

/-- O12. The next sentence of a requester whose open set has expired, of any verb, gets ST_STAGE_EXPIRED and is neither executed nor recorded (R112).
-/
def Obligations.FirstSentenceAfterExpiryIsTurnedAway : Prop :=
  ∀ (i : Instr) (r : VerbCommand) (s : State), verbRow i = some r → r.own s = true → r.x.part = .agg → s.dev.fwReady = true →
    s.isAdmitted r.verb.code r.x = false → (s.stagingOf r.x.req).expired = true →
    exec i s = .next { (s.setStaging r.x.req { s.stagingOf r.x.req with expired := false }).quickReply r.x none St.stageExpired [] s.cs with
      pending := s.pending }

/-- O13. At an in-flight bound of R107 a new sentence of any verb gets ST_BUSY at once and nothing is queued: the window holds what it held, but for
ageing and the room that R104 makes. At the aggregator the bounds are 256 sentences of the requester and 4,096 in all; at a DTC 16 of the pair, 1 of the
mailbox, and 17 in all. -/
def Obligations.InFlightBoundsRefuseWithBusy : Prop :=
  ∀ (i : Instr) (r : VerbCommand) (s : State), verbRow i = some r → r.own s = true → s.isAdmitted r.verb.code r.x = false →
    (r.x.part = .agg → s.dev.fwReady = true → (s.stagingOf r.x.req).expired = false →
      findTag (window .agg s.now s.verbs.tags) r.x.req r.x.tag = none →
      let ts := makeRoom .agg s.now (window .agg s.now s.verbs.tags)
      256 ≤ ((ts.filter (·.inFlight)).filter fun e => e.x.req == r.x.req).length ∨ 4096 ≤ (ts.filter (·.inFlight)).length →
      exec i s = .next { (s.setTags .agg ts).quickReply r.x none St.busy [] s.cs with pending := s.pending }) ∧
    (∀ p, r.x.part = .dtc p → (s.dtc p).ready = true →
      findTag (window (.dtc p) (s.dtc p).now (s.dtc p).tags) r.x.req r.x.tag = none →
      let ts := makeRoom (.dtc p) (s.dtc p).now (window (.dtc p) (s.dtc p).now (s.dtc p).tags)
      (if r.x.req == .mailbox then 1 else 16) ≤ ((ts.filter (·.inFlight)).filter fun e => e.x.req == r.x.req).length ∨
        17 ≤ (ts.filter (·.inFlight)).length →
      exec i s = .next { (s.setTags (.dtc p) ts).quickReply r.x none St.busy [] (s.dtc p).cs with pending := s.pending })

/-- O14. What the aggregator refuses of its own sentences, in the order of R102: a verb it does not run ST_UNKNOWN_VERB, a verb above the behaviour
level ST_VERSION, a header out of form ST_PARAM, parameters too long ST_LENGTH, parameters too short or out of range ST_PARAM; the body does not run,
and the state differs from the one before only in what is sent and recorded (R95, R102, R103, R615). -/
def Obligations.RefusedSentencesHaveNoEffect : Prop :=
  ∀ (i : Instr) (r : VerbCommand) (s : State), verbRow i = some r → r.own s = true → r.x.part = .agg → s.dev.fwReady = true →
    s.admits r.verb r.x = true → (s.taken r.verb r.x).isOwn r.x.target = true →
    ∀ st : Nat,
      ((r.verb.agg = false ∧ st = St.unknownVerb) ∨
       (r.verb.agg = true ∧ (s.taken r.verb r.x).level .agg < r.verb.minLevel ∧ st = St.version) ∨
       (r.verb.agg = true ∧ r.verb.minLevel ≤ (s.taken r.verb r.x).level .agg ∧ headerValid r.verb r.x = false ∧ st = St.param) ∨
       (r.verb.agg = true ∧ r.verb.minLevel ≤ (s.taken r.verb r.x).level .agg ∧ headerValid r.verb r.x = true ∧ r.verb.maxLen < r.x.plen ∧ st = St.length) ∨
       (r.verb.agg = true ∧ r.verb.minLevel ≤ (s.taken r.verb r.x).level .agg ∧ headerValid r.verb r.x = true ∧ r.x.plen ≤ r.verb.maxLen ∧
        (r.x.plen < r.verb.minLen ∨ r.verb.check .agg r.x = false) ∧ st = St.param)) →
      exec i s = .next { (s.taken r.verb r.x).final .agg r.x.ticket st with pending := s.pending } ∧
      Quiet s { (s.taken r.verb r.x).final .agg r.x.ticket st with pending := s.pending }

/-- O15. A sentence that the access map does not permit is answered as a permitted one would be, ST_OK with zero-filled results of the verb's length
(after ST_ACCEPTED where the verb answers so), is counted, and has no effect (R109). -/
def Obligations.DeniedSentencesAreSilent : Prop :=
  ∀ (i : Instr) (r : VerbCommand) (s : State) (why : Nat × Nat), verbRow i = some r → r.own s = true → s.reaches r.verb r.x = true →
    (s.taken r.verb r.x).denied r.verb r.x = some why → r.x.staged = false →
    let t := (s.taken r.verb r.x).violation r.x.req r.x.tenant.toNat r.verb.code 0 why
    let u := (if r.verb.deferred r.x then t.acceptedReply r.x (t.bufOf .agg r.x.ticket) else t).final .agg r.x.ticket St.ok (zeros (r.verb.zeroLen .agg r.x))
    exec i s = .next { u with pending := s.pending } ∧ Quiet s { u with pending := s.pending }

/-- O16. What a standby does with a permitted sentence of its own: it refuses with ST_STATE what R130 does not name, changing nothing itself, and carries
SET_PROFILE and SET_EPOCH to the active: nothing but their tags changes, and the sentence leaves on the partner link. -/
def Obligations.StandbyRefusesOrCarries : Prop :=
  ∀ (i : Instr) (r : VerbCommand) (s : State), verbRow i = some r → r.own s = true → s.reaches r.verb r.x = true →
    (s.taken r.verb r.x).denied r.verb r.x = none → (s.taken r.verb r.x).pair.standby = true →
    let t := s.taken r.verb r.x
    (r.verb.atStandby r.x = .refuse → exec i s = .next { t.final .agg r.x.ticket St.state with pending := s.pending } ∧
      Quiet s { t.final .agg r.x.ticket St.state with pending := s.pending }) ∧
    (r.x.req ≠ .partner → r.verb.atStandby r.x = .carry → ∃ ts, exec i s = .next { (t.setTags .agg ts).emit (.partnerLink 1) (shim t.dev.oid 1 1 ++
      pad4 (sentenceBytes r.verb.code r.x r.x.tag r.x.target r.x.subunit.toNat)) with pending := s.pending })

/-- O17. A permitted staged sentence takes no effect: it joins its requester's open set, opens one if none is open, and gets ST_ACCEPTED; a 65th
change gets ST_BUSY and leaves the set unchanged (R110). A staged PLACE_MODEL joins in the same way, and one that has joined starts its copy (R380). -/
def Obligations.StagedSentencesJoinTheirSet : Prop :=
  ∀ (i : Instr) (r : VerbCommand) (s : State), verbRow i = some r → r.own s = true → s.reaches r.verb r.x = true →
    (s.taken r.verb r.x).denied r.verb r.x = none → (s.taken r.verb r.x).pair.standby = false → r.x.staged = true →
    let t := s.taken r.verb r.x
    ∃ u, Quiet s u ∧ ((∀ x, i ≠ .placeModel x) → exec i s = .next u) ∧
      match (s.stagingOf r.x.req).opened with
      | none => (u.stagingOf r.x.req).opened = some ⟨s.verbs.setNumber, [(r.verb.code, r.x)], s.now⟩ ∧
          ∀ x, i = .placeModel x → exec i s = .next { u.stagePlace x with pending := s.pending }
      | some g =>
        if 64 ≤ g.changes.length then (u.stagingOf r.x.req).opened = some g ∧ u = { t.final .agg r.x.ticket St.busy with pending := s.pending } ∧
          exec i s = .next u
        else (u.stagingOf r.x.req).opened = some { g with changes := g.changes ++ [(r.verb.code, r.x)], last := s.now } ∧
          ∀ x, i = .placeModel x → exec i s = .next { u.stagePlace x with pending := s.pending }

/-- O18. At an active that mirrors, a permitted sentence is entered as a type-3 entry first, and the effect of a non-idempotent verb or of a sync verb
is withheld behind the entry that carries it: by this command nothing but queues, tags and mirror entries changes (R489, R490). -/
def Obligations.MirroringWithholdsEffects : Prop :=
  ∀ (i : Instr) (r : VerbCommand) (s : State), verbRow i = some r → r.own s = true → s.reaches r.verb r.x = true →
    (s.taken r.verb r.x).denied r.verb r.x = none → r.x.staged = false → (s.taken r.verb r.x).mirrors = true →
    let t := (s.taken r.verb r.x).mirror 3 (acceptedEntry r.verb.code r.x 0)
    if r.verb.nonIdem || r.verb.syncEntry then
      ∃ u, exec i s = .next u ∧ Quiet s u ∧ u.pair.withheld = s.pair.withheld ++ [(u.lastMseq, .effect r.verb.code r.x)]
    else exec i s = .next { (r.body r.x t).1.giveAnswer r.x (r.body r.x t).2 with pending := s.pending }

/-- O19. Taking a sentence and answering it change what is sent, queued, recorded, counted or mirrored, and no clock, setting, model, object, table or
memory: together with the statements that name a body's effect, the frame of every verb. -/
def Obligations.TakingAndAnsweringTouchNoResource : Prop :=
  ∀ (s : State) (v : Verb) (x : Sentence) (a : Answer), Quiet s (s.taken v x) ∧ Quiet s (s.giveAnswer x a) ∧
    (s.runs v x = true → s.taken v x = s ∨ ∃ ts, s.taken v x = s.setTags x.part ts)
/-! ## Verbs, class by class. In `Does` the sentence is x and the state that it finds is t. -/

/-- O20. GET_CAPS reports the values of R134, at the aggregator and at a DTC. -/
def Obligations.GetCapsReportsTheTable : Prop :=
  Does .getCaps vGetCaps (fun x _ => x.part = .agg)
    (fun _ t => (t, .final St.ok (be 2 1024 ++ be 2 256 ++ be 2 4096 ++ be 2 64 ++ be 2 4096 ++ be 2 4092 ++ zeros 4))) ∧
  Does .getCaps vGetCaps (fun x _ => x.part ≠ .agg)
    (fun _ t => (t, .final St.ok (be 2 64 ++ be 2 16 ++ be 2 17 ++ be 2 0 ++ be 2 256 ++ be 2 264 ++ zeros 4)))

/-- O21. Class 0x00 (R125, R133, R136): NOP does nothing; GET_VERSION reports the version, the pinned level, the part, the role and the OID;
GET_VERB_COUNTERS reads one transport's counts; SET_TRANSPORT gives the EtherTypes that its mask names their new value 1 us on; SET_OID changes the
part's own OID and returns the old one, or at the aggregator keeps a DTC port's new OID and forwards it. -/
def Obligations.BasicVerbsDoWhatTheySay : Prop :=
  Does .nop vNop (fun _ _ => True) (fun _ t => (t, .final St.ok)) ∧
  Does .getVersion vGetVersion (fun x _ => x.part = .agg)
    (fun _ t => (t, .final St.ok (be 4 0x03020003 ++ be 1 t.dev.pinned ++ be 1 1 ++ be 1 (if t.pair.standby then 1 else 0) ++ be 1 0 ++ be 4 t.dev.oid.toNat))) ∧
  (∀ p : Fin 64, Does .getVersion vGetVersion (fun x _ => x.part = .dtc p)
    (fun _ t => (t, .final St.ok (be 4 0x03020003 ++ be 1 (t.dtc p).pinned.toNat ++ be 1 0 ++ be 1 255 ++ be 1 0 ++ be 4 (t.dtc p).oid.toNat)))) ∧
  Does .getVerbCounters vGetVerbCounters (fun x _ => x.part = .agg)
    (fun x t => (t, .final St.ok (Tbl.get {} (x.b 0) t.verbs.counters).bytes)) ∧
  (∀ p : Fin 64, Does .getVerbCounters vGetVerbCounters (fun x _ => x.part = .dtc p)
    (fun x t => (t, .final St.ok (if x.b 0 = 2 then (t.dtc p).cntLink.bytes else (t.dtc p).cntMailbox.bytes)))) ∧
  Does .setTransport vSetTransport (fun _ _ => True)
    (fun x t => ({ t with verbs := { t.verbs with
      etFabric := if x.b 2 % 2 = 1 then ⟨t.verbs.etFabric.at t.now, x.f 0 2, t.now + 1000⟩ else t.verbs.etFabric
      etMgmt := if x.b 2 / 2 % 2 = 1 then ⟨t.verbs.etMgmt.at t.now, x.f 0 2, t.now + 1000⟩ else t.verbs.etMgmt } }, .final St.ok)) ∧
  Does .setOid vSetOid (fun x _ => x.part = .agg ∧ x.subunit = 0)
    (fun x t => ({ t with dev := { t.dev with oid := BitVec.ofNat 32 (x.f 0 4) } }, .final St.ok (be 4 t.dev.oid.toNat))) ∧
  (∀ p : Fin 64, Does .setOid vSetOid (fun x _ => x.part = .agg ∧ x.subunit.toNat = p.val + 1)
    (fun x t => (({ t with verbs := { t.verbs with keptOid := Tbl.set 0 p.val (BitVec.ofNat 32 (x.f 0 4)).toNat t.verbs.keptOid } }.forward p 0x0005 x
      (BitVec.ofNat 32 (x.f 0 4))).1, .later))) ∧
  (∀ p : Fin 64, Does .setOid vSetOid (fun x _ => x.part = .dtc p)
    (fun x t => (t.onDtc p fun d => { d with oid := BitVec.ofNat 32 (x.f 0 4), oidBad := false }, .final St.ok (be 4 (t.dtc p).oid.toNat))))

/-- O22. The timebase verbs at the aggregator (R54, R55, R57, R60, R64, R68, R90): GET_TIME returns service time, both domain stamps and the UTC
offset; SET_INCREMENT replaces an increment and moves no time; PHASE_ADD answers with the residual after the add; SET_TIME writes a domain that is not
followed and gets ST_STATE for one that is; SET_DOMAIN_STATE writes a domain's settings, or gets ST_PARAM for a source that the other domain has;
SET_SELECTION writes its settings and asks for an evaluation; GET_SELECTION reports the state, the followed domain, the mode, the qualified domains, the
residual, the remaining wait and the slew rate. -/
def Obligations.TimebaseVerbsActOnTheirDomain : Prop :=
  Does .getTime vGetTime (fun x _ => x.part = .agg)
    (fun _ t => (t, .final St.ok (stampBytes t.stamp ++ stampBytes (domainStamp t.time.domA 0) ++ stampBytes (domainStamp t.time.domB 1) ++
      be 2 t.time.utcOffset.toNat ++ zeros 6))) ∧
  Does .setIncrement vSetIncrement (fun x _ => x.part = .agg)
    (fun x t => (t.setDomain (idx2 (x.b 0)) { t.domain (idx2 (x.b 0)) with incr := BitVec.ofNat 64 (x.f 8 8), lastWrite := t.now }, .final St.ok)) ∧
  Does .phaseAdd vPhaseAdd (fun x _ => x.part = .agg)
    (fun x t => (t.phaseAdd (idx2 (x.b 0)) (sfld64 x.params 8),
      .final St.ok (be 8 (residual16 (t.phaseAdd (idx2 (x.b 0)) (sfld64 x.params 8)).time.sel.residual)))) ∧
  Does .setTime vSetTime (fun x t => x.part = .agg ∧ t.follows (idx2 (x.b 0)) = false)
    (fun x t => (t.setDomain (idx2 (x.b 0)) { t.domain (idx2 (x.b 0)) with base := ofStamp (stampAt x.params 16), wasSet := true }, .final St.ok)) ∧
  Does .setTime vSetTime (fun x t => x.part = .agg ∧ t.follows (idx2 (x.b 0)) = true) (fun _ t => (t, .final St.state)) ∧
  Does .setDomainState vSetDomainState (fun x t => t.boundTwice x = false)
    (fun x t => (t.setDomain (idx2 (x.b 0)) { t.domain (idx2 (x.b 0)) with
      qualified := x.b 1 % 2 == 1, hostDisciplines := x.b 1 / 2 % 2 == 1, cls := x.b 2, binding := bindingOf x, watchdogMs := x.f 8 4, lastWrite := t.now
      lastPulse := if bindingOf x ≠ (t.domain (idx2 (x.b 0))).binding ∨ x.b 1 % 2 = 1 then t.now else (t.domain (idx2 (x.b 0))).lastPulse },
      .final St.ok)) ∧
  Does .setDomainState vSetDomainState (fun x t => t.boundTwice x = true) (fun _ t => (t, .final St.param)) ∧
  Does .setSelection vSetSelection (fun _ _ => True)
    (fun x t => ({ t with time := { t.time with sel := { t.time.sel with
      mode := x.b 0, preferred := idx2 (x.b 1), wtrSec := x.f 4 4, slewRate := x.f 8 4, forced := true } } }, .final St.ok)) ∧
  Does .getSelection vGetSelection (fun _ _ => True)
    (fun _ t => (t, .final St.ok (be 1 t.time.sel.st.code ++ be 1 t.time.sel.followed.val ++ be 1 t.time.sel.mode ++
      be 1 ((if t.time.domA.qualified then 1 else 0) + (if t.time.domB.qualified then 2 else 0)) ++ be 8 (residual16 t.time.sel.residual) ++
      be 4 t.wtrLeft ++ be 4 t.time.sel.slewRate)))

/-- O23. The copy of a DTC (R55, R77, R79, R81, R257): GET_TIME reads it; SET_INCREMENT and PHASE_ADD act only from the followed link or the mailbox and
otherwise get ST_STATE; SET_TIME takes effect only while the copy is not valid, from the mailbox or the followed link. -/
def Obligations.DtcTimeIsWrittenFromTheFollowedLink : Prop :=
  ∀ p : Fin 64,
    Does .getTime vGetTime (fun x _ => x.part = .dtc p) (fun _ t => (t, .final St.ok (stampBytes (t.dtc p).stamp))) ∧
    Does .setIncrement vSetIncrement (fun x t => x.part = .dtc p ∧ fromFollowed t p x = true)
      (fun x t => (t.onDtc p fun d => Dtc.corrected x.req { d with time := { d.time with incr := BitVec.ofNat 64 (x.f 8 8) } }, .final St.ok)) ∧
    Does .setIncrement vSetIncrement (fun x t => x.part = .dtc p ∧ fromFollowed t p x = false) (fun _ t => (t, .final St.state)) ∧
    Does .phaseAdd vPhaseAdd (fun x t => x.part = .dtc p ∧ fromFollowed t p x = true)
      (fun x t =>
        let u := t.onDtc p fun d => Dtc.corrected x.req { d with time := { d.time with residual := d.time.residual - sfld64 x.params 8 * 2 ^ 32 } }
        (u, .final St.ok (be 8 (residual16 (u.dtc p).time.residual)))) ∧
    Does .phaseAdd vPhaseAdd (fun x t => x.part = .dtc p ∧ fromFollowed t p x = false) (fun _ t => (t, .final St.state)) ∧
    Does .setTime vSetTime (fun x t => x.part = .dtc p ∧ (x.req = .mailbox ∨ fromFollowed t p x = true) ∧ (t.dtc p).time.valid = false)
      (fun x t => (t.onDtc p fun d => d.setTime (ofStamp (stampAt x.params 16)), .final St.ok)) ∧
    Does .setTime vSetTime (fun x t => x.part = .dtc p ∧ ((x.req ≠ .mailbox ∧ fromFollowed t p x = false) ∨ (t.dtc p).time.valid = true))
      (fun _ t => (t, .final St.state))

/-- O24. Stamping verbs (R75, R76, R83 to R87, R91, R133), each on the part that it is for: SET_ASYMMETRY writes a port's delays for stamps from 1 us on;
SET_TRIGGER takes the program that R84 allows and returns its first edge, and otherwise gets ST_PARAM; GET_TRIGGER reads; SET_CAPTURE sets the edges;
READ_CAPTURES takes the oldest stamps; SET_FREQ_SOURCE sets the candidate list and selects again; SET_PTP_PORT sets a port, whose state is then the BMCA's
choice (a free value) or, with the port disabled, DISABLED, and at a T-GM the UTC offset; GET_PTP_PORT reads. -/
def Obligations.StampingVerbsActOnTheirInput : Prop :=
  Does .setAsymmetry vSetAsymmetry (fun x _ => x.part = .agg)
    (fun x t => ({ t with time := { t.time with
      asym := Tbl.set {} (x.f 0 2) ((Tbl.get {} (x.f 0 2) t.time.asym).write t.now (BitVec.ofNat 32 (x.f 4 4))) t.time.asym } }, .final St.ok)) ∧
  Does .setTrigger vSetTrigger
    (fun x t => x.part = .agg ∧ takeTrigger (Tbl.get {} (x.b 0) t.time.trig) (progOf x) t.timeValid (frac16 t.svc) t.svcFlags = none)
    (fun _ t => (t, .final St.param)) ∧
  (∀ r, Does .setTrigger vSetTrigger
    (fun x t => x.part = .agg ∧ takeTrigger (Tbl.get {} (x.b 0) t.time.trig) (progOf x) t.timeValid (frac16 t.svc) t.svcFlags = some r)
    (fun x t => (({ t with time := { t.time with trig := Tbl.set {} (x.b 0) r.1 t.time.trig } }).drivePin .agg (x.b 0)
      (Tbl.get {} (x.b 0) t.time.trig) r.1, .final St.ok (stampBytes r.2)))) ∧
  Does .getTrigger vGetTrigger (fun x _ => x.part = .agg)
    (fun x t => (t, .final St.ok (triggerResult (x.b 0) (Tbl.get {} (x.b 0) t.time.trig) t.svcFlags))) ∧
  Does .setCapture vSetCapture (fun x _ => x.part = .agg)
    (fun x t => ({ t with time := { t.time with cap := Tbl.set {} (x.b 0) { Tbl.get {} (x.b 0) t.time.cap with edges := x.b 1 } t.time.cap } },
      .final St.ok)) ∧
  Does .readCaptures vReadCaptures (fun x _ => x.part = .agg)
    (fun x t => ({ t with time := { t.time with cap := Tbl.set {} (x.b 0) ((Tbl.get {} (x.b 0) t.time.cap).read (x.b 1)).1 t.time.cap } },
      .final St.ok ((Tbl.get {} (x.b 0) t.time.cap).read (x.b 1)).2)) ∧
  (∀ p : Fin 64,
    Does .setAsymmetry vSetAsymmetry (fun x _ => x.part = .dtc p)
      (fun x t => (t.onDtc p fun d =>
        if x.f 0 2 = 0 then { d with time := { d.time with asymA := d.time.asymA.write d.now (BitVec.ofNat 32 (x.f 4 4)) } }
        else { d with time := { d.time with asymB := d.time.asymB.write d.now (BitVec.ofNat 32 (x.f 4 4)) } }, .final St.ok)) ∧
    Does .setTrigger vSetTrigger
      (fun x t => x.part = .dtc p ∧ takeTrigger (Tbl.get {} (x.b 0) (t.dtc p).time.trig) (progOf x) (t.dtc p).time.valid (frac16 (t.dtc p).time.time)
        (t.dtc p).flags = none) (fun _ t => (t, .final St.param)) ∧
    (∀ r, Does .setTrigger vSetTrigger
      (fun x t => x.part = .dtc p ∧ takeTrigger (Tbl.get {} (x.b 0) (t.dtc p).time.trig) (progOf x) (t.dtc p).time.valid (frac16 (t.dtc p).time.time)
        (t.dtc p).flags = some r)
      (fun x t => ((t.setDtc p { t.dtc p with time := { (t.dtc p).time with trig := Tbl.set {} (x.b 0) r.1 (t.dtc p).time.trig } }).drivePin (.dtc p) (x.b 0)
        (Tbl.get {} (x.b 0) (t.dtc p).time.trig) r.1, .final St.ok (stampBytes r.2)))) ∧
    Does .getTrigger vGetTrigger (fun x _ => x.part = .dtc p)
      (fun x t => (t, .final St.ok (triggerResult (x.b 0) (Tbl.get {} (x.b 0) (t.dtc p).time.trig) (t.dtc p).flags))) ∧
    Does .setCapture vSetCapture (fun x _ => x.part = .dtc p)
      (fun x t => (t.onDtc p fun d =>
        { d with time := { d.time with cap := Tbl.set {} (x.b 0) { Tbl.get {} (x.b 0) d.time.cap with edges := x.b 1 } d.time.cap } }, .final St.ok)) ∧
    Does .readCaptures vReadCaptures (fun x _ => x.part = .dtc p)
      (fun x t => (t.onDtc p fun d =>
        { d with time := { d.time with cap := Tbl.set {} (x.b 0) ((Tbl.get {} (x.b 0) (t.dtc p).time.cap).read (x.b 1)).1 d.time.cap } },
        .final St.ok ((Tbl.get {} (x.b 0) (t.dtc p).time.cap).read (x.b 1)).2))) ∧
  Does .setFreqSource vSetFreqSource (fun _ _ => True)
    (fun x t => ({ t with time := { t.time with freqQl := x.b 0 % 2 == 1, freqList := sub x.params 4 (x.b 1) }.reselect }, .final St.ok)) ∧
  Does .setPtpPort vSetPtpPort (fun _ _ => True)
    (fun x t => ({ t with free := t.free + 1, time := { t.time with
      utcOffset := if t.grandmaster (idx2 (x.b 4)) then BitVec.ofNat 16 (x.f 6 2) else t.time.utcOffset
      ptp := Tbl.set {} (x.b 0) { Tbl.get {} (x.b 0) t.time.ptp with
        params := x.params.take 8, state := if x.b 1 % 2 == 1 then Config.bmcaState t.free x.params else 3 } t.time.ptp } }, .final St.ok)) ∧
  Does .getPtpPort vGetPtpPort (fun _ _ => True)
    (fun x t => (t, .final St.ok (let p := Tbl.get {} (x.b 0) t.time.ptp
      be 1 (x.b 0) ++ p.emitted ++ be 1 p.state.toNat ++ be 1 p.stepsRemoved.toNat ++ be 2 p.discards ++ be 8 (ofSigned 64 p.pathDelay) ++
        be 8 (ofSigned 64 p.offset))))
/-- O25. The three collection settings (R180, R184, R186, R189, R205), each at either part. A setting whose activation stamp is zero, or a coming tick
at least 2 µs away, and that overloads no configuration it takes part in, is taken: a DTC keeps it for its tick and answers with the collection minimum
of the configuration that then stands; the aggregator notes it for every port addressed and forwards it with stamp zero, to answer with the greatest of
their minima. An activation stamp while time is not valid gets ST_STATE, one off the ticks or too near ST_PARAM, and a setting that overloads ST_STATE.
-/
def Obligations.CollectionSettingsWaitForTheirTick : Prop :=
  ∀ cv : (Sentence → Instr) × Verb, cv ∈ [(Instr.setCounterSet, vSetCounterSet), (Instr.setReduction, vSetReduction), (Instr.setHistogram, vSetHistogram)] →
    (∀ p : Fin 64,
      let due (x : Sentence) (t : State) := (t.dtc p).askedTick (stampAt x.params 0)
      let near (x : Sentence) (t : State) := ofStamp (stampAt x.params 0) % ((t.dtc p).epoch * unit) ≠ 0 ∨
        ofStamp (stampAt x.params 0) < (t.dtc p).time.time + twoUs
      Does cv.1 cv.2 (fun x t => x.part = .dtc p ∧ (stampAt x.params 0 = Stamp.zero ∨ ((t.dtc p).time.valid = true ∧ ¬ near x t)) ∧
          (t.dtc p).overloads (due x t) (changeOf cv.2.code x) = false)
        (fun x t =>
          let pending := (t.dtc p).pendingWith (due x t) (changeOf cv.2.code x)
          (t.setDtc p { t.dtc p with cnt := { (t.dtc p).cnt with pending := pending } },
            .finalAt St.ok (be 4 (planMinimum ((t.dtc p).standing pending (due x t)))) (match due x t with
              | some u => cstampOf true u
              | none => 0))) ∧
      Does cv.1 cv.2 (fun x t => x.part = .dtc p ∧ stampAt x.params 0 ≠ Stamp.zero ∧ (t.dtc p).time.valid = false) (fun _ t => (t, .final St.state)) ∧
      Does cv.1 cv.2 (fun x t => x.part = .dtc p ∧ stampAt x.params 0 ≠ Stamp.zero ∧ (t.dtc p).time.valid = true ∧ near x t)
        (fun _ t => (t, .final St.param)) ∧
      Does cv.1 cv.2 (fun x t => x.part = .dtc p ∧ (stampAt x.params 0 = Stamp.zero ∨ ((t.dtc p).time.valid = true ∧ ¬ near x t)) ∧
          (t.dtc p).overloads (due x t) (changeOf cv.2.code x) = true) (fun _ t => (t, .final St.state))) ∧
    (let near (x : Sentence) (t : State) := ofStamp (stampAt x.params 0) % (t.sys.epoch * unit) ≠ 0 ∨ ofStamp (stampAt x.params 0) < t.svc + twoUs
     Does cv.1 cv.2 (fun x t => x.part = .agg ∧ stampAt x.params 0 ≠ Stamp.zero ∧ t.timeValid = false) (fun _ t => (t, .final St.state)) ∧
     Does cv.1 cv.2 (fun x t => x.part = .agg ∧ stampAt x.params 0 ≠ Stamp.zero ∧ t.timeValid = true ∧ near x t) (fun _ t => (t, .final St.param)) ∧
     Does cv.1 cv.2 (fun x t => x.part = .agg ∧ (stampAt x.params 0 = Stamp.zero ∨ (t.timeValid = true ∧ ¬ near x t)) ∧
         t.configRefused cv.2.code x = true) (fun _ t => (t, .final St.state)) ∧
     Does cv.1 cv.2 (fun x t => x.part = .agg ∧ (stampAt x.params 0 = Stamp.zero ∨ (t.timeValid = true ∧ ¬ near x t)) ∧
         t.configRefused cv.2.code x = false)
       (fun x t =>
         let u := (t.addressed x).foldl (fun t p => t.onPort p fun a => a.configured (changeOf cv.2.code x)) t
         u.forwardAll cv.2.code { x with params := zeros 16 ++ x.params.drop 16, subunit := 0, flags := x.flags &&& 0xFB } (t.addressed x)
           (be 4 ((t.addressed x).foldl (fun n p => max n (let a := u.port p; planMinimum (a.cfgSet, a.cfgRed, a.cfgHist))) 0))))

/-- O26. What a DTC's reading verbs return (R171, R191, R195, R199, R205): READ_COUNTERS the live counters or the freeze bank, READ_SENSORS the last,
least and greatest reading per channel, READ_EVENT_RING the entries asked for, READ_HANG the record and whether the condition holds on the queues as
they are. FREEZE_COUNTERS gets ST_BUSY while a snapshot is pending, unless a capture edge of its own cycle began that snapshot and it joins it;
otherwise it freezes, and answers with the instant and the set of its freeze (R177, R178). -/
def Obligations.DtcReadsReturnTheirBanks : Prop :=
  ∀ p : Fin 64,
    Does .readCounters vReadCounters (fun x _ => x.part = .dtc p ∧ x.b 4 = 1)
      (fun x t => (t, .final St.ok (be 8 (t.dtc p).cs ++ be 1 0 ++ zeros 1 ++ be 2 (t.dtc p).cnt.set.id ++ be 2 (t.dtc p).cnt.ignored ++ be 2 (x.f 2 2) ++
        ((List.range (x.f 2 2)).map fun i => be 6 (Tbl.get 0 (x.f 0 2 + i) (t.dtc p).cnt.counters)).flatten))) ∧
    Does .readCounters vReadCounters (fun x _ => x.part = .dtc p ∧ x.b 4 ≠ 1)
      (fun x t => (t, .final St.ok (be 8 (t.dtc p).cnt.freezeCs ++ be 1 (t.dtc p).cnt.freezeKind ++ zeros 1 ++ be 2 (t.dtc p).cnt.freezeSet ++
        be 2 (t.dtc p).cnt.ignored ++ be 2 (x.f 2 2) ++
        ((List.range (x.f 2 2)).map fun i => be 6 (Tbl.get 0 (x.f 0 2 + i) (t.dtc p).cnt.freeze)).flatten))) ∧
    Does .freezeCounters vFreezeCounters (fun x t => x.part = .dtc p ∧ (t.dtc p).cnt.snapshotPending = true ∧ (t.dtc p).joins 1 = false)
      (fun _ t => (t, .final St.busy)) ∧
    Does .freezeCounters vFreezeCounters (fun x t => x.part = .dtc p ∧ (t.dtc p).joins 1 = true)
      (fun _ t => (t.setDtc p ((t.dtc p).joinFreeze (t.dtc p).cnt.frozenIn),
        .final St.ok (be 8 (t.dtc p).cnt.freezeCs ++ be 2 (t.dtc p).cnt.freezeSet ++ zeros 2))) ∧
    Does .freezeCounters vFreezeCounters (fun x t => x.part = .dtc p ∧ (t.dtc p).cnt.snapshotPending = false)
      (fun _ t =>
        let e := (t.dtc p).freezeNow (t.dtc p).time.time 1 255
        (t.setDtc p e, .final St.ok (be 8 e.cnt.freezeCs ++ be 2 e.cnt.freezeSet ++ zeros 2))) ∧
    Does .readSensors vReadSensors (fun x _ => x.part = .dtc p)
      (fun x t => (t, .final St.ok (be 8 (t.dtc p).cs ++ be 1 (x.b 0) ++ be 1 (x.b 1) ++ zeros 6 ++ ((List.range (x.b 1)).map fun i =>
        let k := (t.dtc p).sensor (x.b 0 + i)
        be 4 ((t.dtc p).snsLast (x.b 0 + i)) ++ be 2 k.least.toNat ++ be 2 k.greatest.toNat).flatten))) ∧
    Does .readEventRing vReadEventRing (fun x _ => x.part = .dtc p)
      (fun x t =>
        let r := Tbl.get {} (x.b 0) (t.dtc p).rings
        let es := (r.entries.drop (x.b 1)).take (x.b 2)
        (t, .final St.ok (be 8 ((r.entries.head?.map (·.count)).getD 0) ++ be 4 r.total ++ be 1 es.length ++ zeros 3 ++ (es.map (·.bytes)).flatten))) ∧
    Does .readHang vReadHang (fun x _ => x.part = .dtc p)
      (fun _ t => (t, .final St.ok (padTo 64 (t.dtc p).hang.record ++ be 1 (if hangCondition (t.dtc p).liveQueues then 1 else 0) ++ zeros 3)))

/-- O27. Check-value scans of a DTC (R153, R202 to R204): the configuration is written while no scan runs, and gets ST_STATE while one does; a second
start gets ST_BUSY; a start of length 0 answers at once with the check value of nothing; any other start is accepted and issues its reads; an abort
ends the running scan with ST_STATE, and gets ST_STATE itself with none. -/
def Obligations.DtcScansRunOneAtATime : Prop :=
  ∀ p : Fin 64,
    Does .setCheckValue vSetCheckValue (fun x t => x.part = .dtc p ∧ (t.dtc p).scan = none)
      (fun x t => (t.onDtc p fun d => { d with check :=
        { w := x.b 0, poly := x.f 8 8, init := x.f 16 8, xor := x.f 24 8, refin := x.b 1 % 2 = 1, refout := x.b 1 / 2 % 2 = 1 } }, .final St.ok)) ∧
    Does .setCheckValue vSetCheckValue (fun x t => x.part = .dtc p ∧ (t.dtc p).scan ≠ none) (fun _ t => (t, .final St.state)) ∧
    Does .scanStart vScan (fun x t => x.b 0 = 0 ∧ x.part = .dtc p ∧ (t.dtc p).scan ≠ none) (fun _ t => (t, .final St.busy)) ∧
    Does .scanStart vScan (fun x t => x.b 0 = 0 ∧ x.part = .dtc p ∧ (t.dtc p).scan = none ∧ x.f 16 8 = 0)
      (fun _ t => (t, .final St.ok (be 8 ((t.dtc p).check.init ^^^ (t.dtc p).check.xor) ++ be 8 0 ++ be 8 (2 ^ 64 - 1)))) ∧
    Does .scanStart vScan (fun x t => x.b 0 = 0 ∧ x.part = .dtc p ∧ (t.dtc p).scan = none ∧ x.f 16 8 ≠ 0)
      (fun x t => ((t.setDtc p { t.dtc p with
        scan := some ⟨x.ticket, x.f 8 8, x.f 16 8, 0, checkStart (t.dtc p).check, x.f 8 8 / 64 * 64⟩, hmBlocked := !(t.dtc p).hm.isEmpty }).issueScan p, .accepted)) ∧
    Does .scanAbort vScan (fun x t => x.b 0 = 1 ∧ x.part = .dtc p ∧ (t.dtc p).scan ≠ none) (fun _ t => (t.endScan p St.state none, .final St.ok)) ∧
    Does .scanAbort vScan (fun x t => x.b 0 = 1 ∧ x.part = .dtc p ∧ (t.dtc p).scan = none) (fun _ t => (t, .final St.state))

/-- O28. Class 0x03 (R217, R225, R228, R232, R234): SET_TRACE_SOURCE of a hub source without a debug authorisation gets ST_STATE; otherwise it enables the
source, which then owes its start, or disables it, and flushes that had only its clauses to wait for end; SET_TRACE_SINK with SIZE 0 stops the stream,
with another size it starts one at offset 0 that begins with reason 7; a TRACE_FLUSH marks every named source that traces, and of none answers 0 at
once; GET_TRACE_STATUS reports floors, fill, counts and every source of the part's own stream, or the counts of another stream. -/
def Obligations.TraceVerbsSetSourcesAndSinks : Prop :=
  Does .setTraceSource vSetTraceSource (fun x t => x.part = .agg ∧ x.b 1 % 2 = 1 ∧ t.hubTraceAllowed = false) (fun _ t => (t, .final St.state)) ∧
  Does .setTraceSource vSetTraceSource (fun x t => x.b 1 % 2 = 1 ∧ (x.part = .agg → t.hubTraceAllowed = true))
    (fun x t =>
      let k := (t.traceUnit x.part).source (x.b 0)
      ((t.setTraceUnit x.part (((t.traceUnit x.part).setSource (x.b 0) { k with
        cyc := x.b 1 / 2 % 2 = 1, prio := x.b 2, enabled := true, enableOwed := k.enableOwed || !k.enabled }).drops (t.nowOf x.part))).endFlushes x.part,
        .final St.ok)) ∧
  Does .setTraceSource vSetTraceSource (fun x _ => x.b 1 % 2 = 0)
    (fun x t => ((t.setTraceUnit x.part (((t.traceUnit x.part).setSource (x.b 0)
      { (t.traceUnit x.part).source (x.b 0) with cyc := x.b 1 / 2 % 2 = 1, prio := x.b 2 }.disable).drops (t.nowOf x.part))).endFlushes x.part,
      .final St.ok)) ∧
  Does .setTraceSink vSetTraceSink (fun x _ => x.f 8 4 = 0)
    (fun x t => (t.setSink x.subunit.toNat { t.sink x.subunit.toNat with size := 0, addr := 0, pair := 0, ovfs := [], wr := 0, rd := 0 }, .final St.ok)) ∧
  Does .setTraceSink vSetTraceSink (fun x _ => x.f 8 4 ≠ 0)
    (fun x t =>
      let u := t.setSink x.subunit.toNat { t.sink x.subunit.toNat with addr := x.f 0 8, size := x.f 8 4, pair := x.f 16 8, wr := 0, rd := 0, ovfs := [7] }
      (((if x.subunit.toNat = 0 then { u with hub := { u.hub with current := none } } else u).sinkWrite x.subunit.toNat []).1, .final St.ok)) ∧
  (let tracing (x : Sentence) (t : State) := (flushSources x).filter fun i =>
     ((t.traceUnit x.part).source i).enabled && ((t.traceUnit x.part).source i).prevEn && ((t.traceUnit x.part).source i).dropped.isNone
   Does .traceFlush vTraceFlush (fun x t => tracing x t = [])
     (fun x t => (t.setTraceUnit x.part { t.traceUnit x.part with nextMark := (t.traceUnit x.part).nextMark + 1 }, .final St.ok (be 4 0))) ∧
   Does .traceFlush vTraceFlush (fun x t => tracing x t ≠ [])
     (fun x t =>
       let u := t.traceUnit x.part
       let v := (tracing x t).foldl (fun a i => a.setSource i { a.source i with flushOwed := (a.source i).flushOwed ++ [u.nextMark] })
         { u with nextMark := u.nextMark + 1 }
       (t.setTraceUnit x.part { v with flush := v.flush ++ [⟨x.ticket, u.nextMark, 0, []⟩] }, .later))) ∧
  Does .getTraceStatus vGetTraceStatus (fun x _ => x.part = .agg ∧ x.subunit.toNat = 0)
    (fun _ t => (t, .final St.ok (be 1 68 ++ be 1 t.hub.floor ++ be 1 t.hub.fillFloor ++ be 1 0 ++ be 4 t.hub.fill ++ be 8 (t.sink 0).written ++
      be 4 (t.sink 0).inserted ++ be 4 0 ++ ((List.range 68).map fun i => (t.hub.source i).status).flatten))) ∧
  Does .getTraceStatus vGetTraceStatus (fun x _ => x.part = .agg ∧ x.subunit.toNat ≠ 0)
    (fun x t => (t, .final St.ok (be 1 0 ++ be 1 t.hub.floor ++ zeros 6 ++ be 8 (t.sink x.subunit.toNat).written ++
      be 4 (t.sink x.subunit.toNat).inserted ++ be 4 0))) ∧
  (∀ p : Fin 64, Does .getTraceStatus vGetTraceStatus (fun x _ => x.part = .dtc p)
    (fun _ t => (t, .final St.ok (be 1 16 ++ be 1 (t.dtc p).trace.floor ++ be 1 (t.dtc p).trace.fillFloor ++ be 1 0 ++ be 4 (t.dtc p).trace.fill ++
      be 8 (t.dtc p).trace.bytesSent ++ be 4 0 ++ be 4 0 ++ ((List.range 16).map fun i => ((t.dtc p).trace.source i).status).flatten))))

/-- O29. LINK_RETRAIN in its five modes (R263, R272): on a link that is down or under test a retrain gets ST_STATE; on another it retrains with cause 6;
the two test modes take only a link that is out of service and stop its framing; taking a link out ends its service or its hold and leaves it down;
returning it lets it train. Each then sets the FCRC limit. At an aggregator's end whose port group is switched off every mode gets ST_STATE (R281). -/
def Obligations.LinkModesMoveTheLink : Prop :=
  (∀ cm : (Sentence → Instr) × Nat,
    cm ∈ [(Instr.linkRetrain, 0), (Instr.linkPrbs31Test, 1), (Instr.linkLoopbackTest, 2), (Instr.linkTakeOutOfService, 3), (Instr.linkReturnToService, 4)] →
    Does cm.1 vLinkRetrain (fun x t => x.b 1 = cm.2 ∧ t.endOff (endOf x) = true) (fun _ t => (t, .final St.state))) ∧
  Does .linkRetrain vLinkRetrain (fun x t => x.b 1 = 0 ∧ t.endOff (endOf x) = false ∧ (t.linkEnd (endOf x).1 (endOf x).2.1 (endOf x).2.2).active = false) (fun _ t => (t, .final St.state)) ∧
  Does .linkRetrain vLinkRetrain (fun x t => x.b 1 = 0 ∧ t.endOff (endOf x) = false ∧ (t.linkEnd (endOf x).1 (endOf x).2.1 (endOf x).2.2).active = true)
    (fun x t => ((t.retrain (endOf x).1 (endOf x).2.1 (endOf x).2.2 6 true).setLimit x, .final St.ok)) ∧
  (∀ cm : (Sentence → Instr) × Nat, cm ∈ [(Instr.linkPrbs31Test, 1), (Instr.linkLoopbackTest, 2)] →
    Does cm.1 vLinkRetrain (fun x t => x.b 1 = cm.2 ∧ t.endOff (endOf x) = false ∧ (t.linkEnd (endOf x).1 (endOf x).2.1 (endOf x).2.2).lives = true)
      (fun _ t => (t, .final St.state)) ∧
    Does cm.1 vLinkRetrain (fun x t => x.b 1 = cm.2 ∧ t.endOff (endOf x) = false ∧ (t.linkEnd (endOf x).1 (endOf x).2.1 (endOf x).2.2).lives = false)
      (fun x t => ((t.onEnd (endOf x).1 (endOf x).2.1 (endOf x).2.2 fun e =>
        { e with st := .test, testMode := cm.2, framing := false, firstIdle := false, aligned := false, alignedIn := 0,
                 lanes := e.lanes.map fun k => (k.1, { k.2 with prbsRx := none }) }).setLimit x, .final St.ok))) ∧
  Does .linkTakeOutOfService vLinkRetrain (fun x t => x.b 1 = 3 ∧ t.endOff (endOf x) = false)
    (fun x t =>
      let q := endOf x
      let u := (t.endSwap q.1 q.2.1 q.2.2 1).onEnd q.1 q.2.1 q.2.2 fun e =>
        { e with st := .down, outOfService := true, framing := false, aligned := false, alignedIn := 0, startOk := false, rxSeq := none }
      let v := match (t.linkEnd (endOf x).1 (endOf x).2.1 (endOf x).2.2).st with
        | .inService => u.leaveService q.1 q.2.1 q.2.2
        | .held => u.endHold q.1 q.2.1 q.2.2
        | _ => u
      ((v.onEnd q.1 q.2.1 q.2.2 fun e => { e with st := .down }).setLimit x, .final St.ok)) ∧
  Does .linkReturnToService vLinkRetrain (fun x t => x.b 1 = 4 ∧ t.endOff (endOf x) = false)
    (fun x t => ((t.onEnd (endOf x).1 (endOf x).2.1 (endOf x).2.2 fun e =>
      { e with outOfService := false, testMode := 0, st := if e.st == .down || e.st == .test then .training else e.st }).setLimit x, .final St.ok))

/-- O30. The other verbs of class 0x04 (R240, R264, R272, R273): LANE_SWAP of a lane other than the spare asks the transmitter and is accepted; of the spare
it gets ST_STATE or the present map, as the implementation has it; on a link that is down, under test or already swapping ST_STATE. Its automatic form
sets the switch and the threshold, and on a link that is down gets ST_STATE. SET_COMPRESSION sets a DTC's encodings, without TRACE below level 3, or is
forwarded. GET_LINK_STATUS reports the end's state, lanes and counts, GET_JOURNAL the journal at either end. At an aggregator's end whose port group is
switched off all but SET_COMPRESSION get ST_STATE (R281). -/
def Obligations.LinkVerbsActOnTheirEnd : Prop :=
  Does .laneSwapRetire vLaneSwap (fun x t => x.b 1 = 0 ∧ t.endOff (endOf x) = true) (fun _ t => (t, .final St.state)) ∧
  Does .laneSwapSetAutomatic vLaneSwap (fun x t => x.b 1 = 1 ∧ t.endOff (endOf x) = true) (fun _ t => (t, .final St.state)) ∧
  Does .getLinkStatus vGetLinkStatus (fun x t => t.endOff (endOf x) = true) (fun _ t => (t, .final St.state)) ∧
  Does .getJournal vGetJournal (fun x t => t.endOff (endOf x) = true) (fun _ t => (t, .final St.state)) ∧
  Does .laneSwapRetire vLaneSwap (fun x t => x.b 1 = 0 ∧ ((t.linkEnd (endOf x).1 (endOf x).2.1 (endOf x).2.2).active = false ∨ (t.linkEnd (endOf x).1 (endOf x).2.1 (endOf x).2.2).rxSwap ≠ .none)) (fun _ t => (t, .final St.state)) ∧
  Does .laneSwapRetire vLaneSwap
    (fun x t => x.b 1 = 0 ∧ t.endOff (endOf x) = false ∧ (t.linkEnd (endOf x).1 (endOf x).2.1 (endOf x).2.2).active = true ∧ (t.linkEnd (endOf x).1 (endOf x).2.1 (endOf x).2.2).rxSwap = .none ∧ x.b 2 ≠ (t.linkEnd (endOf x).1 (endOf x).2.1 (endOf x).2.2).rxMap.spare)
    (fun x t => ((t.onEnd (endOf x).1 (endOf x).2.1 (endOf x).2.2 fun e => { e with rxSwap := .asked (x.b 2) (some x.ticket) }).sendCtrl
      (endOf x).1 (endOf x).2.1 (endOf x).2.2 3 (x.b 2), .accepted)) ∧
  Does .laneSwapRetire vLaneSwap
    (fun x t => x.b 1 = 0 ∧ t.endOff (endOf x) = false ∧ (t.linkEnd (endOf x).1 (endOf x).2.1 (endOf x).2.2).active = true ∧ (t.linkEnd (endOf x).1 (endOf x).2.1 (endOf x).2.2).rxSwap = .none ∧ x.b 2 = (t.linkEnd (endOf x).1 (endOf x).2.1 (endOf x).2.2).rxMap.spare)
    (fun x t => (t, if Config.retireSpareRefused then .final St.state else .final St.ok (be 1 (t.linkEnd (endOf x).1 (endOf x).2.1 (endOf x).2.2).rxMap.byte ++ be 1 0))) ∧
  Does .laneSwapSetAutomatic vLaneSwap (fun x t => x.b 1 = 1 ∧ (t.linkEnd (endOf x).1 (endOf x).2.1 (endOf x).2.2).st = .down) (fun _ t => (t, .final St.state)) ∧
  Does .laneSwapSetAutomatic vLaneSwap (fun x t => x.b 1 = 1 ∧ t.endOff (endOf x) = false ∧ (t.linkEnd (endOf x).1 (endOf x).2.1 (endOf x).2.2).st ≠ .down)
    (fun x t => (t.onEnd (endOf x).1 (endOf x).2.1 (endOf x).2.2 fun e => { e with autoSwap := x.b 3 % 2 = 1, threshold := x.b 4 }, .final St.ok)) ∧
  Does .setCompression vSetCompression (fun x _ => x.part = .agg) (fun x t => t.forwardAll 0x0403 { x with subunit := 0 } (t.addressed x) []) ∧
  (∀ p : Fin 64,
    Does .setCompression vSetCompression (fun x t => x.part = .dtc p ∧ t.level (.dtc p) < 3 ∧ (BitVec.ofNat 5 (x.f 2 2)).getLsbD 4 = true)
      (fun _ t => (t, .final St.param)) ∧
    Does .setCompression vSetCompression (fun x t => x.part = .dtc p ∧ (3 ≤ t.level (.dtc p) ∨ (BitVec.ofNat 5 (x.f 2 2)).getLsbD 4 = false))
      (fun x t => (t.onDtc p fun d => { d with compEnable := x.b 0 % 2 = 1, compMask := BitVec.ofNat 5 (x.f 2 2) }, .final St.ok)) ∧
    Does .getLinkStatus vGetLinkStatus (fun x _ => x.part = .dtc p)
      (fun x t =>
        let d := t.dtc p
        let k := d.link (linkOf (x.b 0))
        (t, .final St.ok (be 1 k.e.st.code ++ be 1 (if k.e.st == .test then k.e.testMode else 0) ++ be 1 k.e.rxMap.byte ++
          be 1 (flagBit (if linkOf (x.b 0) == .a then d.ties.optA else d.ties.optB) 0 + flagBit k.optValid 1) ++ be 2 k.optPower.toNat ++ zeros 2 ++
          be 4 0 ++ zeros 4 ++ laneStatus k.e 0 ++ laneStatus k.e 1 ++ laneStatus k.e 2 ++ zeros 8 ++ be 8 k.e.hcrc ++ be 8 k.e.fcrc ++
          be 8 k.e.delineation ++ be 8 k.e.retrains ++ be 8 k.e.swaps ++ be 2 k.e.window ++ be 2 k.e.limit))) ∧
    Does .getJournal vGetJournal (fun x _ => x.part = .dtc p)
      (fun x t =>
        let j := (t.dtc p).journal
        let k := (t.dtc p).link (linkOf (x.b 0))
        (t, .final St.ok (be 4 ((j.frames.head?.map (·.seq)).getD j.nextSeq).toNat ++ be 4 j.nextSeq.toNat ++ be 2 j.frames.length ++
          be 1 k.e.st.code ++ be 1 0 ++ be 4 k.acked.toNat ++ be 8 j.resent ++ be 8 j.dropped ++ be 8 j.compFail)))) ∧
  Does .getLinkStatus vGetLinkStatus (fun x t => x.part = .agg ∧ t.endOff (endOf x) = false)
    (fun x t =>
      let a := t.port (endOf x).2.1
      (t, .final St.ok (be 1 a.e.st.code ++ be 1 (if a.e.st == .test then a.e.testMode else 0) ++ be 1 a.e.rxMap.byte ++
        be 1 (flagBit a.optValid 0 + flagBit a.optValid 1) ++ be 2 a.optPower.toNat ++ zeros 2 ++ be 4 (if a.measured then a.delayNs else 0) ++ zeros 4 ++
        laneStatus a.e 0 ++ laneStatus a.e 1 ++ laneStatus a.e 2 ++ zeros 8 ++ be 8 a.e.hcrc ++ be 8 a.e.fcrc ++ be 8 a.e.delineation ++
        be 8 a.e.retrains ++ be 8 a.e.swaps ++ be 2 a.e.window ++ be 2 a.e.limit))) ∧
  Does .getJournal vGetJournal (fun x t => x.part = .agg ∧ t.endOff (endOf x) = false)
    (fun x t =>
      let a := t.port (endOf x).2.1
      (t, .final St.ok (be 4 a.next.toNat ++ be 4 a.lastResume.toNat ++ be 2 a.hold.length ++ zeros 6 ++ be 8 a.dups ++ be 8 a.missingAsked ++
        be 8 a.rejected ++ be 8 a.unknownSet)))
/-- O31. Class 0x05, loading (R374, R375, R382, R553, R554). A chunk of LOAD_MODEL that neither starts an absent model nor continues a load gets
ST_STATE; a first chunk with the store's 4,096 models held gets ST_BUSY; a chunk that outgrows the store or its context's quota discards the load with
ST_BUSY, a sealed one that does not match its slot with ST_STATE; any other chunk is stored in the model's pages, and but for the last one that is all. The
last chunk of an image that is not authentic or not valid discards the load with ST_PARAM; a valid image makes the model LOADED and answers with its
CRC and its store. The chunks of SET_FEATURE_MAP follow the same order beside a model that is LOADED, SERVING or being placed anew, with 8 MiB and
4,096 maps as bounds, and the last one of a map that suits the model makes it the next map, 2 µs on; none of them touches the model's image. UNLOAD_MODEL
marks a present model, whose unloading follows, and gets ST_STATE for one absent or already UNLOADING. -/
def Obligations.ModelsAreLoadedInChunks : Prop :=
  (let m (x : Sentence) (t : State) : Model := t.model (xModel x)
   let started (x : Sentence) (t : State) (l : LoadState) : State := t.setModel (xModel x) { m x t with st := 1, load := some l }
   let stored (x : Sentence) (t : State) (l : LoadState) : State :=
     (started x t l).storeImage (xModel x) (t.chunkPlain x.tenant.toNat x l).1 (t.chunkPlain x.tenant.toNat x l).2
   let taken (x : Sentence) (t : State) (l : LoadState) : Prop := nextLoad t.now (m x t).load x = some l ∧
     (chFirst x = true ∧ m x t = {} ∧ t.data.models.length < 4096 ∨ chFirst x = false ∧ (m x t).st = 1)
   let room (x : Sentence) (t : State) (l : LoadState) : Prop :=
     (started x t l).pagesUsed ≤ 35776 ∧ (started x t l).pagesOf x.tenant.toNat ≤ t.pageQuota x.tenant.toNat
   let sealOk (x : Sentence) (t : State) (l : LoadState) : Prop :=
     isSealed l.received = true → 64 ≤ l.received.length → t.sealMatches x.tenant.toNat (x.f 0 2) l.received = true
   Does .loadModel vLoadModel (fun x t => chFirst x = true ∧ m x t ≠ {} ∨ chFirst x = false ∧ ((m x t).st ≠ 1 ∨ nextLoad t.now (m x t).load x = none))
     (fun _ t => (t, .final St.state)) ∧
   Does .loadModel vLoadModel (fun x t => chFirst x = true ∧ m x t = {} ∧ 4096 ≤ t.data.models.length) (fun _ t => (t, .final St.busy)) ∧
   (∀ l : LoadState,
     Does .loadModel vLoadModel (fun x t => taken x t l ∧ ¬ room x t l) (fun x t => ((started x t l).discardLoad (xModel x), .final St.busy)) ∧
     Does .loadModel vLoadModel (fun x t => taken x t l ∧ room x t l ∧ ¬ sealOk x t l) (fun x t => ((started x t l).discardLoad (xModel x), .final St.state)) ∧
     Does .loadModel vLoadModel (fun x t => taken x t l ∧ room x t l ∧ sealOk x t l ∧ chLast x = false) (fun x t => (stored x t l).chunkDone x) ∧
     Does .loadModel vLoadModel (fun x t => taken x t l ∧ room x t l ∧ sealOk x t l ∧ chLast x = true ∧ t.openImage x.tenant.toNat l.received = none)
       (fun x t => ((stored x t l).discardLoad (xModel x), .final St.param)) ∧
     (∀ image : Bytes,
       Does .loadModel vLoadModel (fun x t => taken x t l ∧ room x t l ∧ sealOk x t l ∧ chLast x = true ∧
           t.openImage x.tenant.toNat l.received = some image ∧ (modelValid image x.tenant.toNat = false ∨ t.level .agg < 3 ∧ usesLevel3 image = true))
         (fun x t => ((stored x t l).discardLoad (xModel x), .final St.param)) ∧
       Does .loadModel vLoadModel (fun x t => taken x t l ∧ room x t l ∧ sealOk x t l ∧ chLast x = true ∧
           t.openImage x.tenant.toNat l.received = some image ∧ modelValid image x.tenant.toNat = true ∧ (3 ≤ t.level .agg ∨ usesLevel3 image = false))
         (fun x t =>
           let loaded : Model := { st := 2, image := image, at_ := ((stored x t l).model (xModel x)).at_ }
           ((stored x t l).setModel (xModel x) loaded).chunkDone x (be 8 (crc64 image) ++ be 8 (loaded.pages * 2097152)))))) ∧
  (let m (x : Sentence) (t : State) : Model := t.model (xModel x)
   let with_ (x : Sentence) (t : State) (l : Option LoadState) : State := t.setModel (xModel x) { m x t with mapLoad := l }
   let open_ (x : Sentence) (t : State) : Prop :=
     ((m x t).st = 2 ∨ (m x t).st = 4 ∨ (m x t).st = 3 ∧ (m x t).place.isSome = true) ∧ (chFirst x = true → (m x t).mapLoad = none)
   let room (x : Sentence) (t : State) (l : LoadState) : Prop :=
     (with_ x t (some l)).mapBytes (xModel x) + l.stored ≤ 8388608 ∧ ((m x t).map ≠ [] ∨ t.mapCount < 4096)
   let sealOk (x : Sentence) (t : State) (l : LoadState) : Prop :=
     isSealed l.received = true → 64 ≤ l.received.length → t.sealMatches x.tenant.toNat (x.f 0 2) l.received = true
   Does .setFeatureMap vSetFeatureMap (fun x t => ¬ open_ x t ∨ nextLoad t.now (m x t).mapLoad x = none) (fun _ t => (t, .final St.state)) ∧
   ∀ l : LoadState,
     Does .setFeatureMap vSetFeatureMap (fun x t => open_ x t ∧ nextLoad t.now (m x t).mapLoad x = some l ∧ ¬ room x t l)
       (fun x t => (with_ x t none, .final St.busy)) ∧
     Does .setFeatureMap vSetFeatureMap (fun x t => open_ x t ∧ nextLoad t.now (m x t).mapLoad x = some l ∧ room x t l ∧ ¬ sealOk x t l)
       (fun x t => (with_ x t none, .final St.state)) ∧
     Does .setFeatureMap vSetFeatureMap
       (fun x t => open_ x t ∧ nextLoad t.now (m x t).mapLoad x = some l ∧ room x t l ∧ sealOk x t l ∧ chLast x = false)
       (fun x t => (with_ x t (some l)).chunkDone x) ∧
     Does .setFeatureMap vSetFeatureMap
       (fun x t => open_ x t ∧ nextLoad t.now (m x t).mapLoad x = some l ∧ room x t l ∧ sealOk x t l ∧ chLast x = true ∧
         ((with_ x t (some l)).mapOf x l).1 ≠ St.ok)
       (fun x t => (with_ x t none, .final ((with_ x t (some l)).mapOf x l).1)) ∧
     Does .setFeatureMap vSetFeatureMap
       (fun x t => open_ x t ∧ nextLoad t.now (m x t).mapLoad x = some l ∧ room x t l ∧ sealOk x t l ∧ chLast x = true ∧
         ((with_ x t (some l)).mapOf x l).1 = St.ok)
       (fun x t =>
         let map := ((with_ x t (some l)).mapOf x l).2
         (t.setModel (xModel x) { m x t with mapLoad := none, mapNext := some (map, t.now + 2000) }).chunkDone x (be 4 map.length))) ∧
  Does .unloadModel vUnloadModel (fun x t => t.model (xModel x) = {} ∨ (t.model (xModel x)).st = 5) (fun _ t => (t, .final St.state)) ∧
  Does .unloadModel vUnloadModel (fun x t => t.model (xModel x) ≠ {} ∧ (t.model (xModel x)).st ≠ 5)
    (fun x t => (t.setModel (xModel x) { t.model (xModel x) with unloadAt := some t.now }, .final St.ok))

/-- O32. Class 0x05, placing and reading (R375 to R382, R396, R561): PLACE_MODEL of a model that is not LOADED or SERVING, or that has a placement
under way, gets ST_STATE; a clear of the mask is accepted and becomes the next placement; a plan that does not suit the model gets ST_PARAM; one on a
cluster that is off or retired ST_STATE; one that finds no room ST_BUSY; and any other takes its slots, makes the model PLACING and is accepted.
CLOSE_SEQUENCE frees an idle sequence at once with its step count and state, waits for admitted steps otherwise, and gets ST_STATE for one that is not
open or already closing; GET_JOBS reads one context's count; GET_MODEL_STATUS returns 80 bytes. -/
def Obligations.PlacementAndSequencesAnswer : Prop :=
  (let m (x : Sentence) (t : State) : Model := t.model (xModel x)
   let may (x : Sentence) (t : State) : Prop := x.staged = false ∧ ((m x t).st = 2 ∨ (m x t).st = 4) ∧ (m x t).next = none
   let suits (x : Sentence) (t : State) : Prop := may x t ∧ (placeOf x).mask ≠ 0 ∧ placeSuits (m x t).image (placeOf x) = true
   let stands (t : State) (c : Nat) : Prop := t.powered c = true ∧ ∀ r ∈ t.rel.retired, r.1 ≠ c
   let held (x : Sentence) (t : State) : Nat := ((m x t).place.map (·.seqBase)).getD 0xFFFFFFFF
   let base (x : Sentence) (t : State) : Option Nat :=
     if mdUse (m x t).image = 1 then (if held x t = 0xFFFFFFFF then t.freeSeqRun else some (held x t)) else some 0xFFFFFFFF
   Does .placeModel vPlaceModel (fun x t => x.staged = false ∧ ((m x t).st ≠ 2 ∧ (m x t).st ≠ 4 ∨ (m x t).next.isSome = true))
     (fun _ t => (t, .final St.state)) ∧
   Does .placeModel vPlaceModel (fun x t => may x t ∧ (placeOf x).mask = 0)
     (fun x t => (t.setModel (xModel x) { m x t with
       st := 3, next := some { plan := { replicas := 1 }, ticket := x.ticket, staged := false, copied := true, copiedAt := t.now } }, .accepted)) ∧
   Does .placeModel vPlaceModel (fun x t => may x t ∧ (placeOf x).mask ≠ 0 ∧ placeSuits (m x t).image (placeOf x) = false)
     (fun _ t => (t, .final St.param)) ∧
   Does .placeModel vPlaceModel (fun x t => suits x t ∧ ∃ c ∈ maskClusters (placeOf x).mask, ¬ stands t c) (fun _ t => (t, .final St.state)) ∧
   Does .placeModel vPlaceModel
     (fun x t => suits x t ∧ (∀ c ∈ maskClusters (placeOf x).mask, stands t c) ∧ (layout t.data.directory (m x t).image (placeOf x) = none ∨ base x t = none))
     (fun _ t => (t, .final St.busy)) ∧
   ∀ (slots : List SlotPlace) (b : Nat), Does .placeModel vPlaceModel
     (fun x t => suits x t ∧ (∀ c ∈ maskClusters (placeOf x).mask, stands t c) ∧ layout t.data.directory (m x t).image (placeOf x) = some slots ∧
       base x t = some b)
     (fun x t =>
       let p : Placement := { placeOf x with slots := slots, seqBase := b }
       let u := t.takeSlots (xModel x) p (if p.mode = 1 then 1 else if mdKind (m x t).image = 1 then 2 else 0)
       let v := if mdUse (m x t).image = 1 ∧ held x t = 0xFFFFFFFF then
           { u with data := { u.data with seqs := (List.range 64).foldl (fun q i =>
               Tbl.set {} (b + i) { Tbl.get ({} : SeqEntry) (b + i) q with model := xModel x, port := some i } q) u.data.seqs } }
         else u
       (v.setModel (xModel x) { m x t with st := 3, next := some { plan := p, ticket := x.ticket, staged := false } }, .accepted))) ∧
  Does .closeSequence vCloseSequence (fun x t => t.seqNamed x.tenant.toNat (x.f 0 4) = none) (fun _ t => (t, .final St.state)) ∧
  (∀ i e, Does .closeSequence vCloseSequence (fun x t => t.seqNamed x.tenant.toNat (x.f 0 4) = some (i, e) ∧ e.closing ≠ none)
    (fun _ t => (t, .final St.state))) ∧
  (∀ i e, Does .closeSequence vCloseSequence
    (fun x t => t.seqNamed x.tenant.toNat (x.f 0 4) = some (i, e) ∧ e.closing = none ∧ e.order = [])
    (fun _ t => (t.setSeq i { gen := e.gen }, .final St.ok (be 8 e.steps ++ padTo 256 e.state)))) ∧
  (∀ i e, Does .closeSequence vCloseSequence
    (fun x t => t.seqNamed x.tenant.toNat (x.f 0 4) = some (i, e) ∧ e.closing = none ∧ e.order ≠ [])
    (fun x t => (t.setSeq i { e with closing := some x.ticket }, .later))) ∧
  Does .getJobs vGetJobs (fun _ _ => True) (fun x t => (t, .final St.ok (be 8 (Tbl.get 0 (x.f 0 2) t.data.jobs)))) ∧
  Shows .getModelStatus vGetModelStatus (fun _ _ => True) 0 (fun _ _ => 80)

/-- O33. Sequence IDs (R394): the ID that OPEN_SEQUENCE returns is the generation in bits 31 to 16 and the entry index in bits 15 to 0; the entry is
the lowest free one, its generation is the next one, never 0; with no entry free the answer is ST_BUSY. -/
def Obligations.OpenSequenceTakesTheLowestFreeIndex : Prop :=
  let ready (x : Sentence) (t : State) : Prop :=
    let m := t.model (xModel x)
    (m.st = 2 ∨ m.st = 4 ∨ m.serving = true) ∧ mdUse m.image ≠ 1 ∧ mdOps m.image ≠ 0 ∧
      seqStateValid m.image (if x.plen = 4 then zeros 256 else x.params.drop 4) = true
  (∀ i : Nat, i < 65536 → Does .openSequence vOpenSequence
    (fun x t => ready x t ∧ (∀ j, j < i → (t.seq j).used = true) ∧ (t.seq i).used = false)
    (fun x t =>
      let g := if 65535 ≤ (t.seq i).gen then 1 else (t.seq i).gen + 1
      (t.setSeq i { isOpen := true, gen := g, model := xModel x, steps := 0, state := if x.plen = 4 then zeros 256 else x.params.drop 4 },
        .final St.ok (be 4 (g * 65536 + i))))) ∧
  Does .openSequence vOpenSequence (fun x t => ready x t ∧ ∀ j, j < 65536 → (t.seq j).used = true) (fun _ t => (t, .final St.busy)) ∧
  ∀ g i : Nat, i < 65536 → (if 65535 ≤ g then 1 else g + 1) ≠ 0 ∧ (if 65535 ≤ g then 1 else g + 1) * 65536 + i < 2 ^ 32 ∧
    ((if 65535 ≤ g then 1 else g + 1) * 65536 + i) / 65536 = (if 65535 ≤ g then 1 else g + 1) ∧
    ((if 65535 ≤ g then 1 else g + 1) * 65536 + i) % 65536 = i

/-- O34. Class 0x06 (R406 to R410, R429, R434, R436, R441). GROUP_JOIN and GROUP_SET of a 257th group get ST_BUSY; joining at another position than the
one held gets ST_STATE, under an older generation than the group's ST_STALE_GENERATION, and any other join becomes a pending change with the sentence's
ticket. A leave of a joined group becomes one, of another gets ST_STATE. A fence of a group not held, or under a newer generation than its own, gets
ST_STATE, under an older one ST_STALE_GENERATION, and under its own becomes a pending change for its stamp, or 2 µs on where the stamp is not to come.
GROUP_SET of a member outside the new tree or of a period under 10 µs gets ST_PARAM, of a model that is no telemetry model ST_STATE, and otherwise
stages the configuration. GROUP_STATUS returns 64 bytes; READ_STRAGGLERS the named part of a retained close, and for one not retained
ST_STALE_GENERATION or ST_STATE; SET_BASELINE gives a telemetry model a value or a group as its baseline. -/
def Obligations.GroupVerbsQueueTheirChange : Prop :=
  (let g (x : Sentence) (t : State) : Group := t.group (xGroup x)
   let has (x : Sentence) (t : State) : Bool := t.hasGroup (xGroup x)
   let room (x : Sentence) (t : State) : Prop := has x t = true ∨ t.data.groups.length < 256
   let queue (x : Sentence) (t : State) (p : GroupPending) : State := t.setGroup (xGroup x) (addPending (g x t) p)
   Does .groupJoin vGroupJoin (fun x t => has x t = false ∧ 256 ≤ t.data.groups.length) (fun _ t => (t, .final St.busy)) ∧
   Does .groupJoin vGroupJoin (fun x t => room x t ∧ (g x t).joined = true ∧ (g x t).pos ≠ x.f 4 2) (fun _ t => (t, .final St.state)) ∧
   Does .groupJoin vGroupJoin (fun x t => has x t = true ∧ ((g x t).joined = false ∨ (g x t).pos = x.f 4 2) ∧ x.b 6 ≠ 0 ∧ genOlder (x.b 6) (g x t).gen = true)
     (fun _ t => (t, .final St.staleGeneration)) ∧
   Does .groupJoin vGroupJoin (fun x t => room x t ∧ ((g x t).joined = false ∨ (g x t).pos = x.f 4 2) ∧
       (has x t = false ∨ x.b 6 = 0 ∨ genOlder (x.b 6) (g x t).gen = false))
     (fun x t => (queue x t ⟨.join (x.f 4 2) (x.b 6) (neighboursAt x), t.now + 2000, 0, some x.ticket⟩, .accepted)) ∧
   Does .groupLeave vGroupLeave (fun x t => (g x t).joined = false) (fun _ t => (t, .final St.state)) ∧
   Does .groupLeave vGroupLeave (fun x t => (g x t).joined = true) (fun x t => (queue x t ⟨.leave, t.now + 2000, 0, some x.ticket⟩, .accepted)) ∧
   Does .groupFence vGroupFence (fun x t => has x t = false) (fun _ t => (t, .final St.state)) ∧
   Does .groupFence vGroupFence (fun x t => has x t = true ∧ genOlder (x.b 4) (g x t).gen = true) (fun _ t => (t, .final St.staleGeneration)) ∧
   Does .groupFence vGroupFence (fun x t => has x t = true ∧ genOlder (x.b 4) (g x t).gen = false ∧ x.b 4 ≠ (g x t).gen) (fun _ t => (t, .final St.state)) ∧
   Does .groupFence vGroupFence (fun x t => has x t = true ∧ genOlder (x.b 4) (g x t).gen = false ∧ x.b 4 = (g x t).gen ∧ t.timeValid = true ∧
       t.svc < ofStamp (stampAt x.params 8))
     (fun x t => (queue x t ⟨.fence (x.b 4), 0, ofStamp (stampAt x.params 8), some x.ticket⟩, .accepted)) ∧
   Does .groupFence vGroupFence (fun x t => has x t = true ∧ genOlder (x.b 4) (g x t).gen = false ∧ x.b 4 = (g x t).gen ∧
       (t.timeValid = false ∨ ofStamp (stampAt x.params 8) ≤ t.svc))
     (fun x t => (queue x t ⟨.fence (x.b 4), t.now + 2000, 0, some x.ticket⟩, .accepted)) ∧
   (let fits (x : Sentence) (t : State) : Prop := ((g x t).joined = true → gcMember x.params (g x t).pos = true) ∧
      (gcP x.params = 0 ∨ 10000 ≤ gcP x.params * t.sys.epoch)
    let models (x : Sentence) (t : State) : Prop :=
      t.telemetryModel (gcSource x.params) = true ∧ (gcCause x.params = 0 ∨ t.telemetryModel (gcCause x.params) = true)
    Does .groupSet vGroupSet (fun x t => has x t = false ∧ 256 ≤ t.data.groups.length) (fun _ t => (t, .final St.busy)) ∧
    Does .groupSet vGroupSet (fun x t => room x t ∧ ¬ fits x t) (fun _ t => (t, .final St.param)) ∧
    Does .groupSet vGroupSet (fun x t => room x t ∧ fits x t ∧ ¬ models x t) (fun _ t => (t, .final St.state)) ∧
    Does .groupSet vGroupSet (fun x t => room x t ∧ fits x t ∧ models x t) (fun x t => (queue x t ⟨.config x.params, t.now, 0, none⟩, .final St.ok))) ∧
   Shows .groupStatus vGroupStatus (fun x t => has x t = true) 1 (fun _ _ => 64) ∧
   Does .groupStatus vGroupStatus (fun x t => has x t = false) (fun _ t => (t, .final St.state)) ∧
   (let kept (x : Sentence) (t : State) := (g x t).retained.find? fun c => c.gen == x.b 4 && c.index == x.f 8 8
    let part (x : Sentence) (r : Retained) : Option Bytes := if x.b 5 = 0 then some r.summary else if x.b 5 = 1 then some r.final else r.payload
    Does .readStragglers vReadStragglers (fun x t => kept x t = none)
      (fun x t => (t, .final (if has x t = true ∧ genOlder (x.b 4) (g x t).gen = true then St.staleGeneration else St.state))) ∧
    ∀ r, Does .readStragglers vReadStragglers (fun x t => kept x t = some r ∧ part x r = none) (fun _ t => (t, .final St.state)) ∧
      ∀ b, Does .readStragglers vReadStragglers (fun x t => kept x t = some r ∧ part x r = some b)
        (fun x t => (t, .final St.ok (be 8 r.index ++ be 4 b.length ++ zeros 4 ++ sub b (x.f 16 4) 4000)))) ∧
   Does .setBaseline vSetBaseline (fun x t => t.telemetryModel (x.f 0 2) = false) (fun _ t => (t, .final St.state)) ∧
   Does .setBaseline vSetBaseline (fun x t => t.telemetryModel (x.f 0 2) = true ∧ x.b 2 = 0)
     (fun x t => (t.setModel (x.f 0 2) { t.model (x.f 0 2) with
       baseline := { (t.model (x.f 0 2)).baseline.put t.svc (BitVec.ofNat 32 (x.f 4 4)) with group := none } }, .final St.ok)) ∧
   Does .setBaseline vSetBaseline (fun x t => t.telemetryModel (x.f 0 2) = true ∧ x.b 2 ≠ 0)
     (fun x t => (t.setModel (x.f 0 2) { t.model (x.f 0 2) with
       baseline := { (t.model (x.f 0 2)).baseline with group := some (x.f 8 4 % 2 ^ 24) } }, .final St.ok)))

/-- O35. Class 0x07 (R281, R449 to R468): a verb that needs the hub's or a port's domain answers ST_STATE while that domain is off. ROUTE_SET writes one
entry of the routing or of the next-hop table and ROUTE_GET reads it; POLICER_SET, QUEUE_SET and SHAPER_SET write settings that wait for their tick;
GATE_LIST_SET holds a list for its activation, at least 2 µs away; GATE_LIST_GET of a port without a list returns 40 zero bytes, and of one with a list
its base, cycle, activation and entries; GET_PORT_STATUS returns 176 bytes of a port, or the counts and the mode of a policer. -/
def Obligations.NetworkVerbsWriteTheirTables : Prop :=
  Does .routeSet vRouteSet (fun _ t => t.domainOn 94 = false) (fun _ t => (t, .final St.state)) ∧
  Does .routeSet vRouteSet (fun x t => t.domainOn 94 = true ∧ x.b 0 = 0)
    (fun x t => ({ t with net := { t.net with routes := Tbl.set 0 (x.f 4 4) (BitVec.ofNat 32 (x.f 12 4)) t.net.routes } }, .final St.ok)) ∧
  Does .routeSet vRouteSet (fun x t => t.domainOn 94 = true ∧ x.b 0 ≠ 0)
    (fun x t => ({ t with net := { t.net with hops := Tbl.set 0 (x.f 4 4) (BitVec.ofNat 64 (x.f 8 8)) t.net.hops } }, .final St.ok)) ∧
  Does .routeGet vRouteGet (fun _ t => t.domainOn 94 = false) (fun _ t => (t, .final St.state)) ∧
  Does .routeGet vRouteGet (fun x t => t.domainOn 94 = true ∧ x.b 0 = 0) (fun x t => (t, .final St.ok (be 8 (Tbl.get 0 (x.f 4 4) t.net.routes).toNat))) ∧
  Does .routeGet vRouteGet (fun x t => t.domainOn 94 = true ∧ x.b 0 ≠ 0) (fun x t => (t, .final St.ok (be 8 (Tbl.get 0 (x.f 4 4) t.net.hops).toNat))) ∧
  Does .policerSet vPolicerSet (fun _ _ => True)
    (fun x t => (t.setPolicer (x.f 0 2) { t.policer (x.f 0 2) with next := some {
      mode := x.b 2, respClass := some (x.b 3), cir := x.f 4 4, pir := x.f 8 4, cbs := x.f 12 4, pbs := x.f 16 4, fbRate := x.f 20 4, fbBurst := x.f 24 4
      } }, .final St.ok)) ∧
  (let off (x : Sentence) (t : State) : Prop := t.domainOn (portDomain (x.b 0)) = false
   let on (x : Sentence) (t : State) : Prop := t.domainOn (portDomain (x.b 0)) = true
   Does .queueSet vQueueSet off (fun _ t => (t, .final St.state)) ∧
   Does .queueSet vQueueSet on
     (fun x t => (t.setNetPort (x.b 0) { t.netPort (x.b 0) with
       queues := (List.range 5).foldl (fun q i => Tbl.set {} (3 + i) { Tbl.get {} (3 + i) q with nextWeight := some (x.b (4 + i)) } q)
         (t.netPort (x.b 0)).queues }, .final St.ok)) ∧
   Does .shaperSet vShaperSet off (fun _ t => (t, .final St.state)) ∧
   Does .shaperSet vShaperSet on
     (fun x t => (t.setNetPort (x.b 0) { t.netPort (x.b 0) with
       queues := Tbl.set {} (x.b 1) { Tbl.get {} (x.b 1) (t.netPort (x.b 0)).queues with next := some (x.f 4 4, x.f 8 4) } (t.netPort (x.b 0)).queues },
       .final St.ok)) ∧
   Does .gateListSet vGateListSet off (fun _ t => (t, .final St.state)) ∧
   Does .gateListSet vGateListSet (fun x t => on x t ∧ x.staged = false)
     (fun x t => (t.setNetPort (x.b 0) { t.netPort (x.b 0) with
       gatePending := some {
         base := ofStamp (stampAt x.params 4), cycle := x.f 20 4, entries := gateEntries x, stamp := stampAt x.params 4
         activation := max (ofStamp (stampAt x.params 4)) (t.svc + twoUs) } }, .final St.ok)) ∧
   Does .gateListGet vGateListGet off (fun _ t => (t, .final St.state)) ∧
   Does .gateListGet vGateListGet (fun x t => on x t ∧ (if x.b 1 = 0 then (t.netPort (x.b 0)).gate else (t.netPort (x.b 0)).gatePending) = none)
     (fun _ t => (t, .final St.ok (zeros 40))) ∧
   (∀ k : GateList, Does .gateListGet vGateListGet
     (fun x t => on x t ∧ (if x.b 1 = 0 then (t.netPort (x.b 0)).gate else (t.netPort (x.b 0)).gatePending) = some k)
     (fun _ t => (t, .final St.ok (be 2 k.entries.length ++ be 1 1 ++ be 1 0 ++ stampBytes (emittedStamp k.stamp) ++ be 4 k.cycle ++
       stampBytes (stampOf k.activation t.svcFlags) ++ (k.entries.map fun e => be 1 e.1 ++ zeros 3 ++ be 4 e.2).flatten)))) ∧
   Does .getPortStatus vGetPortStatus (fun x t => x.subunit = 0 ∧ off x t) (fun _ t => (t, .final St.state)) ∧
   Shows .getPortStatus vGetPortStatus (fun x t => x.subunit = 0 ∧ on x t) 1 (fun _ _ => 176)) ∧
  Does .getPortStatus vGetPortStatus (fun x _ => x.subunit ≠ 0)
    (fun x t =>
      let p := t.policer (x.subunit.toNat - 1)
      (t, .final St.ok (be 8 p.green ++ be 8 p.yellow ++ be 8 p.red ++ be 8 p.fallback ++ be 1 p.cfg.mode ++
        be 1 (flagBit (p.cfg.mode = 0 || t.net.rewriting) 0) ++ zeros 2)))

/-- O36. The sync verbs (R471 to R482). SYNC_INIT gives the object its new counts and owners, ends every waiter as re-initialised and raises what that
reaches. SYNC_POST of an object that does not take it is counted and gets ST_STATE; above the limit it faults with ST_STATE; otherwise COUNT rises, the
level notifies and waiters are served. An ordered post waits with the tags of its requester that are in flight. SYNC_WAIT by no consumer of the object is
counted and gets ST_STATE; it takes at once where it is first and COUNT covers it; otherwise it waits where it may and faults with ST_STATE where it may
not. SYNC_READ returns the record. -/
def Obligations.SyncVerbsActOnTheirObject : Prop :=
  let k (x : Sentence) (t : State) : SyncObject := t.object (x.f 0 4)
  let refused (t : State) : State := { t with sync := { t.sync with refused := satInc 32 t.sync.refused } }
  Does .syncInit vSyncInit (fun _ _ => True)
    (fun x t =>
      let new : SyncObject := {
        count := x.f 4 4, limit := x.f 8 4, level := x.f 12 4, producer := x.f 16 2, consumer := x.f 18 2
        producerOid := BitVec.ofNat 32 (if x.f 16 2 = 0x1000 then x.f 20 4 else if x.f 16 2 = 0x0102 then x.f 20 4 % 2 ^ 24 else 0)
        ctx := x.tenant.toNat, vector := x.f 24 2, inited := true }
      (((k x t).waiters.foldl (fun u w => u.endWaiter w new.count 2) (t.setObject (x.f 0 4) new)).notify (x.f 0 4) (k x t).count, .final St.ok)) ∧
  (let takes (x : Sentence) (t : State) : Prop :=
     (k x t).inited = true ∧ agentAllowed (k x t).producer (k x t).producerOid (agentOf x.req) = true
   Does .syncPost vSyncPost (fun x t => x.b 8 = 0 ∧ ¬ takes x t) (fun _ t => (refused t, .final St.state)) ∧
   Does .syncPost vSyncPost (fun x t => x.b 8 = 0 ∧ takes x t ∧ (k x t).limit < (k x t).count + x.f 4 4)
     (fun x t =>
       let u := t.syncFault (x.f 0 4) 1 (agentOf x.req).1 (x.f 4 4) x.tenant.toNat
       (u, .final St.state (be 4 (u.object (x.f 0 4)).count ++ be 2 0 ++ zeros 2))) ∧
   Does .syncPost vSyncPost (fun x t => x.b 8 = 0 ∧ takes x t ∧ (k x t).count + x.f 4 4 ≤ (k x t).limit)
     (fun x t =>
       let u := ((t.setObject (x.f 0 4) { k x t with count := (k x t).count + x.f 4 4 }).notify (x.f 0 4) (k x t).count).serve (x.f 0 4)
         (k x t).waiters.length
       (u, .final St.ok (be 4 (u.object (x.f 0 4)).count ++ be 2 0 ++ zeros 2)))) ∧
  Does .syncPostOrdered vSyncPost (fun x _ => x.b 8 = 1)
    (fun x t => ({ t with sync := { t.sync with ordered := t.sync.ordered ++ [⟨x, x.f 0 4, x.f 4 4, BitVec.ofNat 32 (x.f 12 4),
      (t.verbs.tags.filter fun e => e.x.req == x.req && e.x.tag != x.tag && e.inFlight).map (·.x.tag), t.now⟩] } }, .later)) ∧
  (let takes (x : Sentence) (t : State) : Prop := (k x t).inited = true ∧ agentAllowed (k x t).consumer 0 ((agentOf x.req).1, 0) = true
   let covers (x : Sentence) (t : State) : Prop := (k x t).waiters = [] ∧ x.f 4 4 ≤ (k x t).count
   Does .syncWait vSyncWait (fun x t => ¬ takes x t) (fun _ t => (refused t, .final St.state)) ∧
   Does .syncWait vSyncWait (fun x t => takes x t ∧ covers x t)
     (fun x t => (t.setObject (x.f 0 4) { k x t with count := (k x t).count - x.f 4 4 },
       .final St.ok (be 4 ((k x t).count - x.f 4 4) ++ zeros 4))) ∧
   Does .syncWait vSyncWait (fun x t => takes x t ∧ ¬ covers x t ∧ x.b 8 % 2 = 1)
     (fun x t => (t.setObject (x.f 0 4) { k x t with waiters := (k x t).waiters ++
       [⟨(agentOf x.req).1, (agentOf x.req).2, x.f 4 4, t.now, x.f 12 4, x.ticket, x.tenant.toNat⟩] }, .accepted)) ∧
   Does .syncWait vSyncWait (fun x t => takes x t ∧ ¬ covers x t ∧ x.b 8 % 2 = 0)
     (fun x t => (t.syncFault (x.f 0 4) 2 (agentOf x.req).1 (x.f 4 4) x.tenant.toNat, .final St.state (be 4 (k x t).count ++ zeros 4)))) ∧
  Does .syncRead vSyncRead (fun _ _ => True) (fun x t => (t, .final St.ok (k x t).record))
/-- O37. The recovery verbs (R485 to R506): GET_HANG without parameters or of selector 0 returns the last hang record, and of selectors 1 and 2 the own
and the partner's last words, ST_STATE where they are not present, with the scratch of the tartlets shown only while an authorisation covers it;
FORCE_FAILOVER gets ST_STATE where it cannot give the pair to the standby; where it can, its effect waits for the standby as that of every
non-idempotent verb (R490), its reply is formed and entered once the standby has acknowledged it, and RELINQUISH follows once that entry is acknowledged
and the reply is sent; RESET_DTC resets a DTC of which a link is in service and gets ST_STATE for one out of reach; GET_PAIR_STATUS returns its 56
bytes. -/
def Obligations.RecoveryVerbsActOnThePair : Prop :=
  Does .getHang vGetHang (fun x _ => x.params = [] ∨ x.b 0 = 0) (fun _ t => (t, .final St.ok (padTo 64 t.sync.hang))) ∧
  (let words (x : Sentence) (t : State) : LastWords := if x.b 0 = 1 then t.pair.own else t.pair.partner
   Does .getHang vGetHang (fun x t => x.params ≠ [] ∧ x.b 0 ≠ 0 ∧ (words x t).present = false) (fun _ t => (t, .final St.state)) ∧
   Does .getHang vGetHang (fun x t => x.params ≠ [] ∧ x.b 0 ≠ 0 ∧ (words x t).present = true)
     (fun x t => (t, .final St.ok (((t.hbmRead (lwBase + (if x.b 0 = 1 then 0 else 32 * mib) + x.f 4 4) (x.f 8 4)).zipIdx.map fun b =>
       if 0x141000 ≤ x.f 4 4 + b.2 ∧ t.scratchShown = false then 0 else b.1))))) ∧
  Does .forceFailover vForceFailover (fun _ t => t.canFailOver = false) (fun _ t => (t, .final St.state)) ∧
  (∀ (s : State) (x : Sentence), s.reaches vForceFailover x = true → (s.taken vForceFailover x).denied vForceFailover x = none → x.staged = false →
    (s.taken vForceFailover x).mirrors = true →
    ∃ u, exec (.forceFailover x) s = .next u ∧ Quiet s u ∧ u.pair.withheld = s.pair.withheld ++ [(u.lastMseq, .effect 0x0805 x)]) ∧
  (∀ (s : State) (x : Sentence) (m : BitVec 64) (n : Nat), s.active = true → s.canFailOver = true → s.pair.withheld = [(n, .effect 0x0805 x)] →
    s.pair.mseqAcked < m.toNat → n ≤ m.toNat → m.toNat < s.pair.mseqNext →
    Goes (.mirrorAckReceive m) s (({ s with pair := { s.pair with
      mseqAcked := m.toNat, unacked := s.pair.unacked.filter fun u => m.toNat < u.1, withheld := [] } }).final x.part x.ticket St.ok)) ∧
  (∀ (s : State) (t : Ticket) (e : TagEntry) (r : Reply) (m : BitVec 64) (n : Nat), s.active = true → s.pair.copy = none →
    s.pair.withheld = [(n, .reply t)] → s.pair.mseqAcked < m.toNat → n ≤ m.toNat → m.toNat < s.pair.mseqNext →
    findTag s.verbs.tags t.req t.tag = some e → e.verb = 0x0805 → e.reply = some r → r.status = St.ok →
    Goes (.mirrorAckReceive m) s (((({ s with pair := { s.pair with
      mseqAcked := m.toNat, unacked := s.pair.unacked.filter fun u => m.toNat < u.1, withheld := [] } }).quickReply e.x e.buf r.status r.results
        r.cstamp).settle .agg t r.status).sendNotice 2)) ∧
  (∀ p : Fin 64,
    Does .resetDtc vResetDtc (fun x t => x.b 0 = p.val ∧ (t.dtc p).la.e.st ≠ .inService ∧ (t.dtc p).lb.e.st ≠ .inService) (fun _ t => (t, .final St.state)) ∧
    Does .resetDtc vResetDtc (fun x t => x.b 0 = p.val ∧ ((t.dtc p).la.e.st = .inService ∨ (t.dtc p).lb.e.st = .inService))
      (fun _ t => (t.resetDtc p (t.dtc p).ties, .final St.ok (be 4 ((t.port p).next - 1).toNat)))) ∧
  Does .getPairStatus vGetPairStatus (fun _ _ => True)
    (fun _ t => (t, .final St.ok (be 1 (if t.pair.claiming then 2 else if t.pair.standby then 1 else 0) ++ be 1 t.pair.partnerRole ++
      be 1 (flagBit t.pair.partnerUp 0 + flagBit (t.pathUp t.pair.fabric) 1 + flagBit t.pair.mirrored 2 + flagBit t.pair.copy.isSome 3 +
        flagBit (t.pair.partnerFlags / 8 % 2 == 1) 4) ++ zeros 1 ++
      be 4 t.pair.term.toNat ++ be 4 t.pair.checkpoint ++ be 4 ((t.pair.copy.map (·.number)).getD 0) ++ be 8 t.pair.mseqAcked ++ be 4 t.pair.takeovers ++
      zeros 4 ++ stampBytes t.pair.lastTakeover ++ be 4 t.sync.heldDrops ++ be 4 t.pair.resent)))

/-- O38. Class 0x09 (R507 to R521, R529, R530). READ_AGEING returns an island's sample with its projection and coefficient, a die's ageing block with
its channels' weeks, the margin log's entries from a sequence number, or the projection with every island's steps; RUN_MARGIN_PLAN starts a plan where
none runs and gets ST_STATE where one does; its schedule form sets the second of the day; GET_MARGINS returns one margin's 8 bytes, of kind 4 three
margins; RUN_SCREEN_PACK of a pack not stored, or while a run is under way, gets ST_STATE, a run with nothing to do ends at once, and any other begins;
its list form lists the packs; READ_SILENT_ERRORS returns the reports from a cursor with the number lost, and GET_FUSE_STATUS the counts of marked words
and up to 128 of them. PIN_BEHAVIOUR with SUBUNIT 0 keeps the pin for every DTC port and waits for its tick, but for level 2 while a level-3 mechanism is
in use, which gets ST_STATE; with SUBUNIT 1 to 64 it keeps the pin for that port and goes to its DTC; at a DTC that compresses verdict bodies it gets
ST_STATE, and otherwise waits for its tick. -/
def Obligations.ReliabilityVerbsReadStartAndPin : Prop :=
  Does .readAgeing vReadAgeing (fun x _ => x.b 0 = 0)
    (fun x t => (t, .final St.ok ((t.island (x.b 1)).sample (x.b 1) ++ be 2 ((t.island (x.b 1)).dmax / 800).toNat ++
      be 2 (guardField (x.b 1) ((t.island (x.b 1)).guard (x.b 1))) ++ be 2 (islandWeeks (t.series (x.b 1))) ++ be 2 (t.series (x.b 1)).values.length ++
      be 4 (Config.delayCoefficient (x.b 1)).toNat ++ zeros 4))) ∧
  Does .readAgeing vReadAgeing (fun x _ => x.b 0 = 1)
    (fun x t =>
      let b := (t.die (x.b 1)).ageing
      (t, .final St.ok (be 8 (if b = [] then 0 else cstampOf true (fld b 0 8 * t.sys.epoch * unit)) ++
        ((List.range 16).map fun c => be 2 (channelWeeks (t.series (channelSeries (x.b 1) (48 + c))))).flatten ++ b))) ∧
  Does .readAgeing vReadAgeing (fun x _ => x.b 0 = 2)
    (fun x t =>
      let es := logFrom t.rel.marginLog (BitVec.ofNat 32 (x.f 4 4)) 127
      (t, .final St.ok (be 2 es.length ++ zeros 6 ++ es.flatten))) ∧
  Does .readAgeing vReadAgeing (fun x _ => x.b 0 = 3)
    (fun _ t => (t, .final St.ok (be 2 t.projection.2 ++ be 1 t.projection.1 ++ be 1 ((List.range 97).filter fun i => (t.island i).eol).length ++ zeros 4 ++
      ((List.range 97).map fun i => be 1 (t.island i).vstep).flatten ++ ((List.range 97).map fun i => be 1 (t.island i).fstep).flatten))) ∧
  Does .runMarginPlan vRunMarginPlan (fun x t => x.b 0 < 2 ∧ t.rel.run.isSome = true) (fun _ t => (t, .final St.state)) ∧
  Does .runMarginPlan vRunMarginPlan (fun x t => x.b 0 < 2 ∧ t.rel.run = none) (fun x t => (t.startPlan (x.b 0 = 0) (some x.ticket), .accepted)) ∧
  Does .setMarginSchedule vRunMarginPlan (fun x _ => x.b 0 = 2) (fun x t => ({ t with rel := { t.rel with schedule := x.f 4 4 } }, .final St.ok)) ∧
  (let margin (x : Sentence) (t : State) (q : Nat) : Bytes := (Tbl.get ({} : Margin) (marginKey (x.b 0) (x.b 1) (x.b 2) q) t.rel.margins).bytes
   Does .getMargins vGetMargins (fun x _ => x.b 0 ≠ 4) (fun x t => (t, .final St.ok (margin x t 0))) ∧
   Does .getMargins vGetMargins (fun x _ => x.b 0 = 4) (fun x t => (t, .final St.ok (margin x t 0 ++ margin x t 1 ++ margin x t 2)))) ∧
  Does .runScreenPack vRunScreenPack (fun x t => x.b 2 = 0 ∧ (t.rel.screen.isSome = true ∨ Tbl.find? (x.f 0 2) t.rel.packs = none))
    (fun _ t => (t, .final St.state)) ∧
  (∀ pk,
    let run (x : Sentence) : ScreenRun := {
      ticket := x.ticket, pack := x.f 0 2
      todo := ((maskClusters (x.f 4 8)).map fun c => (List.range (packTests pk)).map fun i => (c, i)).flatten
      clusters := maskClusters (x.f 4 8) }
    Does .runScreenPack vRunScreenPack (fun x t => x.b 2 = 0 ∧ t.rel.screen = none ∧ Tbl.find? (x.f 0 2) t.rel.packs = some pk ∧ (run x).todo ≠ [])
      (fun x t => ({ t with rel := { t.rel with screen := some (run x) } }, .accepted)) ∧
    Does .runScreenPack vRunScreenPack (fun x t => x.b 2 = 0 ∧ t.rel.screen = none ∧ Tbl.find? (x.f 0 2) t.rel.packs = some pk ∧ (run x).todo = [])
      (fun x t =>
        let u : State := { t with rel := { t.rel with screen := some (run x) } }
        ((u.acceptedReply x (u.bufOf .agg x.ticket)).endScreen { run x with clusters := [] } [], .done))) ∧
  Does .listScreenPacks vRunScreenPack (fun x _ => x.b 2 = 1)
    (fun _ t => (t, .final St.ok (be 2 t.rel.packs.length ++ zeros 6 ++ (t.rel.packs.map fun e => be 2 e.1 ++ zeros 2 ++ be 4 (packVersion e.2)).flatten))) ∧
  Does .readSilentErrors vReadSilentErrors (fun _ _ => True)
    (fun x t =>
      let from_ := BitVec.ofNat 32 (x.f 0 4)
      let shown := logFrom t.rel.reports from_ (x.b 4)
      let oldest := BitVec.ofNat 32 ((t.rel.reports.getLast?.map fun b => fld b 0 4).getD 0)
      let next := (shown.getLast?.map fun b => (fld b 0 4 + 1) % 2 ^ 32).getD from_.toNat
      (t, .final St.ok (be 4 next ++ be 1 shown.length ++ zeros 3 ++
        be 4 (if t.rel.reports ≠ [] ∧ seqAfter oldest from_ = true then (oldest - from_).toNat else 0) ++ zeros 4 ++ shown.flatten))) ∧
  Does .getFuseStatus vGetFuseStatus (fun _ _ => True)
    (fun _ t =>
      let count (f : FuseMark → Bool) : Bytes := be 2 (t.rel.marks.filter fun e => f e.2).length
      (t, .final St.ok (be 2 512 ++ count (·.boot) ++ count (·.service) ++ count (·.drifted) ++ be 8 t.rel.rereadAt ++ be 2 t.rel.bootTj ++
        be 2 t.rel.rereadTj ++ zeros 4 ++ ((t.rel.marks.take 128).map fun e =>
          be 2 e.1 ++ be 1 (flagBit e.2.boot 0 + flagBit e.2.service 1 + flagBit e.2.drifted 2) ++ be 1 e.2.reads).flatten))) ∧
  Does .pinBehaviour vPinBehaviour (fun x t => x.part = .agg ∧ x.subunit = 0 ∧ x.b 0 = 2 ∧ t.needsLevel3 = true) (fun _ t => (t, .final St.state)) ∧
  Does .pinBehaviour vPinBehaviour (fun x t => x.part = .agg ∧ x.subunit = 0 ∧ (x.b 0 ≠ 2 ∨ t.needsLevel3 = false))
    (fun x t =>
      let u := allPorts.foldl (fun (t : State) p => { t with dev := { t.dev with dtcPins := Tbl.set 0 p.val (x.b 0 + 1) t.dev.dtcPins } }) t
      ({ u with dev := { u.dev with pinNext := some (x.b 0, t.now + 2000, ((t.dev.pinNext.map fun q => q.2.2).getD []) ++ [x.ticket]) } }, .accepted)) ∧
  ∀ p : Fin 64,
    Does .pinBehaviour vPinBehaviour (fun x _ => x.part = .agg ∧ x.subunit.toNat = p.val + 1)
      (fun x t => ((({ t with dev := { t.dev with dtcPins := Tbl.set 0 p.val (x.b 0 + 1) t.dev.dtcPins } } : State).forward p 0x0905 x
        (BitVec.ofNat 32 (Tbl.get 0 p.val t.verbs.knownOid))).1, .later)) ∧
    Does .pinBehaviour vPinBehaviour (fun x t => x.part = .dtc p ∧ (t.dtc p).compEnable = true ∧ (t.dtc p).compMask.getLsbD 4 = true)
      (fun _ t => (t, .final St.state)) ∧
    Does .pinBehaviour vPinBehaviour (fun x t => x.part = .dtc p ∧ ((t.dtc p).compEnable = false ∨ (t.dtc p).compMask.getLsbD 4 = false))
      (fun x t => (t.onDtc p fun d => { d with pinNext := some (x.b 0, d.now + 2000, x.ticket) }, .accepted))

/-- O39. Class 0x0A (R544, R548 to R560): GET_ATTESTATION returns its evidence and a signature; KEY_RELEASE_BEGIN at 64 open releases gets ST_BUSY and
otherwise opens one for its context; KEY_INSTALL for no open release gets ST_STATE, for another context or a blob that does not open ST_PARAM, and
otherwise installs its key; KEY_REVOKE of a slot that is not installed gets ST_STATE and of one that is begins to revoke; DEBUG_AUTHORISE goes to the
partner it names, gets ST_STATE before an owner is set, ST_PARAM where it is not valid, ST_STATE with debugging disabled, without time and outside its
window, and otherwise ends the authorisation in force or takes its place, which ends tartlet debugging where its scope lacks bit 0; GET_ACCESS_MAP pages
through the entries of either list. -/
def Obligations.SecurityVerbsKeepTheirGates : Prop :=
  Does .getAttestation vGetAttestation (fun _ _ => True)
    (fun x t => ((t.identitySign (t.attestBody x.params)).2, .final St.ok (t.attestBody x.params ++ (t.identitySign (t.attestBody x.params)).1))) ∧
  Does .keyReleaseBegin vKeyReleaseBegin (fun x t => 64 ≤ (t.openReleases.filter fun r => r.ctx.toNat != x.f 0 2).length) (fun _ t => (t, .final St.busy)) ∧
  (∀ (s : State) (x : Sentence), s.runs vKeyReleaseBegin x = true →
    ((s.taken vKeyReleaseBegin x).openReleases.filter fun r => r.ctx.toNat != x.f 0 2).length < 64 →
    ∃ (u : State) (id : Word) (r : Bytes), exec (.keyReleaseBegin x) s = .next (s.ran vKeyReleaseBegin x fun _ => (u, .final St.ok r)) ∧
      (∃ draw, u.sec.releases = ((s.taken vKeyReleaseBegin x).openReleases.filter fun r => r.ctx.toNat != x.f 0 2) ++
        [{ id := id, ctx := BitVec.ofNat 10 (x.f 0 2), since := (s.taken vKeyReleaseBegin x).now, draw := draw }]) ∧
      r.take 12 = be 4 (s.taken vKeyReleaseBegin x).dev.oid.toNat ++ be 4 id.toNat ++ be 2 (x.f 0 2) ++ zeros 2) ∧
  Does .keyInstall vKeyInstall (fun x t => t.openReleases.find? (fun r => r.id == BitVec.ofNat 32 (x.f 0 4)) = none) (fun _ t => (t, .final St.state)) ∧
  (∀ r, Does .keyInstall vKeyInstall
    (fun x t => t.openReleases.find? (fun r => r.id == BitVec.ofNat 32 (x.f 0 4)) = some r ∧ r.ctx.toNat ≠ x.f 4 2)
    (fun x t => ({ t with sec := { t.sec with releases := t.sec.releases.filter fun q => q.id != BitVec.ofNat 32 (x.f 0 4) } }, .final St.param))) ∧
  (∀ r, Does .keyInstall vKeyInstall
    (fun x t => t.openReleases.find? (fun r => r.id == BitVec.ofNat 32 (x.f 0 4)) = some r ∧ r.ctx.toNat = x.f 4 2)
    (fun x t =>
      let id := BitVec.ofNat 32 (x.f 8 4)
      let u : State := { t with sec := { t.sec with releases := t.sec.releases.filter fun q => q.id != BitVec.ofNat 32 (x.f 0 4) } }
      match Config.unwrap r.draw (be 4 t.dev.oid.toNat ++ be 4 (BitVec.ofNat 32 (x.f 0 4)).toNat ++ be 2 (x.f 4 2)) x.params with
      | none => (u, .final St.param)
      | some k => ((u.installKey (x.f 4 2) id (padTo 32 k)).mirror 9 (keyEntry (x.f 4 2) id (padTo 32 k)), .final St.ok (be 4 id.toNat)))) ∧
  Does .keyRevoke vKeyRevoke (fun x t => (t.keySlot (x.f 0 2)).state ≠ 1) (fun _ t => (t, .final St.state)) ∧
  Does .keyRevoke vKeyRevoke (fun x t => (t.keySlot (x.f 0 2)).state = 1)
    (fun x t =>
      let u := t.setKeySlot (x.f 0 2) { t.keySlot (x.f 0 2) with
        weightKey := [], state := 2, revokeDue := t.now + 2000, revokeTick := 0, unloaded := 0, ticket := some x.ticket }
      ((u.modelsOf (x.f 0 2)).foldl (fun t m => if (t.model m).st = 1 then t.discardLoad m else t.setModel m { t.model m with mapLoad := none }) u, .accepted)) ∧
  (let passed (x : Sentence) (t : State) : Prop := fld x.params 4 4 = t.pair.partnerOid.toNat ∧ fld x.params 4 4 ≠ t.dev.oid.toNat ∧ x.req ≠ .partner
   let open_ (t : State) (x : Sentence) : Prop := t.debugDisabled = false ∧ t.timeValid = true ∧
     fld x.params 16 8 ≤ t.svcNs / 1000000000 ∧ t.svcNs / 1000000000 < fld x.params 24 8
   let noted (x : Sentence) (t : State) : State := { t with sec := { t.sec with lastSerial := some (fld x.params 8 8) } }
   Does .debugAuthorise vDebugAuthorise (fun x t => passed x t)
     (fun x t => (t.emit (.partnerLink 1) (shim t.dev.oid 1 1 ++ pad4 (sentenceBytes 0x0A04 x x.tag t.pair.partnerOid x.subunit.toNat)), .later)) ∧
   Does .debugAuthorise vDebugAuthorise (fun x t => ¬ passed x t ∧ t.ownerSet = false) (fun _ t => (t, .final St.state)) ∧
   Does .debugAuthorise vDebugAuthorise (fun x t => ¬ passed x t ∧ t.ownerSet = true ∧ t.authValid x.params = false) (fun _ t => (t, .final St.param)) ∧
   Does .debugAuthorise vDebugAuthorise (fun x t => ¬ passed x t ∧ t.ownerSet = true ∧ t.authValid x.params = true ∧ ¬ open_ t x)
     (fun _ t => (t, .final St.state)) ∧
   Does .debugAuthorise vDebugAuthorise
     (fun x t => ¬ passed x t ∧ t.ownerSet = true ∧ t.authValid x.params = true ∧ open_ t x ∧ byteAt x.params 33 = 1)
     (fun x t => ((noted x t).endDebug, .final St.ok (zeros 16))) ∧
   Does .debugAuthorise vDebugAuthorise
     (fun x t => ¬ passed x t ∧ t.ownerSet = true ∧ t.authValid x.params = true ∧ open_ t x ∧ byteAt x.params 33 ≠ 1)
     (fun x t =>
       let u : State := if byteAt x.params 32 % 2 = 1 then noted x t else (noted x t).endDebug
       ({ u with sec := { u.sec with debugAuth := some ⟨BitVec.ofNat 8 (byteAt x.params 32), fld x.params 24 8⟩ } },
         .final St.ok (be 1 (byteAt x.params 32) ++ zeros 7 ++ be 8 (fld x.params 24 8))))) ∧
  (let all (x : Sentence) (t : State) : List Bytes := if x.b 0 = 0 then t.sec.requesters.map MapRequester.bytes else t.sec.windows.map MapWindow.bytes
   Does .getAccessMap vGetAccessMap (fun x t => (all x t).length < x.f 4 4) (fun _ t => (t, .final St.param)) ∧
   Does .getAccessMap vGetAccessMap (fun x t => x.f 4 4 ≤ (all x t).length)
     (fun x t =>
       let es := ((all x t).drop (x.f 4 4)).take 248
       (t, .final St.ok (be 4 t.sec.mapVersion.toNat ++ be 1 (flagBit t.sec.defaultMap 0) ++ be 1 0 ++ be 2 t.sec.requesters.length ++
         be 2 t.sec.windows.length ++ be 2 es.length ++ zeros 4 ++ es.flatten))))

/-- O40. Class 0x0B (R565 to R579): READ_SELF_COUNTERS that would release the hold bank while it is written gets ST_BUSY, of a bank that is not valid
gets ST_STATE, and otherwise returns 16 bytes and 160 per engine and releases the hold bank where it is asked to; FREEZE joins a freeze that a record
began in its very cycle, gets ST_BUSY while the hold bank is held or written, and otherwise holds it at once; READ_RECORDS returns the records from a
cursor that its tenant may see; a check-value unit and a compression engine that are busy get ST_BUSY, a scan of no byte ends at once, and any other takes
its work, asking host memory for a source there. -/
def Obligations.ObservabilityVerbsReadAndHold : Prop :=
  (let bank (x : Sentence) (t : State) : SelfBank := if x.b 0 = 0 then t.obs.tick else t.obs.hold
   let valid (x : Sentence) (t : State) : Prop := if x.b 0 = 0 then t.obs.tick.valid = true else t.obs.held = true
   Does .readSelfCounters vReadSelfCounters (fun x t => x.b 1 = 1 ∧ t.obs.hold.writing = true) (fun _ t => (t, .final St.busy)) ∧
   Does .readSelfCounters vReadSelfCounters (fun x t => ¬ (x.b 1 = 1 ∧ t.obs.hold.writing = true) ∧ ¬ valid x t) (fun _ t => (t, .final St.state)) ∧
   Does .readSelfCounters vReadSelfCounters (fun x t => ¬ (x.b 1 = 1 ∧ t.obs.hold.writing = true) ∧ valid x t)
     (fun x t => (if x.b 1 = 1 then { t with obs := t.obs.release } else t,
       .final St.ok (be 8 (bank x t).stamp ++ be 1 (flagBit t.obs.held 0 + 2 * t.obs.holdCause.toNat) ++ zeros 3 ++ be 4 t.obs.gen.toNat ++
         ((List.range (x.f 4 2)).map fun i => (bank x t).entry (x.f 2 2 + i)).flatten)))) ∧
  Does .freeze vFreeze (fun _ t => t.sameCycle 2 = true) (fun _ t => ({ t with obs := { t.obs with holdCause := 3 } }, .final St.ok (be 8 t.obs.hold.stamp))) ∧
  Does .freeze vFreeze (fun _ t => t.sameCycle 2 = false ∧ (t.obs.held = true ∨ t.obs.hold.writing = true)) (fun _ t => (t, .final St.busy)) ∧
  Does .freeze vFreeze (fun _ t => t.sameCycle 2 = false ∧ t.obs.held = false ∧ t.obs.hold.writing = false)
    (fun _ t => ({ t with obs := { t.obs with hold := t.obs.hold.freeze t.cs t.obs t.dev, held := true, holdCause := 1, holdSeverity := 0, holdSeq := 0 } },
      .final St.ok (be 8 t.cs))) ∧
  Does .readRecords vReadRecords (fun _ _ => True)
    (fun x t =>
      let from_ := BitVec.ofNat 32 (x.f 0 4)
      let all := t.readsAll x
      let seen := examine (fun r => all || (r.raw.ctx == x.tenant.toNat && r.raw.flags / 2 % 2 == 0)) (x.b 4) (t.obs.from from_)
      (t, .final St.ok (be 4 ((seen.2.map (· + 1)).getD from_).toNat ++ be 1 seen.1.length ++ zeros 3 ++
        be 4 ((t.obs.recs.getLast?.map Record.seq).getD 0).toNat ++ be 4 (if all then t.obs.drops else 0) ++ (seen.1.map Record.bytes).flatten))) ∧
  Does .checkValue vCheckValue (fun x t => (Tbl.get none (x.b 0) t.obs.units).isSome = true) (fun _ t => (t, .final St.busy)) ∧
  Does .checkValue vCheckValue (fun x t => Tbl.get none (x.b 0) t.obs.units = none ∧ x.f 36 8 = 0)
    (fun x t => ((t.acceptedReply x (t.bufOf .agg x.ticket)).final .agg x.ticket St.ok
      (be 8 (checkValueOf (cvConfig x.params) []) ++ zeros 8 ++ List.replicate 8 255), .done)) ∧
  Does .checkValue vCheckValue (fun x t => Tbl.get none (x.b 0) t.obs.units = none ∧ x.f 36 8 ≠ 0)
    (fun x t =>
      let u : State := { t with obs := { t.obs with units := Tbl.set none (x.b 0) (some ⟨x.ticket, x.params⟩) t.obs.units } }
      (if x.b 1 = 0 then u else u.emit (.hubMemory (x.b 1) (x.f 28 8) (x.f 36 8)), .accepted)) ∧
  (∀ cf : (Sentence → Instr) × Nat, cf ∈ [(Instr.compress, 0), (Instr.decompress, 1)] →
    Does cf.1 vCompress (fun x t => x.b 1 = cf.2 ∧ (Tbl.get none (x.b 0) t.obs.engines).isSome = true) (fun _ t => (t, .final St.busy)) ∧
    Does cf.1 vCompress (fun x t => x.b 1 = cf.2 ∧ Tbl.get none (x.b 0) t.obs.engines = none)
      (fun x t =>
        let u : State := { t with obs := { t.obs with engines := Tbl.set none (x.b 0) (some ⟨x.ticket, x.params⟩) t.obs.engines } }
        (if x.b 2 = 0 then u else u.emit (.hubMemory (x.b 2) (x.f 4 8) (x.f 20 8)), .accepted)))

/-- O41. Class 0x0C (R32, R33, R36 to R38, R42): SET_PROFILE whose minimum epoch exceeds the epoch in force or the pending one gets ST_STATE, as does
one that would leave H at 80 degC or more; any other waits for the first tick at least 2 µs on, its acceptance entered for the standby, and takes lend work
off its clusters at once but in H; SET_EPOCH before time is valid gets ST_STATE, an epoch out of range or a second not in the future ST_PARAM, an epoch
below a minimum ST_STATE, and any other replaces the pending epoch, entered for the standby; GET_PROFILE and GET_EPOCH read. -/
def Obligations.ProfileAndEpochChangesArePending : Prop :=
  Does .getProfile vGetProfile (fun _ _ => True)
    (fun _ t => (t, .final St.ok (be 1 t.sys.profile.code ++ be 1 t.sys.commanded.code ++ be 1 (if t.sys.thermal then 1 else 0) ++ be 1 0 ++ be 2 t.tjField ++ zeros 2))) ∧
  (∀ p,
    let allowed (t : State) : Prop := t.minEpoch p ≤ t.sys.epoch ∧ ∀ e, t.sys.pendingEpoch = some e → t.minEpoch p ≤ e.epoch
    let hot (t : State) : Prop := t.sys.profile = .h ∧ p ≠ .h ∧ 800 ≤ t.hottest.2
    Does .setProfile vSetProfile (fun x t => Profile.ofCode (x.b 0) = some p ∧ (¬ allowed t ∨ hot t)) (fun _ t => (t, .final St.state)) ∧
    Does .setProfile vSetProfile (fun x t => Profile.ofCode (x.b 0) = some p ∧ allowed t ∧ ¬ hot t)
      (fun x t =>
        let at_ := if t.timeValid then t.svcAt (t.now + 2000) else 0
        let u : State := { t with sys := { t.sys with pendingProfile := t.sys.pendingProfile ++
          [({ profile := p, due := t.now + 2000, at_ := at_, ticket := x.ticket } : PendingProfile)] } }
        ((if t.sys.profile = .h then u else u.yieldLend).mirror 4
          (effectEntry x .accepted ++ be 2 0x0C01 ++ be 8 t.cs ++ be 1 p.code ++ be 16 at_), .accepted))) ∧
  Does .getEpoch vGetEpoch (fun _ _ => True) (fun _ t => (t, .final St.ok t.epochBytes)) ∧
  Does .setEpoch vSetEpoch (fun _ t => t.timeValid = false) (fun _ t => (t, .final St.state)) ∧
  Does .setEpoch vSetEpoch (fun x t => t.timeValid = true ∧ (epochValid (x.f 0 4) = false ∨ x.f 4 8 ≤ t.svcNs / 1000000000)) (fun _ t => (t, .final St.param)) ∧
  (let good (x : Sentence) (t : State) : Prop := t.timeValid = true ∧ epochValid (x.f 0 4) = true ∧ t.svcNs / 1000000000 < x.f 4 8
   Does .setEpoch vSetEpoch (fun x t => good x t ∧ (x.f 0 4 < t.minEpoch t.sys.profile ∨ x.f 0 4 < t.setMinimum)) (fun _ t => (t, .final St.state)) ∧
   Does .setEpoch vSetEpoch (fun x t => good x t ∧ t.minEpoch t.sys.profile ≤ x.f 0 4 ∧ t.setMinimum ≤ x.f 0 4)
    (fun x t => (({ t with sys := { t.sys with
      pendingEpoch := some ⟨x.f 0 4, x.f 4 8, (t.sys.pendingEpoch.map (·.tickets)).getD [] ++ [x.ticket]⟩ } } : State).mirror 4
        (effectEntry x .accepted ++ be 2 0x0C03 ++ be 8 t.cs ++ be 4 (x.f 0 4) ++ be 8 (x.f 4 8)), .accepted)))

/-- O42. Class 0x0F (R110 to R112): STAGE opens a set with the next number, or gets ST_STATE where one is open; COMMIT of no open set gets ST_STATE, a
second one before the first has completed ST_BUSY, a time more than 1 s ahead ST_PARAM, and any other commits the set (a not-before time while service
time is not valid is kept without that check: log 319, DESIGN CHOICE); DISCARD ends each change with ST_STATE and returns their count; GET_STAGED reports
the open set. -/
def Obligations.StagedSetsOpenAndCommit : Prop :=
  Does .stage vStage (fun x t => (t.stagingOf x.req).opened.isSome = true) (fun _ t => (t, .final St.state)) ∧
  Does .stage vStage (fun x t => (t.stagingOf x.req).opened = none)
    (fun x t =>
      let u := t.setStaging x.req { t.stagingOf x.req with opened := some ⟨t.verbs.setNumber, [], t.now⟩ }
      ({ u with verbs := { u.verbs with setNumber := t.verbs.setNumber + 1 } }.mirror 7 (setEntry t.verbs.setNumber 3 x 0x0F00),
        .final St.ok (be 4 t.verbs.setNumber))) ∧
  Does .commit vCommit (fun x t => (t.stagingOf x.req).committed.isSome = true) (fun _ t => (t, .final St.busy)) ∧
  Does .commit vCommit (fun x t => (t.stagingOf x.req).committed = none ∧ (t.stagingOf x.req).opened = none) (fun _ t => (t, .final St.state)) ∧
  (∀ g,
    let notBefore (x : Sentence) : Nat := if stampAt x.params 0 = Stamp.zero then 0 else ofStamp (stampAt x.params 0)
    let late (x : Sentence) (t : State) : Prop := t.timeValid = true ∧ t.svc + 1000000000 * unit < notBefore x
    Does .commit vCommit (fun x t => (t.stagingOf x.req).committed = none ∧ (t.stagingOf x.req).opened = some g ∧ late x t) (fun _ t => (t, .final St.param)) ∧
    Does .commit vCommit (fun x t => (t.stagingOf x.req).committed = none ∧ (t.stagingOf x.req).opened = some g ∧ ¬ late x t)
      (fun x t => ((t.setStaging x.req { t.stagingOf x.req with opened := none, committed := some ⟨g, x.ticket, t.now, notBefore x, none⟩ }).mirror 7
        (setEntry g.num 1 x 0x0F01), .accepted))) ∧
  Does .discard vDiscard (fun x t => (t.stagingOf x.req).opened = none) (fun _ t => (t, .final St.ok (zeros 4))) ∧
  (∀ g, Does .discard vDiscard (fun x t => (t.stagingOf x.req).opened = some g)
    (fun x t => (((t.setStaging x.req { t.stagingOf x.req with opened := none }).endChanges St.state g.changes).mirror 7 (setEntry g.num 0 x 0x0F02),
      .final St.ok (be 2 g.changes.length ++ be 2 0)))) ∧
  Does .getStaged vGetStaged (fun x t => (t.stagingOf x.req).opened = none) (fun _ t => (t, .final St.ok (zeros 12))) ∧
  (∀ g, Does .getStaged vGetStaged (fun x t => (t.stagingOf x.req).opened = some g)
    (fun _ t => (t, .final St.ok (be 4 g.num ++ be 2 g.changes.length ++ be 2 0 ++ be 4 ((g.last + 100000000 - t.now) / 1000000)))))
/-! ## Events. Each clause names an event, what it needs, and the whole next state. -/

/-- O43. Staged sets and forwarded sentences (R112 to R118, R126, R127, R258): a committed set is prepared once, and one with a refused change ends
there with ST_STATE and the index of the first; at its tick a set is checked once more and either ends so or applies its changes in order and answers
ST_OK with their count, and it waits without a tick and behind a requester that comes first; an open set 100 ms old is discarded, and no earlier; a
forwarded sentence without a reply is sent again after its time, and fails with ST_HW_FAULT once 10 ms have passed with both links of its DTC out for
that long; ST_ACCEPTED is passed on where all replies are wanted, ST_DUPLICATE delivers the stored final reply, a reply to no forward of this part goes
to the partner, and any other ends the forward; a reply to a mailbox's sentence ends its exchange, but for ST_ACCEPTED. -/
def Obligations.StagedSetsAndForwardsEnd : Prop :=
  ∀ s : State,
    (∀ r, (s.stagingOf r).committed = none → Stays (.stagedSetPrepared r) s ∧ Stays (.stagedSetApply r) s) ∧
    (∀ r c, (s.stagingOf r).committed = some c →
      let uncommitted := s.setStaging r { s.stagingOf r with committed := none }
      let ended (sts : List Nat) (i : Nat) : State := ((c.set.changes.zip sts).foldl State.refuseStaged uncommitted).final .agg c.ticket St.state
        (commitResults Stamp.zero 0 i (sts.getD i 0))
      (c.prepared.isSome = true → Stays (.stagedSetPrepared r) s) ∧
      (c.prepared = none →
        let sts := dryRun c.set.changes s c.set.changes
        ((∀ st ∈ sts, st = St.ok) → Goes (.stagedSetPrepared r) s (s.setStaging r { s.stagingOf r with committed := some { c with prepared := some (s.now, sts) } })) ∧
        (∀ i, sts.findIdx? (· != St.ok) = some i → Goes (.stagedSetPrepared r) s (ended sts i))) ∧
      (s.commitTick c = none → Stays (.stagedSetApply r) s) ∧
      (∀ t, s.commitTick c = some t →
        let sts := dryRun c.set.changes uncommitted c.set.changes
        (s.setBefore r t = true → Stays (.stagedSetApply r) s) ∧
        (∀ i, s.setBefore r t = false → sts.findIdx? (· != St.ok) = some i → Goes (.stagedSetApply r) s (ended sts i)) ∧
        (s.setBefore r t = false → (∀ st ∈ sts, st = St.ok) →
          Goes (.stagedSetApply r) s ((c.set.changes.foldl (State.applyStaged c.set.changes t) uncommitted).finalAt .agg c.ticket St.ok
            (commitResults (stampOf t s.svcFlags) c.set.changes.length 0xFFFF 0) (cstampOf true t))))) ∧
    (∀ r, (s.stagingOf r).opened = none → Stays (.stageExpiry r) s) ∧
    (∀ r g, (s.stagingOf r).opened = some g →
      (s.now < g.last + 100000000 → Stays (.stageExpiry r) s) ∧
      (g.last + 100000000 ≤ s.now → Goes (.stageExpiry r) s (((s.setStaging r { s.stagingOf r with opened := none, expired := true }).endChanges
        St.stageExpired g.changes).mirror 7 (be 4 g.num ++ be 1 0 ++ be 5 (reqKey r) ++ be 4 0)))) ∧
    (∀ p : Fin 64,
      let list := Tbl.get [] p.val s.verbs.forwarded
      let down := (s.port p).e.longDown s.now = true ∧ (s.dtc p).lb.e.longDown (s.dtc p).now = true
      let put (q : List Forwarded) : State := { s with verbs := { s.verbs with forwarded := Tbl.set [] p.val q s.verbs.forwarded } }
      (∀ f : Word, list.find? (fun w => w.ftag == f.toNat) = none → Stays (.forwardResendTimeout p f) s ∧ Stays (.forwardLinkTimeout p f) s) ∧
      (∀ (f : Word) w, list.find? (fun w => w.ftag == f.toNat) = some w →
        (w.answered = false → w.sentAt + 2 * (s.port p).delayNs + 10000 ≤ s.now →
          Goes (.forwardResendTimeout p f) s ((put (list.map fun v => if v.ftag == w.ftag then { v with sentAt := s.now } else v)).sendVerb p w.bytes)) ∧
        (w.answered = true ∨ s.now < w.sentAt + 2 * (s.port p).delayNs + 10000 → Stays (.forwardResendTimeout p f) s) ∧
        (down → w.since + 10000000 ≤ s.now → Goes (.forwardLinkTimeout p f) s (s.answerForward p w St.hwFault [] s.cs)) ∧
        (¬ (down ∧ w.since + 10000000 ≤ s.now) → Stays (.forwardLinkTimeout p f) s)) ∧
      (∀ (l : LinkId) (b : Bytes), list.find? (fun w => w.ftag == fld b 0 4) = none →
        Goes (.forwardedReplyReceive p l b) s (s.emit (.partnerLink 2) (shim s.dev.oid 2 1 ++ pad4 b))) ∧
      (∀ (l : LinkId) (b : Bytes) w, list.find? (fun w => w.ftag == fld b 0 4) = some w →
        let results := sub b 16 (fld b 6 2)
        let answered := put (list.map fun v => if v.ftag == fld b 0 4 then { v with answered := true } else v)
        let endWith (st : Nat) (r : Bytes) : State := (s.learn p w st r (fld b 8 8)).answerForward p w st r (fld b 8 8)
        (fld b 4 2 ≠ St.accepted → fld b 4 2 ≠ St.duplicate → Goes (.forwardedReplyReceive p l b) s (endWith (fld b 4 2) results)) ∧
        (fld b 4 2 = St.duplicate → fld results 0 2 ≠ St.accepted → Goes (.forwardedReplyReceive p l b) s (endWith (fld results 0 2) (results.drop 4))) ∧
        (fld b 4 2 = St.duplicate → fld results 0 2 = St.accepted → Goes (.forwardedReplyReceive p l b) s answered) ∧
        (fld b 4 2 = St.accepted → (∀ e, findTag s.verbs.tags w.ticket.req w.ticket.tag = some e → e.x.wantsAll = false) →
          Goes (.forwardedReplyReceive p l b) s answered) ∧
        (∀ e, fld b 4 2 = St.accepted → findTag s.verbs.tags w.ticket.req w.ticket.tag = some e → e.x.wantsAll = true →
          Goes (.forwardedReplyReceive p l b) s (answered.deliver e.x e.buf (replyBytes e.x.tag St.accepted [] (fld b 8 8)))))) ∧
    (∀ (p : Fin 64) (l : LinkId) (b : Bytes),
      ((s.dtc p).ready = true → (s.dtc p).mb.busy = true → fld b 4 2 ≠ St.accepted →
        Goes (.dtcOriginatedReply p l b) s (s.transmitDtc p .mailbox (b.take 284))) ∧
      ((s.dtc p).ready = false ∨ (s.dtc p).mb.busy = false ∨ fld b 4 2 = St.accepted → Stays (.dtcOriginatedReply p l b) s))

/-- O44. Queue pairs and fetching (R119 to R123, R294, R295): enabling a pair empties it, disabling keeps it running while something is in flight;
doorbells move its tail and head where it is enabled and raise error 2 where it is not; a head doorbell writes the completions held for the ring; a failed
submission read stops it with error 1; before FW_READY nothing is fetched, and from then on a queue pair's entry or a waiting Ethernet sentence in turn.
Registers (R11, R46, R288, R290, R291, R294, R296, R474, R480, R570, R577): scratch keeps what is written; interrupt status clears by ones but for a bit
set in this very cycle; enabling signals what is set; a base register moves only while its pair is not enabled and raises error 3 otherwise; the words of
the MSI-X table; other and unaligned writes do nothing; releasing the hold bank clears it unless it is being written; the record cursor; a read of a time
word latches the stamp and answers its word; a sync doorbell of amount 0 does nothing, one of a number seen already is counted, and at a part that is not
active it is held, the oldest going first from 4,096; PERST brings the PCIe side up with a fresh MSI-X table. A halted boot serves the device window alone.
An unaligned or unmapped word reads zero, and the words of the device window and of a queue pair read as the table says. -/
def Obligations.HostRegistersAndQueuePairs : Prop :=
  ∀ (s : State) (n : Fin 64),
    (s.dev.halted = false →
      (∀ m, Goes (.qpEnable n m) s (s.setQp n { s.qp n with
        msiEn := m, enable := true, enabled := true, sqHead := 0, sqTail := 0, cqHead := 0, cqPos := 0, phase := true, stopped := false })) ∧
      (∀ m, Goes (.qpDisable n m) s (s.setQp n { s.qp n with msiEn := m, enable := false, enabled := (s.qp n).inFlight != 0 || !(s.qp n).held.isEmpty })) ∧
      (∀ v, (s.qp n).enabled = true → Goes (.qpSqTailDoorbell n v) s (s.setQp n { s.qp n with sqTail := v.toNat % 4096 })) ∧
      (∀ v, (s.qp n).enabled = true →
        let t := s.setQp n { s.qp n with cqHead := v.toNat % 4096 }
        Goes (.qpCqHeadDoorbell n v) s (t.releaseHeld n (t.qp n).held.length)) ∧
      (∀ v, (s.qp n).enabled = false →
        let t := (s.setQp n { s.qp n with err := true, errKind := 2 }).irq 4
        Goes (.qpSqTailDoorbell n v) s t ∧ Goes (.qpCqHeadDoorbell n v) s t) ∧
      (∀ v, Goes (.recCursorWrite v) s { s with obs := { s.obs with cursor := v } }) ∧
      (∀ v : Word, v.getLsbD 0 = true → s.obs.hold.writing = false →
        Goes (.scRelease v) s { s with obs := { s.obs with held := false, holdCause := 0, holdSeverity := 0, holdSeq := 0 } }) ∧
      (∀ v : Word, v.getLsbD 0 = false ∨ s.obs.hold.writing = true → Stays (.scRelease v) s) ∧
      Goes (.timeW0Read .agg) s (State.emit { s with time := { s.time with latch := s.stamp } } (.barRead 0x1020) ((stampBytes s.stamp).take 4)) ∧
      (∀ (k : Fin 2048) (v : Word),
        let e := s.vector k.val
        let a := BitVec.ofNat 24 (16 * k.val)
        Goes (.barRegisterWrite ⟨true, a⟩ v) s (s.setVector k.val { e with addr := e.addr.extractLsb' 32 32 ++ v }) ∧
        Goes (.barRegisterWrite ⟨true, (a + 4)⟩ v) s (s.setVector k.val { e with addr := v ++ e.addr.extractLsb' 0 32 }) ∧
        Goes (.barRegisterWrite ⟨true, (a + 8)⟩ v) s (s.setVector k.val { e with data := v }) ∧
        (let t := s.setVector k.val { e with control := v &&& 1, pending := e.pending && v.getLsbD 0 }
         Goes (.barRegisterWrite ⟨true, (a + 12)⟩ v) s (if e.pending = true ∧ v.getLsbD 0 = false then t.signal k.val else t))) ∧
      (∀ (o : Fin 4) (v : Word),
        let q := s.qp n
        let put : Qp := match o with
          | 0 => { q with sqBase := q.sqBase / 2 ^ 32 * 2 ^ 32 + v.toNat / 4096 * 4096 }
          | 1 => { q with sqBase := v.toNat * 2 ^ 32 + q.sqBase % 2 ^ 32 }
          | 2 => { q with cqBase := q.cqBase / 2 ^ 32 * 2 ^ 32 + v.toNat / 4096 * 4096 }
          | 3 => { q with cqBase := v.toNat * 2 ^ 32 + q.cqBase % 2 ^ 32 }
        Goes (.barRegisterWrite ⟨false, (BitVec.ofNat 24 (0x10000 + 64 * n.val + 4 * o.val))⟩ v) s
          (if q.enabled = true then (s.setQp n { q with err := true, errKind := 3 }).irq 4 else s.setQp n put)) ∧
      (∀ v : Word, Goes (.barRegisterWrite ⟨false, (BitVec.ofNat 24 (0x10014 + 64 * n.val))⟩ v) s
        (s.setQp n { s.qp n with err := (s.qp n).err && !v.getLsbD 30 })) ∧
      (∀ (o : BitVec 15) (v : Word),
        let number := (v.extractLsb' 24 8).toNat
        let amount := (v.extractLsb' 0 24).toNat
        let object := s.object o.toNat
        let queue := s.sync.heldPosts ++ [⟨o.toNat, number, amount⟩]
        (amount = 0 → Stays (.syncDoorbell o v) s) ∧
        (amount ≠ 0 → s.active = true → object.inited = true → object.hseq = number →
          Goes (.syncDoorbell o v) s { s with sync := { s.sync with repeats := satInc 32 s.sync.repeats } }) ∧
        (amount ≠ 0 → s.active = true → object.inited = false ∨ object.hseq ≠ number ∧ agentAllowed object.producer object.producerOid (0x41, 0) = false →
          Goes (.syncDoorbell o v) s (s.post o.toNat amount (0x41, 0) 0).1) ∧
        (amount ≠ 0 → s.active = true → object.inited = true → object.hseq ≠ number → agentAllowed object.producer object.producerOid (0x41, 0) = true →
          let t := ((s.setObject o.toNat { object with hseq := number }).post o.toNat amount (0x41, 0) 0).1
          Goes (.syncDoorbell o v) s (t.mirror 6 (be 4 o.toNat ++ (t.object o.toNat).record ++ be 1 number))) ∧
        (amount ≠ 0 → s.active = false → s.sync.heldPosts.length < 4096 → Goes (.syncDoorbell o v) s { s with sync := { s.sync with heldPosts := queue } }) ∧
        (amount ≠ 0 → s.active = false → 4096 ≤ s.sync.heldPosts.length →
          Goes (.syncDoorbell o v) s { s with sync := { s.sync with heldPosts := queue.drop 1, heldDrops := satInc 32 s.sync.heldDrops } }))) ∧
    (s.dev.halted = true →
      (∀ m v o (off : BitVec 24) table, table = true ∨ 0x1000 ≤ off.toNat → Stays (.qpEnable n m) s ∧ Stays (.qpDisable n m) s ∧
        Stays (.qpSqTailDoorbell n v) s ∧ Stays (.qpCqHeadDoorbell n v) s ∧ Stays (.recCursorWrite v) s ∧ Stays (.scRelease v) s ∧
        Stays (.syncDoorbell o v) s ∧ Stays (.barRegisterWrite ⟨table, off⟩ v) s) ∧
      Goes (.timeW0Read .agg) s (s.emit (.barRead 0x1020) (zeros 4))) ∧
    ((s.qp n).waiting = true →
      let t := s.setQp n { s.qp n with stopped := true }
      Goes (.submissionReadFail n) s ((t.setQp n { t.qp n with err := true, errKind := 1 }).irq 4)) ∧
    ((s.qp n).waiting = false → Stays (.submissionReadFail n) s) ∧
    (∀ e, s.dev.fwReady = false → Stays (.sentenceFetch e) s) ∧
    (∀ e, s.dev.fwReady = true → s.nextQp = none → Goes (.sentenceFetch e) s s.fetchEth) ∧
    (∀ e, s.dev.fwReady = true → s.nextQp = some n →
      let both := s.verbs.waiting ≠ []
      let t : State := if s.verbs.waiting = [] then s else { s with dev := { s.dev with ethTurn := !s.dev.ethTurn } }
      (both → s.dev.ethTurn = true → Goes (.sentenceFetch e) s t.fetchEth) ∧
      (¬ both ∨ s.dev.ethTurn = false → e.queue = n → byteAt e.header 0 ≠ 2 → Goes (.sentenceFetch e) s (t.fetchQp n e)) ∧
      (¬ both ∨ s.dev.ethTurn = false → e.queue = n → byteAt e.header 0 = 2 → Goes (.sentenceFetch e) s (t.fetchRequest n e)) ∧
      (¬ both ∨ s.dev.ethTurn = false → e.queue ≠ n → Stays (.sentenceFetch e) s)) ∧
    (∀ v, Goes (.barRegisterWrite ⟨false, 0x10⟩ v) s { s with dev := { s.dev with scratch := v } }) ∧
    (∀ v, Goes (.barRegisterWrite ⟨false, 0x20⟩ v) s { s with dev := { s.dev with
      irqStatus := s.dev.irqStatus &&& (~~~(v.extractLsb' 0 5) ||| freshBits 5 s.dev.irqAt s.now) } }) ∧
    (∀ v : Word, Goes (.barRegisterWrite ⟨false, 0x24⟩ v) s
      (({ s with dev := { s.dev with irqEn := v.extractLsb' 0 5 } } : State).raiseVectors (s.dev.irqStatus &&& v.extractLsb' 0 5 &&& ~~~s.dev.irqEn))) ∧
    (∀ (off : BitVec 24) v, off.toNat ≠ 0x10 → off.toNat ≠ 0x20 → off.toNat ≠ 0x24 → (off.toNat < 0x10000 ∨ 0x11000 ≤ off.toNat) →
      Stays (.barRegisterWrite ⟨false, off⟩ v) s) ∧
    (∀ (off : BitVec 24) v, 0x10000 ≤ off.toNat → off.toNat < 0x11000 → off.toNat % 64 = 0x10 ∨ 0x18 ≤ off.toNat % 64 → Stays (.barRegisterWrite ⟨false, off⟩ v) s) ∧
    (∀ table (off : BitVec 24) v, off.toNat % 4 ≠ 0 ∨ table = true ∧ 0x8000 ≤ off.toNat → Stays (.barRegisterWrite ⟨table, off⟩ v) s) ∧
    (∀ p, (s.dtc p).ready = true → Goes (.timeW0Read (.dtc p)) s
      ((s.setDtc p { s.dtc p with time := { (s.dtc p).time with latch := (s.dtc p).stamp } }).emit (.trbRead p false) ((stampBytes (s.dtc p).stamp).take 4))) ∧
    (∀ p, (s.dtc p).ready = false → Goes (.timeW0Read (.dtc p)) s (s.emit (.trbRead p false) (zeros 4))) ∧
    (s.phys.porLow = false → Goes .pciePerstRelease s { s with dev := { s.dev with pcieUp := true, msix := [] } }) ∧
    (s.phys.porLow = true → Stays .pciePerstRelease s) ∧
    (∀ o, o % 4 ≠ 0 ∨ 0x3000 ≤ o ∧ o < 0x10000 ∨ 0x500000 ≤ o → s.barWord o = 0) ∧
    (s.barWord 0x00 = versionRegister ∧ s.barWord 0x04 = s.dev.oid.toNat ∧ s.barWord 0x10 = s.dev.scratch.toNat ∧
      s.barWord 0x20 = s.dev.irqStatus.toNat ∧ s.barWord 0x24 = s.dev.irqEn.toNat ∧
      s.barWord 0x08 = flagBit s.dev.fwReady 31 + flagBit s.dev.service 30 + s.dev.fault * 65536 + s.dev.stage ∧
      s.barWord 0x0C = flagBit s.pair.claiming 2 + flagBit s.pair.partnerUp 1 + flagBit s.pair.standby 0) ∧
    (s.dev.halted = false →
      let a := 0x10000 + 64 * n.val
      let q := s.qp n
      s.barWord a = q.sqBase % 2 ^ 32 ∧ s.barWord (a + 4) = q.sqBase / 2 ^ 32 ∧ s.barWord (a + 8) = q.cqBase % 2 ^ 32 ∧
      s.barWord (a + 12) = q.cqBase / 2 ^ 32 ∧ s.barWord (a + 0x10) = flagBit q.msiEn 1 + flagBit q.enable 0 ∧
      s.barWord (a + 0x14) = flagBit q.enabled 31 + flagBit q.err 30 + q.errKind * 2 ^ 28 + q.sqHead ∧
      s.barWord (0x40000 + 4096 * n.val) = q.sqTail ∧ s.barWord (0x40004 + 4096 * n.val) = q.cqHead)

/-- O45. The DTC on its die (R11, R139, R161 to R171): before adp_ready no write or GO has an effect and a read other than of the version and the status
answers zero without error; a write without all byte enables or to an unmapped offset, and a read of an unmapped offset, are counted as TRB errors and
answer with the error; a read of a mapped offset answers its value, that of the first time word the stamp it latches; ADP_SCRATCH, the enables and the
delays take what is written, interrupt and mailbox bits clear by ones but for those set in this very cycle, ADP_RESET needs its key, a request word lands
in the buffer or, while busy, overruns it, and other writes do nothing; a GO while busy overruns, one of a length outside 32 to 288 is discarded with
MB_DONE, an intact sentence for another OID goes upstream on the link followed or gets ST_STATE where that is not in service, and any other is received
here; a cold reset leaves the DTC as new, a reset keeps its error counts; adp_ready rises only where a DTC is attached. -/
def Obligations.DtcRegistersAndResets : Prop :=
  ∀ (s : State) (p : Fin 64),
    let d := s.dtc p
    let put (e : Dtc) : State := (s.setDtc p e).emit (.trbWrite p false)
    let reset (ties : DtcTies) : State := (s.setDtc p { Dtc.fresh ties with
      tapErrGroup := d.tapErrGroup, tapErrCount := d.tapErrCount, eccCe := d.eccCe, eccUe := d.eccUe, trbErr := d.trbErr }).emit (.dtcReset p true)
    (d.ready = false →
      (∀ off en v, Goes (.trbRegisterWrite p off en v) s (s.emit (.trbWrite p false))) ∧
      (∀ ties, Goes (.adpResetGo p ties) s (s.emit (.trbWrite p false))) ∧
      (∀ len, Goes (.mailboxGo p len) s (s.emit (.trbWrite p false))) ∧
      (∀ off, trbOffset off ≠ 0 → trbOffset off ≠ 12 → Goes (.trbUnmappedRead p off) s (s.emit (.trbRead p false) (zeros 4))) ∧
      Goes (.trbUnmappedRead p 0) s (s.emit (.trbRead p false) (be 4 versionRegister)) ∧
      Goes (.trbUnmappedRead p 12) s (s.emit (.trbRead p false) (be 4 d.statusWord))) ∧
    (d.ready = true →
      (∀ off en v, en ≠ 15 ∨ d.trbValue (trbOffset off) = none →
        Goes (.trbRegisterWrite p off en v) s ((s.setDtc p { d with trbErr := satInc 16 d.trbErr }).emit (.trbWrite p true))) ∧
      (∀ off, d.trbValue (trbOffset off) = none →
        Goes (.trbUnmappedRead p off) s ((s.setDtc p { d with trbErr := satInc 16 d.trbErr }).emit (.trbRead p true) (zeros 4))) ∧
      (∀ off n, trbOffset off ≠ 0x40 → d.trbValue (trbOffset off) = some n → Goes (.trbUnmappedRead p off) s ((s.setDtc p d).emit (.trbRead p false) (be 4 n))) ∧
      (∀ off, trbOffset off = 0x40 → Goes (.trbUnmappedRead p off) s
        ((s.setDtc p { d with time := { d.time with latch := d.stamp } }).emit (.trbRead p false) (be 4 (fld (stampBytes d.stamp) 0 4)))) ∧
      (∀ v, Goes (.trbRegisterWrite p 0x14 15 v) s (put { d with scratch := v })) ∧
      (∀ v, Goes (.trbRegisterWrite p 0x20 15 v) s (put { d with irqStatus := d.irqStatus &&& (~~~(v.extractLsb' 0 9) ||| freshBits 9 d.irqAt d.now) })) ∧
      (∀ v, Goes (.trbRegisterWrite p 0x24 15 v) s (put { d with irqEn := v.extractLsb' 0 9 })) ∧
      (∀ v, Goes (.trbRegisterWrite p 0x50 15 v) s (put { d with capDly := v.extractLsb' 8 8, trigDly := v.extractLsb' 0 8 })) ∧
      (∀ v : Word, v.getLsbD 31 = false → Goes (.trbRegisterWrite p 0x80 15 v) s (put { d with mb := { d.mb with len := v.extractLsb' 0 9 } })) ∧
      (∀ v : Word, v.getLsbD 31 = true → exec (.trbRegisterWrite p 0x80 15 v) s = exec (.mailboxGo p (v.extractLsb' 0 9)) s) ∧
      (∀ v : Word,
        let late := (freshBits 9 d.irqAt d.now).getLsbD 0
        Goes (.trbRegisterWrite p 0x84 15 v) s (put { d with mb := { d.mb with
          done := d.mb.done && (!v.getLsbD 30 || late), overrun := d.mb.overrun && !v.getLsbD 29, discard := d.mb.discard && (!v.getLsbD 28 || late) } })) ∧
      (∀ v : Word, v.extractLsb' 16 16 ≠ (0xA5D7 : BitVec 16) ∨ v.getLsbD 0 = false → Goes (.trbRegisterWrite p 0x10 15 v) s (s.emit (.trbWrite p false))) ∧
      (∀ v : Word, v.extractLsb' 16 16 = (0xA5D7 : BitVec 16) → v.getLsbD 0 = true →
        Goes (.trbRegisterWrite p 0x10 15 v) s ((reset d.ties).emit (.trbWrite p false))) ∧
      (∀ (off : BitVec 16) v, 0x400 ≤ trbOffset off → trbOffset off ≤ 0x51C →
        Goes (.trbRegisterWrite p off 15 v) s (put (if d.mb.busy = true then { d with mb := { d.mb with overrun := true } }
          else { d with mb := d.mb.writeReq (trbOffset off - 0x400) v }))) ∧
      (∀ (off : BitVec 16) v n, d.trbValue (trbOffset off) = some n → trbOffset off ∉ [0x10, 0x14, 0x20, 0x24, 0x50, 0x80, 0x84] →
        (trbOffset off < 0x400 ∨ 0x51C < trbOffset off) → Goes (.trbRegisterWrite p off 15 v) s (s.emit (.trbWrite p false))) ∧
      (∀ ties, Goes (.adpResetGo p ties) s ((reset ties).emit (.trbWrite p false))) ∧
      (∀ len, d.mb.busy = true → Goes (.mailboxGo p len) s (put { d with mb := { d.mb with overrun := true } })) ∧
      (∀ len, d.mb.busy = false → len.toNat < 32 ∨ 288 < len.toNat → Goes (.mailboxGo p len) s (put (Dtc.irq { d with
        mb := { d.mb with len := len, busy := false, done := true, discard := true, rsp := [], rspLen := 0 } } 0))) ∧
      (∀ len, d.mb.busy = false → 32 ≤ len.toNat → len.toNat ≤ 288 →
        let b := (List.range len.toNat).map fun k => Tbl.get 0 k d.mb.req
        let x := parseSentence (.dtc p) .mailbox (b.take 32) (b.drop 32)
        let t := s.setDtc p { d with mb := { d.mb with len := len, done := false, busy := true, rsp := [], rspLen := 0 } }
        let up := headerGood (b.take 32) = true ∧ byteAt b 0 = 1 ∧ fld b 16 2 = b.length - 32 ∧ fld b 18 4 = crc32c (b.drop 32) ∧ x.target ≠ d.oid ∧
          d.oidBad = false
        (up → (d.link d.followed).e.st = .inService → Goes (.mailboxGo p len) s ((t.onDtc p fun e => e.setLink d.followed { e.link d.followed with
          sentences := (e.link d.followed).sentences ++ [recordBytes 0 0 b] }).emit (.trbWrite p false))) ∧
        (up → (d.link d.followed).e.st ≠ .inService → Goes (.mailboxGo p len) s ((t.quickReply x none St.state [] (s.csOf (.dtc p))).emit (.trbWrite p false))) ∧
        (¬ up → Goes (.mailboxGo p len) s ((t.receive (.dtc p) .mailbox (b.take 32) (some (b.drop 32)) none).emit (.trbWrite p false))))) ∧
    (∀ ties, Goes (.dtcColdReset p ties) s ((s.setDtc p
      { ties := ties, attached := true, oid := ties.oid, oidBad := ties.oid == 0 || ties.oid == 0xFFFFFFFF }).emit (.dtcReset p false))) ∧
    (∀ ties, Goes (.dtcReset p ties) s (reset ties)) ∧
    Goes (.dtcReady p) s (s.setDtc p { d with ready := d.ready || d.attached })

/-- O46. Collection on the die (R87, R144, R145, R147, R148, R153, R158, R173, R174, R177, R178, R180, R193 to R203, R246): a group's bits follow its tap; a
clock edge adds every line's code, an invalid one as 4 with an error (both rows of an invalid code count it: log 45, DESIGN CHOICE), and nothing of a
group that is not alive; a sample of a used channel from its own side is taken and, but for a faulted one, enters the histograms; a used sensor without a
sample for four intervals turns stale; a queue's state is taken; the detector without a condition clears, and at the fourth evaluation with one relation
raises a record; an event heads its ring and enters the histograms; a beat goes to its request and to the scan, ends it at its last byte or at an error,
and after an abort only frees its place; a response outstanding 1 ms faults and ends the scan; a corrected ECC error is counted, another raises its
fault; an epoch tick freezes the counters, and no second one comes in its interval; an edge enters its queue and, on the input that freezes, freezes the
counters, joins a freeze of the same cycle or is counted as ignored; a due configuration change takes the tick. -/
def Obligations.CollectionEventsOnTheDie : Prop :=
  ∀ (s : State) (p : Fin 64), (s.dtc p).ready = true →
    let d := s.dtc p
    let put (e : Dtc) : State := s.setDtc p e
    (∀ g : Fin 64, Goes (.tapAliveChange p g true) s (put { d with cnt := { d.cnt with alive := d.cnt.alive ||| BitVec.ofNat 64 (1 <<< g.val) } })) ∧
    (∀ g : Fin 64, Goes (.tapAliveChange p g false) s (put { d with cnt := { d.cnt with
      alive := d.cnt.alive &&& ~~~(BitVec.ofNat 64 (1 <<< g.val)), aliveAll := d.cnt.aliveAll &&& ~~~(BitVec.ofNat 64 (1 <<< g.val)) } })) ∧
    (let bump (e : Dtc) (line n : Nat) : Dtc := { e with cnt := { e.cnt with
       counters := Tbl.set 0 line ((e.counter line + n) % 2 ^ 48) e.cnt.counters } }
     let bad (e : Dtc) (g : Nat) : Dtc := Dtc.irq { e with
       tapErrCount := satInc 16 e.tapErrCount, tapErrGroup := g, cnt := { e.cnt with tapErr := true } } 5
     (∀ (g line : Fin 64) (c : BitVec 3), d.alive g.val = true → 4 < c.toNat →
       Goes (.tapCodeInvalid p g line c) s (put (bump (bad d g.val) (64 * g.val + line.val) 4))) ∧
     (∀ (g line : Fin 64) (c : BitVec 3), d.alive g.val = false ∨ c.toNat ≤ 4 → Goes (.tapCodeInvalid p g line c) s (put d)) ∧
     (∀ (g : Fin 64) (cs : List (BitVec 3)), d.alive g.val = true → cs.length ≤ 64 →
       Goes (.tapGroupClockEdge p g cs) s (put (cs.zipIdx.foldl (fun e c =>
         let e1 := if 4 < c.1.toNat then bad e g.val else e
         if c.1 = 0 then e1 else bump e1 (64 * g.val + c.2) (min c.1.toNat 4)) d))) ∧
     (∀ (g : Fin 64) (cs : List (BitVec 3)), d.alive g.val = false → Goes (.tapGroupClockEdge p g cs) s (put d))) ∧
    (∀ (c : Fin 64) (w : BitVec 20) rpd,
      let mine := d.ties.snsUsed.getLsbD c.val = true ∧ (if c.val < 32 then rpd = false else d.ties.rpd = rpd)
      let e := d.setSensor c.val ((d.sensor c.val).take c.val d.now w)
      (¬ mine → Goes (.sensorSample p c w rpd) s (put d)) ∧
      (mine → w.getLsbD 18 = true → Goes (.sensorSample p c w rpd) s (put e)) ∧
      (mine → w.getLsbD 18 = false → Goes (.sensorSample p c w rpd) s
        (put (e.sample 2 c.val 0 (if c.val < 16 then ((w.extractLsb' 0 16).toNat + 0x8000) % 65536 else (w.extractLsb' 0 16).toNat))))) ∧
    (∀ c : Fin 64,
      let k := d.sensor c.val
      let due := d.ties.snsUsed.getLsbD c.val = true ∧ k.stale = false ∧ k.lastAt + 4 * sensorInterval c.val ≤ d.now
      (due → Goes (.sensorStale p c) s (put (Dtc.irq { d with
        sensors := Tbl.set {} c.val { k with stale := true, alarmPending := k.alarmPending || !k.alarmed } d.sensors } 6))) ∧
      (¬ due → Goes (.sensorStale p c) s (put d))) ∧
    (∀ (q : Fin 256) st, Goes (.queueStateUpdate p q st) s (put { d with queues := Tbl.set none q.val (some st) d.queues })) ∧
    (d.now / 1000 ≤ d.hang.lastEval → Goes (.hangEvaluation p) s (put d)) ∧
    (d.hang.lastEval < d.now / 1000 → hangCondition d.liveQueues = false →
      Goes (.hangEvaluation p) s (put { d with hang := { d.hang with lastEval := d.now / 1000, relation := [], run := 0, raised := false, holds := false } })) ∧
    (d.hang.lastEval < d.now / 1000 → hangCondition d.liveQueues = true →
      let rel := d.liveQueues.map fun e => (e.1, e.2.on.toNat)
      let run := if rel = d.hang.relation then d.hang.run + 1 else 1
      let seen : HangDetector := { d.hang with lastEval := d.now / 1000, relation := rel, run := run, holds := true }
      let record := hangRecord d d.liveQueues rel (d.hang.seq + 1)
      (run < 4 ∨ d.hang.raised = true → Goes (.hangEvaluation p) s (put { d with hang := seen })) ∧
      (4 ≤ run → d.hang.raised = false → Goes (.hangEvaluation p) s (put (Dtc.produce (Dtc.irq { d with
        hang := { seen with raised := true, seq := d.hang.seq + 1, record := record } } 1) 0x15 record)))) ∧
    (∀ (u : Fin 64) (c v : BitVec 16),
      let r := Tbl.get {} u.val d.rings
      let r1 : EventRing := { entries := (⟨!d.time.valid, d.cs, c, v⟩ :: r.entries).take 64, total := (r.total + 1) % 2 ^ 32 }
      Goes (.hostEvent p u c v) s (put (Dtc.sample { d with rings := Tbl.set {} u.val r1 d.rings } 3 u.val c.toNat v.toNat))) ∧
    (d.time.valid = false → Goes (.eventRingAgeCheck p) s (put d)) ∧
    (d.time.valid = true → Goes (.eventRingAgeCheck p) s (put { d with rings := d.rings.map fun r => (r.1, { r.2 with
      entries := r.2.entries.map fun e => if e.count + 2 ^ 46 < d.cs then { e with aged := true } else e }) })) ∧
    (d.hm = [] → (∀ b last err, Stays (.hmResponseBeat p b last err) s) ∧ Stays (.hmResponseTimeout p) s) ∧
    (∀ q qs, d.hm = q :: qs →
      (∀ b last err,
        let rest := if last = true ∨ q.got + 1 = q.beats then qs else { q with got := q.got + 1, since := d.now } :: qs
        let e : Dtc := { d with hm := rest, hmBlocked := d.hmBlocked && !rest.isEmpty }
        let addr := q.addr + 64 * q.got
        (d.hmBlocked = true → Goes (.hmResponseBeat p b last err) s ((put e).issueScan p)) ∧
        (d.hmBlocked = false → d.scan = none → Goes (.hmResponseBeat p b last err) s (put e)) ∧
        (∀ k, d.hmBlocked = false → d.scan = some k → err = true →
          Goes (.hmResponseBeat p b last err) s ((put e).endScan p St.hwFault (some addr))) ∧
        (∀ k, d.hmBlocked = false → d.scan = some k → err = false →
          let lo := max addr k.start
          let hi := min (addr + 64) (k.start + k.len)
          let k1 := { k with done := k.done + (hi - lo), reg := (sub (padTo 64 b) (lo - addr) (hi - lo)).foldl (checkByte d.check) k.reg }
          let u := put e
          let t := u.setDtc p { u.dtc p with scan := some k1 }
          Goes (.hmResponseBeat p b last err) s (if k1.done = k.len then t.endScan p St.ok none else t.issueScan p))) ∧
      (let due := q.late = false ∧ q.since + 1000000 ≤ d.now
       let t := (put ((Dtc.irq { d with hmBlocked := true, hm := { q with late := true } :: qs } 8).fault 2 0 1)).endScan p St.hwFault none
       (due → Goes (.hmResponseTimeout p) s (t.setDtc p { t.dtc p with hmBlocked := true })) ∧
       (¬ due → Stays (.hmResponseTimeout p) s))) ∧
    (∀ i : Fin 32, Goes (.sramEccError p ⟨i, true⟩) s (put { d with eccCe := satInc 16 d.eccCe })) ∧
    (∀ i : Fin 32, Goes (.sramEccError p ⟨i, false⟩) s (put (Dtc.fault (Dtc.irq { d with eccUe := satInc 16 d.eccUe } 7) 1 i.val (satInc 16 d.eccUe)))) ∧
    (let tick := d.time.time / unit / d.epoch * d.epoch * unit
     (d.time.valid = false ∨ tick ≤ d.cnt.lastTick → Goes (.dtcEpochTick p) s (put d)) ∧
     (d.time.valid = true → d.cnt.lastTick < tick → Goes (.dtcEpochTick p) s (put d.tick) ∧ d.tick.cnt.lastTick = tick ∧
       (d.cnt.frozenAt ≠ some d.now → d.tick.cnt.freezeKind = 4) ∧
       d.tick.cnt.freeze = d.tick.cnt.counters ∧ d.tick.cnt.previous = d.tick.cnt.counters)) ∧
    (∀ (i : Fin 16) rise ph,
      let c := Tbl.get {} i.val d.time.cap
      let st := captureStamp d.instant ph.val d.capDly.toNat d.flags
      let e : Dtc := { d with time := { d.time with cap := Tbl.set {} i.val (c.take rise st) d.time.cap } }
      let freezes := d.cnt.set.capture = i.val ∧ (if rise = true then c.edges % 2 = 1 else 2 ≤ c.edges)
      (¬ freezes → Goes (.captureEdge (.dtc p) i rise ph) s (put e)) ∧
      (freezes → e.joins 2 = true → Goes (.captureEdge (.dtc p) i rise ph) s (put (e.joinFreeze i.val))) ∧
      (freezes → e.joins 2 = false → d.cnt.snapshotPending = true →
        Goes (.captureEdge (.dtc p) i rise ph) s (put { e with cnt := { e.cnt with ignored := satInc 16 e.cnt.ignored } })) ∧
      (freezes → e.joins 2 = false → d.cnt.snapshotPending = false →
        Goes (.captureEdge (.dtc p) i rise ph) s (put (e.freezeNow (ofStamp st) 2 i.val)))) ∧
    (∀ (i : Fin 16) r ph, i.val < 8 → Goes (.captureEdge .agg i r ph) s { s with time := { s.time with
      cap := Tbl.set {} i.val ((Tbl.get {} i.val s.time.cap).take r (captureStamp s.svc ph.val (fld s.phys.bootCfg (28 + i.val) 1) s.svcFlags)) s.time.cap } }) ∧
    (∀ (i : Fin 16) r ph, 8 ≤ i.val → Stays (.captureEdge .agg i r ph) s) ∧
    (let due := ∃ e ∈ d.cnt.pending, ∃ t, e.1 = some t ∧ t ≤ d.time.time
     (¬ due → Goes (.collectionConfigActivation p) s (put d)) ∧
     (due → Goes (.collectionConfigActivation p) s (put d.tick)))

/-- O47. Frames of the telemetry link (R79, R80, R237 to R263): a link that is down sends nothing, one that trains sends the training blocks of its lanes,
its first frame is idle, and then the aggregator sends what it has, and a DTC in service after its control records the next journalled frame not yet
sent, then the lowest asked for again, then what else it has; a frame with a bad HCRC, type or CRC is counted, the eighth bad HCRC in a row and the
limit of bad CRCs in a window retrain the link; a good journalled one goes to the hold buffer, and at a DTC its segments are discarded one by one; the
segments of a good one of type 2 are taken, those of type 3 discarded; an acknowledgement moves what is acknowledged and keeps what is not, one past
the last frame is counted; a timeout asks for every frame sent and not acknowledged; a beacon goes out once in its interval and arrives once frames
flow; a time echo gives delay and offset, and a new offset two sentences of discipline; a DTC without time records for 10 µs enters holdover; RESUME and
START set where a link goes on. -/
def Obligations.LinkFramesAndTheJournal : Prop :=
  ∀ (s : State) (p : Fin 64) (l : LinkId),
    (∀ side,
      let e := s.linkEnd side p l
      let sends := s.hasEnd side p l = true ∧ e.st ≠ .down
      (¬ sends → Stays (.linkSlot side p l) s) ∧
      (sends → e.framing = false → ¬ (e.st = .test ∧ e.testMode = 2) → Goes (.linkSlot side p l) s (s.sendTraining side p l [0, 1, 2])) ∧
      (sends → e.framing = false → e.st = .test → e.testMode = 2 →
        Goes (.linkSlot side p l) s ((s.sendTraining side p l [0, 1, 2]).onEnd side p l fun e => e.loopBack side)) ∧
      (sends → e.framing = true → e.firstIdle = true →
        let t := (s.onEnd side p l fun e => { e with firstIdle := false }).sendCounted side p l []
        Goes (.linkSlot side p l) s (match side with
          | .agg => t.onPort p fun a => { a with firstFrame := s.now, lastBeacon := 0, beaconTimed := false }
          | .dtc => t)) ∧
      (sends → e.framing = true → e.firstIdle = false → side = .agg → Goes (.linkSlot side p l) s (s.sendDownstream p []))) ∧
    ((s.dtc p).ready = true →
      let d := s.dtc p
      let k := d.link l
      let serves := k.e.st = .inService ∧ k.e.framing = true ∧ k.e.firstIdle = false ∧ k.e.ctrlOut = []
      let next := d.journal.frames.find? fun f => f.seq == k.sentTo
      let again := d.journal.frames.find? fun f => k.again.contains f.seq
      let noted (f : JFrame) : DtcLink := { k with again := k.again.filter (· != f.seq), sentAt := Tbl.insert f.seq.toNat d.now k.sentAt }
      (∀ f, serves → next = some f →
        Goes (.linkSlot .dtc p l) s ((s.setDtc p (d.setLink l { noted f with sentTo := f.seq + 1 })).sendFrame .dtc p l (linkFrame 1 0 f.seq f.payload))) ∧
      (∀ f, serves → next = none → again = some f →
        let d1 := d.setLink l (noted f)
        Goes (.linkSlot .dtc p l) s ((s.setDtc p { d1 with journal := { d1.journal with resent := satInc 64 d1.journal.resent } }).sendFrame .dtc p l
          (linkFrame 1 1 f.seq f.payload))) ∧
      (serves → next = none → again = none → Goes (.linkSlot .dtc p l) s (s.sendUpstream p l)) ∧
      (k.e.st ≠ .down → k.e.framing = true → k.e.firstIdle = false → (k.e.st ≠ .inService ∨ k.e.ctrlOut ≠ []) →
        Goes (.linkSlot .dtc p l) s (s.sendUpstream p l)) ∧
      Goes (.journalFrameBuild p) s (({ s with free := s.free + 1 }).setDtc p (d.buildFrame s.free)) ∧
      (∀ n, let d1 := d.queueSnapshot
        d1.journal.running = true → d1.journal.frames.length < 511 → d1.wantsFrame = true → d1.journal.waiting ≠ [] →
        (d.buildFrame n).journal.nextSeq = d1.journal.nextSeq + 1 ∧
        ∃ b, (d.buildFrame n).journal.frames = d1.journal.frames ++ [⟨d1.journal.nextSeq, b⟩]) ∧
      (∀ n, let d1 := d.queueSnapshot
        (d1.journal.running = false ∨ 512 ≤ d1.journal.frames.length ∨ d1.wantsFrame = false ∨ d1.journal.waiting = []) → d.buildFrame n = d1) ∧
      (∀ n m, Goes (.ackReceive p l n m) s (s.setDtc p (d.takeAck l n (m.take 58)))) ∧
      (∀ n m, (k.e.lives = false ∨ d.journal.running = false) → d.takeAck l n m = d) ∧
      (∀ n m, k.e.lives = true → d.journal.running = true →
        let to_ := ((d.takeAck l n m).link l)
        (to_.e = k.e ∧ to_.sentTo = k.sentTo) ∧
        (seqAfter n d.journal.nextSeq = false → seqAfter n k.acked = true → to_.acked = n ∧ to_.ackedAt = d.now) ∧
        (seqAfter n d.journal.nextSeq = true ∨ seqAfter n k.acked = false → to_.acked = k.acked ∧ to_.ackedAt = k.ackedAt) ∧
        (seqAfter n d.journal.nextSeq = true → m = [] → to_.futureAcks = satAdd 32 k.futureAcks 1) ∧
        (∀ f ∈ d.journal.frames, seqAfter to_.acked f.seq = false → f ∈ (d.takeAck l n m).journal.frames)) ∧
      (let due := ∃ t, Tbl.find? k.acked.toNat k.sentAt = some t ∧ k.e.lives = true ∧ k.ackedAt ≤ t ∧ t + 2 * s.linkDelay p l + 4000 ≤ d.now
       (due → Goes (.journalResendTimeout p l) s (s.setDtc p (d.setLink l { k with
          again := (d.journal.frames.filter fun f => !seqAfter k.acked f.seq && seqAfter k.sentTo f.seq).map (·.seq) }))) ∧
       (¬ due → Stays (.journalResendTimeout p l) s)) ∧
      (∀ b, k.e.framing = false → Stays (.beaconReceive p l b) s) ∧
      (∀ b, k.e.framing = true → Goes (.beaconReceive p l b) s ((s.setDtc p (d.takeBeacon l b)).enterService .dtc p l)) ∧
      (∀ b, ((d.takeBeacon l b).link l).beacon = some ⟨byteAt b 20 == 0, BitVec.ofNat 32 (fld b 24 4), fld b 28 4, fld b 32 4, fld b 36 8, byteAt b 22,
        BitVec.ofNat 32 (fld b 16 4)⟩ ∧ ((d.takeBeacon l b).link l).e.beaconOk = true) ∧
      (let echoes := k.e.framing = true ∧ k.e.firstIdle = false ∧ k.echo.isSome = true
       (echoes → Goes (.timeEchoSend p l) s (s.sendUpstream p l)) ∧
       (¬ echoes → Stays (.timeEchoSend p l) s)) ∧
      (d.time.valid = true → d.time.hold = false → d.time.lastRecord + 10000 ≤ d.now →
        Goes (.dtcHoldoverEntry p) s (s.setDtc p (Dtc.irq { d with time := { d.time with hold := true, recordSinceHold := false } } 4))) ∧
      (d.time.valid = false ∨ d.time.hold = true ∨ d.now < d.time.lastRecord + 10000 → Goes (.dtcHoldoverEntry p) s (s.setDtc p d)) ∧
      (∀ seq, k.e.framing = false → Stays (.linkCtrlResume p l seq) s) ∧
      (∀ seq, k.e.framing = true →
        let answered (e : Dtc) (from_ : Word) : State :=
          (s.setDtc p (e.onLink l fun k => { k with e := { k.e with startOk := true }, resume := some seq, resetOwed := false })).sendCtrl .dtc p l 1 0 from_
            (if k.resetOwed then 1 else 0)
        let fresh (k : DtcLink) (v : Word) : DtcLink := { k with sentTo := v, acked := v, again := [], sentAt := [], ackedAt := d.now }
        (d.journal.running = false →
          let v := if seq = 0xFFFFFFFF then 0 else seq
          Goes (.linkCtrlResume p l seq) s (answered { d with
            la := fresh d.la v, lb := fresh d.lb v
            journal := { d.journal with running := true, nextSeq := v, frames := [], baseOwed := true, waiting := d.journal.waiting.filter fun w => !w.started }
            cnt := { d.cnt with snapshotPending := d.cnt.snapshot.isSome || d.journal.waiting.any fun w => w.cls == 0x11 && !w.started } } v)) ∧
        (d.journal.running = true → (∀ f ∈ d.journal.frames, f.seq ≠ seq) →
          Goes (.linkCtrlResume p l seq) s (answered (d.setLink l (fresh k d.journal.nextSeq)) d.journal.nextSeq)) ∧
        (d.journal.running = true → (∃ f ∈ d.journal.frames, f.seq = seq) →
          Goes (.linkCtrlResume p l seq) s (answered (d.setLink l { k with
            sentTo := if seqAfter seq k.sentTo then seq else k.sentTo, acked := seq, ackedAt := d.now
            again := (d.journal.frames.filter fun f => !seqAfter seq f.seq && seqAfter k.sentTo f.seq).map (·.seq) }) seq)))) ∧
    (∀ seq b, Goes (.linkCtrlStart p .b seq b) s (if b then s.endForwarded p .b else s)) ∧
    (∀ seq b,
      let t := if b then s.endForwarded p .a else s
      let a := t.port p
      let goes := !b && a.hasState && a.next == seq
      Goes (.linkCtrlStart p .a seq b) s ((t.setPort p { a with
        next := seq, hasState := true, hold := [], asked := [], jopen := if goes then a.jopen else []
        e := { a.e with startOk := true, incomplete := a.e.incomplete + if goes then 0 else a.jopen.length } }).enterService .agg p .a)) ∧
    (∀ side b,
      let e := s.linkEnd side p l
      let arrives := s.hasEnd side p l = true ∧ e.framing = true ∧ b.length = 256
      let headed := arrives ∧ fld b 6 2 = hcrc16 b
      let good := headed ∧ fld b 252 4 = crc32c (b.take 252)
      let seq := BitVec.ofNat 32 (fld b 2 4)
      let ok := s.onEnd side p l fun e => { e with hcrcRun := 0 }
      let now := s.msIndex side p
      let w := min e.limit ((if e.windowIndex < now then 0 else e.window) + 1)
      let counted := s.onEnd side p l fun e => { e with fcrc := satInc 64 e.fcrc, hcrcRun := 0, window := w, windowIndex := now }
      let full := w = e.limit ∧ (e.window ≠ e.limit ∨ e.windowIndex < now)
      let missed := s.onEnd side p l fun e => { e with hcrc := satInc 64 e.hcrc, hcrcRun := (s.linkEnd side p l).hcrcRun + 1 }
      let taken := ok.onEnd side p l fun e' => { (if e.rxSeq.isSome = true ∧ e.rxSeq ≠ some seq then e'.dropOpen else e') with rxSeq := some (seq + 1) }
      let g := segments (sub b 8 244)
      let closed (t : State) : State := if g.2 then t else t.onEnd side p l fun e => { e with badSegments := satInc 64 e.badSegments }
      (¬ arrives → Stays (.linkFrameReceive side p l b) s) ∧
      (arrives → fld b 6 2 ≠ hcrc16 b → e.hcrcRun < 7 → Goes (.linkFrameReceive side p l b) s missed) ∧
      (arrives → fld b 6 2 ≠ hcrc16 b → 7 ≤ e.hcrcRun →
        Goes (.linkFrameReceive side p l b) s ((missed.onEnd side p l fun e => { e with delineation := satInc 64 e.delineation }).retrain side p l 2 true)) ∧
      (headed → byteAt b 0 = 0 ∨ 3 < byteAt b 0 →
        Goes (.linkFrameReceive side p l b) s (s.onEnd side p l fun e => { e with ftype := satInc 64 e.ftype, hcrcRun := 0 })) ∧
      (headed → 1 ≤ byteAt b 0 → byteAt b 0 ≤ 3 → fld b 252 4 ≠ crc32c (b.take 252) →
        (¬ full → Goes (.linkFrameReceive side p l b) s counted) ∧ (full → Goes (.linkFrameReceive side p l b) s (counted.retrain side p l 1 true))) ∧
      (good → byteAt b 0 = 1 → side = .dtc →
        Goes (.linkFrameReceive side p l b) s (g.1.foldl (fun t seg => t.discardSegment side p l seg) ok)) ∧
      (good → byteAt b 0 = 1 → side = .agg → Goes (.linkFrameReceive side p l b) s (ok.onPort p fun a => a.journalled s.now seq (sub b 8 244))) ∧
      (good → byteAt b 0 = 2 → Goes (.linkFrameReceive side p l b) s (closed (g.1.foldl (fun t seg => t.takeSegment side p l seg) taken))) ∧
      (good → byteAt b 0 = 3 → Goes (.linkFrameReceive side p l b) s (closed (g.1.foldl (fun t seg => t.discardSegment side p l seg) taken)))) ∧
    (∀ side,
      let ends := s.hasEnd side p l = true ∧ (s.linkEnd side p l).windowIndex < s.msIndex side p
      (ends → Goes (.fcrcWindowEnd side p l) s (s.onEnd side p l fun e => { e with window := 0, windowIndex := s.msIndex side p })) ∧
      (¬ ends → Stays (.fcrcWindowEnd side p l) s)) ∧
    (let a := s.port p
     let i := (if s.timeValid then s.svcNs else s.now - a.firstFrame) / 2000
     let due := a.e.framing = true ∧ a.e.firstIdle = false ∧ (i ≠ a.lastBeacon ∨ a.beaconTimed ≠ s.timeValid)
     let t1 := lineStamp s.svc (((Tbl.get {} (32 + p.val) s.time.asym).at s.now).toNat % 65536) s.svcFlags true
     let rest (echo : Nat) (x : Byte) : Bytes := be 4 s.dev.oid.toNat ++ be 1 (if s.active then 0 else 1) ++ be 1 echo ++
       be 1 (profileFloor s.sys.profile) ++ [x] ++ be 4 s.pair.term.toNat ++ be 4 s.sys.epoch ++ be 4 ((s.sys.pendingEpoch.map (·.epoch)).getD 0) ++
       be 8 ((s.sys.pendingEpoch.map (·.second)).getD 0) ++ be 4 a.next.toNat ++ zeros 4
     (¬ due → Stays (.beaconSend p) s) ∧
     (due → s.timeValid = false → Goes (.beaconSend p) s ((s.setPort p { a with lastBeacon := i, beaconTimed := false }).sendDownstream p
       (control 0x03 (zeros 16 ++ rest 0 a.exchange)))) ∧
     (due → s.timeValid = true → a.beacons % 8 ≠ 0 → Goes (.beaconSend p) s ((s.setPort p { a with
       lastBeacon := i, beaconTimed := true, beacons := a.beacons + 1 }).sendDownstream p (control 0x03 (stampBytes t1 ++ rest 0 a.exchange)))) ∧
     (due → s.timeValid = true → a.beacons % 8 = 0 → Goes (.beaconSend p) s ((s.setPort p { a with
       lastBeacon := i, beaconTimed := true, beacons := a.beacons + 1, exchange := a.exchange + 1, t1s := ((a.exchange + 1, t1) :: a.t1s).take 8 }).sendDownstream p
       (control 0x03 (stampBytes t1 ++ rest 1 (a.exchange + 1)))))) ∧
    (∀ b, ((s.port p).t1s.find? fun e => e.1 == BitVec.ofNat 8 (byteAt b 0)) = none → Stays (.timeEchoReceive p b) s) ∧
    (∀ b e, ((s.port p).t1s.find? fun e => e.1 == BitVec.ofNat 8 (byteAt b 0)) = some e →
      let rx := ((Tbl.get {} (32 + p.val) s.time.asym).at s.now).toNat / 65536
      let t4 : Int := stampFrac (lineStamp s.svc rx s.svcFlags false)
      let d : Int := ((t4 - stampFrac e.2) - (stampFrac (stampAt b 20) - stampFrac (stampAt b 4))).tdiv 2
      Goes (.timeEchoReceive p b) s (s.setPort p { s.port p with
        delay := d, measured := true, offset := (stampFrac (stampAt b 4) - stampFrac e.2 : Int) - d, offsets := (s.port p).offsets + 1
        t1s := (s.port p).t1s.filter fun e => e.1 != BitVec.ofNat 8 (byteAt b 0) })) ∧
    (let due := (s.port p).e.st = .inService ∧ (s.port p).measured = true ∧ (s.port p).offsets ≠ (s.port p).disciplined
     (¬ due → Stays (.dtcDiscipline p) s) ∧
     (due →
      let own (t : State) (flags : Byte) (body : Bytes) : Sentence :=
        ⟨.agg, .mailbox, flags, BitVec.ofNat 32 (Tbl.get 1 p.val t.verbs.nextFtag), 0, 0, 0, be 1 2 ++ zeros 7 ++ body⟩
      let target := BitVec.ofNat 32 (Tbl.get 0 p.val s.verbs.knownOid)
      let s0 := { s with free := s.free + 1 }
      let s1 := (s0.forward p 0x0101 (own s0 0x0B (be 8 (Config.servoIncrement s.free).toNat)) target).1
      let s2 := (s1.forward p 0x0102 (own s1 0x09 (be 8 (ofSigned 64 (-(s.port p).offset)))) target).1
      Goes (.dtcDiscipline p) s (s2.onPort p fun b => { b with disciplined := b.offsets })))

/-- O48. Lanes and states of links (R155, R236 to R240, R253, R255, R259, R263 to R265, R440, R445): a training block counts a lane's blocks in a row, takes
its role and the far end's lanes, and frames flow once both data lanes are aligned, sixteen blocks say so of the far end and at most one lane is out; a
block in service retrains, and in the PRBS test its words are checked; a lane's lock and margin are taken, the lock of a data lane in service lost
retrains the link unless a swap takes that lane out; a low margin on a data lane in service asks for a swap; the transmitter mirrors one swap at a time,
the receiver takes the spare when the words match, both exchange the roles, and words that never match abandon the swap; fabric ports and the partner
link swap in the same way, in 200 µs in place of 10; a link enters service only with frames, START and, at the DTC, a BEACON, and the aggregator then
sends its kept SET_OID, its pin and GET_VERSION first; it leaves service into the held state, and is released 100 µs later. -/
def Obligations.LanesAndLinkStates : Prop :=
  ∀ (s : State) (side : Side) (p : Fin 64) (l : LinkId),
    let now := s.nowOf (sidePart side p)
    let on (f : LinkEnd → LinkEnd) : State := s.onEnd side p l f
    (s.hasEnd side p l = false → (∀ lane w0 w1 r, Stays (.trainingBlockReceive ⟨side, p⟩ l lane w0 w1 r) s) ∧
      (∀ lane m, Stays (.laneMarginAlarm (.dtcLink side p l) lane m) s ∧ Stays (.swapReqReceive (.dtcLink side p l) lane) s) ∧
      (∀ lane m, Stays (.swapMirrorReceive (.dtcLink side p l) lane m) s) ∧ (∀ lane, Stays (.swapDoneReceive (.dtcLink side p l) lane) s) ∧
      Stays (.swapTimeout (.dtcLink side p l)) s ∧ Stays (.linkCtrlRetrainReceive side p l) s ∧ Stays (.linkEnterService side p l) s ∧
      Stays (.linkLeaveService side p l) s ∧ Stays (.linkHoldExpiry side p l) s) ∧
    (∀ (lane : Fin 6) lock x y,
      let m : LinkId := if lane.val < 3 then .a else .b
      let i := lane.val % 3
      let e := s.linkEnd side p m
      let swapped := ∃ o, e.rxSwap.lane = some o ∧ o ≠ i
      let off := s.onEnd side p m fun e => e.setLane i { e.lane i with lock := false, blocks := 0 }
      (s.hasEnd side p m = false → Stays (.laneLockChange ⟨side, p⟩ lane lock x y) s) ∧
      (s.hasEnd side p m = true → Goes (.laneLockChange ⟨side, p⟩ lane true x y) s (s.onEnd side p m fun e =>
        let e1 := e.setLane i { e.lane i with lock := true, txlat := x, rxlat := y }
        { e1 with st := if e1.st = .down ∧ e1.outOfService = false then .training else e1.st })) ∧
      (s.hasEnd side p m = true → e.st = .inService → e.rxMap.isData i = true → ¬ swapped →
        Goes (.laneLockChange ⟨side, p⟩ lane false x y) s (off.retrain side p m 3 true)) ∧
      (s.hasEnd side p m = true → (e.st ≠ .inService ∨ e.rxMap.isData i = false ∨ swapped) → Goes (.laneLockChange ⟨side, p⟩ lane false x y) s off)) ∧
    (∀ (e : LinkEnd) (lane : Fin 3) (w0 w1 : Word),
      let f := e.block side lane.val w0 w1
      let mine := w0.toNat / 4 = 0x7E3C5A00 / 4 ∧ w0.toNat % 4 ≠ 3
      (¬ mine → f = e.setLane lane.val { e.lane lane.val with blocks := 0 }) ∧
      (mine → (f.lane lane.val).blocks = min 4 ((e.lane lane.val).blocks + 1) ∧ (f.lane lane.val).role = w0.toNat % 4 ∧ f.good = w1.extractLsb' 1 3 ∧
        f.alignedIn = (if w0.toNat % 4 ≠ 0 then e.alignedIn else if w1.getLsbD 0 = true then min 16 (e.alignedIn + 1) else 0) ∧
        (f.framing = true ↔ f.aligned = true ∧ 16 ≤ f.alignedIn ∧ ((List.range 3).filter fun i => !f.good.getLsbD i).length ≤ 1))) ∧
    (s.hasEnd side p l = true →
      let e := s.linkEnd side p l
      let free (x : Nat) : Prop := e.autoSwap = true ∧ e.rxMap.isData x = true ∧ (e.lane e.rxMap.spare).alarm = false ∧ e.rxSwap = .none ∧ e.st = .inService
      let taken (x : Nat) (low : Bool) (m : Byte) : State := on fun e => e.setLane x { e.lane x with margin := m, alarm := low }
      (∀ lane w0 w1 r,
        let c : Instr := .trainingBlockReceive ⟨side, p⟩ l lane w0 w1 r
        let t := if e.framing = true ∧ e.st = .inService then s.retrain side p l 4 false else s
        let u := t.onEnd side p l fun e => let b := e.block side lane.val w0 w1
          { b with st := if b.st = .down then .training else b.st }
        (e.outOfService = true → Stays c s) ∧
        (e.outOfService = false → e.st = .test → e.testMode ≠ 1 → Stays c s) ∧
        (e.outOfService = false → e.st = .test → e.testMode = 1 → Goes c s (on fun e =>
          let k := e.lane lane.val
          let q := prbsCheck k.prbsRx (wordsOf r)
          e.setLane lane.val { k with prbsRx := q.1, prbsErrors := satAdd 32 k.prbsErrors q.2 })) ∧
        (e.outOfService = false → e.st ≠ .test → Goes c s
          (if (u.linkEnd side p l).framing = true ∧ (t.linkEnd side p l).framing = false then u.framesBegin side p l else u))) ∧
      (∀ (lane : Fin 5) m, 3 ≤ lane.val → Stays (.laneMarginAlarm (.dtcLink side p l) lane m) s ∧ Stays (.swapReqReceive (.dtcLink side p l) lane) s) ∧
      (∀ (lane : Fin 5) m, lane.val < 3 →
        (e.threshold ≤ m.toNat → Goes (.laneMarginAlarm (.dtcLink side p l) lane m) s (taken lane.val false m)) ∧
        (m.toNat < e.threshold → ¬ free lane.val → Goes (.laneMarginAlarm (.dtcLink side p l) lane m) s (taken lane.val true m)) ∧
        (m.toNat < e.threshold → free lane.val → Goes (.laneMarginAlarm (.dtcLink side p l) lane m) s
          (((taken lane.val true m).onEnd side p l fun e => { e with rxSwap := .asked lane.val none }).sendCtrl side p l 3 lane.val))) ∧
      (∀ lane : Fin 5, lane.val < 3 →
        (e.txSwap ≠ .none → Goes (.swapReqReceive (.dtcLink side p l) lane) s (on fun e => { e with ignoredSwaps := satInc 32 e.ignoredSwaps })) ∧
        (e.txSwap = .none → e.txMap.isData lane.val = false → Stays (.swapReqReceive (.dtcLink side p l) lane) s) ∧
        (e.txSwap = .none → e.txMap.isData lane.val = true → Goes (.swapReqReceive (.dtcLink side p l) lane) s
          ((on fun e => { e with txSwap := .mirroring lane.val now none }).sendCtrl side p l 4 lane.val))) ∧
      (∀ (lane : Fin 5) m,
        (e.rxSwap.lane ≠ some lane.val → Stays (.swapMirrorReceive (.dtcLink side p l) lane m) s) ∧
        (∀ t, e.rxSwap = .asked lane.val t → Goes (.swapMirrorReceive (.dtcLink side p l) lane false) s
          (on fun e => { e with rxSwap := .mirroring lane.val now t })) ∧
        (∀ n t, e.rxSwap = .mirroring lane.val n t → Stays (.swapMirrorReceive (.dtcLink side p l) lane false) s) ∧
        (e.rxSwap.lane = some lane.val → Goes (.swapMirrorReceive (.dtcLink side p l) lane true) s
          (((on fun e => { e with rxMap := e.rxMap.retire lane.val, swaps := satInc 64 e.swaps }).endSwap side p l 0).sendCtrl side p l 5 lane.val))) ∧
      (∀ lane : Fin 5, e.txSwap.lane = some lane.val → Goes (.swapDoneReceive (.dtcLink side p l) (some lane)) s
        (on fun e => { e with txMap := e.txMap.retire lane.val, txSwap := .none })) ∧
      (∀ lane : Fin 5, e.txSwap.lane ≠ some lane.val → Goes (.swapDoneReceive (.dtcLink side p l) (some lane)) s (on id)) ∧
      Goes (.swapDoneReceive (.dtcLink side p l) none) s (on fun e => { e with txSwap := .none }) ∧
      (let late := ∃ x n t, e.rxSwap = .mirroring x n t ∧ n + 10000 ≤ now
       (late → Goes (.swapTimeout (.dtcLink side p l)) s ((s.endSwap side p l 1).sendCtrl side p l 5 255)) ∧
       (¬ late → Stays (.swapTimeout (.dtcLink side p l)) s)) ∧
      Goes (.linkCtrlRetrainReceive side p l) s (s.retrain side p l 5 false) ∧
      (e.st = .down ∨ e.st = .test → s.retrain side p l 5 false = s) ∧
      (e.st ≠ .down → e.st ≠ .test → e.rxSwap = .none →
        let bad (i : Nat) : Prop := (e.lane i).lock = false ∨ (e.lane i).alarm = true
        let t := (on fun f => { f with rxSwap := .none }).onEnd side p l fun f => { f with
          framing := false, firstIdle := false, aligned := false, alignedIn := 0, startOk := false
          retrains := satInc 64 f.retrains, txSwap := .none, rxSeq := none, hcrcRun := 0
          st := if f.st = .inService then .held else f.st, heldSince := if e.st = .inService then now else f.heldSince
          lanes := f.lanes.map fun k => (k.1, { k.2 with blocks := 0 })
          rxMap := if bad f.rxMap.even ∧ ¬ bad f.rxMap.odd then f.rxMap.retire f.rxMap.even
            else if bad f.rxMap.odd ∧ ¬ bad f.rxMap.even then f.rxMap.retire f.rxMap.odd else f.rxMap }
        let u := if e.st = .inService then t.leaveService side p l else t
        s.retrain side p l 5 false =
          (match side with | .dtc => u | .agg => u.raise 2 0x0402 3 (be 1 p.val ++ be 1 (linkCode l) ++ [Config.causeCode 0x0402 5]))) ∧
      (let enters := e.framing = true ∧ e.startOk = true ∧ e.st ≠ .inService ∧ e.outOfService = false
       let t := on fun e => { e with st := .inService }
       (¬ enters ∨ side = .dtc ∧ e.beaconOk = false → Stays (.linkEnterService side p l) s) ∧
       (enters → side = .dtc → e.beaconOk = true → Goes (.linkEnterService side p l) s (t.onDtc p fun d =>
          (Dtc.irq { d with journal := { d.journal with baseOwed := true } } (2 + linkCode l)).dropHeld)) ∧
       (enters → side = .agg →
         let send (u : State) (verb : Nat) (flags : Byte) (body : Bytes) (target : Nat) : State :=
           (u.forward p verb ⟨.agg, .mailbox, flags, BitVec.ofNat 32 (Tbl.get 1 p.val u.verbs.nextFtag), 0, 0, 0, body⟩ (BitVec.ofNat 32 target)).1
         let t1 := t.onPort p fun a => { a with verbOut := [] }
         let kept := Tbl.get 0 p.val s.verbs.keptOid
         let t2 := if kept = 0 then t1 else send t1 0x0005 0x0B (be 4 kept) kept
         let pin := Tbl.get 0 p.val t2.dev.dtcPins
         let target := if kept = 0 then Tbl.get 1 p.val t2.verbs.knownOid else kept
         let t3 := if pin = 0 then t2 else send t2 0x0905 0x0B (be 1 (pin - 1) ++ zeros 3) target
         Goes (.linkEnterService side p l) s ((send t3 0x0001 3 [] target).onPort p fun a => { a with verbOut := a.verbOut ++ (t.port p).verbOut }))) ∧
      (e.st ≠ .inService → Stays (.linkLeaveService side p l) s) ∧
      (e.st = .inService → Goes (.linkLeaveService side p l) s ((on fun e =>
        { e with st := .held, heldSince := now, framing := false, aligned := false, alignedIn := 0, startOk := false, rxSeq := none }).leaveService side p l)) ∧
      (let ends := e.st = .held ∧ e.heldSince + 100000 ≤ now
       let t := on fun e => { e with st := .training }
       (ends → Goes (.linkHoldExpiry side p l) s (match side with | .agg => t | .dtc => t.onDtc p fun d => d.stopJournal.release)) ∧
       (¬ ends → Stays (.linkHoldExpiry side p l) s))) ∧
    (∀ (w : LanePlace) (n : Nat), (w = .partner ∧ n = 17 ∨ ∃ q : Fin 16, w = .fabric q ∧ n = q.val) →
      let q := s.netPort n
      let put (r : Port) : State := s.setNetPort n r
      (∀ (lane : Fin 5) m,
        let low := m.toNat < q.threshold
        let taken := q.setLane lane.val { q.lane lane.val with margin := m, alarm := decide (m.toNat < q.threshold) }
        let free := q.swappable n = true ∧ q.isData lane.val = true ∧ (q.lane q.spare).alarm = false ∧ q.rxSwap = .none ∧ q.st = .inService
        (¬ (low ∧ free) → Goes (.laneMarginAlarm w lane m) s (put taken)) ∧
        (low → free → Goes (.laneMarginAlarm w lane m) s ((put { taken with rxSwap := .asked lane.val none }).sendPortControl n 3 lane.val))) ∧
      (∀ lane : Fin 5,
        (q.txSwap ≠ .none → Goes (.swapReqReceive w lane) s (put { q with ignoredSwaps := satInc 32 q.ignoredSwaps })) ∧
        (q.txSwap = .none → q.swappable n = false → Stays (.swapReqReceive w lane) s) ∧
        (q.txSwap = .none → q.swappable n = true →
          Goes (.swapReqReceive w lane) s ((put { q with txSwap := .mirroring lane.val s.now none }).sendPortControl n 4 lane.val)) ∧
        (∀ m, q.rxSwap.lane ≠ some lane.val → Stays (.swapMirrorReceive w lane m) s) ∧
        (∀ t, q.rxSwap = .asked lane.val t → Goes (.swapMirrorReceive w lane false) s (put { q with rxSwap := .mirroring lane.val s.now t })) ∧
        (∀ a t, q.rxSwap = .mirroring lane.val a t → Stays (.swapMirrorReceive w lane false) s) ∧
        (q.rxSwap.lane = some lane.val → Goes (.swapMirrorReceive w lane true) s
          ((put { q.retire lane.val with rxSwap := .none, swaps := satInc 32 q.swaps }).sendPortControl n 5 lane.val)) ∧
        (q.txSwap.lane = some lane.val → Goes (.swapDoneReceive w (some lane)) s (put { q with txSwap := .none, txRoles := retireRole q.txRoles lane.val })) ∧
        (q.txSwap.lane ≠ some lane.val → Stays (.swapDoneReceive w (some lane)) s)) ∧
      (q.txSwap ≠ .none → Goes (.swapDoneReceive w none) s (put { q with txSwap := .none })) ∧
      (q.txSwap = .none → Stays (.swapDoneReceive w none) s) ∧
      (let late := ∃ x a t, q.rxSwap = .mirroring x a t ∧ a + 200000 ≤ s.now
       (late → Goes (.swapTimeout w) s ((put { q with rxSwap := .none }).sendPortControl n 5 255)) ∧
       (¬ late → Stays (.swapTimeout w) s)))

/-- O49. Scoring (R50, R309, R317 to R321, R340 to R343, R352 to R359, R374 to R402, R516): records delivered are taken in order, one that does not open is
counted and recorded; a tick starts at its cut-off; a half takes one vector at a time, ticks first, for the cycles of its map at the clock in force, and
its vector goes on once done unless its crossing is full; a cluster that is up takes its next work and hands each tartlet its descriptors; a tartlet
runs its descriptors in order, and its last one ends the work; an ECC error is recorded, marks its slot and fails the work; a sequence steps the scoring
whose turn it is; a streamed pass takes at most four works of one placement and loads chunk by chunk; copies, placements, maps and unloads take effect at
their ticks; loads expire after 1 s; replicas are scanned at their interval and compared; a request goes through its checks in order and is refused by the
first that fails, repeated from the store, or accepted; responses are kept 10 ms. -/
def Obligations.ScoringMovesWorkAlong : Prop :=
  ∀ s : State,
    (∀ p : Fin 64, (s.port p).bodies = [] → Stays (.bodyIngest p) s) ∧
    (∀ (p : Fin 64) cls w at_ rest, (s.port p).bodies = (cls, w, at_) :: rest →
      let t := s.setPort p { s.port p with bodies := rest, instants := Tbl.set none cls at_ (s.port p).instants }
      (recordBody w = none → Goes (.bodyIngest p) s ((t.onPort p fun a => { a with rejected := satInc 64 a.rejected }).raise 2 0x0401 4
        (be 1 p.val ++ be 1 cls ++ be 4 ((s.port p).next - 1).toNat ++ [Config.causeCode 0x0401 0]))) ∧
      (∀ b, recordBody w = some b → cls ∉ [0x10, 0x11, 0x12, 0x13, 0x14, 0x15] →
        Goes (.bodyIngest p) s (t.setDie p.val { t.die p.val with faults := (b :: (t.die p.val).faults).take 16 })) ∧
      (∀ b, recordBody w = some b → Goes (.bodyIngest p) s (t.takeBody p cls b))) ∧
    (∀ p : Fin 64, (∀ w ∈ (s.die p.val).waits, s.svc < w.instant + s.cutoffNs p * unit) → Stays (.featureCutoff p) s) ∧
    (∀ (p : Fin 64) w, (s.die p.val).waits.find? (fun w => w.instant + s.cutoffNs p * unit ≤ s.svc) = some w →
      Goes (.featureCutoff p) s ((s.setDie p.val { s.die p.val with waits := (s.die p.val).waits.filter fun v => v.index != w.index }).readyDie p.val w)) ∧
    (∀ h : Fin 2,
      let k := s.half h.val
      let run (j : VecJob) : Option (VecJob × Vec × Nat) := some (j, s.vecOf j, s.now + s.cyclesOf (82 + h.val) (vecCycles j.map))
      (k.busy.isSome = true → Stays (.vectorStart h) s) ∧
      (k.telemetry = [] → k.requests = [] → Stays (.vectorStart h) s) ∧
      (∀ j js, k.busy = none → k.telemetry = j :: js → Goes (.vectorStart h) s (s.setHalf h.val { k with telemetry := js, busy := run j })) ∧
      (∀ j js, k.busy = none → k.telemetry = [] → k.requests = j :: js → Goes (.vectorStart h) s (s.setHalf h.val { k with requests := js, busy := run j })) ∧
      (k.busy = none → Stays (.vectorComplete h) s) ∧
      (∀ j v due, k.busy = some (j, v, due) →
        let full := ∃ p r, s.goesTo j = some (p, r) ∧ s.crossingHolds h.val p r = true
        let t := s.setHalf h.val { k with busy := none }
        (s.now < due → Stays (.vectorComplete h) s) ∧
        (v.invalid = none → full → Stays (.vectorComplete h) s) ∧
        (due ≤ s.now → v.invalid = none → ¬ full → Goes (.vectorComplete h) s (t.assignWork j v)) ∧
        (∀ f, due ≤ s.now → v.invalid = some f →
          Goes (.vectorComplete h) s (t.failScoring j.src j.model j.tick j.epoch v.flags St.featureInvalid f)))) ∧
    (∀ c : Fin 64, s.clusterUp c.val = false ∨ s.nextWork c.val = none → Stays (.workDispatch c) s) ∧
    (∀ (c : Fin 64) w, s.clusterUp c.val = true → s.nextWork c.val = some w → (s.model w.model).placeFor w.gen = none → Stays (.workDispatch c) s) ∧
    (∀ (c : Fin 64) w p, s.clusterUp c.val = true → s.nextWork c.val = some w → (s.model w.model).placeFor w.gen = some p →
      let mine := (p.users w.replica).filter fun t => t / 64 == c.val
      let hand (a : State) (t : Nat) : State := a.setTartlet t { a.tartlet t with queue := (a.tartlet t).queue ++
        (descriptorsFor (s.model w.model).image w.model w.id p (((p.tartlets w.replica).findIdx? (· == t)).getD 0)).map fun d => ⟨w.id, d⟩ }
      Goes (.workDispatch c) s ((mine.foldl hand s).updWork w.id fun v =>
        { v with undispatched := v.undispatched.filter (· != c.val), todo := v.todo ++ mine })) ∧
    (∀ t : Fin 4096, (s.tartlet t.val).queue = [] → Stays (.descriptorComplete t) s) ∧
    (∀ (t : Fin 4096) d ds, (s.tartlet t.val).queue = d :: ds →
      ((s.data.works.find? fun w => w.id == d.work) = none → Goes (.descriptorComplete t) s (s.setTartlet t.val { s.tartlet t.val with queue := ds })) ∧
      (∀ w, (s.data.works.find? fun w => w.id == d.work) = some w →
        let r := runDescriptor (s.tartlet t.val) (modelCtx w.model) (s.model w.model).image d.bytes w.vec
        let w1 : Work := { w with nonFinite := w.nonFinite || r.2, todo := if ∃ e ∈ ds, e.work = d.work then w.todo else w.todo.filter (· != t.val) }
        let u := (s.setTartlet t.val { r.1 with queue := ds }).updWork w.id fun _ => w1
        let last := w1.todo = [] ∧ w1.undispatched = [] ∧ w1.crossing = []
        (¬ last → Goes (.descriptorComplete t) s u) ∧ (last → Goes (.descriptorComplete t) s (u.finishWork w1 t.val)))) ∧
    (∀ (t : Fin 4096) region a,
      let work := ((s.tartlet t.val).queue.head?.map (·.work)).getD 0
      let w := s.data.works.find? fun w => w.id == work
      let ctx := (w.map fun w => modelCtx w.model).getD 0xFFFF
      let code := match region with | .treeArray _ => 0 | .scratch => 1 | .clusterCache => 2
      let at_ := match region with | .treeArray b => 32000 * b.val + a | _ => a
      let u := s.raise 5 0x0501 4 (be 2 t.val ++ be 1 code ++ be 4 at_ ++ be 4 work) ctx
      ((∀ b, region ≠ .treeArray b) → (∀ w ∈ u.data.works, w.id ≠ work) → Goes (.tartletEccError t region a) s u) ∧
      (∀ v, (∀ b, region ≠ .treeArray b) → (u.data.works.find? fun w => w.id == work) = some v →
        Goes (.tartletEccError t region a) s ((u.dropWork v.id false).failScoring v.src v.model v.tick v.epoch v.vec.flags St.hwFault 0xFFFF)) ∧
      (∀ b : Fin 4, region = .treeArray b →
        let slot := u.slotAt t.val b.val a
        let place := Tbl.find? (slotKey t.val b.val (if slot = 25 then 0 else slot)) u.data.directory
        let name := b.val * 32 + slot
        let marked (d : SlotDir) : State := (u.setTartlet t.val { s.tartlet t.val with
          bad := if (s.tartlet t.val).bad.contains name then (s.tartlet t.val).bad else (s.tartlet t.val).bad ++ [name] }).replicaOut d.model t.val
        let after := match place with | some d => marked d | none => u
        ((∀ w ∈ after.data.works, w.id ≠ work) → Goes (.tartletEccError t region a) s after) ∧
        (∀ v, (after.data.works.find? fun w => w.id == work) = some v →
          Goes (.tartletEccError t region a) s ((after.dropWork v.id false).failScoring v.src v.model v.tick v.epoch v.vec.flags St.hwFault 0xFFFF)))) ∧
    (∀ i : Fin 65536,
      let turn (q : Scored) : Bool := q.seq == i.val && (match q.src with
        | .die p => !s.verdictDue p q.model (q.tick * q.epoch - 1)
        | .request n => (s.seq i.val).order.head? == some n)
      (s.data.scored.find? turn = none → Stays (.sequenceStep i) s) ∧
      (∀ q, s.data.scored.find? turn = some q →
        let e := s.seq i.val
        let m := s.model q.model
        let r := seqStep m.image q.block e.state (m.baseline.at (q.tick * q.epoch * unit))
        let steps := (e.steps + 1) % 2 ^ 64
        let t : State := { s with data := { s.data with scored := s.data.scored.filter fun v => v != q } }
        let u := t.setSeq i.val { e with steps := steps, state := r.state }
        Goes (.sequenceStep i) s (match q.src with
          | .die p => (u.verdict p (q.tick * q.epoch)
              (verdictBytes q.tick (modelId q.model) St.ok 0xFFFF p 1 q.flags q.block (steps % 2 ^ 32) r.alarms r.outs)).sweepModel q.model
          | .request n => u.respond n St.ok (responseBytes (modelId q.model) q.flags q.block ++ stepBytes (steps % 2 ^ 32) r.alarms r.outs)))) ∧
    (∀ (k : ModelKey),
      let n := keyNum k
      let m := s.model n
      (m.pass = none → Stays (.streamChunkLoaded k) s) ∧
      (∀ q, m.pass = some q →
        let works := s.data.works.filter fun w => q.works.contains w.id
        let clusters := ((works.head?.bind fun w => m.placeFor w.gen).map fun p => (p.clusters 0).length).getD 1
        (q.chunk + 1 < passChunks (mdEns m.image) clusters →
          Goes (.streamChunkLoaded k) s (s.setModel n { m with pass := some { q with chunk := q.chunk + 1 } })) ∧
        (passChunks (mdEns m.image) clusters ≤ q.chunk + 1 →
          Goes (.streamChunkLoaded k) s (works.foldl (fun t w => t.finishWork w 0) (s.setModel n { m with pass := none })))) ∧
      (let all := s.data.works.filter fun w => w.model == n && w.pass
       let gen := (all.head?.map (·.gen)).getD m.gen
       let ready := (all.filter fun w => w.gen == gen).take 4
       let starts := m.pass = none ∧ ready ≠ [] ∧ ∃ p, m.placeFor gen = some p ∧ p.mode = 1 ∧ s.eligible m p 0 = true
       (starts → Goes (.streamPassStart k) s (s.setModel n { m with pass := some ⟨ready.map (·.id), 0⟩ })) ∧
       (¬ starts → Stays (.streamPassStart k) s)) ∧
      (∀ x, m.next = some x → x.copied = false →
        Goes (.placeCopyComplete k) s (s.setModel n { m with next := some { x with copied := true, copiedAt := s.now } })) ∧
      (m.next = none ∨ (∃ x, m.next = some x ∧ x.copied = true) → Stays (.placeCopyComplete k) s) ∧
      (∀ x t, m.next = some x → x.staged = false → x.copied = true → s.dueTick (x.copiedAt + 2000) = some t →
        Goes (.placementEffective k) s ((s.applyPlace n).finalAt .agg x.ticket St.ok (placeResults t s.svcFlags x.plan) (cstampOf true t))) ∧
      (m.next = none ∨ (∃ x, m.next = some x ∧ (x.staged = true ∨ x.copied = false ∨ s.dueTick (x.copiedAt + 2000) = none)) → Stays (.placementEffective k) s) ∧
      (∀ t, m.unloadAt = some t → s.dueTick (t + 2000) = none → Stays (.unloadEffective k) s) ∧
      (∀ t u, m.unloadAt = some t → s.dueTick (t + 2000) = some u → m.st = 1 → Goes (.unloadEffective k) s ((s.setModel n {}).zeroPages (modelCtx n) m.at_)) ∧
      (∀ t u, m.unloadAt = some t → s.dueTick (t + 2000) = some u → m.st ≠ 1 → m.next = none →
        Goes (.unloadEffective k) s ((s.setModel n { m with st := 5, unloadAt := none, mapLoad := none, mapNext := none }).sweepModel n)) ∧
      (∀ t u x, m.unloadAt = some t → s.dueTick (t + 2000) = some u → m.st ≠ 1 → m.next = some x →
        let v := (s.dropNext n).final .agg x.ticket St.state
        Goes (.unloadEffective k) s ((v.setModel n { v.model n with st := 5, unloadAt := none, mapLoad := none, mapNext := none }).sweepModel n)) ∧
      (m.unloadAt = none → m.st = 5 → Goes (.unloadEffective k) s (s.sweepModel n)) ∧
      (m.unloadAt = none → m.st ≠ 5 → Stays (.unloadEffective k) s) ∧
      (∀ b due u, m.mapNext = some (b, due) → s.dueTick due = some u → Goes (.featureMapEffective k) s (s.setModel n { m with map := b, mapNext := none })) ∧
      (m.mapNext = none ∨ (∃ b due, m.mapNext = some (b, due) ∧ s.dueTick due = none) → Stays (.featureMapEffective k) s) ∧
      (let loadOver := m.st = 1 ∧ ∃ l, m.load = some l ∧ l.last + 1000000000 ≤ s.now
       let t := if loadOver then (s.setModel n {}).zeroPages (modelCtx n) m.at_ else s
       let mapOver := ∃ l, (t.model n).mapLoad = some l ∧ l.last + 1000000000 ≤ s.now ∧ s.stagedChunk n = false
       (mapOver → Goes (.loadTimeout k) s (t.setModel n { t.model n with mapLoad := none })) ∧
       (¬ mapOver → Goes (.loadTimeout k) s t)) ∧
      (let due := m.serving = true ∧ m.scanning = false ∧ ∃ p, m.place = some p ∧ p.mode = 0 ∧ m.scannedAt + p.intervalMs * 1000000 ≤ s.now
       (due → Goes (.replicaDigestScan k) s (s.setModel n { m with scanning := true, scannedAt := s.now })) ∧
       (¬ due → Stays (.replicaDigestScan k) s)) ∧
      (∀ found, m.place = none ∨ m.scanning = false → Stays (.replicaDigestComplete k found) s) ∧
      (∀ p found, m.place = some p → m.scanning = true →
        let refs := references m.image p
        let at_ (f : SlotFault) (q : Nat × Nat × Nat × Nat) : Bool := q.1 == f.pos && q.2.1 == f.bank.val && (q.2.2.1 == f.slot || q.2.2.1 == 25)
        let of (r : Nat) : List SlotFault := (found.filter fun f => refs.any (at_ f)).filter fun f => f.replica.val == r
        let t := (List.range p.replicas).foldl (fun t r => t.replicaDiffers n r p (of r)) s
        ∃ digests : List Nat, digests.length = p.replicas ∧
          Goes (.replicaDigestComplete k found) s (t.setModel n { t.model n with scanning := false, lastScan := s.cs, digests := digests }) ∧
          ∀ r, r < p.replicas → of r = [] → digests[r]? = some (crc64 (refs.map fun q => be 8 q.2.2.2).flatten))) ∧
    (∀ q, s.dev.fwReady = false → Stays (.requestReceive q) s) ∧
    (∀ q o n, s.dev.fwReady = true → (q.req = .eth o ∧ n = s ∨ ∃ i, q.req = .qp i ∧ n = s.setQp i { s.qp i with inFlight := (s.qp i).inFlight + 1 }) →
      let h := q.header
      let c := rqTenant h
      let met := if c < 1024 then n.meter c q.yellow else (n, Colour.green)
      let t := met.1
      let stored := t.data.stored.find? fun r => r.req == q.req && r.tenant == c && r.tag == rqTag h && t.now < r.since + 10000000
      let good := headerGood h = true ∧ byteAt h 0 = 2
      let passed := good ∧ met.2 ≠ .red ∧ met.2 ≠ .dropped
      let sized := passed ∧ fld h 18 2 ≤ 4096 ∧ fld h 18 2 = q.payload.length
      let intact := sized ∧ fld h 20 4 = crc32c q.payload
      let new := intact ∧ (t.data.requests.any fun e => e.2.req == q.req && rqTenant e.2.header == c && rqTag e.2.header == rqTag h) = false
      let fresh := new ∧ stored = none
      let allowed := fresh ∧ t.requestAllowed q.req c = true
      let ready := allowed ∧ t.sys.profile ≠ .h ∧ t.requestReady h = true
      let valid := ready ∧ payloadValid h q.payload = true
      let c' : Instr := .requestReceive q
      (¬ good → Goes c' s (({ n with data := { n.data with reqBadHcrc := satInc 64 n.data.reqBadHcrc } } : State).dropRequest q.req)) ∧
      (good → ¬ passed → Goes c' s (match q.req with | .qp _ => t.refuseRequest q St.busy | _ => t)) ∧
      (passed → ¬ sized → Goes c' s (t.refuseRequest q St.length)) ∧
      (sized → ¬ intact → Goes c' s (t.refuseRequest q St.crc)) ∧
      (intact → ¬ new → Goes c' s (({ t with data := { t.data with reqDiscards := satInc 64 t.data.reqDiscards } } : State).dropRequest q.req)) ∧
      (∀ r, new → stored = some r → Goes c' s (t.sendResponse q.req q.port.val c
        (some ⟨q.resultAddr.toNat, q.resultSize.toNat, true, match q.req with | .qp i => (t.qp i).sqHead | _ => 0⟩) r.bytes)) ∧
      (fresh → ¬ allowed → Goes c' s ((t.violation q.req c 0 (rqModel h) (0, 0)).refuseRequest q St.ok (zeros 76))) ∧
      (allowed → t.sys.profile = .h → Goes c' s (t.refuseRequest q St.busy)) ∧
      (allowed → t.sys.profile ≠ .h → t.requestReady h = false → Goes c' s (t.refuseRequest q St.state)) ∧
      (ready → ¬ valid → Goes c' s (t.refuseRequest q St.param)) ∧
      (valid → t.requestBusy c (met.2 == .yellow) = true → Goes c' s (t.refuseRequest q St.busy)) ∧
      (valid → t.requestBusy c (met.2 == .yellow) = false → Goes c' s (t.acceptRequest q))) ∧
    (∀ q, (∀ o, q.req ≠ .eth o) → (∀ i, q.req ≠ .qp i) → Stays (.requestReceive q) s) ∧
    Goes .responseStoreExpiry s { s with data := { s.data with stored := s.data.stored.filter fun r => s.now < r.since + 10000000 } }

/-- O50. The fabric (R124, R439 to R468), clause by clause. A frame at a port not in service does nothing; a bad one (FCS, length, destination), or one
whose items do not fit, is discarded and counted at the port and in the aggregator's verb counters; a good one counts as received and goes on as a
reduction frame, a lane exchange, a pair notice, a sentence kept (own, an attached DTC's, or without a route) or sent onward, or as the list of its
items says. Buckets refill by the whole microseconds since the last refill; a policer memory error is recorded and the fallback meters until the
rewrite, which empties the buckets. Egress stays while the port is out of service or the line busy; else it drops frames too long for their windows,
chooses a queue and sends its head, taking the line. A gate list's mask follows its entries, and a list takes effect at its activation, each only while
time is valid. Ports say hello each ms, fall back after 10 s unheard, take lane exchanges, count FEC losses each ms and retrain at the limit, keep the
limit flag and retire a bad data lane when they retrain, hand queues 1 and 2 to the partner after 100 us, return to service, end a swap that no one
answers, and send ESMC. -/
def Obligations.FabricPortsCarryFrames : Prop :=
  ∀ s : State,
    (∀ (port : Fin 17) f,
      let p := s.netPort port.val
      let t := s.setNetPort port.val { p with received := satInc 64 p.received }
      let gone := (s.setNetPort port.val { p with discards := satInc 64 p.discards }).bumpCounter .agg (.eth 0) fun c => { c with frames := satInc 64 c.frames }
      let timing := f.etherType = 0x88F7 ∨ f.etherType = 0x8809
      let src := BitVec.ofNat 32 (fld f.body 0 4)
      let bad := f.fcsOk = false ∨ 9216 < f.len ∨ (f.dst.toNat ≠ p.mac ∧ f.dst.toNat ∉ timingMulticast)
      (p.st ≠ .inService → Stays (.fabricFrameReceive port f) s) ∧
      (p.st = .inService → bad → Goes (.fabricFrameReceive port f) s gone) ∧
      (p.st = .inService → ¬ bad → timing → Goes (.fabricFrameReceive port f) s t) ∧
      (p.st = .inService → ¬ bad → ¬ timing → s.frameItems port.val f = none → Goes (.fabricFrameReceive port f) s gone) ∧
      (∀ kind is, p.st = .inService → ¬ bad → ¬ timing → s.frameItems port.val f = some (kind, is) →
        Goes (.fabricFrameReceive port f) s (t.takeItems port f kind is) ∧
        (kind = 5 → Goes (.fabricFrameReceive port f) s (t.takeReduction src (is.headD []))) ∧
        (kind = 6 → Goes (.fabricFrameReceive port f) s (t.portControl port.val (byteAt (is.headD []) 0) (byteAt (is.headD []) 1))) ∧
        (kind = 7 → Goes (.fabricFrameReceive port f) s (t.takeNotice .fabric (is.headD [])))) ∧
      (∀ b, p.st = .inService → ¬ bad → ¬ timing → s.frameItems port.val f = some (1, [b]) →
        let kept := headerGood (b.take 32) = false ∨ s.isOwn (targetOf b) = true ∨ (s.dtcOf (targetOf b)).isSome = true ∨ targetOf b = 0 ∨
          targetOf b = 0xFFFFFFFF ∨ s.route (targetOf b) = none
        (kept → Goes (.fabricFrameReceive port f) s { t with verbs := { t.verbs with waiting := t.verbs.waiting ++ [(.eth src, b)] } }) ∧
        (∀ o, ¬ kept → t.onward port.val 2 (targetOf b) b = some o → Goes (.fabricFrameReceive port f) s
          (({ t with verbs := { t.verbs with transit := (tagOf (b.take 32), src) :: t.verbs.transit } }).sendOnward src 1 f.etherType.toNat 1 [o])) ∧
        (¬ kept → t.onward port.val 2 (targetOf b) b = none → Goes (.fabricFrameReceive port f) s (t.countNoRoute port.val)))) ∧
    (s.refillIndex ≤ s.net.lastRefill → Stays .bucketRefill s) ∧
    (s.net.lastRefill < s.refillIndex →
      let k := s.refillIndex - s.net.lastRefill
      Goes .bucketRefill s { s with net := { s.net with
        lastRefill := s.refillIndex, policers := Tbl.mapAll {} (Policer.refill k) s.net.policers
        ports := Tbl.mapAll {} (fun p => { p with queues := Tbl.mapAll {} (EgressQueue.refill k) p.queues }) s.net.ports } }) ∧
    (∀ k (p : Policer),
      (p.next = none → p.refill k = { p with
        usedC := p.usedC - k * p.cfg.cir, usedP := p.usedP - k * p.cfg.pir, usedF := p.usedF - k * p.cfg.fbRate }) ∧
      (∀ n, p.next = some n → p.refill k = { p with cfg := n, next := none, usedC := 0, usedP := 0, usedF := 0 })) ∧
    (∀ a : Word, Goes (.policerMemoryError a) s (({ s with net := { s.net with rewriting := true } }).raise 9 0x0701 4 (be 4 a.toNat))) ∧
    (s.net.rewriting = true → Goes .policerRewriteComplete s { s with net := { s.net with
      rewriting := false, policers := Tbl.mapAll {} (fun p => { p with usedC := 0, usedP := 0 }) s.net.policers } }) ∧
    (s.net.rewriting = false → Stays .policerRewriteComplete s) ∧
    (∀ port : Fin 17,
      let p := s.netPort port.val
      let at_ := if s.lineTime < p.lineFree + unit then p.lineFree else s.lineTime
      let c := p.dropLong.choose port.val at_
      (p.st ≠ .inService ∨ s.lineTime < p.lineFree → Stays (.egressSelect port) s) ∧
      (p.st = .inService → p.lineFree ≤ s.lineTime →
        (c.2 = none → Goes (.egressSelect port) s (s.setNetPort port.val c.1)) ∧
        (∀ q, c.2 = some q →
          let e := Tbl.get {} q c.1.queues
          (e.frames = [] → Goes (.egressSelect port) s (s.setNetPort port.val c.1)) ∧
          (∀ h hs, e.frames = h :: hs → Goes (.egressSelect port) s ((s.setNetPort port.val { c.1 with
            queues := Tbl.set {} q { e with frames := hs, tokens := if q = 0 ∨ e.rate = 0 then e.tokens else e.tokens - 1000000 } c.1.queues
            lineFree := at_ + frameTime port.val h.len, sent := satInc 64 c.1.sent }).emit
              (.ethernet port.val q h.dst h.vlan h.etherType) h.body))) ∧
        (∀ q ∈ [0, 1, 2], p.dropLong.eligible port.val q at_ = true → (∀ r < q, p.dropLong.eligible port.val r at_ = false) →
          c = (p.dropLong, some q)))) ∧
    (∀ n : Fin 16,
      let p := s.netPort n.val
      let hello := (s.setNetPort n.val { p with lastHello := s.now }).emit (.lanes (.fabric n) 1 0) (shim s.dev.oid 6 1 ++ (be 1 1 ++ be 1 0 ++ zeros 10))
      (p.gate = none → Goes (.gateEntryBoundary n) s (s.setNetPort n.val { p with mask := 255 })) ∧
      (∀ g, p.gate = some g →
        (s.timeValid = true → Goes (.gateEntryBoundary n) s (s.setNetPort n.val { p with mask := g.maskAt s.svc, lastBoundary := s.svc })) ∧
        (s.timeValid = false → Stays (.gateEntryBoundary n) s)) ∧
      (p.gatePending = none → Stays (.gateListActivation n) s) ∧
      (∀ g, p.gatePending = some g →
        let g1 : GateList := { g with activation := g.effective }
        (s.timeValid = false ∨ s.svc < g.effective → Stays (.gateListActivation n) s) ∧
        (s.timeValid = true → g.effective ≤ s.svc → g.entries = [] → Goes (.gateListActivation n) s (s.setNetPort n.val { p with
          gate := none, gatePending := none, mask := 255, lastBoundary := g.effective })) ∧
        (s.timeValid = true → g.effective ≤ s.svc → g.entries ≠ [] → Goes (.gateListActivation n) s (s.setNetPort n.val { p with
          gate := some g1, gatePending := none, mask := g1.maskAt s.svc, lastBoundary := g.effective }))) ∧
      (p.spareMode = true → p.st = .inService → (p.lastHello = 0 ∨ p.lastHello + 1000000 ≤ s.now) → Goes (.portHelloSend n) s hello) ∧
      (p.spareMode = false ∨ p.st ≠ .inService ∨ (p.lastHello ≠ 0 ∧ s.now < p.lastHello + 1000000) → Stays (.portHelloSend n) s) ∧
      (∀ op lane : Byte,
        let counted := s.setNetPort n.val { p with discards := satInc 64 p.discards }
        (op = 1 → Goes (.portControlReceive n op lane) s (s.setNetPort n.val { p with helloSeen := true })) ∧
        (op = 3 → lane.toNat < 5 → Goes (.portControlReceive n op lane) s (s.portSwapReq n.val lane.toNat)) ∧
        (op = 3 → 5 ≤ lane.toNat → Goes (.portControlReceive n op lane) s counted) ∧
        (op = 4 → Goes (.portControlReceive n op lane) s (s.portSwapMirror n.val lane.toNat false)) ∧
        (op = 5 → Goes (.portControlReceive n op lane) s (s.portSwapEnd n.val (if lane.toNat < 5 then some lane.toNat else none))) ∧
        (op ∉ [1, 3, 4, 5] → Goes (.portControlReceive n op lane) s counted)) ∧
      (∀ lane : Nat,
        (p.txSwap ≠ .none → s.portSwapReq n.val lane = s.setNetPort n.val { p with ignoredSwaps := satInc 32 p.ignoredSwaps }) ∧
        (p.txSwap = .none → p.spareMode = false ∨ p.fallback = true → s.portSwapReq n.val lane = s) ∧
        (p.txSwap = .none → p.spareMode = true → p.fallback = false → s.portSwapReq n.val lane =
          (s.setNetPort n.val { p with txSwap := .mirroring lane s.now none }).emit (.lanes (.fabric n) 4 lane)
            (shim s.dev.oid 6 1 ++ (be 1 4 ++ be 1 lane ++ zeros 10)))) ∧
      (p.spareMode = true → p.st = .inService → p.helloSeen = false → p.upSince + 10000000 ≤ s.now →
        Goes (.spareFallbackTimeout n) s (s.setNetPort n.val { p with fallback := true })) ∧
      (p.spareMode = false ∨ p.st ≠ .inService ∨ p.helloSeen = true ∨ s.now < p.upSince + 10000000 → Stays (.spareFallbackTimeout n) s) ∧
      (∀ u, s.msIndex .agg 0 ≤ p.windowIndex → Stays (.fecWindowEnd n u) s) ∧
      (∀ u, p.windowIndex < s.msIndex .agg 0 →
        let t := s.setNetPort n.val { p with fec := satAdd 64 p.fec u, windowIndex := s.msIndex .agg 0 }
        let atLimit := p.limit ≤ u ∧ p.window < p.limit
        (¬ atLimit → Goes (.fecWindowEnd n u) s (t.setNetPort n.val { t.netPort n.val with window := 0 })) ∧
        (atLimit → Goes (.fecWindowEnd n u) s ((t.retrainPort n.val true).setNetPort n.val
          { (t.retrainPort n.val true).netPort n.val with window := 0 }))) ∧
      (∀ c,
        let bad (x : Nat) : Bool := !(p.lane x).lock || (p.lane x).alarm
        let down (q : Port) : State := (s.setNetPort n.val { q with
          st := .retraining, outSince := s.now, retrains := satInc 32 q.retrains, rxSwap := .none, txSwap := .none
          window := if c = .limit then q.limit else q.window }).rerouteZero n.val
        let held := c = .laneSignal ∧ (p.rxSwap ≠ .none ∨ p.txSwap ≠ .none)
        (p.st ≠ .inService ∨ held → Stays (.portRetrain n c) s) ∧
        (p.st = .inService → ¬ held → (p.roles.take 4).find? bad = none → Goes (.portRetrain n c) s (down p)) ∧
        (∀ x, p.st = .inService → ¬ held → (p.roles.take 4).find? bad = some x → p.spareMode = true → p.fallback = false → bad p.spare = false →
          Goes (.portRetrain n c) s (down { p with roles := retireRole p.roles x })) ∧
        (∀ x, p.st = .inService → ¬ held → (p.roles.take 4).find? bad = some x → (p.spareMode = false ∨ p.fallback = true ∨ bad p.spare = true) →
          Goes (.portRetrain n c) s (down p))) ∧
      (p.st = .inService ∨ p.outage = true ∨ s.now < p.outSince + 100000 → Stays (.portOutageTimeout n) s) ∧
      (p.st ≠ .inService → p.outage = false → p.outSince + 100000 ≤ s.now → s.pair.partnerUp = false →
        Goes (.portOutageTimeout n) s (s.setNetPort n.val { p with outage := true })) ∧
      (p.st ≠ .inService → p.outage = false → p.outSince + 100000 ≤ s.now → s.pair.partnerUp = true →
        let emptied := Tbl.set {} 2 { Tbl.get {} 2 p.queues with frames := [] } (Tbl.set {} 1 { Tbl.get {} 1 p.queues with frames := [] } p.queues)
        Goes (.portOutageTimeout n) s (((Tbl.get {} 1 p.queues).frames ++ (Tbl.get {} 2 p.queues).frames).foldl (fun t f => t.toPartner f)
          (s.setNetPort n.val { p with outage := true, queues := emptied }))) ∧
      (p.enabled = true → p.st ≠ .disabled → p.st ≠ .inService → Goes (.portInService n) s (s.setNetPort n.val { p with
        st := .inService, outage := false, upSince := s.now, helloSeen := false, lastHello := 0 })) ∧
      (p.enabled = false ∨ p.st = .disabled ∨ p.st = .inService → Stays (.portInService n) s) ∧
      (∀ x m t, p.rxSwap = .mirroring x m t →
        (m + 200000 ≤ s.now → Goes (.portSwapTimeout n) s ((s.setNetPort n.val { p with rxSwap := .none }).emit (.lanes (.fabric n) 5 255)
          (shim s.dev.oid 6 1 ++ (be 1 5 ++ be 1 255 ++ zeros 10)))) ∧
        (s.now < m + 200000 → Stays (.portSwapTimeout n) s)) ∧
      ((∀ x m t, p.rxSwap ≠ .mirroring x m t) → Stays (.portSwapTimeout n) s) ∧
      (p.st = .retraining → Goes (.esmcSend n) s (s.setNetPort n.val { p with outageDrops := satInc 64 p.outageDrops })) ∧
      (p.st ≠ .retraining → Goes (.esmcSend n) s (({ s with time := { s.time with esmcSent := s.time.esmcSent + 1 } }).emit (.esmc n.val)
        (be 1 (Tbl.get ({} : FreqCand) s.time.freqSel.toNat s.time.freq).ql.toNat))))

/-- O51. Reduction (R405 to R435), clause by clause. At 5.5 us after a close's instant the own contribution is formed, once, from the verdicts kept up
to that instant (since the fence, where it is not later), and goes on through the nodes above that expect no child. A frame is counted: for a group not
held, for a bad form, as stale, as of no close, as of an unknown sender; else it measures its child or parent, waits for its fragments and is taken up
or down by its direction. A node does not fold before its cut-off with a child missing, twice, or without what lies below; else what it folds goes
on. The second pass starts at 41 us, once, from the late and the named; a close without a summary at 100 us is abandoned, one with a summary is
applied. Waiting changes apply in their order, each at its close tick: fences at one command, joins, leaves and configurations at the other. -/
def Obligations.ReductionClosesRunToTheirEnds : Prop :=
  ∀ (s : State) (i : BitVec 24),
    let g := s.group i.toNat
    ((∀ c ∈ g.closes, c.own.isSome = true ∨ s.svc < c.instant + 5500 * unit) → Stays (.localContributionCutoff i) s) ∧
    (∀ c, g.closes.find? (fun c => c.own.isNone && c.instant + 5500 * unit ≤ s.svc) = some c →
      let at_ := nsOf c.instant
      let from_ := if g.fence ≤ at_ then g.fence else 0
      let use := g.verdicts.filter fun v => from_ ≤ fld v 0 8 && fld v 0 8 ≤ at_
      let late := (use.filter fun v => fld v 0 8 ≤ nsOf c.since && recModel (v.drop 8) == gcSource c.config && recStatus (v.drop 8) == St.ok).length
      let r := localSection c.config (s.model (gcSource c.config)).image c.level s.diePorts (use.map (·.drop 8))
      let f : Fold := { counts := { counted := 1, late := late, invalid := r.2, suspect := if g.suspect then 1 else 0 }, section_ := r.1
                        offsets := if c.timeReport then [(g.pos, 0)] else [], maxLevel := s.redLevel }
      Goes (.localContributionCutoff i) s (State.carry 3 (s.setGroup i.toNat { g.setClose { c with own := some f } with
        verdicts := g.verdicts.filter fun v => at_ < fld v 0 8 }) i.toNat { c with own := some f } 1 0 f)) ∧
    (∀ n (u : State) c pass level f,
      let top := topLevel c.config (u.group i.toNat).pos
      (top ≤ level → State.carry (n + 1) u i.toNat c pass level f = u.passOn i.toNat c pass level f) ∧
      (level < top → expected c.config (u.group i.toNat).pos (level + 1) ≠ [] → State.carry (n + 1) u i.toNat c pass level f = u) ∧
      (level < top → expected c.config (u.group i.toNat).pos (level + 1) = [] → u.foldOnce i.toNat c pass (level + 1) = none →
        State.carry (n + 1) u i.toNat c pass level f = u) ∧
      (∀ v d e, level < top → expected c.config (u.group i.toNat).pos (level + 1) = [] → u.foldOnce i.toNat c pass (level + 1) = some (v, d, e) →
        State.carry (n + 1) u i.toNat c pass level f = State.carry n v i.toNat d pass (level + 1) e)) ∧
    (∀ src b,
      let h := b.take 64
      let k := fld h 0 3
      let dir := byteAt h 18
      (Tbl.find? k s.data.groups = none → Goes (.reductionFrameReceive src b) s { s with data := { s.data with redDiscards := satInc 64 s.data.redDiscards } }) ∧
      (∀ g0, Tbl.find? k s.data.groups = some g0 →
        let n := byteAt h 35
        let badForm := b.length < 64 ∨ n = 0 ∨ 8 < n ∨ n ≤ byteAt h 34 ∨ 9088 < b.length - 64
        let g1 : Group := if g0.genOwed = true ∧ dir = 3 then { g0 with
            gen := byteAt h 3, genOwed := false, closes := g0.closes.map fun c => { c with gen := byteAt h 3 } } else g0
        let found := g1.closes.find? fun c => c.index == fld h 4 8 && c.gen == byteAt h 3 && !c.complete
        (badForm → Goes (.reductionFrameReceive src b) s (s.setGroup k { g0 with discards := satInc 32 g0.discards })) ∧
        (¬ badForm → found = none → genOlder (byteAt h 3) g1.gen = true →
          Goes (.reductionFrameReceive src b) s (s.setGroup k { g0 with stale := satInc 32 g0.stale })) ∧
        (¬ badForm → found = none → genOlder (byteAt h 3) g1.gen = false →
          Goes (.reductionFrameReceive src b) s (s.setGroup k { g0 with discards := satInc 32 g0.discards })) ∧
        (∀ c, ¬ badForm → found = some c → src ∉ neighbourOids c.neighbours (fld h 20 2) →
          Goes (.reductionFrameReceive src b) s (s.setGroup k { g0 with unknown := satInc 32 g0.unknown })) ∧
        (∀ c, ¬ badForm → found = some c → src ∈ neighbourOids c.neighbours (fld h 20 2) →
          let pos := fld h 20 2
          let m := s.measureChild g1 h
          let g2 := if dir = 1 then m
            else if dir = 2 then m.measure { m.measuredOf pos with tdown := s.sinceSend h }
            else if dir = 3 then g1.measure { g1.measuredOf pos with tdown := s.sinceSend h } else g1
          let r := c.collect h (b.drop 64)
          let t := s.setGroup k (g2.setClose r.1)
          (r.2 = none → Goes (.reductionFrameReceive src b) s t) ∧
          (∀ body, r.2 = some body → dir = 1 ∨ dir = 2 → Goes (.reductionFrameReceive src b) s (t.takeUp k r.1 h body)) ∧
          (∀ body, r.2 = some body → dir = 3 → Goes (.reductionFrameReceive src b) s (t.takeDown k r.1 h body)) ∧
          (∀ body, r.2 = some body → dir ∉ [1, 2, 3] → Goes (.reductionFrameReceive src b) s t)))) ∧
    (∀ close p l, g.close close.toNat = none → Stays (.nodeFold i close p l) s) ∧
    (∀ close l, Stays (.nodeFold i close 0 l) s) ∧
    (∀ close c (p : Fin 3) (l : Fin 5), g.close close.toNat = some c →
      let here := (c.node p.val l.val).arrived.map (·.1)
      ((c.node p.val l.val).done = true → Stays (.nodeFold i close p l) s) ∧
      (l.val = 0 ∨ c.below p.val l.val = none → Stays (.nodeFold i close p l) s) ∧
      ((∃ q ∈ expected c.config g.pos l.val, q ∉ here) → nsOf s.svc < g.foldAt c p.val l.val → Stays (.nodeFold i close p l) s) ∧
      (s.foldOnce i.toNat c p.val l.val = none → Stays (.nodeFold i close p l) s) ∧
      (∀ t d f, p.val ≠ 0 → s.foldOnce i.toNat c p.val l.val = some (t, d, f) →
        Goes (.nodeFold i close p l) s (State.carry 3 t i.toNat d p.val l.val f))) ∧
    (∀ close, g.close close.toNat = none → Stays (.stragglerCutoff i close) s ∧ Stays (.closeAbandon i close) s) ∧
    (∀ close c, g.close close.toNat = some c →
      let per := g.periodOf s.sys.epoch * s.sys.epoch
      let names := c.named ++ g.lateNamed.map fun e => (e.drop 8).take 15 ++ be 1 (min 255 ((nsOf c.instant - fld e 0 8) / max 1 per))
      let f : Fold := { counts := { counted := 1, suspect := if g.suspect then 1 else 0, named := names.length, cut := gcK c.config < names.length }
                        section_ := topSection c.level (mergeTop (gcK c.config) names), maxLevel := s.redLevel }
      let c1 := ({ c with passTwo := true }).setNode { pass := 2, level := 0, done := true, result := f }
      (c.passTwo = true ∨ gcStraggler c.config = false ∨ s.svc < c.instant + 41000 * unit → Stays (.stragglerCutoff i close) s) ∧
      (c.passTwo = false → gcStraggler c.config = true → c.instant + 41000 * unit ≤ s.svc → Goes (.stragglerCutoff i close) s
        (State.carry 3 (s.setGroup i.toNat { g.setClose c1 with lateNamed := [] }) i.toNat c1 2 0 f)) ∧
      (s.svc < c.instant + 100000 * unit → Stays (.closeAbandon i close) s) ∧
      (c.instant + 100000 * unit ≤ s.svc → c.summary = [] → Goes (.closeAbandon i close) s ((s.setGroup i.toNat { g with
        closes := g.closes.filter (fun d => d.instant != c.instant), abandoned := satInc 32 g.abandoned }).applyGroup i.toNat)) ∧
      (c.instant + 100000 * unit ≤ s.svc → c.summary ≠ [] → Goes (.closeAbandon i close) s (s.applyGroup i.toNat))) ∧
    (let one (fence : Bool) (t : State) (p : GroupPending) : State := if p.change.isFence = fence then
        match t.changeTick (t.group i.toNat) p with
        | some k => t.applyChange i.toNat k p
        | none => t
      else t
     Goes (.groupFenceTick i) s (g.pending.foldl (one true) s) ∧ Goes (.groupChangeEffective i) s (g.pending.foldl (one false) s)) ∧
    (∀ p, s.timeValid = false → s.changeTick g p = none) ∧
    (∀ p, s.timeValid = true →
      let t := g.closeTick s.sys.epoch (max (s.svcAt p.due) p.at_)
      s.changeTick g p = if t ≤ s.svc ∧ t ≤ s.data.lastTick then some t else none) ∧
    (∀ (p : GroupPending) t,
      let u : Group := { g with pending := g.pending.filter fun q => q != p }
      let done (v : State) (res : Bytes) : State := match p.ticket with
        | some k => v.finalAt .agg k St.ok res (cstampOf true t)
        | none => v
      let tick := stampBytes (stampOf t s.svcFlags)
      (∀ pos gen ns, p.change = .join pos gen ns →
        let n := if gen = 0 then u.gen else gen
        s.applyChange i.toNat t p = done (s.setGroup i.toNat { u with
          joined := true, pos := pos, neighbours := ns, gen := n, genOwed := gen = 0 && !u.joined, lastClose := max u.lastClose t }) (tick ++ be 1 n ++ zeros 3)) ∧
      (p.change = .leave → s.applyChange i.toNat t p = done (s.setGroup i.toNat { u with joined := false, verdicts := [] }) tick) ∧
      (∀ c, p.change = .config c → s.applyChange i.toNat t p = done (s.setGroup i.toNat { u with config := c, defaulted := false }) []) ∧
      (∀ n, p.change = .fence n → n ≠ g.gen → s.applyChange i.toNat t p = done (s.setGroup i.toNat u) (tick ++ be 1 g.gen ++ zeros 3)) ∧
      (p.change = .fence g.gen →
        let n := if 255 ≤ g.gen then 1 else g.gen + 1
        s.applyChange i.toNat t p = done (s.setGroup i.toNat { u with
          gen := n, fence := nsOf t, closes := u.closes.map fun c => if t ≤ c.instant then u.renewed (s.model (gcSource c.config)).image c t n else c })
          (tick ++ be 1 n ++ zeros 3)))

/-- O52. Epoch, profile, heat and power (R16 to R44, R274 to R285, R326, R402), clause by clause. The last tick not yet taken, while time is valid,
settles waiting maps, starts the waits of the dies, opens closes and freezes; a new epoch takes effect at its second once that tick is taken, closes
early, is recorded and answered. The first waiting profile whose tick has come takes effect with all that wait for that tick: the last of them, unless a
hold due by then is entered in its place or stands; all are answered. A crossing of 100 or 95 degC is an interrupt: the first fixes the hold, and a
sample above 95 degC keeps only a return whose 10 s have run. The hold enters H 2 us later, at a tick where time is valid, and is left 10 s and 2 us
after the hottest island fell to 95 degC; a chip still at 100 degC then counts as crossing again (log 309: the model's reading). In H lend clusters go off
once no request waits and they are idle; eight clusters at most switch on at once; telemetry clusters reload before lend clusters; a reload forgives bad slots,
or one slot. A power window over the cap in force slows lend clusters, or in H all of them. A trip loses the state, takes every domain off and asserts
THERMTRIP until 10 s of cooling; then the rails return through a whole-chip reset that keeps the boot count and has no last words. -/
def Obligations.EpochProfileHeatAndPower : Prop :=
  ∀ s : State,
    (let e := s.sys.epoch
     let t := s.svcNs / e * e * unit
     let i := epochIndex e t
     let a := s.data.models.foldl (fun u m => u.settleMap m.1) s
     let w : TickWait := { index := i, epoch := e, instant := t, models := if a.scoresAt i then a.scoring else [] }
     let b := ((a.diePorts.foldl (fun u d => u.waitTick w d.1) a).openCloses t i false).tickFreeze t
     (s.timeValid = false ∨ t ≤ s.data.lastTick ∨ t < s.time.sel.validAt → Stays .epochTick s) ∧
     (s.timeValid = true → s.data.lastTick < t → s.time.sel.validAt ≤ t →
       Goes .epochTick s { b with sys := { b.sys with lastTick := t }, data := { b.data with lastTick := t, lastIndex := i } })) ∧
    (s.sys.pendingEpoch = none → Stays .epochChangeActivation s) ∧
    (∀ p, s.sys.pendingEpoch = some p →
      let t := p.second * 1000000000 * unit
      let a := s.openCloses t (epochIndex s.sys.epoch t) true
      let b : State := { a with
        sys := { a.sys with epoch := p.epoch, pendingEpoch := none }
        data := { a.data with groups := Tbl.mapAll {} (fun (g : Group) =>
          { g with defaulted := gcP g.config != 0 && gcP g.config * p.epoch < 10000 }) a.data.groups } }
      (s.timeValid = false ∨ s.svc < t ∨ s.data.lastTick < t → Stays .epochChangeActivation s) ∧
      (s.timeValid = true → t ≤ s.svc → t ≤ s.data.lastTick → Goes .epochChangeActivation s (p.tickets.foldl
        (fun u k => u.finalAt .agg k St.ok (be 4 p.epoch ++ be 4 0 ++ be 8 p.second) (cstampOf true t))
        (b.raise 12 0x0C02 3 (be 4 s.sys.epoch ++ be 4 p.epoch))))) ∧
    (s.sys.pendingProfile = [] → Stays .profileChangeEffective s) ∧
    (∀ p ps, s.sys.pendingProfile = p :: ps → s.profileTick p = none → Stays .profileChangeEffective s) ∧
    (∀ p ps t, s.sys.pendingProfile = p :: ps → s.profileTick p = some t →
      let same := s.sys.pendingProfile.filter fun q => s.profileTick q == some t
      let last := (same.getLast?.getD p).profile
      let a : State := { s with sys := { s.sys with
        pendingProfile := s.sys.pendingProfile.filter fun q => s.profileTick q != some t
        commanded := last, lastOther := if last = .h then s.sys.lastOther else last } }
      let hot := ∃ h, s.holdTick = some h ∧ h ≤ t ∧ s.sys.thermal = false
      let answered (u : State) : State := same.foldl (fun v q => v.finalAt .agg q.ticket St.ok
        (be 8 (nsOf t / 1000000000) ++ be 4 (nsOf t % 1000000000) ++ be 1 u.sys.profile.code ++ zeros 3) (cstampOf true t)) u
      (hot → Goes .profileChangeEffective s (answered a.enterThermal)) ∧
      (¬ hot → s.sys.thermal = true → Goes .profileChangeEffective s (answered a)) ∧
      (¬ hot → s.sys.thermal = false → Goes .profileChangeEffective s (answered (a.enforce last 0)))) ∧
    (∀ (n : Fin 97) tj,
      let a : State := { s with sys := { s.sys with tj := Tbl.set 0 n.val tj s.sys.tj } }
      let rose := s.hottest.2 < 800 ∧ 800 ≤ a.hottest.2
      let fell := 760 < s.hottest.2 ∧ a.hottest.2 ≤ 760
      let b : State := { a with sys := { a.sys with
        hotNs := if rose ∧ s.sys.thermal = false ∧ s.sys.hotNs = none then some s.now else s.sys.hotNs
        coolNs := if 760 < a.hottest.2 then (if s.sys.thermal = true then s.sys.coolNs.filter fun n => decide (n + 10000000000 ≤ s.now) else none)
          else some (s.sys.coolNs.getD s.now) } }
      (rose ∨ fell → Goes (.thermalCrossing n tj) s (b.irq 3)) ∧ (¬ (rose ∨ fell) → Goes (.thermalCrossing n tj) s b)) ∧
    (s.holdTick = none → Stays .thermalHoldEntry s) ∧
    (∀ t, s.holdTick = some t → s.sys.profile ≠ .h → Goes .thermalHoldEntry s ((({ s with sys := { s.sys with hotNs := none } }).enforce .h 1).rereadFuses)) ∧
    (∀ t, s.holdTick = some t → s.sys.profile = .h → Goes .thermalHoldEntry s { s with sys := { s.sys with hotNs := none } }) ∧
    (s.sys.coolNs = none ∨ s.sys.thermal = false → Stays .thermalHoldReturn s) ∧
    (∀ n, s.sys.coolNs = some n → s.sys.thermal = true →
      let due := (s.timeValid = true ∧ (s.dueTick (n + 10000002000)).isSome = true) ∨ (s.timeValid = false ∧ n + 10000002000 ≤ s.now)
      let a := s.enforce s.sys.commanded 0
      (¬ due → Stays .thermalHoldReturn s) ∧
      (due → Goes .thermalHoldReturn s { a with sys := { a.sys with
        coolNs := none, hotNs := if 800 ≤ s.hottest.2 then some s.now else a.sys.hotNs } })) ∧
    (let waiting := s.active = true ∧ ∃ e ∈ s.data.requests, e.2.resp = none
     (s.sys.profile ≠ .h ∨ s.dev.powerUp ≠ 0 ∨ waiting → Stays .lendClustersOff s) ∧
     (s.sys.profile = .h → s.dev.powerUp = 0 → ¬ waiting → Goes .lendClustersOff s
       (((List.range 64).filter fun c => !inTelemetry .h c && s.dev.domains.getLsbD c && !s.clusterBusy c).foldl State.clusterOff s))) ∧
    Goes .clusterPowerUp s ((((List.range 64).filter fun c => s.dev.powerUp.getLsbD c).take 8).foldl State.clusterOn s) ∧
    (s.dev.powerUp = 0 → Stays .clusterPowerUp s) ∧
    (∀ c : Fin 64,
      let later := inTelemetry s.sys.profile c.val = false ∧
        ∃ d < 64, inTelemetry s.sys.profile d = true ∧ (s.dev.reload.getLsbD d = true ∨ s.dev.powerUp.getLsbD d = true)
      let a : State := { s with dev := { s.dev with reload := s.dev.reload &&& ~~~(1#64 <<< c.val) } }
      let b := (List.range 64).foldl (fun u n => u.setTartlet (64 * c.val + n) { u.tartlet (64 * c.val + n) with bad := [] }) a
      (s.dev.reload.getLsbD c.val = false ∨ later → Stays (.clusterReloadComplete c) s) ∧
      (s.dev.reload.getLsbD c.val = true → ¬ later → Goes (.clusterReloadComplete c) s
        (b.data.models.foldl (fun u e => if e.2.out = [] then u else u.replicaBack e.1) b).retryHeld)) ∧
    (∀ (t : Fin 4096) (k : Fin 4) (n : Fin 25), Tbl.find? (slotKey t.val k.val n.val) s.data.directory = none → Stays (.slotReloadComplete t k n) s) ∧
    (∀ (t : Fin 4096) (k : Fin 4) (n : Fin 25) d, Tbl.find? (slotKey t.val k.val n.val) s.data.directory = some d →
      let name := k.val * 32 + (if d.mode = 2 then 25 else n.val)
      (name ∉ (s.tartlet t.val).bad → Stays (.slotReloadComplete t k n) s) ∧
      (name ∈ (s.tartlet t.val).bad → Goes (.slotReloadComplete t k n) s (((s.setTartlet t.val { s.tartlet t.val with
        bad := (s.tartlet t.val).bad.filter (· != name) }).replicaBack d.model).retryHeld))) ∧
    (∀ a : BitVec 16,
      let capped := s.sys.profile = .h ∧ ∀ c < 64, inTelemetry .h c = true ∨ s.dev.domains.getLsbD c = false
      (capped → Goes (.powerWindow a) s { s with sys := { s.sys with
        powerAvg := a.toNat, lendSlowed := false, capSlowed := decide (powerCap .h < a.toNat) } }) ∧
      (¬ capped → Goes (.powerWindow a) s { s with sys := { s.sys with
        powerAvg := a.toNat, lendSlowed := decide (powerCap .b < a.toNat), capSlowed := false } })) ∧
    (s.phys.porLow = true → ∀ n, Stays (.thermalTrip n) s) ∧
    (∀ n : Fin 97, s.phys.porLow = false →
      let a : State := if s.active = true ∧ s.pair.partnerUp = true then s.emit (.notice .partnerLink) (s.notice 2 .partnerLink) else s
      let b : State := { a.lost with
        sys := { a.sys with tj := Tbl.set 0 n.val 920 a.sys.tj, coolNs := none }
        phys := { a.phys with tripped := true, tripShutdown := true, thermtrip := true } }
      Goes (.thermalTrip n) s ((b.bootStatus fun d => { d with
        domains := 0, reload := 0, powerUp := 0, fwReady := false, service := false }).emit (.thermtrip true))) ∧
    (∀ n, s.sys.coolNs = some n → s.phys.thermtrip = true → n + 10000000000 ≤ s.now →
      Goes .thermtripRelease s (({ s with phys := { s.phys with thermtrip := false } }).emit (.thermtrip false))) ∧
    (s.phys.thermtrip = false ∨ s.sys.coolNs = none ∨ (∃ n, s.sys.coolNs = some n ∧ s.now < n + 10000000000) → Stays .thermtripRelease s) ∧
    (s.phys.tripShutdown = false ∨ s.phys.thermtrip = true → Stays .tripRailRestore s) ∧
    (s.phys.tripShutdown = true → s.phys.thermtrip = false →
      let r := ({ s with phys := { s.phys with tripShutdown := false } }).wholeChipReset
      Goes .tripRailRestore s { r with sec := { r.sec with boots := s.sec.boots }, pair := { r.pair with own := {}, partner := {} } })

/-- O53. Time (R48 to R90, R597 to R603), clause by clause. The active evaluates once per microsecond, by the rows of R66: INIT takes a candidate and
starts the triggers, TRACK and SWITCH leave a domain that is not qualified or not allowed, TRACK leaves for a better one once its wait to restore is
over, SWITCH ends at residual 0, HOLD takes a candidate; service time runs on, its difference from the new domain is the residual, and a change of state
or domain is recorded. A wait, a residual, a watchdog and a silent 1PPS end at their times and not before. A pulse is stamped and touches the domains
bound to it; a time-of-day message is used within its window, counted outside it or in a bad form. A PTP message on a port without PTP or of no
domain's number is counted, else stamped on the 125 ps grid and used, Delay_Req being answered by a master; Announce sets the port state by the BMCA
(free). A retraining port discards what PTP sends; one-step Sync carries its stamp, two-step Sync sends a Follow_Up. A reference change selects
again. A trigger's changes due are issued with their instants; the messages' bytes follow log 308 (PRESUMED). -/
def Obligations.TimeEventsKeepServiceTime : Prop :=
  ∀ s : State,
    (s.pair.standby = true ∨ s.now / 1000 < s.time.sel.lastEval → Stays .selectionEvaluation s) ∧
    (s.pair.standby = false → s.time.sel.lastEval ≤ s.now / 1000 →
      let a := s.wtrClock.evaluate.wtrClock
      Goes .selectionEvaluation s (s.transitionRecord { a with time := { a.time with sel := { a.time.sel with
        lastEval := s.now / 1000 + 1, forced := false } } })) ∧
    (∀ t : State,
      (s.time.sel.st = t.time.sel.st → s.time.sel.followed = t.time.sel.followed → s.transitionRecord t = t) ∧
      (s.time.sel.st ≠ t.time.sel.st ∨ s.time.sel.followed ≠ t.time.sel.followed → s.transitionRecord t = t.raise 3 0x0102 3
        (be 1 s.time.sel.st.code ++ be 1 t.time.sel.st.code ++ be 1 t.time.sel.followed.val ++ be 8 (residual16 t.time.sel.residual)))) ∧
    (let k := s.time.sel
     let x := k.followed
     let y := other x
     let leave (take : Prop) (t : State) : Prop := (take → t = s.switchTo y) ∧ (¬ take → t = s.enterHold)
     let done := k.mode = 0 ∧ s.better y x = true ∧
       (k.wtrExpired = true ∨ (∃ t, k.betterSince = some t ∧ t + k.wtrSec * 1000000000 ≤ s.now) ∨ (k.betterSince = none ∧ k.wtrSec = 0))
     (k.st = .init → s.candidate = none → s.evaluate = s) ∧
     (∀ d, k.st = .init → s.candidate = some d → s.evaluate = ({ s with time := { s.time with sel := { k with
       st := .track, followed := d, svc := (s.domain d).base, validAt := (s.domain d).base, residual := 0, slewRem := 0, valid := true
       slew := false, hold := false } } }).startTime) ∧
     (k.st = .track → (s.domain x).qualified = false → leave (s.usable y = true) s.evaluate) ∧
     (k.st = .track → (s.domain x).qualified = true → allowed k.mode x = false → leave ((s.domain y).qualified = true) s.evaluate) ∧
     (k.st = .track → (s.domain x).qualified = true → allowed k.mode x = true → done → s.evaluate = s.switchTo y) ∧
     (k.st = .track → (s.domain x).qualified = true → allowed k.mode x = true → ¬ done →
       s.evaluate = { s with time := { s.time with sel := { k with slew := k.residual != 0 } } }) ∧
     (k.st = .switch → (s.domain x).qualified = false ∨ allowed k.mode x = false → leave (s.usable y = true) s.evaluate) ∧
     (k.st = .switch → (s.domain x).qualified = true → allowed k.mode x = true → k.residual = 0 →
       s.evaluate = { s with time := { s.time with sel := { k with st := .track, slew := false } } }) ∧
     (k.st = .switch → (s.domain x).qualified = true → allowed k.mode x = true → k.residual ≠ 0 →
       s.evaluate = { s with time := { s.time with sel := { k with slew := true } } }) ∧
     (k.st = .hold → s.candidate = none → s.evaluate = s) ∧
     (∀ d, k.st = .hold → s.candidate = some d → s.evaluate = s.switchTo d) ∧
     (∀ d, (s.switchTo d).time.sel.svc = k.svc ∧ (s.switchTo d).time.sel.residual = (k.svc : Int) - ((s.domain d).base : Int) ∧
       (s.switchTo d).time.sel.followed = d) ∧
     s.enterHold.time.sel.svc = k.svc ∧ s.enterHold.time.sel.st = .hold ∧ s.enterHold.time.sel.holdQual = (s.domain x).cls) ∧
    (s.time.sel.betterSince = none → Stays .waitToRestoreExpiry s) ∧
    (∀ t, s.time.sel.betterSince = some t →
      (s.now < t + s.time.sel.wtrSec * 1000000000 → Stays .waitToRestoreExpiry s) ∧
      (t + s.time.sel.wtrSec * 1000000000 ≤ s.now → Goes .waitToRestoreExpiry s { s with time := { s.time with sel := { s.time.sel with wtrExpired := true } } })) ∧
    (let k := s.time.sel
     let ends := k.residual = 0 ∧ (k.slew = true ∨ k.st = .switch) ∧ s.pair.standby = false
     (¬ ends → Stays (.residualReachesZero .agg) s) ∧
     (ends → Goes (.residualReachesZero .agg) s (s.transitionRecord { s with time := { s.time with sel := { k with
       slew := false, st := if k.st = .switch then .track else k.st } } }))) ∧
    (∀ p, (s.dtc p).time.residual = 0 → Goes (.residualReachesZero (.dtc p)) s (s.setDtc p { s.dtc p with time := { (s.dtc p).time with slewRem := 0 } })) ∧
    (∀ p, (s.dtc p).time.residual ≠ 0 → Goes (.residualReachesZero (.dtc p)) s (s.setDtc p (s.dtc p))) ∧
    (∀ d : Fin 2,
      let m := s.domain d
      let off := s.setDomain d { m with qualified := false }
      (s.pair.standby = true ∨ m.qualified = false ∨ s.now < m.lastWrite + m.watchdogMs * 1000000 → Stays (.domainWatchdogExpiry d) s) ∧
      (s.pair.standby = false → m.qualified = true → m.lastWrite + m.watchdogMs * 1000000 ≤ s.now →
        Goes (.domainWatchdogExpiry d) s (off.raise 3 0x0101 4 (be 1 d.val ++ be 1 1))) ∧
      (m.qualified = false ∨ s.now < m.lastPulse + 1500000000 ∨ (∀ i, m.binding ≠ .pps i) → Stays (.ppsSilenceTimeout d) s) ∧
      (∀ i, m.binding = .pps i → m.qualified = true → m.lastPulse + 1500000000 ≤ s.now →
        Goes (.ppsSilenceTimeout d) s (off.raise 3 0x0101 4 (be 1 d.val ++ be 1 2)))) ∧
    (∀ (i : Fin 2) (ph : Fin 8),
      let p := Tbl.get {} i.val s.time.pps
      let p1 : PpsInput := { p with
        pulses := satInc 64 p.pulses, lastAt := s.now, unused := if p.lastStamp.isSome = true then satInc 64 p.unused else p.unused
        lastStamp := some (stampOf (s.svc + ph.val * 2 ^ 45 - fld s.phys.bootCfg (16 + 2 * i.val) 2 * 2 ^ 44) s.svcFlags) }
      let touch (t : State) (d : Fin 2) : State := if (t.domain d).binding = .pps i then t.setDomain d { t.domain d with lastPulse := t.now } else t
      Goes (.ppsPulse i ph) s (touch (touch { s with time := { s.time with pps := Tbl.set {} i.val p1 s.time.pps } } 0) 1)) ∧
    (∀ (i : Fin 2) b,
      let p := Tbl.get {} i.val s.time.pps
      let put (q : PpsInput) : AggTime := { s.time with pps := Tbl.set {} i.val q s.time.pps }
      let used := b.length = 16 ∧ fld b 0 2 = 0x4F54 ∧ byteAt b 2 = 1 ∧ fld b 14 2 = checkValueOf crc16Config (b.take 14) ∧
        p.lastStamp.isSome = true ∧ p.lastAt + 10000000 ≤ s.now ∧ s.now ≤ p.lastAt + 900000000
      (¬ used → Goes (.todMessage i b) s { s with time := put { p with discarded := satInc 64 p.discarded } }) ∧
      (used → byteAt b 13 % 2 = 0 → Goes (.todMessage i b) s { s with time := put { p with lastStamp := none, unused := satInc 64 p.unused } }) ∧
      (used → byteAt b 13 % 2 = 1 → Goes (.todMessage i b) s { s with time := { s.time with
        utcOffset := BitVec.ofNat 16 (fld b 11 2)
        pps := Tbl.set {} i.val { p with lastStamp := none, lastSeconds := BitVec.ofNat 64 (fld b 3 8) } s.time.pps } })) ∧
    (∀ port : Fin 17,
      let p := Tbl.get {} port.val s.time.ptp
      let on := byteAt p.params 1 % 2 = 1
      let put (q : PtpPort) : State := { s with time := { s.time with ptp := Tbl.set {} port.val q s.time.ptp } }
      let rx := ((((frac16 s.svc : Nat) : Int) - ((((Tbl.get {} port.val s.time.asym).at s.now).toNat / 65536 * 4096 : Nat) : Int)) / 8192 * 8192)
      (∀ m, ¬ on ∨ s.ptpDomain m.domainNumber = none → Goes (.ptpMessageReceive port m) s (put { p with discards := satInc 16 p.discards })) ∧
      (∀ n d, on → s.ptpDomain n = some d →
        (∀ o, Goes (.ptpMessageReceive port ⟨n, .sync o false⟩) s (put { p with t2 := rx, t1 := o, offset := rx - o - p.pathDelay })) ∧
        (∀ o, Goes (.ptpMessageReceive port ⟨n, .sync o true⟩) s (put { p with t2 := rx })) ∧
        (∀ o, Goes (.ptpMessageReceive port ⟨n, .followUp o⟩) s (put { p with t1 := o, offset := p.t2 - o - p.pathDelay })) ∧
        (∀ o, Goes (.ptpMessageReceive port ⟨n, .delayResp o⟩) s (put { p with
          pathDelay := ((p.t2 - p.t1) + (o - p.t3)).tdiv 2, offset := p.t2 - p.t1 - ((p.t2 - p.t1) + (o - p.t3)).tdiv 2 })) ∧
        (s.active = true → byteAt p.params 2 ≠ 2 → Goes (.ptpMessageReceive port ⟨n, .delayReq⟩) s
          (s.emit (.ptp port.val .delayReq) (ptpBytes p 9 n.toNat false rx (-(rx % 65536))))) ∧
        (s.active = false ∨ byteAt p.params 2 = 2 → Stays (.ptpMessageReceive port ⟨n, .delayReq⟩) s) ∧
        (∀ k a b,
          let p1 : PtpPort := { p with state := Config.bmcaState s.free p.params, stepsRemoved := BitVec.ofNat 8 (k + 1) }
          Goes (.ptpMessageReceive port ⟨n, .announce k a b⟩) s
            { s with free := s.free + 1, time := { s.time with ptp := Tbl.set {} port.val p1 s.time.ptp } }) ∧
        Stays (.ptpMessageReceive port ⟨n, .other⟩) s)) ∧
    (∀ (port : Fin 17) k,
      let p := Tbl.get {} port.val s.time.ptp
      let q := s.netPort port.val
      let tx := ((((frac16 s.svc : Nat) : Int) + ((((Tbl.get {} port.val s.time.asym).at s.now).toNat % 65536 * 4096 : Nat) : Int)) / 8192 * 8192)
      let dom := s.ptpNumber p
      let p1 : PtpPort := { p with sent := p.sent + 1, t3 := if k = .delayReq then tx else p.t3 }
      let t : State := { s with free := s.free + 1, time := { s.time with ptp := Tbl.set {} port.val p1 s.time.ptp } }
      let may := byteAt p.params 1 % 2 = 1 ∧ (k = .delayReq ∨ (s.active = true ∧ byteAt p.params 2 ≠ 2))
      (q.st = .retraining → Goes (.ptpMessageSend port k) s (s.setNetPort port.val { q with outageDrops := satInc 64 q.outageDrops })) ∧
      (q.st ≠ .retraining → ¬ may → Stays (.ptpMessageSend port k) s) ∧
      (q.st ≠ .retraining → may → k = .sync → byteAt p.params 1 / 2 % 2 = 1 →
        Goes (.ptpMessageSend port k) s (t.emit (.ptp port.val .sync) (ptpBytes p 0 dom false tx (tx % 65536)))) ∧
      (q.st ≠ .retraining → may → k = .sync → byteAt p.params 1 / 2 % 2 = 0 → Goes (.ptpMessageSend port k) s
        ((t.emit (.ptp port.val .sync) (ptpBytes p 0 dom true 0 0)).emit (.ptp port.val .sync) (ptpBytes p 8 dom false tx (tx % 65536)))) ∧
      (q.st ≠ .retraining → may → k = .delayReq → Goes (.ptpMessageSend port k) s (t.emit (.ptp port.val .delayReq) (ptpBytes p 1 dom false 0 0))) ∧
      (q.st ≠ .retraining → may → k = .announce → Goes (.ptpMessageSend port k) s (t.emit (.ptp port.val .announce) (ptpBytes p 11 dom false 0 0)))) ∧
    (∀ (port : Fin 16) q, Goes (.esmcReceive port q) s { s with time := ({ s.time with
      freq := Tbl.set {} port.val { Tbl.get ({} : FreqCand) port.val s.time.freq with ql := q } s.time.freq }).reselect }) ∧
    (∀ (c : Byte) b, Goes (.freqReferenceChange c b) s { s with time := ({ s.time with
      freq := Tbl.set {} c.toNat { Tbl.get ({} : FreqCand) c.toNat s.time.freq with los := b } s.time.freq }).reselect }) ∧
    (∀ i : Fin 16, s.timeValid = false ∨ 8 ≤ i.val → Stays (.triggerEdge .agg i) s) ∧
    (∀ i : Fin 16, s.timeValid = true → i.val < 8 →
      let k := Tbl.get {} i.val s.time.trig
      let dly := fld s.phys.bootCfg (20 + i.val) 1
      let t := frac16 s.svc + dly * 8192
      let k1 := k.settle t
      Goes (.triggerEdge .agg i) s ((k.changes t).foldl (fun u c => u.emit (.trigger .agg i.val (c.2 != k1.prog.activeLow))
        (stampBytes (edgeStamp (c.1 - dly * 8192) s.svcFlags))) { s with time := { s.time with trig := Tbl.set {} i.val k1 s.time.trig } })) ∧
    (∀ p (i : Fin 16), (s.dtc p).time.valid = false ∨ (s.dtc p).ready = false → Stays (.triggerEdge (.dtc p) i) s) ∧
    (∀ p (i : Fin 16), (s.dtc p).time.valid = true → (s.dtc p).ready = true →
      let d := s.dtc p
      let k := Tbl.get {} i.val d.time.trig
      let dly := d.trigDly.toNat
      let t := frac16 d.instant + dly * 8192
      let k1 := k.settle t
      Goes (.triggerEdge (.dtc p) i) s ((k.changes t).foldl (fun u c => u.emit (.trigger (.dtc p) i.val (c.2 != k1.prog.activeLow))
        (stampBytes (edgeStamp (c.1 - dly * 8192) d.flags))) (s.setDtc p { d with time := { d.time with trig := Tbl.set {} i.val k1 d.time.trig } })))

/-- O54. The pair (R30, R485 to R501), clause by clause. From stage 7 a claiming aggregator sends a claim, another a heartbeat, once per 2 us on both
paths; before it, and while held in reset, it takes no notice. A claim of the greater OID makes the hearer active under TERM 1, of another a standby; an
active's heartbeat or takeover notice settles one that claims, gives a standby its term and, by heartbeat, selection, phase and profile; one that
outranks steps an active down; a standby back in service frees the OID answered for. Relinquish, or three slots silent on every path heard, lets the
standby take over under the next TERM; a claim unheard 50 ms (250 ms for the second) becomes active. A standby applies entries in order, acknowledges
them, drops late and early ones, restarts at a new copy and keeps a copy's entries aside; a COMMIT whose digests are right applies it. The active
drops what is acknowledged, lets replies go and ends the copy at its COMMIT; a link silent 10 us stops mirroring and lets them all go; a copy with
the link down over 100 us is given up. Hang handling records, gives the role up, keeps last words and stops the firmware; once written, the whole-chip reset
follows. A standby is readmitted at a tick 2 us after its copy. -/
def Obligations.ThePairKeepsItsRoles : Prop :=
  ∀ s : State,
    (s.pair.claiming = false ∨ s.takesNotices = false ∨ s.now / 2000 ≤ s.pair.lastClaim → Stays .claimSend s) ∧
    (s.pair.claiming = true → s.takesNotices = true → s.pair.lastClaim < s.now / 2000 →
      let t := (s.emit (.notice .partnerLink) (s.notice 4 .partnerLink)).emit (.notice .fabric) (s.notice 4 .fabric)
      Goes .claimSend s { t with pair := { t.pair with firstClaim := some (s.pair.firstClaim.getD s.now), lastClaim := s.now / 2000 } }) ∧
    (s.dev.stage < 7 ∨ s.phys.porLow = true ∨ s.phys.tripShutdown = true → s.takesNotices = false) ∧
    (∀ p b, s.takesNotices = false → Stays (.claimReceive p b) s ∧ Stays (.heartbeatReceive p b) s ∧ Stays (.takeoverNoticeReceive p b) s ∧
      Stays (.relinquishReceive p b) s) ∧
    (∀ p b, s.takesNotices = true →
      let t := s.hear p b
      let standing (term : Word) : State := ({ t with pair := { t.pair with claiming := false, standby := true, term := term } }).irq 1
      let follows (u : State) : State :=
        let v := ({ u with pair := { u.pair with term := ntTerm b } }).takeSelection b
        (if p = .partnerLink then v.phaseLock b else v).takeProfile b
      let back := s.pair.partnerFlags / 8 % 2 = 1 ∧ ntFlags b % 2 = 1 ∧ ntFlags b / 8 % 2 = 0
      (t.pair.claiming = true → t.dev.oid < ntOid b → Goes (.claimReceive p b) s
        (({ t with pair := { t.pair with claiming := false, standby := false, term := 1 } }).irq 1)) ∧
      (t.pair.claiming = true → ¬ t.dev.oid < ntOid b → Goes (.claimReceive p b) s (standing t.pair.term)) ∧
      (t.pair.claiming = false → Goes (.claimReceive p b) s t) ∧
      (t.pair.claiming = true → ntRole b = 0 → Goes (.heartbeatReceive p b) s (follows (standing (ntTerm b))) ∧
        Goes (.takeoverNoticeReceive p b) s (standing (ntTerm b))) ∧
      (t.pair.claiming = true → ntRole b ≠ 0 → Goes (.heartbeatReceive p b) s t ∧ Goes (.takeoverNoticeReceive p b) s t) ∧
      (t.pair.claiming = false → t.pair.standby = true → ntRole b ≠ 0 → Goes (.heartbeatReceive p b) s t) ∧
      (t.pair.claiming = false → t.pair.standby = true → ntRole b = 0 → Goes (.heartbeatReceive p b) s (follows t)) ∧
      (t.pair.claiming = false → t.pair.standby = true → Goes (.takeoverNoticeReceive p b) s { t with pair := { t.pair with term := ntTerm b } }) ∧
      (t.pair.claiming = false → t.pair.standby = false → t.outranked b = true →
        Goes (.heartbeatReceive p b) s (t.stepDown (ntTerm b)) ∧ Goes (.takeoverNoticeReceive p b) s (t.stepDown (ntTerm b))) ∧
      (t.pair.claiming = false → t.pair.standby = false → t.outranked b = false → Goes (.takeoverNoticeReceive p b) s t) ∧
      (t.pair.claiming = false → t.pair.standby = false → t.outranked b = false → ntRole b = 1 → back →
        Goes (.heartbeatReceive p b) s (({ t with pair := { t.pair with answersFor := none } }).enginePost 0x100 none)) ∧
      (t.pair.claiming = false → t.pair.standby = false → t.outranked b = false → ¬ (ntRole b = 1 ∧ back) → Goes (.heartbeatReceive p b) s t) ∧
      (t.pair.standby = false ∨ t.pair.claiming = true → Goes (.relinquishReceive p b) s t) ∧
      (t.pair.standby = true → t.pair.claiming = false → Goes (.relinquishReceive p b) s (t.takeover 1))) ∧
    (∀ c, s.sync.heldPosts = [] → s.sync.objects = [] → s.data.requests = [] → s.data.groups = [] → s.pair.accepted = [] → s.verbs.staging = [] →
      (s.takeover c).pair = { s.pair with
        term := s.pair.term + 1, standby := false, mirrored := false, copy := none, commitMseq := 0, partnerRole := 255
        answersFor := some s.pair.partnerOid, takeovers := s.pair.takeovers + 1, lastTakeover := s.stamp, accepted := [] }) ∧
    (let due := ∃ t, s.pair.firstClaim = some t ∧ s.pair.claiming = true ∧ s.pair.heardAny = false ∧
       t + (if s.phys.straps.pairSel then 250000000 else 50000000) ≤ s.now
     (¬ due → Stays .claimTimeout s) ∧
     (due → Goes .claimTimeout s (({ s with pair := { s.pair with claiming := false, standby := false, term := 1 } }).irq 1))) ∧
    (let i := nsOf s.lineTime / 2000
     let t := (s.emit (.notice .partnerLink) (s.notice 1 .partnerLink)).emit (.notice .fabric) (s.notice 1 .fabric)
     (s.pair.claiming = true ∨ s.pair.hangCause.isSome = true ∨ s.takesNotices = false ∨ i ≤ s.pair.lastBeat → Stays .heartbeatSend s) ∧
     (s.pair.claiming = false → s.pair.hangCause = none → s.takesNotices = true → s.pair.lastBeat < i →
       Goes .heartbeatSend s { t with pair := { t.pair with lastBeat := i } })) ∧
    (let lost := s.pair.standby = true ∧ s.pair.claiming = false ∧ (s.pair.link.heard = true ∨ s.pair.fabric.heard = true) ∧
       s.pathUp s.pair.link = false ∧ s.pathUp s.pair.fabric = false
     (¬ lost → Stays .activeLost s) ∧ (lost → Goes .activeLost s (s.takeover 0))) ∧
    (∀ b,
      let h := emHeader b
      let m := h.1
      let typ := h.2.2
      let body := entryBody b
      let restart := (typ = 10 ∧ byteAt body 0 = 0) ∨ (typ = 9 ∧ byteAt body 0 = 8)
      let u : State := { s with pair := { s.pair with mseqApplied := m } }
      (s.pair.standby = false ∨ b.length < 16 → Stays (.mirrorEntryReceive b) s) ∧
      (s.pair.standby = true → 16 ≤ b.length → ¬ restart → m ≤ s.pair.mseqApplied → Goes (.mirrorEntryReceive b) s s.acknowledge) ∧
      (s.pair.standby = true → 16 ≤ b.length → ¬ restart → s.pair.mseqApplied + 1 < m → Stays (.mirrorEntryReceive b) s) ∧
      (s.pair.standby = true → 16 ≤ b.length → m = s.pair.mseqApplied + 1 ∨ restart →
        (typ = 9 → Goes (.mirrorEntryReceive b) s (u.takeSection body).acknowledge) ∧
        (typ = 10 → byteAt body 0 = 0 → Goes (.mirrorEntryReceive b) s (u.takeCopyEntry body).acknowledge) ∧
        (typ = 10 → byteAt body 0 ≠ 0 → Goes (.mirrorEntryReceive b) s (u.takeCopyEntry body)) ∧
        (∀ k, typ ∉ [9, 10] → s.pair.copy = some k → k.number = h.2.1 → Goes (.mirrorEntryReceive b) s
          ({ u with pair := { u.pair with copy := some { k with held := k.held ++ [b] } } }).acknowledge) ∧
        (∀ k, typ ∉ [9, 10] → s.pair.copy = some k → k.number ≠ h.2.1 → Goes (.mirrorEntryReceive b) s (u.applyItem typ body).acknowledge) ∧
        (typ ∉ [9, 10] → s.pair.copy = none → Goes (.mirrorEntryReceive b) s (u.applyItem typ body).acknowledge))) ∧
    (∀ n : BitVec 64,
      let m := min n.toNat (s.pair.mseqNext - 1)
      let a : State := { s with pair := { s.pair with mseqAcked := m, unacked := s.pair.unacked.filter fun u => m < u.1 } }
      let go (t : State) : State := (t.pair.withheld.filter fun w => w.1 ≤ m).foldl (fun t w => t.letGo w.2)
        { t with pair := { t.pair with withheld := t.pair.withheld.filter fun w => m < w.1 } }
      (s.active = false ∨ n.toNat ≤ s.pair.mseqAcked → Stays (.mirrorAckReceive n) s) ∧
      (s.active = true → s.pair.mseqAcked < n.toNat → s.pair.copy = none ∨ s.pair.commitMseq = 0 ∨ m < s.pair.commitMseq →
        Goes (.mirrorAckReceive n) s (go a)) ∧
      (∀ k, s.active = true → s.pair.mseqAcked < n.toNat → s.pair.copy = some k → s.pair.commitMseq ≠ 0 → s.pair.commitMseq ≤ m →
        Goes (.mirrorAckReceive n) s (go { a with pair := { a.pair with
          copy := none, commitMseq := 0, checkpoint := k.number, mirrored := true } }))) ∧
    (s.pair.partnerUp = false ∨ s.now < s.pair.link.heardAt + 10000 → Stays .mirrorGapTimeout s) ∧
    (s.pair.partnerUp = true → s.pair.link.heardAt + 10000 ≤ s.now →
      let t := ({ s with pair := { s.pair with partnerUp := false, partnerDownSince := some s.now, mirrored := false } }).setNetPort 17
        { s.netPort 17 with st := .retraining, outSince := s.now }
      Goes .mirrorGapTimeout s (t.release t.pair.mseqNext)) ∧
    (let may := s.active = true ∧ s.pair.mirrored = false ∧ s.pair.copy = none ∧ s.pair.partnerUp = true ∧ s.pair.partnerRole = 1 ∧ s.pair.hangCause = none
     let c := max s.pair.checkpoint s.pair.tried + 1
     let a : State := { s with pair := { s.pair with copy := some { number := c, since := s.now }, tried := c, unacked := [], commitMseq := 0 } }
     let keys := (s.sec.vault.filter fun e => e.2.state == 1).foldl (fun t e => t.mirror 9 (keyEntry e.1 e.2.keyId e.2.weightKey)) a
     let u := ((replacing ++ merging).foldl State.sendSection (keys.mirror 10 (be 1 0 ++ be 4 c))).mirror 10
       (be 1 1 ++ be 4 c ++ ((replacing ++ merging).map fun n => be 1 n ++ be 8 (s.digestOf n).toNat).flatten)
     (¬ may → Stays .checkpointStart s) ∧ (may → Goes .checkpointStart s { u with pair := { u.pair with commitMseq := u.lastMseq } })) ∧
    (∀ c d, s.pair.standby = false ∨ s.pair.copy = none → Stays (.checkpointCommitReceive c d) s) ∧
    (∀ (c : Word) d k, s.pair.standby = true → s.pair.copy = some k →
      let good := ∀ e ∈ d, BitVec.ofNat 64 (crc64 (Tbl.get [] e.1 k.sections)) = e.2
      let a : State := { s with pair := { s.pair with copy := none } }
      let order := replacing.filter fun n => d.any fun e => e.1 == n
      let u := k.held.foldl (fun t e => t.applyItem (byteAt e 12) (entryBody e))
        (order.foldl (fun t n => t.applySection n (Tbl.get [] n k.sections)) a.clearLive)
      (k.number ≠ c.toNat → Stays (.checkpointCommitReceive c d) s) ∧
      (k.number = c.toNat → ¬ good → Goes (.checkpointCommitReceive c d) s a) ∧
      (k.number = c.toNat → good → Goes (.checkpointCommitReceive c d) s ({ u with pair := { u.pair with
        checkpoint := c.toNat, mirrored := u.dev.service, readmitDue := if u.dev.service = true then none else some u.now } }).acknowledge)) ∧
    (let late := s.pair.copy.isSome = true ∧ s.pair.partnerUp = false ∧ ∃ t, s.pair.partnerDownSince = some t ∧ t + 100000 < s.now
     (¬ late → Stays .checkpointAbort s) ∧
     (late → Goes .checkpointAbort s { s with pair := { s.pair with copy := none, commitMseq := 0 } })) ∧
    (s.pair.hangCause.isSome = true ∨ s.phys.porLow = true ∨ s.phys.tripShutdown = true → ∀ c u, Stays (.hangHandlingEntry c u) s) ∧
    (∀ c (u : Word), s.pair.hangCause = none → s.phys.porLow = false → s.phys.tripShutdown = false →
      let a := s.raise 12 0x0804 6 (be 1 (hangRow c) ++ be 4 u.toNat)
      let t := if a.active = true then (a.emit (.notice .partnerLink) (a.notice 2 .partnerLink)).emit (.notice .fabric) (a.notice 2 .fabric) else a
      Goes (.hangHandlingEntry c u) s (({ t with
        rel := { t.rel with run := none }, pair := { t.pair with hangCause := some c, own := s.lastWords (hangRow c) } }).bootStatus fun d =>
          { d with fwReady := false, service := false })) ∧
    (s.pair.hangCause = none → ∀ b, Stays (.lastWordsComplete b) s) ∧
    (∀ c b, s.pair.hangCause = some c →
      let w := { s.pair.own with complete := true }
      Goes (.lastWordsComplete b) s ((({ s with pair := { s.pair with own := w } }).emit (.lastWords b) w.header).wholeChipReset)) ∧
    (let due := s.pair.standby = true ∧ s.pair.claiming = false ∧ s.dev.stage = 9 ∧
       ∃ n t, s.pair.readmitDue = some n ∧ s.dueTick (n + 2000) = some t
     (¬ due → Stays .readmission s) ∧
     (due → Goes .readmission s (({ s with pair := { s.pair with mirrored := true, recovering := false, readmitDue := none } }).setService.enginePost 0x100 none)))

/-- O55. Synchronisation (R472 to R482), clause by clause. A scan is due every 10 us of service time (of the chip's own while time is not valid);
without a cycle it forgets the last, with a new one it keeps it, and with the cycle of the last it writes and records the hang, ends the named wait
with reason 3, serves the object's other waiters and keeps the cycle that is left. A wait with a timeout ends then with reason 1 and the object's
count, and the waiters behind it are served. An ordered post lands once all that it follows has its final reply and then replies; its 10 s end it with
ST_STATE unless the one it follows has its reply. A post that is refused is counted, one past the limit is a fault of the object, another adds its
count, signals a level reached and serves the waiters, first in, first out. -/
def Obligations.WaitsAndOrderedPostsEnd : Prop :=
  ∀ s : State,
    (let i := (if s.timeValid then s.svcNs else s.now) / 10000
     let a : State := { s with sync := { s.sync with lastScan := i } }
     let c := cycleEdges s.waitEdges
     (i ≤ s.sync.lastScan → Stays .deadlockScan s) ∧
     (s.sync.lastScan < i → c = [] → Goes .deadlockScan s { a with sync := { a.sync with cycle := [] } }) ∧
     (s.sync.lastScan < i → c ≠ [] → cycleKey c ≠ s.sync.cycle → Goes .deadlockScan s { a with sync := { a.sync with cycle := cycleKey c } }) ∧
     (∀ e es, s.sync.lastScan < i → c = e :: es → cycleKey c = s.sync.cycle →
       let k := a.object e.object
       let others := ((c.map (·.object)).eraseDups.filter (· != e.object)).take 8
       let hang := stampBytes a.stamp ++ be 4 (s.sync.hangSeq + 1) ++ be 4 e.object ++ be 2 e.ctx ++ be 2 e.src.1 ++ be 2 k.producer ++
         be 1 (min 255 (c.map (·.src)).eraseDups.length) ++ be 1 0 ++ ((List.range 8).map fun j => be 4 (others.getD j 0xFFFFFFFF)).flatten
       let b := (({ a with sync := { a.sync with hangSeq := s.sync.hangSeq + 1, hang := hang } }).raise 10 0x0802 5 (sub hang 16 28)).setObject e.object
         { k with waiters := k.waiters.filter fun w => w.ticket != e.ticket }
       let left (t : State) : State :=
         let u := t.serve e.object k.waiters.length
         { u with sync := { u.sync with cycle := cycleKey (cycleEdges u.waitEdges) } }
       (k.waiters.find? (fun w => w.ticket == e.ticket) = none → Goes .deadlockScan s (left b)) ∧
       (∀ w, k.waiters.find? (fun w => w.ticket == e.ticket) = some w → Goes .deadlockScan s
         (left (b.final .agg w.ticket St.state (be 4 k.count ++ be 1 3 ++ zeros 3)))))) ∧
    (∀ (o : BitVec 15) r tag,
      let k := s.object o.toNat
      ((∀ w ∈ k.waiters, w.ticket ≠ ⟨r, tag⟩) → Stays (.waitTimeout o r tag) s) ∧
      (∀ w, k.waiters.find? (fun w => w.ticket == ⟨r, tag⟩) = some w →
        (w.timeoutUs = 0 ∨ s.now < w.since + 1000 * w.timeoutUs → Stays (.waitTimeout o r tag) s) ∧
        (w.timeoutUs ≠ 0 → w.since + 1000 * w.timeoutUs ≤ s.now → Goes (.waitTimeout o r tag) s
          (((s.setObject o.toNat { k with waiters := k.waiters.filter fun v => v.ticket != w.ticket }).final .agg w.ticket St.state
            (be 4 k.count ++ be 1 1 ++ zeros 3)).serve o.toNat k.waiters.length)))) ∧
    (∀ r tag, s.orderedOf r tag = none → Stays (.orderedPostApply r tag) s ∧ Stays (.orderedPostTimeout r tag) s) ∧
    (∀ r tag q, s.orderedOf r tag = some q →
      let landed := ∀ t ∈ q.earlier, (s.sentFinal r t).isSome = true ∨ findTag s.verbs.tags r t = none
      let p := (s.dropOrdered q).post q.object q.n (agentOf r) q.x.tenant.toNat
      (¬ landed ∨ s.sentFinal r q.behind = none → Stays (.orderedPostApply r tag) s) ∧
      (∀ st, landed → s.sentFinal r q.behind = some st →
        Goes (.orderedPostApply r tag) s (p.1.final .agg q.x.ticket p.2 (postResults p.1 q.object st))) ∧
      (s.now < q.since + 10000000 ∨ (s.sentFinal r q.behind).isSome = true → Stays (.orderedPostTimeout r tag) s) ∧
      (q.since + 10000000 ≤ s.now → s.sentFinal r q.behind = none →
        Goes (.orderedPostTimeout r tag) s ((s.dropOrdered q).final .agg q.x.ticket St.state (postResults s q.object 0)))) ∧
    (∀ o n a c,
      let k := s.object o
      (s.postRefused o a = true → s.post o n a c = ({ s with sync := { s.sync with refused := satInc 32 s.sync.refused } }, St.state)) ∧
      (s.postRefused o a = false → k.limit < k.count + n → s.post o n a c = ((s.setObject o { k with faulted := true }).raise 10 0x0801 4
        (be 4 o ++ be 1 1 ++ be 2 a.1 ++ be 4 n ++ be 4 k.count) c, St.state)) ∧
      (s.postRefused o a = false → k.count + n ≤ k.limit → s.post o n a c =
        (((s.setObject o { k with count := k.count + n }).notify o k.count).serve o k.waiters.length, St.ok))) ∧
    (∀ o f, s.serve o 0 = s ∧ ((s.object o).waiters = [] → s.serve o (f + 1) = s) ∧
      (∀ w ws, (s.object o).waiters = w :: ws → (s.object o).count < w.n → s.serve o (f + 1) = s) ∧
      (∀ w ws, (s.object o).waiters = w :: ws → w.n ≤ (s.object o).count →
        let left := (s.object o).count - w.n
        s.serve o (f + 1) = ((s.setObject o { s.object o with count := left, waiters := ws }).final .agg w.ticket St.ok
          (be 4 left ++ be 1 0 ++ zeros 3)).serve o f))

/-- O56. From power-up to service (R296 to R298, R536 to R546, R549, R597, R613), clause by clause. POR_RELEASE samples the straps, gives slot 0 its
memory key unless TEST_EN holds the vault clear, and powers the always-on logic. No stage ends while POR_N is low, the boot halted or a trip's shutdown
lasts, and a result of another stage changes nothing. Stage 0 waits for BOOT_SEL and TEST_EN; stage 1 decides the fuse words from six reads each; stages 2, 3
and 4 take the first copy in flash, the higher version first, that passes every check of R537; neither passing halts the boot at stages 2 and 3, and
puts the default map in force at stage 4, each failed copy recorded; stage 5 needs HBM, stage 6 the self test, 7 the role, 8 time, and the active enters
service at an epoch tick. A check is failed in the order: header, key, signature, body, level, version limit, map, rollback. A failed stage sets FAULT,
halts and is recorded. POR_N low keeps flash, fuses, regulators, the persisted records, the pins' latches and the other parts. -/
def Obligations.BootRunsInStages : Prop :=
  ∀ s : State,
    (s.phys.porLow = false → ∀ st, Stays (.porRelease st) s) ∧
    (∀ st : Straps, s.phys.porLow = true →
      Goes (.porRelease st) s (({ s with
        free := s.free + 1
        phys := { s.phys with porLow := false, straps := st }
        sec := { s.sec with vault := if st.testEn = true then [] else Tbl.set {} 0 { memKey := some s.free } s.sec.vault } }).switchOn 81)) ∧
    (s.dev.domains.getLsbD 81 = false → s.switchOn 81 = { s with
      obs := s.obs.restart 81
      dev := { s.dev with domains := s.dev.domains ||| (1#96 <<< 81), powerUps := Tbl.set 0 81 ((Tbl.get 0 81 s.dev.powerUps + 1) % 65536) s.dev.powerUps } }) ∧
    (s.phys.porLow = true ∨ s.dev.halted = true ∨ s.phys.tripShutdown = true → ∀ r, Stays (.bootStageComplete r) s) ∧
    (s.phys.porLow = false → s.dev.halted = false → s.phys.tripShutdown = false →
      let fails (u : State) (n : Nat) (b : Bytes) : State :=
        (({ u with dev := { u.dev with fault := n, halted := true } }).irq 0).raise 11 0x0001 6 (be 1 u.dev.stage ++ be 1 n ++ b)
      let goes (u : State) (n : Nat) : State := ({ u with dev := { u.dev with stage := n } }).irq 0
      let names (code type : Nat) : Bytes := ((s.copiesFailed type).map fun c => be 1 c.1 ++ [Config.causeCode code c.2]).flatten
      let fault (type : Nat) : Nat := if ((s.copiesFailed type).getLast?.map (·.2)) = some 7 then 4 else type + 1
      let decided : State := { s with rel := { s.rel with marks := [], latched := s.rel.fuses, bootTj := s.tjField } }
      let noted : State := (s.copiesFailed 3).foldl (fun t c => t.raise 11 0x0002 4 (be 1 c.1 ++ [Config.causeCode 0x0002 c.2] ++ [])) s
      (s.dev.stage = 0 → s.phys.straps.testEn = false → s.phys.straps.bootSel.toNat < 2 → Goes (.bootStageComplete .done) s (goes s 1)) ∧
      (s.dev.stage = 0 → s.phys.straps.testEn = true ∨ 2 ≤ s.phys.straps.bootSel.toNat → Stays (.bootStageComplete .done) s) ∧
      (s.dev.stage = 1 → Goes (.bootStageComplete .done) s (goes decided 2)) ∧
      (∀ rs, s.dev.stage = 1 → (∃ r ∈ rs, fuseValue r.2 = none) → Goes (.bootStageComplete (.fuses rs)) s (fails decided 1 [])) ∧
      (∀ rs, s.dev.stage = 1 → (∀ r ∈ rs, (fuseValue r.2).isSome = true) →
        let one (t : State) (r : Nat × FuseCopies) (v : BitVec 32) : State :=
          let t1 : State := { t with rel := { t.rel with latched := Tbl.set 0 r.1 v t.rel.latched } }
          if fuseMarginal r.2 v = true then (t1.setMark r.1 { boot := true, reads := fuseDiffer r.2 v }).raise 12 0x0907 3 (fuseData s r.1 r.2) else t1
        Goes (.bootStageComplete (.fuses rs)) s (goes (rs.foldl (fun t r => match fuseValue r.2 with | some v => one t r v | none => t) decided) 2)) ∧
      (s.dev.stage = 2 → s.copyInUse 1 = none → Goes (.bootStageComplete .image) s (fails s (fault 1) (names 0x0001 1))) ∧
      (∀ c, s.dev.stage = 2 → s.copyInUse 1 = some c → Goes (.bootStageComplete .image) s ({ s with sec := { s.sec with
        svn1 := imageVersion s.phys.flash 1 c, m0 := Config.sha384 (imageAt s.phys.flash 1 c) } }).beginStage3) ∧
      (s.dev.stage = 3 → s.copyInUse 2 = none → Goes (.bootStageComplete .image) s (fails s (fault 2) (names 0x0001 2))) ∧
      (∀ c, s.dev.stage = 3 → s.copyInUse 2 = some c →
        let image := imageAt s.phys.flash 2 c
        Goes (.bootStageComplete .image) s (goes { s with sec := { s.sec with
          svn2 := imageVersion s.phys.flash 2 c, m1 := Config.sha384 image, level := BitVec.ofNat 8 (byteAt image 16), auxKey := sub image 168 96 } } 4)) ∧
      (s.dev.stage = 4 → s.copyInUse 3 = none → Goes (.bootStageComplete .accessMap) s (goes (noted.lockMap defaultMap [] 0 true) 5)) ∧
      (∀ c rs ws, s.dev.stage = 4 → s.copyInUse 3 = some c → parseMap ((imageAt s.phys.flash 3 c).drop 384) = some (rs, ws) →
        Goes (.bootStageComplete .accessMap) s (goes (noted.lockMap rs ws (BitVec.ofNat 32 (imageVersion s.phys.flash 3 c)) false) 5)) ∧
      (s.dev.stage = 5 → Goes (.bootStageComplete (.hbm true)) s (goes ([64, 65, 66, 67].foldl State.switchOn s) 6)) ∧
      (s.dev.stage = 5 → Goes (.bootStageComplete (.hbm false)) s (fails ([64, 65, 66, 67].foldl State.switchOff s) 5 [])) ∧
      (s.dev.stage = 6 → Goes (.bootStageComplete (.bist false)) s (fails s 6 [])) ∧
      (s.dev.stage = 6 →
        let a := ((List.range 96).filter s.wanted).foldl State.switchOn s
        let b := ((packsAt a.phys.flash 104857 0x2600000).foldl State.copyPack a).rebuildReports
        let d := ({ b with sec := { b.sec with m4 := Config.sha384 ((b.rel.packs.map fun (e : Nat × Bytes) => e.2.take 64).flatten) } }).bootPorts
        Goes (.bootStageComplete (.bist true)) s (goes (({ d with dev := { d.dev with fwReady := true } }).irq 0) 7)) ∧
      (s.dev.stage = 7 → s.pair.claiming = true → Stays (.bootStageComplete .done) s) ∧
      (s.dev.stage = 7 → s.pair.claiming = false → Goes (.bootStageComplete .done) s (goes s 8)) ∧
      (let ready := s.timeValid = true ∧ (s.pair.standby = true ∨ s.time.sel.st ≠ .init)
       (s.dev.stage = 8 → ¬ ready → Stays (.bootStageComplete .done) s) ∧ (s.dev.stage = 8 → ready → Goes (.bootStageComplete .done) s (goes s 9))) ∧
      (s.dev.stage = 9 → s.active = true → s.dev.service = false → s.onTick = true →
        Goes (.bootStageComplete .done) s (({ s with dev := { s.dev with service := true } }).irq 0).advanceRollback) ∧
      (s.dev.stage = 9 → s.active = false ∨ s.dev.service = true ∨ s.onTick = false → Stays (.bootStageComplete .done) s) ∧
      (2 ≤ s.dev.stage → s.dev.stage ≤ 6 → Stays (.bootStageComplete .done) s) ∧
      (∀ rs, s.dev.stage ≠ 1 → Stays (.bootStageComplete (.fuses rs)) s) ∧
      (s.dev.stage ∉ [2, 3] → Stays (.bootStageComplete .image) s) ∧
      (s.dev.stage ≠ 4 → Stays (.bootStageComplete .accessMap) s) ∧
      (∀ b, s.dev.stage ≠ 5 → Stays (.bootStageComplete (.hbm b)) s) ∧
      (∀ b, s.dev.stage ≠ 6 → Stays (.bootStageComplete (.bist b)) s)) ∧
    (∀ type,
      let order := if imageVersion s.phys.flash type 0 < imageVersion s.phys.flash type 1 then [1, 0] else [0, 1]
      s.copyInUse type = order.find? fun c => (s.imageCheck type (imageAt s.phys.flash type c)).isNone) ∧
    (∀ type b,
      let body := b.drop 384
      let form := fld b 0 4 = 0x4F534931 ∧ fld b 4 2 = 1 ∧ byteAt b 6 = type ∧ fld b 12 4 ≤ imageLimit type
      let key := s.keyTrusted type b = true
      let sig := Config.verify (sub b 24 96) (Config.sha384 (b.take 288)) (sub b 288 96) = true
      let hash := Config.sha384 body = sub b 120 48
      (¬ form → s.imageCheck type b = some 0) ∧ (form → ¬ key → s.imageCheck type b = some 1) ∧ (form → key → ¬ sig → s.imageCheck type b = some 2) ∧
      (form → key → sig → ¬ hash → s.imageCheck type b = some 3) ∧
      (let level := type = 2 → 2 ≤ byteAt b 16 ∧ byteAt b 16 ≤ 3
       (form → key → sig → hash → ¬ level → s.imageCheck type b = some 4) ∧
       (form → key → sig → hash → level → type ≠ 3 → 64 < fld b 8 4 → s.imageCheck type b = some 5) ∧
       (form → key → sig → hash → level → type ≠ 3 → fld b 8 4 ≤ 64 → s.imageCheck type b = if fld b 8 4 < s.antiRollback then some 7 else none)) ∧
      (form → key → sig → hash → type = 3 → s.imageCheck type b = if parseMap body = none then some 6 else none)) ∧
    Goes .porNAssert s { State.reset with
      free := s.free, out := s.out, dtcs := s.dtcs, rel := s.rel.kept, obs := { plog := s.obs.plog }
      dev := { pinned := s.dev.pinned, dtcPins := s.dev.dtcPins }, phys := { flash := s.phys.flash }, hbm := s.hbm.lost } ∧
    s.rel.kept.fuses = s.rel.fuses ∧ s.rel.kept.rails = s.rel.rails ∧ s.rel.kept.marginLog = s.rel.marginLog ∧ s.rel.kept.series = s.rel.series

/-- O57. Ageing, margins, screens and pins (R507 to R521, R529, R530), clause by clause. The scheduled plan starts at its second of the TAI day, where
time is valid, firmware is ready and none runs, after the fuse words are read again. A complete plan is answered, or logged and kept for its tick. At
that tick rising clock steps are lifted and each rail whose regulator acknowledges is written; steps that fall wait a tick a millisecond later; where
none does, the plan ends and is answered. Every island that is powered is sampled at valid time, with a day of history. A margin reading of a valid index
becomes current, joins the day and the least, and an alarm is recorded at most once a day; DTCs of option A in service are asked for theirs. A week adds a value to each series, of islands and of the
dies' temperature channels, and records the projection that falls below the rated life. A screen test on a cluster that is not clean is skipped; one
that passes marks its tartlets; one that fails reports each and retires the cluster for the pack; the last ends the run. A pin takes effect at its
tick. -/
def Obligations.MonitorsPlansScreensAndPins : Prop :=
  ∀ s : State,
    (s.timeValid = false ∨ s.svcNs / 1000000000 % 86400 ≠ s.rel.schedule ∨ s.rel.run.isSome = true ∨ s.dev.fwReady = false → Stays .marginPlanScheduled s) ∧
    (s.timeValid = true → s.svcNs / 1000000000 % 86400 = s.rel.schedule → s.rel.run = none → s.dev.fwReady = true →
      Goes .marginPlanScheduled s { s.rereadFuses with rel := { s.rereadFuses.rel with run := some { apply := true, ticket := none } } }) ∧
    (s.rel.run = none → Stays .marginPlanComplete s ∧ (∀ a, Stays (.marginPlanApply a) s) ∧ Stays .fstepDecrease s) ∧
    (∀ r, s.rel.run = some r →
      let answered (u : State) (b : Bytes) : State :=
        let v : State := { u with rel := { u.rel with run := none } }
        match r.ticket with
        | some k => v.final .agg k St.ok b
        | none => v
      let idle : State := { s with rel := { s.rel with run := none } }
      (r.plan.isSome = true → Stays .marginPlanComplete s) ∧
      (∀ k, r.plan = none → r.apply = false → r.ticket = some k → Goes .marginPlanComplete s
        (idle.final .agg k St.ok (s.planResults s.planAll (s.stepsNow s.planAll) false))) ∧
      (r.plan = none → r.apply = false → r.ticket = none → Goes .marginPlanComplete s idle) ∧
      (r.plan = none → r.apply = true →
        let u := s.planAll.foldl State.logChange s
        Goes .marginPlanComplete s { u with rel := { u.rel with run := some { r with plan := some (s.planAll, s.now), before := s.stepsNow s.planAll } } }) ∧
      (r.plan = none → (∀ a, Stays (.marginPlanApply a) s) ∧ Stays .fstepDecrease s) ∧
      (∀ pl n a, r.plan = some (pl, n) →
        let lifted := pl.foldl (fun t c => if (t.island c.island).fstep < c.fstep then t.setIsland c.island { t.island c.island with fstep := c.fstep } else t) s
        let u := (List.range 20).foldl (State.applyRail pl a) lifted
        let falls := ∃ c ∈ pl, c.fstep < (u.island c.island).fstep
        (r.wrote.isSome = true ∨ s.dueTick (n + 1) = none → Stays (.marginPlanApply a) s) ∧
        (r.wrote = none → (s.dueTick (n + 1)).isSome = true → falls →
          Goes (.marginPlanApply a) s { u with rel := { u.rel with run := some { r with wrote := some s.now } } }) ∧
        (r.wrote = none → (s.dueTick (n + 1)).isSome = true → ¬ falls → Goes (.marginPlanApply a) s (answered u (u.planResults pl r.before true))) ∧
        (r.wrote = none → Stays .fstepDecrease s) ∧
        (∀ w, r.wrote = some w →
          let v := pl.foldl (fun t c => if c.fstep < (t.island c.island).fstep then t.setIsland c.island { t.island c.island with fstep := c.fstep } else t) s
          (s.dueTick (w + 1000000) = none → Stays .fstepDecrease s) ∧
          ((s.dueTick (w + 1000000)).isSome = true → Goes .fstepDecrease s (answered v (v.planResults pl r.before true)))))) ∧
    (∀ q, s.timeValid = false → Stays (.ageingSample q) s) ∧
    (∀ q : List IslandSample, s.timeValid = true →
      let sec := s.svcNs / 1000000000
      let one (t : State) (i : Nat) : State :=
        let v := t.island i
        let past := v.hist.filter fun h => sec < h.1 + 86400
        match q.find? fun e => e.island.val == i && t.powered i with
        | some e => t.setIsland i { v with sampled := true, ro := e.ro, delay := e.delay, tj := e.tj, volt := e.volt, hist := (sec, d105 i e.delay e.tj) :: past }
        | none => t.setIsland i { v with sampled := false, hist := past }
      Goes (.ageingSample q) s ((List.range 97).foldl one s)) ∧
    (∀ ms : List MarginReading,
      let ask (u : State) (p : Fin 64) : State :=
        if (u.dtc p).ties.optA = true ∧ (u.port p).e.st = .inService ∧ u.dev.fwReady = true then
          let x : Sentence := ⟨.agg, .mailbox, 0x0B, BitVec.ofNat 32 (Tbl.get 1 p.val u.verbs.nextFtag), 0, 0, 0, zeros 4⟩
          (u.forward p 0x0400 x (BitVec.ofNat 32 (Tbl.get 1 p.val u.verbs.knownOid))).1
        else u
      Goes (.marginRefresh ms) s (allPorts.foldl ask (ms.foldl State.takeMargin s))) ∧
    (∀ r : MarginReading,
      let k := marginKey r.kind.val r.index r.lane r.quantity.val
      let m := Tbl.get ({} : Margin) k s.rel.margins
      let sec := s.now / 1000000000
      let v := r.value.toNat
      let alarm := r.alarm || (r.kind.val = 4 && r.quantity.val < 2 && v < 32)
      let due := alarm = true ∧ (m.alarmAt = 0 ∨ m.alarmAt + 86400 ≤ sec + 1)
      let valid := marginIndexValid r.kind.val r.index r.lane = true ∧ (r.kind.val = 4 ∨ r.quantity.val = 0)
      let t : State := { s with rel := { s.rel with margins := Tbl.set {} k { current := v, alarm := alarm, day := (sec, v) :: m.day.filter (fun d => sec < d.1 + 86400), least := some (min v (m.least.getD v)), alarmAt := if due then sec + 1 else m.alarmAt } s.rel.margins } }
      (¬ valid → s.takeMargin r = s) ∧ (valid → ¬ due → s.takeMargin r = t) ∧
      (valid → due → s.takeMargin r = t.raise 12 0x0909 4 (be 1 r.kind.val ++ be 1 r.index ++ be 1 r.lane ++ be 2 v))) ∧
    (let a := (List.range 97).foldl (fun t i =>
       { t with rel := { t.rel with series := Tbl.set {} i ((t.series i).push (t.island i).vstep) t.rel.series } }) s
     let b := a.diePorts.foldl (fun t e => (List.range 16).foldl (fun u c => u.channelWeek e.1 (48 + c)) t) a
     let d : State := { b with data := { b.data with dies := Tbl.mapAll {} (fun d => { d with week := [] }) b.data.dies } }
     (belowRated (d.series d.projection.1) = false → Goes .ageingWeek s d) ∧
     (belowRated (d.series d.projection.1) = true → Goes .ageingWeek s (d.raise 12 0x0903 4 (be 1 d.projection.1 ++ be 2 d.projection.2)))) ∧
    (s.rel.screen = none → ∀ o, Stays (.screenTestOutcome o) s) ∧
    (∀ r, s.rel.screen = some r → r.todo = [] → ∀ o, Stays (.screenTestOutcome o) s) ∧
    (∀ r c i q, s.rel.screen = some r → r.todo = (c, i) :: q →
      let test := s.screenTest r.pack i
      let next (u : State) (k : ScreenRun) : State :=
        let v : State := { u with rel := { u.rel with screen := some k } }
        if k.todo = [] then v.endScreen k k.clusters else v
      let skipped := next s { r with todo := q, skipped := r.skipped + 1, unclean := c :: r.unclean }
      let ran := s.runTestOn c test
      let mine := (List.range (if byteAt test 2 / 2 % 2 = 1 then 64 else 1)).map (64 * c + ·)
      (s.screenable c = false → ∀ o, Goes (.screenTestOutcome o) s skipped) ∧
      (s.screenable c = true → Goes (.screenTestOutcome .skipped) s skipped) ∧
      (s.screenable c = true → Goes (.screenTestOutcome .passed) s (next
        { ran with rel := { ran.rel with lastPass := mine.foldl (fun a k => Tbl.set 0 k s.cs a) ran.rel.lastPass } }
        { r with todo := q, ran := r.ran + 1, passed := r.passed + 1 })) ∧
      (∀ ts, s.screenable c = true →
        let bad := ts.filter fun e => e.1 / 64 == c
        let fails := bad.foldl (fun a e => Tbl.set 0 e.1 (Tbl.get 0 e.1 a + 1) a) r.fails
        let told := bad.foldl (fun u e => u.report { source := 2, unit_ := 5, tartlet := e.1, bank := 255, slot := 255, operation := fld test 0 2, context := 0, object := r.pack, count := Tbl.get 0 e.1 fails, since := Tbl.get 0 e.1 u.rel.lastPass, expected := e.2.1, found := e.2.2, replica := 255 }) ran
        Goes (.screenTestOutcome (.failed ts)) s (next
          { told with rel := { told.rel with retired := if (c, r.pack) ∈ told.rel.retired then told.rel.retired else (c, r.pack) :: told.rel.retired } }
          { r with todo := q, ran := r.ran + 1, failed := r.failed + 1, fails := fails, bad := c :: r.bad
                   first := r.first <|> (bad.head?.map fun e => (fld test 0 2, e.1)) }))) ∧
    (∀ (r : ScreenRun) cs,
      let clean (c : Nat) : Bool := cs.contains c && !r.bad.contains c && !r.unclean.contains c
      s.endScreen r cs = ({ s with rel := { s.rel with screen := none, retired := s.rel.retired.filter fun q => !(q.2 == r.pack && clean q.1) } }).final
        .agg r.ticket St.ok (be 2 (r.ran % 65536) ++ be 2 (r.passed % 65536) ++ be 2 (r.failed % 65536) ++ be 2 (r.skipped % 65536) ++
          be 2 ((r.first.map Prod.fst).getD 0xFFFF) ++ be 2 ((r.first.map Prod.snd).getD 0) ++ zeros 4)) ∧
    (s.dev.pinNext = none → Stays (.pinEffective .agg) s) ∧
    (∀ l n ks, s.dev.pinNext = some (l, n, ks) →
      (s.dueTick n = none → Stays (.pinEffective .agg) s) ∧
      (∀ t, s.dueTick n = some t → Goes (.pinEffective .agg) s (ks.foldl (fun u k => u.finalAt .agg k St.ok
        (stampBytes (stampOf t s.svcFlags) ++ be 1 (if l = 0 then 3 else l) ++ be 1 3 ++ zeros 2) (cstampOf true t))
          { s with dev := { s.dev with pinned := l, pinNext := none } }))) ∧
    (∀ p, (s.dtc p).pinNext = none → Stays (.pinEffective (.dtc p)) s) ∧
    (∀ p l n k, (s.dtc p).pinNext = some (l, n, k) →
      ((s.dtc p).dueTick n = none → Stays (.pinEffective (.dtc p)) s) ∧
      (∀ t, (s.dtc p).dueTick n = some t → Goes (.pinEffective (.dtc p)) s
        ((s.onDtc p fun d => { d with pinned := BitVec.ofNat 8 l, pinNext := none }).finalAt (.dtc p) k St.ok
          (stampBytes (stampOf t (s.dtc p).flags) ++ be 1 (if l = 0 then 3 else l) ++ be 1 3 ++ zeros 2) (cstampOf true t))))

/-- O58. Security and observability (R549 to R560, R568 to R587), clause by clause. From stage 6 a record of the early buffer is accepted before those
of the sources, and of the source whose turn it is one, with its continuations; an accepted record takes the next SEQ. Queued records move to the log
oldest first once firmware is ready. A release ends 10 s after it opened. A revocation takes effect at its tick: its context's open sequences close,
its models are unloaded, and it ends, with the slot freed, once no page of the context is left; pages are zeroed all at once. A debug authorisation
ends with its window, which disables and empties the trace sources. A check-value unit answers with the value and length, a failed read of host
memory with the fault, and one of HBM reads it; an engine answers with what it wrote to HBM or host memory, ST_PARAM with free lengths, or another status
after a free part of its output (log 330). A bank's writing ends. -/
def Obligations.SecretsRecordsAndUnitsEnd : Prop :=
  ∀ s : State,
    (s.dev.stage < 6 → Stays .recordAccept s) ∧
    (∀ r rs, 6 ≤ s.dev.stage → s.obs.early = r :: rs → Goes .recordAccept s (({ s with obs := { s.obs with early := rs } }).accept r)) ∧
    (∀ r rs, 6 ≤ s.dev.stage → s.obs.early = r :: rs → r.severity < 3 → s.obs.recs.length < 65536 →
      Goes .recordAccept s { s with obs := { s.obs with early := rs, nextSeq := s.obs.nextSeq + 1, recs := ⟨s.obs.nextSeq, r⟩ :: s.obs.recs } }) ∧
    (∀ n, 6 ≤ s.dev.stage → s.obs.early = [] → s.obs.nextSource = some n → Goes .recordAccept s (s.acceptFrom n 16)) ∧
    (6 ≤ s.dev.stage → s.obs.early = [] → s.obs.nextSource = none → Stays .recordAccept s) ∧
    (∀ n k, s.acceptFrom n 0 = s ∧ (Tbl.get [] n s.obs.queues = [] → s.acceptFrom n (k + 1) = s) ∧
      (∀ r rs, Tbl.get [] n s.obs.queues = r :: rs →
        let t := ({ s with obs := { s.obs with queues := Tbl.set [] n rs s.obs.queues } }).accept r
        (r.flags / 4 % 2 = 0 → s.acceptFrom n (k + 1) = t) ∧ (r.flags / 4 % 2 = 1 → s.acceptFrom n (k + 1) = t.acceptFrom n k))) ∧
    (∀ n, s.dev.fwReady = false → Stays (.persistenceWrite n) s) ∧
    (∀ n, s.dev.fwReady = true → Goes (.persistenceWrite n) s { s with obs := { s.obs with
      pqueue := s.obs.pqueue.drop n, plog := ((s.obs.pqueue.take n).reverse ++ s.obs.plog).take 32768 } }) ∧
    (∀ id : Word, Goes (.releaseExpiry id) s { s with sec := { s.sec with
      releases := s.sec.releases.filter fun r => r.id != id || s.now < r.since + 10000000000 } }) ∧
    (∀ c : BitVec 10,
      let k := s.keySlot c.toNat
      (k.ticket = none ∨ k.revokeTick ≠ 0 ∨ s.dueTick k.revokeDue = none → Stays (.keyRevokeEffective c) s) ∧
      (∀ t, k.ticket.isSome = true → k.revokeTick = 0 → s.dueTick k.revokeDue = some t →
        let a := s.setKeySlot c.toNat { k with revokeTick := t, unloaded := (s.modelsOf c.toNat).length }
        let open_ := (a.data.seqs.filter fun e => e.2.isOpen && e.2.port.isNone && modelCtx e.2.model == c.toNat).map (·.1)
        Goes (.keyRevokeEffective c) s (((s.modelsOf c.toNat).foldl State.unload (open_.foldl State.revokeSeq a)).endRevoke c.toNat))) ∧
    (∀ c : BitVec 10,
      let ps := Tbl.get [] c.toNat s.data.zeroing
      let t : State := { s with
        data := { s.data with zeroing := Tbl.set [] c.toNat [] s.data.zeroing }
        hbm := { s.hbm with
          cells := s.hbm.cells.filter fun e => !((pageAt e.1).map fun n => ps.contains n).getD false
          zeroed := s.hbm.zeroed ++ ps.filter fun n => !s.hbm.zeroed.contains n } }
      Goes (.storePageZeroingComplete c) s (t.endRevoke c.toNat)) ∧
    (∀ c,
      let k := s.keySlot c
      (k.ticket = none ∨ k.revokeTick = 0 ∨ s.pagesOf c ≠ 0 → s.endRevoke c = s) ∧
      (∀ t, k.ticket = some t → k.revokeTick ≠ 0 → s.pagesOf c = 0 →
        s.endRevoke c = (s.setKeySlot c (if k.state = 2 then {} else { k with ticket := none, revokeTick := 0, unloaded := 0 })).final .agg t St.ok
          (stampBytes (stampOf k.revokeTick s.svcFlags) ++ be 2 k.unloaded ++ zeros 2))) ∧
    (s.sec.debugAuth = none ∨ s.timeValid = false → Stays .debugAuthExpiry s) ∧
    (∀ a, s.sec.debugAuth = some a → s.svcNs / 1000000000 < a.notAfter → Stays .debugAuthExpiry s) ∧
    (∀ a, s.sec.debugAuth = some a → s.timeValid = true → a.notAfter ≤ s.svcNs / 1000000000 →
      Goes .debugAuthExpiry s (({ s with
        sec := { s.sec with debugAuth := none }
        hub := { s.hub with sources := s.hub.sources.map fun (e : Nat × TraceSource) => (e.1, ({ e.2.disable with fifo := [] } : TraceSource)) } }).endFlushes .agg)) ∧
    (∀ (u : Fin 6) d a, Tbl.get none u.val s.obs.units = none → Stays (.checkValueScanComplete u d a) s) ∧
    (∀ (u : Fin 6) (d : Bytes) q, Tbl.get none u.val s.obs.units = some q →
      let n := fld q.params 36 8
      let t : State := { s with obs := { s.obs with units := Tbl.set none u.val none s.obs.units } }
      let v (b : Bytes) : Bytes := be 8 (checkValueOf (cvConfig q.params) b)
      (byteAt q.params 1 = 0 → Goes (.checkValueScanComplete u d none) s
        (t.final .agg q.ticket St.ok (v (s.hbmRead (fld q.params 28 8) n) ++ be 8 n ++ be 8 (2 ^ 64 - 1)))) ∧
      (byteAt q.params 1 ≠ 0 → d.length = n → Goes (.checkValueScanComplete u d none) s
        (t.final .agg q.ticket St.ok (v d ++ be 8 n ++ be 8 (2 ^ 64 - 1)))) ∧
      (byteAt q.params 1 ≠ 0 → d.length ≠ n → Stays (.checkValueScanComplete u d none) s) ∧
      (∀ a, byteAt q.params 1 = 1 → Goes (.checkValueScanComplete u d (some a)) s
        (t.final .agg q.ticket St.hwFault (v (d.take n) ++ be 8 (d.take n).length ++ be 8 a.toNat))) ∧
      (∀ a, byteAt q.params 1 ≠ 1 → Stays (.checkValueScanComplete u d (some a)) s)) ∧
    (∀ (e : Fin 4) b, Tbl.get none e.val s.obs.engines = none → Stays (.compressionEngineComplete e b) s) ∧
    (∀ (e : Fin 4) (b : Bytes) q, Tbl.get none e.val s.obs.engines = some q →
      let src := if byteAt q.params 2 = 0 then s.hbmRead (fld q.params 4 8) (fld q.params 20 8) else b
      let r := engineOutput (byteAt q.params 1) s.free (fld q.params 28 8) src
      let t (n : Nat) : State := { s with free := s.free + n, obs := { s.obs with engines := Tbl.set none e.val none s.obs.engines } }
      let free (n : Nat) : Nat := (Config.freeWord (s.free + n)).toNat
      let write (u : State) (out : Bytes) : State :=
        if byteAt q.params 3 = 0 then u.hbmWrite (fld q.params 12 8) out else u.emit (.hostWrite (fld q.params 12 8)) out
      (src.length ≠ fld q.params 20 8 → Stays (.compressionEngineComplete e b) s) ∧
      (src.length = fld q.params 20 8 → r.1 = St.ok → Goes (.compressionEngineComplete e b) s
        ((write (t 1) r.2).final .agg q.ticket St.ok (be 8 r.2.length ++ be 8 src.length ++ be 8 (2 ^ 64 - 1)))) ∧
      (src.length = fld q.params 20 8 → r.1 = St.param → Goes (.compressionEngineComplete e b) s
        ((t 3).final .agg q.ticket St.param (be 8 (free 0) ++ be 8 (free 1) ++ be 8 (free 2)))) ∧
      (src.length = fld q.params 20 8 → r.1 ≠ St.ok → r.1 ≠ St.param → Goes (.compressionEngineComplete e b) s
        ((write (t 2) (r.2.take (free 1 % (fld q.params 28 8 + 1)))).final .agg q.ticket r.1))) ∧
    (s.obs.tick.writing = false → Stays (.selfCounterBankWritten 0) s) ∧
    (s.obs.tick.writing = true → Goes (.selfCounterBankWritten 0) s { s with obs := { s.obs with
      gen := s.obs.gen + 1, tick := { s.obs.tick with writing := false } } }) ∧
    Goes (.selfCounterBankWritten 1) s { s with obs := { s.obs with hold := { s.obs.hold with writing := false } } }

/-- O59. Flash port, TAP and trace (R208 to R228, R604, R608 to R613), clause by clause. With POR_N low a transaction does nothing; one cut short of its
header only counts, a bad header counts and shifts the pattern out, a good one reads its words or writes them in order, words beyond it are counted,
and fewer count as cut short. A command runs only where the port was given it; its range, the boot, its region, a BAD sector and the fuses refuse it with
8, 6, 1, 3 and 4, in that order; a program of erased bytes writes its bytes, another leaves free ones, and one or an erase that does not verify shows 2 and
leaves its bytes free; an erase runs under the journal; fuses are ORed, and show 5 unverified; DONE shows the result and raises the line. Restricted TAP
instructions are bypassed outside test mode. A trace source takes its cycle, mergers their turn, a record closes 1 us after it opened, flushes whose
marks are gone are answered; a trace record keeps its sequence, is written to its ring, or owes an overflow; a ring's read offset is taken. -/
def Obligations.FlashPortTapAndTraceRun : Prop :=
  ∀ s : State,
    (s.phys.porLow = true → ∀ t, Stays (.mspiTransaction t) s) ∧
    (∀ t : SpiTransaction, s.phys.porLow = false →
      let cut (u : State) : State := if t.edges = 0 then u else u.setMspi { u.phys.mspi with partials := satInc 8 u.phys.mspi.partials }
      (t.header = none → Goes (.mspiTransaction t) s (cut s)) ∧
      (∀ h, t.header = some h → spiHeaderValid h = false → Goes (.mspiTransaction t) s
        ((s.setMspi { s.phys.mspi with badop := satInc 8 s.phys.mspi.badop }).emit .spi (be 4 0x5A5A5A5A))) ∧
      (∀ h, t.header = some h → spiHeaderValid h = true →
        let n := h.toNat / 65536 % 256
        let a := h.toNat % 65536
        let ds := t.data.take n
        let u := if h.toNat / 2 ^ 24 = 1 then
            s.emit .spi (be 4 0x5A5A5A5A ++ ((List.range ds.length).map fun i => be 4 (s.mspiValue (a + 4 * i))).flatten)
          else (s.mspiWrites a ds).emit .spi (be 4 0x5A5A5A5A)
        (ds.length ≠ n → Goes (.mspiTransaction t) s (cut u)) ∧
        (ds.length = n → Goes (.mspiTransaction t) s (u.setMspi { u.phys.mspi with extra := satAdd 16 u.phys.mspi.extra t.extra })))) ∧
    (∀ v : Word,
      s.mspiWrite 0x14 v = s.setMspi { s.phys.mspi with addr := v.toNat } ∧ s.mspiWrite 0x18 v = s.setMspi { s.phys.mspi with len := v.toNat % 8192 } ∧
      (s.phys.mspi.run.isSome = true → s.mspiWrite 0x0C v = s.setMspi { s.phys.mspi with overrun := true }) ∧
      (s.phys.mspi.run = none → s.mspiWrite 0x0C v = s.setMspi { s.phys.mspi with
        run := some ⟨v.toNat / 2 ^ 24, if 1 ≤ v.toNat / 2 ^ 24 ∧ v.toNat / 2 ^ 24 ≤ 5 then none else some 7⟩ })) ∧
    (let ends (u : State) (n c : Nat) : State := u.setMspi { u.phys.mspi with run := some ⟨n, some c⟩ }
     let m := s.phys.mspi
     let a := m.addr / 4096 * 4096
     let locked := (Tbl.get 0 71 s.rel.fuses).getLsbD 0 = true
     let hash := m.data 48
     let free (x k : Nat) : State := { s with
       free := s.free + 1
       phys := { s.phys with flash := flashPut s.phys.flash x ((List.range k).map fun i => Config.flashByte s.free (x + i)) } }
     let runs (n : Nat) : Prop := m.run = some ⟨n, none⟩
     (¬ runs 1 → Stays .flashRead s) ∧ (¬ runs 2 → ∀ ok, Stays (.flashProgram ok) s) ∧ (¬ runs 3 → ∀ ok, Stays (.flashErase ok) s) ∧
     (¬ runs 4 → ∀ v ok, Stays (.fuseOwner v ok) s) ∧ (¬ runs 5 → ∀ v ok, Stays (.fuseDebugDisable v ok) s) ∧
     (runs 1 → m.rangeValid = false → Goes .flashRead s (ends s 1 8)) ∧
     (runs 1 → m.rangeValid = true → s.bootReads = true → Goes .flashRead s (ends s 1 6)) ∧
     (runs 1 → m.rangeValid = true → s.bootReads = false →
       let read (i : Nat) : Byte := if noLayout (m.addr + i) = true then Config.flashByte s.free (m.addr + i) else Tbl.get 0xFF (m.addr + i) s.phys.flash
       Goes .flashRead s (({ s with free := s.free + 1 }).setMspi { m with
         buffer := (List.range m.len).foldl (fun t i => Tbl.set 0 i (read i) t) m.buffer, run := some ⟨1, some 0⟩ })) ∧
     (∀ ok, runs 2 →
       let allowed := m.rangeValid = true ∧ s.bootReads = false
       let good := allowed ∧ regionAllows m.addr m.len = true ∧ (sectorsOf m.addr m.len).any (sectorBad s.phys.flash) = false
       (m.rangeValid = false → Goes (.flashProgram ok) s (ends s 2 8)) ∧
       (m.rangeValid = true → s.bootReads = true → Goes (.flashProgram ok) s (ends s 2 6)) ∧
       (allowed → regionAllows m.addr m.len = false → Goes (.flashProgram ok) s (ends s 2 1)) ∧
       (allowed → regionAllows m.addr m.len = true → (sectorsOf m.addr m.len).any (sectorBad s.phys.flash) = true →
         Goes (.flashProgram ok) s (ends s 2 3)) ∧
       (good → Goes (.flashProgram false) s (ends (free m.addr m.len) 2 2)) ∧
       (good → (∃ x ∈ flashBytes s.phys.flash m.addr m.len, x ≠ 0xFF) → Goes (.flashProgram true) s (ends (free m.addr m.len) 2 0)) ∧
       (good → (∀ x ∈ flashBytes s.phys.flash m.addr m.len, x = 0xFF) → Goes (.flashProgram true) s
         (ends { s with phys := { s.phys with flash := flashPut s.phys.flash m.addr (m.data m.len) } } 2 0))) ∧
     (∀ ok, runs 3 →
       let good := m.addr < 0x4000000 ∧ s.bootReads = false ∧ regionAllows a 4096 = true ∧ sectorBad s.phys.flash a = false
       let begun := (jStart s.phys.flash a).1
       (0x4000000 ≤ m.addr → Goes (.flashErase ok) s (ends s 3 8)) ∧
       (m.addr < 0x4000000 → s.bootReads = true → Goes (.flashErase ok) s (ends s 3 6)) ∧
       (m.addr < 0x4000000 → s.bootReads = false → regionAllows a 4096 = false → Goes (.flashErase ok) s (ends s 3 1)) ∧
       (m.addr < 0x4000000 → s.bootReads = false → regionAllows a 4096 = true → sectorBad s.phys.flash a = true → Goes (.flashErase ok) s (ends s 3 3)) ∧
       (good → Goes (.flashErase true) s (ends { s with phys := { s.phys with flash := journalledErase s.phys.flash a } } 3 0)) ∧
       (good → Goes (.flashErase false) s (ends { s with
         free := s.free + 1
         phys := { s.phys with flash := flashPut begun a ((List.range 4096).map fun i => Config.flashByte s.free (a + i)) } } 3 2))) ∧
     (∀ v ok, runs 4 → locked ∨ v = false ∨ (∀ x ∈ hash, x = 0) → Goes (.fuseOwner v ok) s (ends s 4 4)) ∧
     (runs 4 → ¬ locked → (∃ x ∈ hash, x ≠ 0) →
       let u := s.blow 49 ((List.range 12).map fun i => BitVec.ofNat 32 (fld hash (4 * i) 4))
       Goes (.fuseOwner true true) s (ends (u.blow 71 [1]) 4 0) ∧ Goes (.fuseOwner true false) s (ends u 4 5)) ∧
     (∀ ok, runs 5 → Goes (.fuseDebugDisable false ok) s (ends s 5 4) ∧ Goes (.fuseDebugDisable true ok) s (ends (s.blow 71 [2]) 5 (if ok then 0 else 5))) ∧
     ((∀ n r, m.run ≠ some ⟨n, some r⟩) → Stays .mspiCommandDone s) ∧
     (∀ n r, m.run = some ⟨n, some r⟩ → Goes .mspiCommandDone s ((s.setMspi { m with run := none, done := true, result := r }).emit (.mspiIrq true)))) ∧
    (∀ (f : Tbl Byte) x b i, Tbl.wf 0xFF f = true →
      Tbl.get 0xFF i (flashPut f x b) = if x ≤ i ∧ i < x + b.length then b.getD (i - x) 0xFF else Tbl.get 0xFF i f) ∧
    (∀ w (v : Word), (s.blow w [v]).rel.fuses = Tbl.set 0 w (Tbl.get 0 w s.rel.fuses ||| v) s.rel.fuses) ∧
    (∀ i,
      let open_ := s.phys.straps.testEn = true ∧ s.debugDisabled = false
      (tapRestricted i = true → ¬ open_ → Goes (.tapInstructionUpdate i) s { s with phys := { s.phys with tap := .bypass } }) ∧
      (tapRestricted i = false ∨ open_ → Goes (.tapInstructionUpdate i) s { s with phys := { s.phys with tap := i } })) ∧
    (∀ w, Goes (.mergeFillThreshold w) s (s.setTraceUnit w ((s.traceUnit w).thresholds w (s.nowOf w))) ∧
      Goes (.traceMergerTurn w) s (s.setTraceUnit w ((s.traceUnit w).merge w (s.nowOf w)))) ∧
    (∀ w (u : TraceUnit) now,
      let src (i : Nat) : List TraceClause := if u.current = some i then [] else [⟨srcClause i, 0, [], false⟩]
      let fits (i : Nat) := u.fill + clauseBytes (src i) + (((u.source i).fifo.head?.map fun c => c.bytes.length).getD 0) ≤ mergeCap w
      let r (i : Nat) := mergeClauses (mergeCap w) now 16 false { u with buffer := u.buffer ++ src i, current := some i } (u.source i).fifo
      (u.turn (traceSources w) = none → u.merge w now = u) ∧
      (∀ i, u.turn (traceSources w) = some i → ¬ fits i → u.merge w now = u) ∧
      (∀ i, u.turn (traceSources w) = some i → fits i → u.merge w now =
        ({ (r i).1.setSource i { u.source i with fifo := (r i).2 } with pointer := (i + 1) % traceSources w }).drops now)) ∧
    (∀ p n cy, (s.dtc p).ready = false ∨ 16 ≤ n.val → Stays (.traceSourceCycle (.dtc p) n cy) s) ∧
    (∀ w (n : Fin 68) (cy : TraceCycle), (∀ p, w = .dtc p → (s.dtc p).ready = true ∧ n.val < 16) →
      let u := s.traceUnit w
      let k := u.source n.val
      let k1 := k.step (fifoCap w) (s.csOf w) (s.nowOf w) cy
      let flush := u.flush.map fun f => { f with count := f.count + ((k1.fifo.drop k.fifo.length).filter (·.marks.contains f.mark)).length }
      Goes (.traceSourceCycle w n cy) s ((s.setTraceUnit w { u.setSource n.val k1 with flush := flush }).endFlushes w)) ∧
    (∀ p, (s.dtc p).ready = false ∨ (s.dtc p).trace.record = [] ∨ (s.dtc p).now < (s.dtc p).trace.recordAt + 1000 → Stays (.traceRecordTimeout p) s) ∧
    (∀ p, (s.dtc p).ready = true → (s.dtc p).trace.record ≠ [] → (s.dtc p).trace.recordAt + 1000 ≤ (s.dtc p).now →
      Goes (.traceRecordTimeout p) s ((({ s with free := s.free + 1 }).setDtc p ((s.dtc p).closeTrace s.free)).endFlushes (.dtc p))) ∧
    (∀ w,
      let u := s.traceUnit w
      let gone (f : FlushWait) : Bool := !u.holdsMark f.mark && !u.recMarks.contains f.mark && f.recs.isEmpty
      (u.flush.filter gone = [] → s.endFlushes w = s) ∧
      (u.flush.filter gone ≠ [] → s.endFlushes w = (u.flush.filter gone).foldl (fun t f => t.final w f.ticket St.ok (be 4 f.count))
        (s.setTraceUnit w { u with flush := u.flush.filter fun f => !gone f }))) ∧
    (∀ (p : Fin 64) b,
      let n := p.val + 1
      let k := s.sink n
      let seq := fld b 0 2
      let gap := ∃ q, k.lastSeq = some q ∧ seq ≠ (q + 1) % 65536
      let clauses := sub b 4 (fld b 2 2)
      let src := if gap then none else k.src
      let after := sourceAfter clauses.length clauses src
      let owed := k.ovfs ++ (if gap ∧ 4 ∉ k.ovfs then [4] else [])
      let k1 : Sink := { k with lastSeq := some seq, ovfs := owed, src := src }
      let r := (s.setSink n k1).sinkWrite n clauses
      (s.active = false ∨ k.size = 0 → Goes (.traceRecordReceive p b) s (s.setSink n { k with lastSeq := some seq, src := after })) ∧
      (s.active = true → k.size ≠ 0 → r.2 = true → Goes (.traceRecordReceive p b) s r.1) ∧
      (s.active = true → k.size ≠ 0 → r.2 = false → Goes (.traceRecordReceive p b) s (s.setSink n { k1 with
        src := after, ovfs := if 5 ∈ owed then owed else owed ++ [5] }))) ∧
    (∀ (n : Fin 65) o, (s.sink n.val).size = 0 → Stays (.sinkRingPoll n o) s) ∧
    (∀ (n : Fin 65) (o : BitVec 64), (s.sink n.val).size ≠ 0 → Goes (.sinkRingPoll n o) s (s.setSink n.val { s.sink n.val with rd := o.toNat }))

/-- O60. What reset leaves: the values that the spec gives (R2, R16, R30, R31, R51, R58, R60, R62, R83, R125, R454, R471, R509), an empty queue, and a
flash in canonical form (which reads erased, the model's choice, log entry 4); a whole-chip reset clears the sync objects too and keeps flash, fuses
and time. -/
def Obligations.ResetLeavesTheSpecValues : Prop :=
  let r := State.reset
  r.pending = [] ∧ Memory.wf r.phys.flash = true ∧ (∀ a : Nat, Tbl.get 0xFF a r.phys.flash = 0xFF) ∧ versionRegister = 0x03020003 ∧
  r.phys.porLow = true ∧ r.dev.stage = 0 ∧ r.dev.fwReady = false ∧ r.dev.service = false ∧ r.pair.claiming = true ∧
  r.sys.epoch = 10000 ∧ r.sys.profile = .b ∧ r.sys.commanded = .b ∧ r.sys.lastOther = .b ∧
  (∀ d, (r.domain d).qualified = false ∧ (r.domain d).binding = .unbound ∧ (r.domain d).watchdogMs = 2000 ∧ (r.domain d).base = 0 ∧
    (r.domain d).incr = 0x0001000000000000#64) ∧
  r.time.sel.st = .init ∧ r.time.sel.slewRate = 100 ∧ r.timeValid = false ∧
  (∀ i, (Tbl.get ({} : Trigger) i r.time.trig).prog.mode = 0 ∧ (Tbl.get ({} : Capture) i r.time.cap).edges = 0) ∧
  r.verbs.etFabric.cur = 0x88B5 ∧ r.verbs.etMgmt.cur = 0x88B5 ∧ r.verbs.tags = [] ∧
  (∀ i, Tbl.get ({} : Qp) i r.dev.qp = {}) ∧
  (∀ p, (r.dtc p).scratch = 0 ∧ (r.dtc p).time.valid = false ∧ (r.dtc p).tapErrCount = 0 ∧ (r.dtc p).ready = false) ∧
  (∀ c, (Tbl.get ({} : Policer) c r.net.policers).cfg.mode = 0 ∧ (Tbl.get ({} : Policer) c r.net.policers).cfg.fbRate = 1000000 ∧
    (Tbl.get ({} : Policer) c r.net.policers).cfg.fbBurst = 256 ∧ (Tbl.get ({} : Policer) c r.net.policers).usedF = 0) ∧
  (∀ o, r.object o = {}) ∧ r.rel.schedule = 7200 ∧
  (∀ i, (r.island i).vstep = 0 ∧ (r.island i).fstep = 0) ∧ r.sec.debugAuth = none ∧ r.obs.recs = [] ∧
  ∀ (s : State) (o : Nat), s.wholeChipReset.object o = {} ∧ s.wholeChipReset.phys = s.phys ∧ s.wholeChipReset.rel.fuses = s.rel.fuses ∧
    s.wholeChipReset.time = s.time ∧ s.wholeChipReset.dev.stage = 1 ∧ s.wholeChipReset.dev.fwReady = false ∧ s.wholeChipReset.pair.claiming = true
end

