-- ==== Sys2Proof/Laws/Tbl.lean ====
section
/-! SUPPORT. Sparse tables: a read after a write, and that every write keeps the canonical form. -/

namespace Sys2Proof

theorem Tbl.risingFrom_weaken {α : Type} {lo hi : Nat} (h : hi ≤ lo) {t : Tbl α} (ht : t.risingFrom lo = true) : t.risingFrom hi = true := by
  cases t with
  | nil => rfl
  | cons e t =>
    simp only [Tbl.risingFrom, Bool.and_eq_true, decide_eq_true_eq] at ht ⊢
    exact ⟨by omega, ht.2⟩

theorem Tbl.find_below {α : Type} {k lo : Nat} (h : k < lo) {t : Tbl α} (ht : t.risingFrom lo = true) : t.find? k = none := by
  cases t with
  | nil => rfl
  | cons e t =>
    simp only [Tbl.risingFrom, Bool.and_eq_true, decide_eq_true_eq] at ht
    rw [Tbl.find?, if_neg (by omega), if_pos (by omega)]

theorem Tbl.erase_rising {α : Type} {lo k : Nat} {t : Tbl α} (ht : t.risingFrom lo = true) : (t.erase k).risingFrom lo = true := by
  induction t generalizing lo with
  | nil => rfl
  | cons e t ih =>
    simp only [Tbl.risingFrom, Bool.and_eq_true, decide_eq_true_eq] at ht
    rw [Tbl.erase]
    split
    · exact Tbl.risingFrom_weaken (by omega) ht.2
    · split
      · simpa only [Tbl.risingFrom, Bool.and_eq_true, decide_eq_true_eq] using ht
      · simpa only [Tbl.risingFrom, Bool.and_eq_true, decide_eq_true_eq] using ⟨ht.1, ih ht.2⟩

theorem Tbl.insert_rising {α : Type} {lo k : Nat} {v : α} (h : lo ≤ k) {t : Tbl α} (ht : t.risingFrom lo = true) : (t.insert k v).risingFrom lo = true := by
  induction t generalizing lo with
  | nil => simpa only [Tbl.insert, Tbl.risingFrom, Bool.and_eq_true, decide_eq_true_eq, and_true] using h
  | cons e t ih =>
    simp only [Tbl.risingFrom, Bool.and_eq_true, decide_eq_true_eq] at ht
    rw [Tbl.insert]
    split
    · simp only [Tbl.risingFrom, Bool.and_eq_true, decide_eq_true_eq]
      exact ⟨h, by rename_i hk; exact hk ▸ ht.2⟩
    · split
      · simp only [Tbl.risingFrom, Bool.and_eq_true, decide_eq_true_eq]
        exact ⟨h, by omega, ht.2⟩
      · simp only [Tbl.risingFrom, Bool.and_eq_true, decide_eq_true_eq]
        exact ⟨ht.1, ih (by omega) ht.2⟩

theorem Tbl.mem_erase {α : Type} {k : Nat} {t : Tbl α} {e : Nat × α} (h : e ∈ t.erase k) : e ∈ t := by
  induction t with
  | nil => exact h
  | cons a t ih =>
    rw [Tbl.erase] at h
    split at h
    · exact List.mem_cons_of_mem _ h
    · split at h
      · exact h
      · rcases List.mem_cons.mp h with h | h
        · exact h ▸ List.mem_cons_self
        · exact List.mem_cons_of_mem _ (ih h)

theorem Tbl.mem_insert {α : Type} {k : Nat} {v : α} {t : Tbl α} {e : Nat × α} (h : e ∈ t.insert k v) : e = (k, v) ∨ e ∈ t := by
  induction t with
  | nil => exact .inl (List.mem_singleton.mp h)
  | cons a t ih =>
    rw [Tbl.insert] at h
    split at h
    · rcases List.mem_cons.mp h with h | h
      · exact .inl h
      · exact .inr (List.mem_cons_of_mem _ h)
    · split at h
      · rcases List.mem_cons.mp h with h | h
        · exact .inl h
        · exact .inr h
      · rcases List.mem_cons.mp h with h | h
        · exact .inr (h ▸ List.mem_cons_self)
        · exact (ih h).imp id (List.mem_cons_of_mem _)

theorem Tbl.wf_iff {α : Type} [DecidableEq α] {d : α} {t : Tbl α} : Tbl.wf d t = true ↔ t.risingFrom 0 = true ∧ ∀ e ∈ t, e.2 ≠ d := by
  simp only [Tbl.wf, Bool.and_eq_true, List.all_eq_true, decide_eq_true_eq]

theorem Tbl.wf_nil {α : Type} [DecidableEq α] (d : α) : Tbl.wf d [] = true := rfl

/-- A write keeps the canonical form. -/
theorem Tbl.wf_set {α : Type} [DecidableEq α] {d v : α} {k : Nat} {t : Tbl α} (h : Tbl.wf d t = true) : Tbl.wf d (Tbl.set d k v t) = true := by
  rw [Tbl.wf_iff] at h ⊢
  unfold Tbl.set
  split
  · exact ⟨Tbl.erase_rising h.1, fun e he => h.2 e (Tbl.mem_erase he)⟩
  · refine ⟨Tbl.insert_rising (Nat.zero_le k) h.1, fun e he => ?_⟩
    rename_i hv
    rcases Tbl.mem_insert he with he | he
    · exact he ▸ hv
    · exact h.2 e he

/-- Leaving entries out keeps the canonical form. -/
theorem Tbl.rising_filter {α : Type} {p : Nat × α → Bool} {lo : Nat} {t : Tbl α} (h : t.risingFrom lo = true) :
    Tbl.risingFrom lo (t.filter p) = true := by
  induction t generalizing lo with
  | nil => rfl
  | cons e t ih =>
    simp only [Tbl.risingFrom, Bool.and_eq_true, decide_eq_true_eq] at h
    rw [List.filter_cons]
    split
    · simp only [Tbl.risingFrom, Bool.and_eq_true, decide_eq_true_eq]; exact ⟨h.1, ih h.2⟩
    · exact Tbl.risingFrom_weaken (by omega) (ih h.2)

theorem Tbl.wf_filter {α : Type} [DecidableEq α] {d : α} {p : Nat × α → Bool} {t : Tbl α} (h : Tbl.wf d t = true) : Tbl.wf d (t.filter p) = true := by
  rw [Tbl.wf_iff] at h ⊢
  exact ⟨Tbl.rising_filter h.1, fun e he => h.2 e (List.mem_filter.mp he).1⟩

/-! ## Reads after writes -/

theorem Tbl.find_erase_ne {α : Type} {k i : Nat} (h : i ≠ k) {lo : Nat} {t : Tbl α} (ht : t.risingFrom lo = true) : (t.erase k).find? i = t.find? i := by
  induction t generalizing lo with
  | nil => rfl
  | cons e t ih =>
    simp only [Tbl.risingFrom, Bool.and_eq_true, decide_eq_true_eq] at ht
    rw [Tbl.erase]
    split
    · rename_i hk
      rw [Tbl.find?, if_neg (by omega)]
      split
      · exact Tbl.find_below (by omega) ht.2
      · rfl
    · split
      · rfl
      · rw [Tbl.find?, Tbl.find?, ih ht.2]

theorem Tbl.find_erase_eq {α : Type} {k : Nat} {lo : Nat} {t : Tbl α} (ht : t.risingFrom lo = true) : (t.erase k).find? k = none := by
  induction t generalizing lo with
  | nil => rfl
  | cons e t ih =>
    simp only [Tbl.risingFrom, Bool.and_eq_true, decide_eq_true_eq] at ht
    rw [Tbl.erase]
    split
    · rename_i hk; exact Tbl.find_below (by omega) ht.2
    · split
      · rename_i h1 h2; rw [Tbl.find?, if_neg h1, if_pos h2]
      · rename_i h1 h2; rw [Tbl.find?, if_neg h1, if_neg h2, ih ht.2]

theorem Tbl.find_insert_eq {α : Type} {k : Nat} {v : α} {t : Tbl α} : (t.insert k v).find? k = some v := by
  induction t with
  | nil => simp only [Tbl.insert, Tbl.find?, if_true]
  | cons e t ih =>
    rw [Tbl.insert]
    split
    · simp only [Tbl.find?, if_true]
    · split
      · simp only [Tbl.find?, if_true]
      · rename_i h1 h2; rw [Tbl.find?, if_neg h1, if_neg h2, ih]

theorem Tbl.find_insert_ne {α : Type} {k i : Nat} {v : α} (h : i ≠ k) {lo : Nat} {t : Tbl α} (ht : t.risingFrom lo = true) :
    (t.insert k v).find? i = t.find? i := by
  induction t generalizing lo with
  | nil => simp only [Tbl.insert, Tbl.find?, if_neg (Ne.symm h), ite_self]
  | cons e t ih =>
    simp only [Tbl.risingFrom, Bool.and_eq_true, decide_eq_true_eq] at ht
    rw [Tbl.insert]
    split
    · rename_i hk
      show (if k = i then _ else _) = (if e.1 = i then _ else _)
      rw [if_neg (Ne.symm h), hk, if_neg (Ne.symm h)]
    · split
      · rw [Tbl.find?, if_neg (Ne.symm h)]
        split
        · rw [Tbl.find?, if_neg (by omega), if_pos (by omega)]
        · rfl
      · rw [Tbl.find?, Tbl.find?, ih ht.2]

/-- A read at the place of a write. -/
theorem Tbl.get_set_eq {α : Type} [DecidableEq α] {d v : α} {k : Nat} {t : Tbl α} (h : Tbl.wf d t = true) : Tbl.get d k (Tbl.set d k v t) = v := by
  rw [Tbl.wf_iff] at h
  unfold Tbl.set Tbl.get
  split
  · rename_i hv; rw [Tbl.find_erase_eq h.1, hv]; rfl
  · rw [Tbl.find_insert_eq]; rfl

/-- A read anywhere else. -/
theorem Tbl.get_set_ne {α : Type} [DecidableEq α] {d v : α} {k i : Nat} {t : Tbl α} (h : Tbl.wf d t = true) (hi : i ≠ k) :
    Tbl.get d i (Tbl.set d k v t) = Tbl.get d i t := by
  rw [Tbl.wf_iff] at h
  unfold Tbl.set Tbl.get
  split
  · rw [Tbl.find_erase_ne hi h.1]
  · rw [Tbl.find_insert_ne hi h.1]

end Sys2Proof
end

