-- ==== Sys2Proof/Laws/Hbm.lean ====
section
/-! SUPPORT. The listed bytes of the HBM keep rising addresses through every operation on them, and the operations change nothing else. -/

namespace Sys2Proof.Machine
open Sys2Proof

theorem rising_insertAll (t : Tbl Byte) (es : List (Byte × Nat)) (a : Nat) (h : t.risingFrom 0 = true) :
    (es.foldl (fun (u : Tbl Byte) e => Tbl.insert (a + e.2) e.1 u) t).risingFrom 0 = true := by
  induction es generalizing t with
  | nil => exact h
  | cons e es ih => exact ih _ (Tbl.insert_rising (Nat.zero_le _) h)

theorem putUnit_rising {s : State} {u : Nat} {b : Bytes} (h : s.hbm.cells.risingFrom 0 = true) : (s.putUnit u b).hbm.cells.risingFrom 0 = true :=
  rising_insertAll _ _ _ h

/-- A write to the HBM changes its listed bytes and nothing else. -/
theorem hbmWrite_spec (s : State) (a : Nat) (bs : Bytes) : ∃ c : Tbl Byte,
    s.hbmWrite a bs = { s with hbm := { s.hbm with cells := c } } ∧ (s.hbm.cells.risingFrom 0 = true → c.risingFrom 0 = true) := by
  unfold State.hbmWrite
  split
  · exact ⟨s.hbm.cells, rfl, id⟩
  · dsimp only
    generalize (chunks 64 _).zipIdx = l
    generalize a / 64 = k
    induction l generalizing s with
    | nil => exact ⟨s.hbm.cells, rfl, id⟩
    | cons e l ih =>
      obtain ⟨c, hc, hr⟩ := ih (s.putUnit (k + e.2) e.1)
      exact ⟨c, hc, fun h => hr (putUnit_rising h)⟩

theorem hbmWrite_rising {s : State} {a : Nat} {bs : Bytes} (h : s.hbm.cells.risingFrom 0 = true) : (s.hbmWrite a bs).hbm.cells.risingFrom 0 = true := by
  obtain ⟨c, hc, hr⟩ := hbmWrite_spec s a bs
  rw [hc]
  exact hr h

theorem storeImage_rising {s : State} {k off : Nat} {bs : Bytes} (h : s.hbm.cells.risingFrom 0 = true) :
    (s.storeImage k off bs).hbm.cells.risingFrom 0 = true := by
  unfold State.storeImage
  dsimp only
  generalize hs : s.setModel k _ = s1
  have h1 : s1.hbm.cells.risingFrom 0 = true := by rw [← hs]; exact h
  clear hs
  generalize List.range _ = l
  induction l generalizing s1 with
  | nil => exact h1
  | cons j l ih =>
    refine ih _ ?_
    dsimp only
    split
    · exact h1
    · exact hbmWrite_rising h1

theorem pagesZeroed_rising {s : State} {c : Nat} (h : s.hbm.cells.risingFrom 0 = true) : (s.pagesZeroed c).hbm.cells.risingFrom 0 = true :=
  Tbl.rising_filter h

end Sys2Proof.Machine
end

