-- ==== Sys2Proof/Laws/Lanes.lean ====
section
/-! SUPPORT. What goes through a lane's scrambler comes back out of the descrambler of the same register (R237). -/

namespace Sys2Proof.Machine
open Sys2Proof

theorem descramble_scramble (r : BitVec 58) (w : Word) : descramble r (scramble r w).2 = ((scramble r w).1, w) := by
  unfold scramble descramble
  refine Prod.ext rfl ?_
  simp only
  generalize (r >>> 7).setWidth 32 = a
  generalize (r >>> 26).setWidth 32 = b
  apply BitVec.eq_of_getLsbD_eq
  intro i _
  simp only [BitVec.getLsbD_xor]
  cases w.getLsbD i <;> cases a.getLsbD i <;> cases b.getLsbD i <;> rfl

/-- The same for a run of words. -/
theorem descramble_words (r : BitVec 58) (ws : List Word) :
    throughWords descramble r (throughWords scramble r ws).2 = ((throughWords scramble r ws).1, ws) := by
  induction ws generalizing r with
  | nil => rfl
  | cons w ws ih => simp only [throughWords, descramble_scramble, ih]

end Sys2Proof.Machine
end

