-- ==== Sys2Proof/Laws/PerInstr.lean ====
section
/-! SUPPORT. What form gives every command that carries a sentence: PLEN fits its 16 bits (R92), and its requester is one that the part's transports
have (R120, R126, R128). One lemma per command. -/

namespace Sys2Proof.Laws.Form
open Sys2Proof Sys2Proof.Machine

/-- A command in form that carries a sentence carries one whose PLEN fits its field and whose requester reaches its part. -/
def Statement (i : Instr) : Prop :=
  i.wellFormed = true → ∀ r : VerbCommand, verbRow i = some r →
    r.x.plen < 65536 ∧ (r.x.part = .agg → r.x.req ≠ .mailbox) ∧ ∀ p, r.x.part = .dtc p → r.x.req = .mailbox ∨ r.x.req = .pair

theorem of_sentenceOk {x : Sentence} (h : sentenceOk x = true) :
    x.plen < 65536 ∧ (x.part = .agg → x.req ≠ .mailbox) ∧ ∀ p, x.part = .dtc p → x.req = .mailbox ∨ x.req = .pair := by
  rw [sentenceOk, Bool.and_eq_true] at h
  refine ⟨of_decide_eq_true h.1, fun hp hr => ?_, fun p hp => ?_⟩
  · rw [hp, hr] at h
    exact absurd h.2 (by decide)
  · rw [hp] at h
    cases hr : x.req <;> rw [hr] at h
    case mailbox => exact Or.inl rfl
    case pair => exact Or.inr rfl
    all_goals exact absurd h.2 Bool.false_ne_true

theorem of_row {i : Instr} {x : Sentence} (w : i.wellFormed = sentenceOk x) (k : ∀ r, verbRow i = some r → r.x = x) : Statement i :=
  fun h r hr => by
    rw [k r hr]
    exact of_sentenceOk (w ▸ h)

theorem of_none {i : Instr} (h : verbRow i = none) : Statement i := fun _ r hr => by
  rw [h] at hr
  exact nomatch hr

theorem nop (x : Sentence) : Statement (.nop x) := of_row rfl fun _ h => by cases h; rfl
theorem getVersion (x : Sentence) : Statement (.getVersion x) := of_row rfl fun _ h => by cases h; rfl
theorem getCaps (x : Sentence) : Statement (.getCaps x) := of_row rfl fun _ h => by cases h; rfl
theorem getVerbCounters (x : Sentence) : Statement (.getVerbCounters x) := of_row rfl fun _ h => by cases h; rfl
theorem setTransport (x : Sentence) : Statement (.setTransport x) := of_row rfl fun _ h => by cases h; rfl
theorem setOid (x : Sentence) : Statement (.setOid x) := of_row rfl fun _ h => by cases h; rfl
theorem getTime (x : Sentence) : Statement (.getTime x) := of_row rfl fun _ h => by cases h; rfl
theorem setIncrement (x : Sentence) : Statement (.setIncrement x) := of_row rfl fun _ h => by cases h; rfl
theorem phaseAdd (x : Sentence) : Statement (.phaseAdd x) := of_row rfl fun _ h => by cases h; rfl
theorem setTime (x : Sentence) : Statement (.setTime x) := of_row rfl fun _ h => by cases h; rfl
theorem setDomainState (x : Sentence) : Statement (.setDomainState x) := of_row rfl fun _ h => by cases h; rfl
theorem setSelection (x : Sentence) : Statement (.setSelection x) := of_row rfl fun _ h => by cases h; rfl
theorem getSelection (x : Sentence) : Statement (.getSelection x) := of_row rfl fun _ h => by cases h; rfl
theorem setAsymmetry (x : Sentence) : Statement (.setAsymmetry x) := of_row rfl fun _ h => by cases h; rfl
theorem setTrigger (x : Sentence) : Statement (.setTrigger x) := of_row rfl fun _ h => by cases h; rfl
theorem getTrigger (x : Sentence) : Statement (.getTrigger x) := of_row rfl fun _ h => by cases h; rfl
theorem setCapture (x : Sentence) : Statement (.setCapture x) := of_row rfl fun _ h => by cases h; rfl
theorem readCaptures (x : Sentence) : Statement (.readCaptures x) := of_row rfl fun _ h => by cases h; rfl
theorem setFreqSource (x : Sentence) : Statement (.setFreqSource x) := of_row rfl fun _ h => by cases h; rfl
theorem setPtpPort (x : Sentence) : Statement (.setPtpPort x) := of_row rfl fun _ h => by cases h; rfl
theorem getPtpPort (x : Sentence) : Statement (.getPtpPort x) := of_row rfl fun _ h => by cases h; rfl
theorem setCounterSet (x : Sentence) : Statement (.setCounterSet x) := of_row rfl fun _ h => by cases h; rfl
theorem readCounters (x : Sentence) : Statement (.readCounters x) := of_row rfl fun _ h => by cases h; rfl
theorem freezeCounters (x : Sentence) : Statement (.freezeCounters x) := of_row rfl fun _ h => by cases h; rfl
theorem setReduction (x : Sentence) : Statement (.setReduction x) := of_row rfl fun _ h => by cases h; rfl
theorem setHistogram (x : Sentence) : Statement (.setHistogram x) := of_row rfl fun _ h => by cases h; rfl
theorem readSensors (x : Sentence) : Statement (.readSensors x) := of_row rfl fun _ h => by cases h; rfl
theorem readEventRing (x : Sentence) : Statement (.readEventRing x) := of_row rfl fun _ h => by cases h; rfl
theorem readHang (x : Sentence) : Statement (.readHang x) := of_row rfl fun _ h => by cases h; rfl
theorem setCheckValue (x : Sentence) : Statement (.setCheckValue x) := of_row rfl fun _ h => by cases h; rfl
theorem scanStart (x : Sentence) : Statement (.scanStart x) := of_row rfl fun _ h => by cases h; rfl
theorem scanAbort (x : Sentence) : Statement (.scanAbort x) := of_row rfl fun _ h => by cases h; rfl
theorem setTraceSource (x : Sentence) : Statement (.setTraceSource x) := of_row rfl fun _ h => by cases h; rfl
theorem setTraceSink (x : Sentence) : Statement (.setTraceSink x) := of_row rfl fun _ h => by cases h; rfl
theorem traceFlush (x : Sentence) : Statement (.traceFlush x) := of_row rfl fun _ h => by cases h; rfl
theorem getTraceStatus (x : Sentence) : Statement (.getTraceStatus x) := of_row rfl fun _ h => by cases h; rfl
theorem getLinkStatus (x : Sentence) : Statement (.getLinkStatus x) := of_row rfl fun _ h => by cases h; rfl
theorem linkRetrain (x : Sentence) : Statement (.linkRetrain x) := of_row rfl fun _ h => by cases h; rfl
theorem linkPrbs31Test (x : Sentence) : Statement (.linkPrbs31Test x) := of_row rfl fun _ h => by cases h; rfl
theorem linkLoopbackTest (x : Sentence) : Statement (.linkLoopbackTest x) := of_row rfl fun _ h => by cases h; rfl
theorem linkTakeOutOfService (x : Sentence) : Statement (.linkTakeOutOfService x) := of_row rfl fun _ h => by cases h; rfl
theorem linkReturnToService (x : Sentence) : Statement (.linkReturnToService x) := of_row rfl fun _ h => by cases h; rfl
theorem laneSwapRetire (x : Sentence) : Statement (.laneSwapRetire x) := of_row rfl fun _ h => by cases h; rfl
theorem laneSwapSetAutomatic (x : Sentence) : Statement (.laneSwapSetAutomatic x) := of_row rfl fun _ h => by cases h; rfl
theorem setCompression (x : Sentence) : Statement (.setCompression x) := of_row rfl fun _ h => by cases h; rfl
theorem getJournal (x : Sentence) : Statement (.getJournal x) := of_row rfl fun _ h => by cases h; rfl
theorem loadModel (x : Sentence) : Statement (.loadModel x) := of_row rfl fun _ h => by cases h; rfl
theorem unloadModel (x : Sentence) : Statement (.unloadModel x) := of_row rfl fun _ h => by cases h; rfl
theorem placeModel (x : Sentence) : Statement (.placeModel x) := of_row rfl fun _ h => by cases h; rfl
theorem setFeatureMap (x : Sentence) : Statement (.setFeatureMap x) := of_row rfl fun _ h => by cases h; rfl
theorem openSequence (x : Sentence) : Statement (.openSequence x) := of_row rfl fun _ h => by cases h; rfl
theorem closeSequence (x : Sentence) : Statement (.closeSequence x) := of_row rfl fun _ h => by cases h; rfl
theorem getJobs (x : Sentence) : Statement (.getJobs x) := of_row rfl fun _ h => by cases h; rfl
theorem getModelStatus (x : Sentence) : Statement (.getModelStatus x) := of_row rfl fun _ h => by cases h; rfl
theorem groupJoin (x : Sentence) : Statement (.groupJoin x) := of_row rfl fun _ h => by cases h; rfl
theorem groupLeave (x : Sentence) : Statement (.groupLeave x) := of_row rfl fun _ h => by cases h; rfl
theorem groupFence (x : Sentence) : Statement (.groupFence x) := of_row rfl fun _ h => by cases h; rfl
theorem groupSet (x : Sentence) : Statement (.groupSet x) := of_row rfl fun _ h => by cases h; rfl
theorem groupStatus (x : Sentence) : Statement (.groupStatus x) := of_row rfl fun _ h => by cases h; rfl
theorem readStragglers (x : Sentence) : Statement (.readStragglers x) := of_row rfl fun _ h => by cases h; rfl
theorem setBaseline (x : Sentence) : Statement (.setBaseline x) := of_row rfl fun _ h => by cases h; rfl
theorem routeSet (x : Sentence) : Statement (.routeSet x) := of_row rfl fun _ h => by cases h; rfl
theorem routeGet (x : Sentence) : Statement (.routeGet x) := of_row rfl fun _ h => by cases h; rfl
theorem policerSet (x : Sentence) : Statement (.policerSet x) := of_row rfl fun _ h => by cases h; rfl
theorem queueSet (x : Sentence) : Statement (.queueSet x) := of_row rfl fun _ h => by cases h; rfl
theorem shaperSet (x : Sentence) : Statement (.shaperSet x) := of_row rfl fun _ h => by cases h; rfl
theorem gateListSet (x : Sentence) : Statement (.gateListSet x) := of_row rfl fun _ h => by cases h; rfl
theorem gateListGet (x : Sentence) : Statement (.gateListGet x) := of_row rfl fun _ h => by cases h; rfl
theorem getPortStatus (x : Sentence) : Statement (.getPortStatus x) := of_row rfl fun _ h => by cases h; rfl
theorem syncInit (x : Sentence) : Statement (.syncInit x) := of_row rfl fun _ h => by cases h; rfl
theorem syncPost (x : Sentence) : Statement (.syncPost x) := of_row rfl fun _ h => by cases h; rfl
theorem syncPostOrdered (x : Sentence) : Statement (.syncPostOrdered x) := of_row rfl fun _ h => by cases h; rfl
theorem syncWait (x : Sentence) : Statement (.syncWait x) := of_row rfl fun _ h => by cases h; rfl
theorem syncRead (x : Sentence) : Statement (.syncRead x) := of_row rfl fun _ h => by cases h; rfl
theorem getHang (x : Sentence) : Statement (.getHang x) := of_row rfl fun _ h => by cases h; rfl
theorem forceFailover (x : Sentence) : Statement (.forceFailover x) := of_row rfl fun _ h => by cases h; rfl
theorem resetDtc (x : Sentence) : Statement (.resetDtc x) := of_row rfl fun _ h => by cases h; rfl
theorem getPairStatus (x : Sentence) : Statement (.getPairStatus x) := of_row rfl fun _ h => by cases h; rfl
theorem readAgeing (x : Sentence) : Statement (.readAgeing x) := of_row rfl fun _ h => by cases h; rfl
theorem runMarginPlan (x : Sentence) : Statement (.runMarginPlan x) := of_row rfl fun _ h => by cases h; rfl
theorem setMarginSchedule (x : Sentence) : Statement (.setMarginSchedule x) := of_row rfl fun _ h => by cases h; rfl
theorem getMargins (x : Sentence) : Statement (.getMargins x) := of_row rfl fun _ h => by cases h; rfl
theorem runScreenPack (x : Sentence) : Statement (.runScreenPack x) := of_row rfl fun _ h => by cases h; rfl
theorem listScreenPacks (x : Sentence) : Statement (.listScreenPacks x) := of_row rfl fun _ h => by cases h; rfl
theorem readSilentErrors (x : Sentence) : Statement (.readSilentErrors x) := of_row rfl fun _ h => by cases h; rfl
theorem pinBehaviour (x : Sentence) : Statement (.pinBehaviour x) := of_row rfl fun _ h => by cases h; rfl
theorem getFuseStatus (x : Sentence) : Statement (.getFuseStatus x) := of_row rfl fun _ h => by cases h; rfl
theorem getAttestation (x : Sentence) : Statement (.getAttestation x) := of_row rfl fun _ h => by cases h; rfl
theorem keyReleaseBegin (x : Sentence) : Statement (.keyReleaseBegin x) := of_row rfl fun _ h => by cases h; rfl
theorem keyInstall (x : Sentence) : Statement (.keyInstall x) := of_row rfl fun _ h => by cases h; rfl
theorem keyRevoke (x : Sentence) : Statement (.keyRevoke x) := of_row rfl fun _ h => by cases h; rfl
theorem debugAuthorise (x : Sentence) : Statement (.debugAuthorise x) := of_row rfl fun _ h => by cases h; rfl
theorem getAccessMap (x : Sentence) : Statement (.getAccessMap x) := of_row rfl fun _ h => by cases h; rfl
theorem readSelfCounters (x : Sentence) : Statement (.readSelfCounters x) := of_row rfl fun _ h => by cases h; rfl
theorem freeze (x : Sentence) : Statement (.freeze x) := of_row rfl fun _ h => by cases h; rfl
theorem readRecords (x : Sentence) : Statement (.readRecords x) := of_row rfl fun _ h => by cases h; rfl
theorem checkValue (x : Sentence) : Statement (.checkValue x) := of_row rfl fun _ h => by cases h; rfl
theorem compress (x : Sentence) : Statement (.compress x) := of_row rfl fun _ h => by cases h; rfl
theorem decompress (x : Sentence) : Statement (.decompress x) := of_row rfl fun _ h => by cases h; rfl
theorem getProfile (x : Sentence) : Statement (.getProfile x) := of_row rfl fun _ h => by cases h; rfl
theorem setProfile (x : Sentence) : Statement (.setProfile x) := of_row rfl fun _ h => by cases h; rfl
theorem getEpoch (x : Sentence) : Statement (.getEpoch x) := of_row rfl fun _ h => by cases h; rfl
theorem setEpoch (x : Sentence) : Statement (.setEpoch x) := of_row rfl fun _ h => by cases h; rfl
theorem stage (x : Sentence) : Statement (.stage x) := of_row rfl fun _ h => by cases h; rfl
theorem commit (x : Sentence) : Statement (.commit x) := of_row rfl fun _ h => by cases h; rfl
theorem discard (x : Sentence) : Statement (.discard x) := of_row rfl fun _ h => by cases h; rfl
theorem getStaged (x : Sentence) : Statement (.getStaged x) := of_row rfl fun _ h => by cases h; rfl
theorem stagedSetPrepared (r : Requester) : Statement (.stagedSetPrepared r) := of_none rfl
theorem stagedSetApply (r : Requester) : Statement (.stagedSetApply r) := of_none rfl
theorem stageExpiry (r : Requester) : Statement (.stageExpiry r) := of_none rfl
theorem fabricFrameReceive (port : Fin 17) (f : Frame) : Statement (.fabricFrameReceive port f) := of_none rfl
theorem forwardedReplyReceive (p : Fin 64) (l : LinkId) (reply : Bytes) : Statement (.forwardedReplyReceive p l reply) := of_none rfl
theorem forwardResendTimeout (p : Fin 64) (ftag : Word) : Statement (.forwardResendTimeout p ftag) := of_none rfl
theorem forwardLinkTimeout (p : Fin 64) (ftag : Word) : Statement (.forwardLinkTimeout p ftag) := of_none rfl
theorem qpEnable (n : Fin 64) (msiEn : Bool) : Statement (.qpEnable n msiEn) := of_none rfl
theorem qpDisable (n : Fin 64) (msiEn : Bool) : Statement (.qpDisable n msiEn) := of_none rfl
theorem qpSqTailDoorbell (n : Fin 64) (v : Word) : Statement (.qpSqTailDoorbell n v) := of_none rfl
theorem qpCqHeadDoorbell (n : Fin 64) (v : Word) : Statement (.qpCqHeadDoorbell n v) := of_none rfl
theorem sentenceFetch (e : HostEntry) : Statement (.sentenceFetch e) := of_none rfl
theorem submissionReadFail (n : Fin 64) : Statement (.submissionReadFail n) := of_none rfl
theorem syncDoorbell (o : BitVec 15) (v : Word) : Statement (.syncDoorbell o v) := of_none rfl
theorem barRegisterWrite (reg : BarReg) (v : Word) : Statement (.barRegisterWrite reg v) := of_none rfl
theorem scRelease (v : Word) : Statement (.scRelease v) := of_none rfl
theorem recCursorWrite (v : Word) : Statement (.recCursorWrite v) := of_none rfl
theorem timeW0Read (part : Part) : Statement (.timeW0Read part) := of_none rfl
theorem trbRegisterWrite (p : Fin 64) (off : BitVec 16) (be : BitVec 4) (v : Word) : Statement (.trbRegisterWrite p off be v) := of_none rfl
theorem adpResetGo (p : Fin 64) (ties : DtcTies) : Statement (.adpResetGo p ties) := of_none rfl
theorem mailboxGo (p : Fin 64) (len : BitVec 9) : Statement (.mailboxGo p len) := of_none rfl
theorem dtcOriginatedReply (p : Fin 64) (l : LinkId) (reply : Bytes) : Statement (.dtcOriginatedReply p l reply) := of_none rfl
theorem dtcColdReset (p : Fin 64) (ties : DtcTies) : Statement (.dtcColdReset p ties) := of_none rfl
theorem dtcReset (p : Fin 64) (ties : DtcTies) : Statement (.dtcReset p ties) := of_none rfl
theorem dtcReady (p : Fin 64) : Statement (.dtcReady p) := of_none rfl
theorem tapAliveChange (p : Fin 64) (g : Fin 64) (alive : Bool) : Statement (.tapAliveChange p g alive) := of_none rfl
theorem tapCodeInvalid (p : Fin 64) (g : Fin 64) (line : Fin 64) (code : BitVec 3) : Statement (.tapCodeInvalid p g line code) := of_none rfl
theorem sensorSample (p : Fin 64) (chan : Fin 64) (word : BitVec 20) (fromRpd : Bool) : Statement (.sensorSample p chan word fromRpd) := of_none rfl
theorem sensorStale (p : Fin 64) (chan : Fin 64) : Statement (.sensorStale p chan) := of_none rfl
theorem queueStateUpdate (p : Fin 64) (q : Fin 256) (st : QueueState) : Statement (.queueStateUpdate p q st) := of_none rfl
theorem hangEvaluation (p : Fin 64) : Statement (.hangEvaluation p) := of_none rfl
theorem hostEvent (p : Fin 64) (unit : Fin 64) (code data : BitVec 16) : Statement (.hostEvent p unit code data) := of_none rfl
theorem eventRingAgeCheck (p : Fin 64) : Statement (.eventRingAgeCheck p) := of_none rfl
theorem hmResponseBeat (p : Fin 64) (data : Bytes) (last err : Bool) : Statement (.hmResponseBeat p data last err) := of_none rfl
theorem hmResponseTimeout (p : Fin 64) : Statement (.hmResponseTimeout p) := of_none rfl
theorem sramEccError (p : Fin 64) (hit : EccHit) : Statement (.sramEccError p hit) := of_none rfl
theorem dtcEpochTick (p : Fin 64) : Statement (.dtcEpochTick p) := of_none rfl
theorem captureEdge (part : Part) (i : Fin 16) (rising : Bool) (phase : Fin 8) : Statement (.captureEdge part i rising phase) := of_none rfl
theorem collectionConfigActivation (p : Fin 64) : Statement (.collectionConfigActivation p) := of_none rfl
theorem journalFrameBuild (p : Fin 64) : Statement (.journalFrameBuild p) := of_none rfl
theorem linkSlot (side : Side) (p : Fin 64) (l : LinkId) : Statement (.linkSlot side p l) := of_none rfl
theorem linkFrameReceive (side : Side) (p : Fin 64) (l : LinkId) (frame : Bytes) : Statement (.linkFrameReceive side p l frame) := of_none rfl
theorem ackReceive (p : Fin 64) (l : LinkId) (nextSeq : Word) (missing : List Word) : Statement (.ackReceive p l nextSeq missing) := of_none rfl
theorem journalResendTimeout (p : Fin 64) (l : LinkId) : Statement (.journalResendTimeout p l) := of_none rfl
theorem fcrcWindowEnd (side : Side) (p : Fin 64) (l : LinkId) : Statement (.fcrcWindowEnd side p l) := of_none rfl
theorem trainingBlockReceive (q : PortEnd) (l : LinkId) (lane : Fin 3) (word0 word1 : Word) (rest : Bytes) : Statement (.trainingBlockReceive q l lane word0 word1 rest) :=
  of_none rfl
theorem laneLockChange (q : PortEnd) (lane : Fin 6) (lock : Bool) (txlat rxlat : BitVec 16) : Statement (.laneLockChange q lane lock txlat rxlat) :=
  of_none rfl
theorem laneMarginAlarm (w : LanePlace) (lane : Fin 5) (margin : Byte) : Statement (.laneMarginAlarm w lane margin) := of_none rfl
theorem beaconSend (p : Fin 64) : Statement (.beaconSend p) := of_none rfl
theorem beaconReceive (p : Fin 64) (l : LinkId) (data : Bytes) : Statement (.beaconReceive p l data) := of_none rfl
theorem timeEchoSend (p : Fin 64) (l : LinkId) : Statement (.timeEchoSend p l) := of_none rfl
theorem timeEchoReceive (p : Fin 64) (data : Bytes) : Statement (.timeEchoReceive p data) := of_none rfl
theorem dtcDiscipline (p : Fin 64) : Statement (.dtcDiscipline p) := of_none rfl
theorem dtcHoldoverEntry (p : Fin 64) : Statement (.dtcHoldoverEntry p) := of_none rfl
theorem linkCtrlStart (p : Fin 64) (l : LinkId) (seq : Word) (reset : Bool) : Statement (.linkCtrlStart p l seq reset) := of_none rfl
theorem linkCtrlResume (p : Fin 64) (l : LinkId) (seq : Word) : Statement (.linkCtrlResume p l seq) := of_none rfl
theorem swapReqReceive (w : LanePlace) (lane : Fin 5) : Statement (.swapReqReceive w lane) := of_none rfl
theorem swapMirrorReceive (w : LanePlace) (lane : Fin 5) (matched : Bool) : Statement (.swapMirrorReceive w lane matched) := of_none rfl
theorem swapDoneReceive (w : LanePlace) (lane : Option (Fin 5)) : Statement (.swapDoneReceive w lane) := of_none rfl
theorem linkCtrlRetrainReceive (side : Side) (p : Fin 64) (l : LinkId) : Statement (.linkCtrlRetrainReceive side p l) := of_none rfl
theorem swapTimeout (w : LanePlace) : Statement (.swapTimeout w) := of_none rfl
theorem linkEnterService (side : Side) (p : Fin 64) (l : LinkId) : Statement (.linkEnterService side p l) := of_none rfl
theorem linkLeaveService (side : Side) (p : Fin 64) (l : LinkId) : Statement (.linkLeaveService side p l) := of_none rfl
theorem linkHoldExpiry (side : Side) (p : Fin 64) (l : LinkId) : Statement (.linkHoldExpiry side p l) := of_none rfl
theorem bodyIngest (p : Fin 64) : Statement (.bodyIngest p) := of_none rfl
theorem featureCutoff (p : Fin 64) : Statement (.featureCutoff p) := of_none rfl
theorem vectorStart (half : Fin 2) : Statement (.vectorStart half) := of_none rfl
theorem vectorComplete (half : Fin 2) : Statement (.vectorComplete half) := of_none rfl
theorem workDispatch (c : Fin 64) : Statement (.workDispatch c) := of_none rfl
theorem descriptorComplete (t : Fin 4096) : Statement (.descriptorComplete t) := of_none rfl
theorem tartletEccError (t : Fin 4096) (region : MemRegion) (addr : Nat) : Statement (.tartletEccError t region addr) := of_none rfl
theorem sequenceStep (idx : Fin 65536) : Statement (.sequenceStep idx) := of_none rfl
theorem streamChunkLoaded (m : ModelKey) : Statement (.streamChunkLoaded m) := of_none rfl
theorem streamPassStart (m : ModelKey) : Statement (.streamPassStart m) := of_none rfl
theorem placeCopyComplete (m : ModelKey) : Statement (.placeCopyComplete m) := of_none rfl
theorem placementEffective (m : ModelKey) : Statement (.placementEffective m) := of_none rfl
theorem unloadEffective (m : ModelKey) : Statement (.unloadEffective m) := of_none rfl
theorem featureMapEffective (m : ModelKey) : Statement (.featureMapEffective m) := of_none rfl
theorem loadTimeout (m : ModelKey) : Statement (.loadTimeout m) := of_none rfl
theorem replicaDigestScan (m : ModelKey) : Statement (.replicaDigestScan m) := of_none rfl
theorem replicaDigestComplete (m : ModelKey) (found : List SlotFault) : Statement (.replicaDigestComplete m found) := of_none rfl
theorem requestReceive (q : RequestIn) : Statement (.requestReceive q) := of_none rfl
theorem responseStoreExpiry : Statement .responseStoreExpiry := of_none rfl
theorem bucketRefill : Statement .bucketRefill := of_none rfl
theorem policerMemoryError (addr : Word) : Statement (.policerMemoryError addr) := of_none rfl
theorem egressSelect (port : Fin 17) : Statement (.egressSelect port) := of_none rfl
theorem gateEntryBoundary (port : Fin 16) : Statement (.gateEntryBoundary port) := of_none rfl
theorem gateListActivation (port : Fin 16) : Statement (.gateListActivation port) := of_none rfl
theorem portHelloSend (port : Fin 16) : Statement (.portHelloSend port) := of_none rfl
theorem portControlReceive (port : Fin 16) (op lane : Byte) : Statement (.portControlReceive port op lane) := of_none rfl
theorem spareFallbackTimeout (port : Fin 16) : Statement (.spareFallbackTimeout port) := of_none rfl
theorem fecWindowEnd (port : Fin 16) (uncorrectable : Nat) : Statement (.fecWindowEnd port uncorrectable) := of_none rfl
theorem portRetrain (port : Fin 16) (cause : PortCause) : Statement (.portRetrain port cause) := of_none rfl
theorem portOutageTimeout (port : Fin 16) : Statement (.portOutageTimeout port) := of_none rfl
theorem portInService (port : Fin 16) : Statement (.portInService port) := of_none rfl
theorem portSwapTimeout (port : Fin 16) : Statement (.portSwapTimeout port) := of_none rfl
theorem localContributionCutoff (g : BitVec 24) : Statement (.localContributionCutoff g) := of_none rfl
theorem reductionFrameReceive (source : Word) (frame : Bytes) : Statement (.reductionFrameReceive source frame) := of_none rfl
theorem nodeFold (g : BitVec 24) (close : BitVec 64) (pass : Fin 3) (level : Fin 5) : Statement (.nodeFold g close pass level) := of_none rfl
theorem stragglerCutoff (g : BitVec 24) (close : BitVec 64) : Statement (.stragglerCutoff g close) := of_none rfl
theorem closeAbandon (g : BitVec 24) (close : BitVec 64) : Statement (.closeAbandon g close) := of_none rfl
theorem groupFenceTick (g : BitVec 24) : Statement (.groupFenceTick g) := of_none rfl
theorem groupChangeEffective (g : BitVec 24) : Statement (.groupChangeEffective g) := of_none rfl
theorem epochTick : Statement .epochTick := of_none rfl
theorem epochChangeActivation : Statement .epochChangeActivation := of_none rfl
theorem profileChangeEffective : Statement .profileChangeEffective := of_none rfl
theorem thermalCrossing (island : Fin 97) (tj : BitVec 16) : Statement (.thermalCrossing island tj) := of_none rfl
theorem thermalHoldEntry : Statement .thermalHoldEntry := of_none rfl
theorem thermalHoldReturn : Statement .thermalHoldReturn := of_none rfl
theorem lendClustersOff : Statement .lendClustersOff := of_none rfl
theorem clusterPowerUp : Statement .clusterPowerUp := of_none rfl
theorem clusterReloadComplete (c : Fin 64) : Statement (.clusterReloadComplete c) := of_none rfl
theorem powerWindow (avg : BitVec 16) : Statement (.powerWindow avg) := of_none rfl
theorem thermalTrip (island : Fin 97) : Statement (.thermalTrip island) := of_none rfl
theorem thermtripRelease : Statement .thermtripRelease := of_none rfl
theorem tripRailRestore : Statement .tripRailRestore := of_none rfl
theorem selectionEvaluation : Statement .selectionEvaluation := of_none rfl
theorem waitToRestoreExpiry : Statement .waitToRestoreExpiry := of_none rfl
theorem residualReachesZero (part : Part) : Statement (.residualReachesZero part) := of_none rfl
theorem domainWatchdogExpiry (d : Fin 2) : Statement (.domainWatchdogExpiry d) := of_none rfl
theorem ppsSilenceTimeout (d : Fin 2) : Statement (.ppsSilenceTimeout d) := of_none rfl
theorem ppsPulse (i : Fin 2) (phase : Fin 8) : Statement (.ppsPulse i phase) := of_none rfl
theorem todMessage (i : Fin 2) (msg : Bytes) : Statement (.todMessage i msg) := of_none rfl
theorem ptpMessageReceive (port : Fin 17) (m : PtpMessage) : Statement (.ptpMessageReceive port m) := of_none rfl
theorem ptpMessageSend (port : Fin 17) (kind : PtpSend) : Statement (.ptpMessageSend port kind) := of_none rfl
theorem esmcReceive (port : Fin 16) (ql : Byte) : Statement (.esmcReceive port ql) := of_none rfl
theorem freqReferenceChange (cand : Byte) (lossOfSignal : Bool) : Statement (.freqReferenceChange cand lossOfSignal) := of_none rfl
theorem triggerEdge (part : Part) (i : Fin 16) : Statement (.triggerEdge part i) := of_none rfl
theorem claimSend : Statement .claimSend := of_none rfl
theorem claimReceive (path : PairPath) (item : Bytes) : Statement (.claimReceive path item) := of_none rfl
theorem claimTimeout : Statement .claimTimeout := of_none rfl
theorem heartbeatSend : Statement .heartbeatSend := of_none rfl
theorem heartbeatReceive (path : PairPath) (item : Bytes) : Statement (.heartbeatReceive path item) := of_none rfl
theorem takeoverNoticeReceive (path : PairPath) (item : Bytes) : Statement (.takeoverNoticeReceive path item) := of_none rfl
theorem relinquishReceive (path : PairPath) (item : Bytes) : Statement (.relinquishReceive path item) := of_none rfl
theorem activeLost : Statement .activeLost := of_none rfl
theorem mirrorEntryReceive (entry : Bytes) : Statement (.mirrorEntryReceive entry) := of_none rfl
theorem mirrorAckReceive (mseq : BitVec 64) : Statement (.mirrorAckReceive mseq) := of_none rfl
theorem mirrorGapTimeout : Statement .mirrorGapTimeout := of_none rfl
theorem checkpointStart : Statement .checkpointStart := of_none rfl
theorem checkpointCommitReceive (c : Word) (digests : List (Nat × BitVec 64)) : Statement (.checkpointCommitReceive c digests) := of_none rfl
theorem checkpointAbort : Statement .checkpointAbort := of_none rfl
theorem deadlockScan : Statement .deadlockScan := of_none rfl
theorem waitTimeout (o : BitVec 15) (r : Requester) (tag : Word) : Statement (.waitTimeout o r tag) := of_none rfl
theorem orderedPostApply (r : Requester) (tag : Word) : Statement (.orderedPostApply r tag) := of_none rfl
theorem orderedPostTimeout (r : Requester) (tag : Word) : Statement (.orderedPostTimeout r tag) := of_none rfl
theorem hangHandlingEntry (cause : HangCause) (unit : Word) : Statement (.hangHandlingEntry cause unit) := of_none rfl
theorem lastWordsComplete (partnerCopy : Bool) : Statement (.lastWordsComplete partnerCopy) := of_none rfl
theorem readmission : Statement .readmission := of_none rfl
theorem porRelease (straps : Straps) : Statement (.porRelease straps) := of_none rfl
theorem bootStageComplete (r : StageResult) : Statement (.bootStageComplete r) := of_none rfl
theorem marginPlanScheduled : Statement .marginPlanScheduled := of_none rfl
theorem marginPlanComplete : Statement .marginPlanComplete := of_none rfl
theorem marginPlanApply (acked : List (Nat × Bool)) : Statement (.marginPlanApply acked) := of_none rfl
theorem fstepDecrease : Statement .fstepDecrease := of_none rfl
theorem ageingSample (samples : List IslandSample) : Statement (.ageingSample samples) := of_none rfl
theorem marginRefresh (readings : List MarginReading) : Statement (.marginRefresh readings) := of_none rfl
theorem ageingWeek : Statement .ageingWeek := of_none rfl
theorem screenTestOutcome (r : ScreenOutcome) : Statement (.screenTestOutcome r) := of_none rfl
theorem recordAccept : Statement .recordAccept := of_none rfl
theorem persistenceWrite (n : Nat) : Statement (.persistenceWrite n) := of_none rfl
theorem releaseExpiry (id : Word) : Statement (.releaseExpiry id) := of_none rfl
theorem keyRevokeEffective (slot : BitVec 10) : Statement (.keyRevokeEffective slot) := of_none rfl
theorem debugAuthExpiry : Statement .debugAuthExpiry := of_none rfl
theorem pinEffective (part : Part) : Statement (.pinEffective part) := of_none rfl
theorem mergeFillThreshold (part : Part) : Statement (.mergeFillThreshold part) := of_none rfl
theorem traceRecordTimeout (p : Fin 64) : Statement (.traceRecordTimeout p) := of_none rfl
theorem traceRecordReceive (p : Fin 64) (body : Bytes) : Statement (.traceRecordReceive p body) := of_none rfl
theorem sinkRingPoll (stream : Fin 65) (readOffset : BitVec 64) : Statement (.sinkRingPoll stream readOffset) := of_none rfl
theorem mspiTransaction (t : SpiTransaction) : Statement (.mspiTransaction t) := of_none rfl
theorem flashRead : Statement .flashRead := of_none rfl
theorem flashProgram (ok : Bool) : Statement (.flashProgram ok) := of_none rfl
theorem flashErase (ok : Bool) : Statement (.flashErase ok) := of_none rfl
theorem fuseOwner (vqps verified : Bool) : Statement (.fuseOwner vqps verified) := of_none rfl
theorem fuseDebugDisable (vqps verified : Bool) : Statement (.fuseDebugDisable vqps verified) := of_none rfl
theorem mspiCommandDone : Statement .mspiCommandDone := of_none rfl
theorem checkValueScanComplete (unit : Fin 6) (data : Bytes) (failAddr : Option (BitVec 64)) : Statement (.checkValueScanComplete unit data failAddr) :=
  of_none rfl
theorem compressionEngineComplete (engine : Fin 4) (source : Bytes) : Statement (.compressionEngineComplete engine source) := of_none rfl
theorem storePageZeroingComplete (ctx : BitVec 10) : Statement (.storePageZeroingComplete ctx) := of_none rfl
theorem selfCounterBankWritten (bank : Fin 2) : Statement (.selfCounterBankWritten bank) := of_none rfl
theorem policerRewriteComplete : Statement .policerRewriteComplete := of_none rfl
theorem slotReloadComplete (t : Fin 4096) (bank : Fin 4) (slot : Fin 25) : Statement (.slotReloadComplete t bank slot) := of_none rfl
theorem traceSourceCycle (part : Part) (src : Fin 68) (cy : TraceCycle) : Statement (.traceSourceCycle part src cy) := of_none rfl
theorem traceMergerTurn (part : Part) : Statement (.traceMergerTurn part) := of_none rfl
theorem tapGroupClockEdge (p : Fin 64) (g : Fin 64) (codes : List (BitVec 3)) : Statement (.tapGroupClockEdge p g codes) := of_none rfl
theorem porNAssert : Statement .porNAssert := of_none rfl
theorem pciePerstRelease : Statement .pciePerstRelease := of_none rfl
theorem tapInstructionUpdate (ir : TapInstruction) : Statement (.tapInstructionUpdate ir) := of_none rfl
theorem esmcSend (port : Fin 16) : Statement (.esmcSend port) := of_none rfl
theorem trbUnmappedRead (p : Fin 64) (off : BitVec 16) : Statement (.trbUnmappedRead p off) := of_none rfl

end Sys2Proof.Laws.Form
end

