-- ==== Sys2Proof/Laws/State.lean ====
section
/-! SUPPORT. What the named updates of State leave alone, one lemma for each field, and what a read after its own write gives. -/

namespace Sys2Proof.Machine
open Sys2Proof

@[simp] theorem State.setDtc_pending (s : State) (p : Fin 64) (d : Dtc) : (s.setDtc p d).pending = s.pending := rfl
@[simp] theorem State.setDtc_free (s : State) (p : Fin 64) (d : Dtc) : (s.setDtc p d).free = s.free := rfl
@[simp] theorem State.setDtc_out (s : State) (p : Fin 64) (d : Dtc) : (s.setDtc p d).out = s.out := rfl
@[simp] theorem State.setDtc_time (s : State) (p : Fin 64) (d : Dtc) : (s.setDtc p d).time = s.time := rfl
@[simp] theorem State.setDtc_sys (s : State) (p : Fin 64) (d : Dtc) : (s.setDtc p d).sys = s.sys := rfl
@[simp] theorem State.setDtc_verbs (s : State) (p : Fin 64) (d : Dtc) : (s.setDtc p d).verbs = s.verbs := rfl
@[simp] theorem State.setDtc_dev (s : State) (p : Fin 64) (d : Dtc) : (s.setDtc p d).dev = s.dev := rfl
@[simp] theorem State.setDtc_sec (s : State) (p : Fin 64) (d : Dtc) : (s.setDtc p d).sec = s.sec := rfl
@[simp] theorem State.setDtc_obs (s : State) (p : Fin 64) (d : Dtc) : (s.setDtc p d).obs = s.obs := rfl
@[simp] theorem State.setDtc_phys (s : State) (p : Fin 64) (d : Dtc) : (s.setDtc p d).phys = s.phys := rfl
@[simp] theorem State.setDtc_hbm (s : State) (p : Fin 64) (d : Dtc) : (s.setDtc p d).hbm = s.hbm := rfl
@[simp] theorem State.setDtc_net (s : State) (p : Fin 64) (d : Dtc) : (s.setDtc p d).net = s.net := rfl
@[simp] theorem State.setDtc_data (s : State) (p : Fin 64) (d : Dtc) : (s.setDtc p d).data = s.data := rfl
@[simp] theorem State.setDtc_rel (s : State) (p : Fin 64) (d : Dtc) : (s.setDtc p d).rel = s.rel := rfl
@[simp] theorem State.setDtc_sync (s : State) (p : Fin 64) (d : Dtc) : (s.setDtc p d).sync = s.sync := rfl
@[simp] theorem State.setDtc_pair (s : State) (p : Fin 64) (d : Dtc) : (s.setDtc p d).pair = s.pair := rfl
@[simp] theorem State.setDtc_hub (s : State) (p : Fin 64) (d : Dtc) : (s.setDtc p d).hub = s.hub := rfl
@[simp] theorem State.setDtc_sinks (s : State) (p : Fin 64) (d : Dtc) : (s.setDtc p d).sinks = s.sinks := rfl
@[simp] theorem State.setDtc_ports (s : State) (p : Fin 64) (d : Dtc) : (s.setDtc p d).ports = s.ports := rfl

@[simp] theorem State.onDtc_pending (s : State) (p : Fin 64) (f : Dtc → Dtc) : (s.onDtc p f).pending = s.pending := rfl
@[simp] theorem State.onDtc_free (s : State) (p : Fin 64) (f : Dtc → Dtc) : (s.onDtc p f).free = s.free := rfl
@[simp] theorem State.onDtc_out (s : State) (p : Fin 64) (f : Dtc → Dtc) : (s.onDtc p f).out = s.out := rfl
@[simp] theorem State.onDtc_time (s : State) (p : Fin 64) (f : Dtc → Dtc) : (s.onDtc p f).time = s.time := rfl
@[simp] theorem State.onDtc_sys (s : State) (p : Fin 64) (f : Dtc → Dtc) : (s.onDtc p f).sys = s.sys := rfl
@[simp] theorem State.onDtc_verbs (s : State) (p : Fin 64) (f : Dtc → Dtc) : (s.onDtc p f).verbs = s.verbs := rfl
@[simp] theorem State.onDtc_dev (s : State) (p : Fin 64) (f : Dtc → Dtc) : (s.onDtc p f).dev = s.dev := rfl
@[simp] theorem State.onDtc_sec (s : State) (p : Fin 64) (f : Dtc → Dtc) : (s.onDtc p f).sec = s.sec := rfl
@[simp] theorem State.onDtc_obs (s : State) (p : Fin 64) (f : Dtc → Dtc) : (s.onDtc p f).obs = s.obs := rfl
@[simp] theorem State.onDtc_phys (s : State) (p : Fin 64) (f : Dtc → Dtc) : (s.onDtc p f).phys = s.phys := rfl
@[simp] theorem State.onDtc_hbm (s : State) (p : Fin 64) (f : Dtc → Dtc) : (s.onDtc p f).hbm = s.hbm := rfl
@[simp] theorem State.onDtc_net (s : State) (p : Fin 64) (f : Dtc → Dtc) : (s.onDtc p f).net = s.net := rfl
@[simp] theorem State.onDtc_data (s : State) (p : Fin 64) (f : Dtc → Dtc) : (s.onDtc p f).data = s.data := rfl
@[simp] theorem State.onDtc_rel (s : State) (p : Fin 64) (f : Dtc → Dtc) : (s.onDtc p f).rel = s.rel := rfl
@[simp] theorem State.onDtc_sync (s : State) (p : Fin 64) (f : Dtc → Dtc) : (s.onDtc p f).sync = s.sync := rfl
@[simp] theorem State.onDtc_pair (s : State) (p : Fin 64) (f : Dtc → Dtc) : (s.onDtc p f).pair = s.pair := rfl
@[simp] theorem State.onDtc_hub (s : State) (p : Fin 64) (f : Dtc → Dtc) : (s.onDtc p f).hub = s.hub := rfl
@[simp] theorem State.onDtc_sinks (s : State) (p : Fin 64) (f : Dtc → Dtc) : (s.onDtc p f).sinks = s.sinks := rfl
@[simp] theorem State.onDtc_ports (s : State) (p : Fin 64) (f : Dtc → Dtc) : (s.onDtc p f).ports = s.ports := rfl

@[simp] theorem State.setPort_pending (s : State) (p : Fin 64) (a : AggPort) : (s.setPort p a).pending = s.pending := rfl
@[simp] theorem State.setPort_free (s : State) (p : Fin 64) (a : AggPort) : (s.setPort p a).free = s.free := rfl
@[simp] theorem State.setPort_out (s : State) (p : Fin 64) (a : AggPort) : (s.setPort p a).out = s.out := rfl
@[simp] theorem State.setPort_time (s : State) (p : Fin 64) (a : AggPort) : (s.setPort p a).time = s.time := rfl
@[simp] theorem State.setPort_sys (s : State) (p : Fin 64) (a : AggPort) : (s.setPort p a).sys = s.sys := rfl
@[simp] theorem State.setPort_verbs (s : State) (p : Fin 64) (a : AggPort) : (s.setPort p a).verbs = s.verbs := rfl
@[simp] theorem State.setPort_dev (s : State) (p : Fin 64) (a : AggPort) : (s.setPort p a).dev = s.dev := rfl
@[simp] theorem State.setPort_sec (s : State) (p : Fin 64) (a : AggPort) : (s.setPort p a).sec = s.sec := rfl
@[simp] theorem State.setPort_obs (s : State) (p : Fin 64) (a : AggPort) : (s.setPort p a).obs = s.obs := rfl
@[simp] theorem State.setPort_phys (s : State) (p : Fin 64) (a : AggPort) : (s.setPort p a).phys = s.phys := rfl
@[simp] theorem State.setPort_hbm (s : State) (p : Fin 64) (a : AggPort) : (s.setPort p a).hbm = s.hbm := rfl
@[simp] theorem State.setPort_net (s : State) (p : Fin 64) (a : AggPort) : (s.setPort p a).net = s.net := rfl
@[simp] theorem State.setPort_data (s : State) (p : Fin 64) (a : AggPort) : (s.setPort p a).data = s.data := rfl
@[simp] theorem State.setPort_rel (s : State) (p : Fin 64) (a : AggPort) : (s.setPort p a).rel = s.rel := rfl
@[simp] theorem State.setPort_sync (s : State) (p : Fin 64) (a : AggPort) : (s.setPort p a).sync = s.sync := rfl
@[simp] theorem State.setPort_pair (s : State) (p : Fin 64) (a : AggPort) : (s.setPort p a).pair = s.pair := rfl
@[simp] theorem State.setPort_hub (s : State) (p : Fin 64) (a : AggPort) : (s.setPort p a).hub = s.hub := rfl
@[simp] theorem State.setPort_sinks (s : State) (p : Fin 64) (a : AggPort) : (s.setPort p a).sinks = s.sinks := rfl
@[simp] theorem State.setPort_dtcs (s : State) (p : Fin 64) (a : AggPort) : (s.setPort p a).dtcs = s.dtcs := rfl

@[simp] theorem State.onPort_pending (s : State) (p : Fin 64) (f : AggPort → AggPort) : (s.onPort p f).pending = s.pending := rfl
@[simp] theorem State.onPort_free (s : State) (p : Fin 64) (f : AggPort → AggPort) : (s.onPort p f).free = s.free := rfl
@[simp] theorem State.onPort_out (s : State) (p : Fin 64) (f : AggPort → AggPort) : (s.onPort p f).out = s.out := rfl
@[simp] theorem State.onPort_time (s : State) (p : Fin 64) (f : AggPort → AggPort) : (s.onPort p f).time = s.time := rfl
@[simp] theorem State.onPort_sys (s : State) (p : Fin 64) (f : AggPort → AggPort) : (s.onPort p f).sys = s.sys := rfl
@[simp] theorem State.onPort_verbs (s : State) (p : Fin 64) (f : AggPort → AggPort) : (s.onPort p f).verbs = s.verbs := rfl
@[simp] theorem State.onPort_dev (s : State) (p : Fin 64) (f : AggPort → AggPort) : (s.onPort p f).dev = s.dev := rfl
@[simp] theorem State.onPort_sec (s : State) (p : Fin 64) (f : AggPort → AggPort) : (s.onPort p f).sec = s.sec := rfl
@[simp] theorem State.onPort_obs (s : State) (p : Fin 64) (f : AggPort → AggPort) : (s.onPort p f).obs = s.obs := rfl
@[simp] theorem State.onPort_phys (s : State) (p : Fin 64) (f : AggPort → AggPort) : (s.onPort p f).phys = s.phys := rfl
@[simp] theorem State.onPort_hbm (s : State) (p : Fin 64) (f : AggPort → AggPort) : (s.onPort p f).hbm = s.hbm := rfl
@[simp] theorem State.onPort_net (s : State) (p : Fin 64) (f : AggPort → AggPort) : (s.onPort p f).net = s.net := rfl
@[simp] theorem State.onPort_data (s : State) (p : Fin 64) (f : AggPort → AggPort) : (s.onPort p f).data = s.data := rfl
@[simp] theorem State.onPort_rel (s : State) (p : Fin 64) (f : AggPort → AggPort) : (s.onPort p f).rel = s.rel := rfl
@[simp] theorem State.onPort_sync (s : State) (p : Fin 64) (f : AggPort → AggPort) : (s.onPort p f).sync = s.sync := rfl
@[simp] theorem State.onPort_pair (s : State) (p : Fin 64) (f : AggPort → AggPort) : (s.onPort p f).pair = s.pair := rfl
@[simp] theorem State.onPort_hub (s : State) (p : Fin 64) (f : AggPort → AggPort) : (s.onPort p f).hub = s.hub := rfl
@[simp] theorem State.onPort_sinks (s : State) (p : Fin 64) (f : AggPort → AggPort) : (s.onPort p f).sinks = s.sinks := rfl
@[simp] theorem State.onPort_dtcs (s : State) (p : Fin 64) (f : AggPort → AggPort) : (s.onPort p f).dtcs = s.dtcs := rfl

@[simp] theorem State.setNetPort_pending (s : State) (n : Nat) (q : Port) : (s.setNetPort n q).pending = s.pending := rfl
@[simp] theorem State.setNetPort_free (s : State) (n : Nat) (q : Port) : (s.setNetPort n q).free = s.free := rfl
@[simp] theorem State.setNetPort_out (s : State) (n : Nat) (q : Port) : (s.setNetPort n q).out = s.out := rfl
@[simp] theorem State.setNetPort_time (s : State) (n : Nat) (q : Port) : (s.setNetPort n q).time = s.time := rfl
@[simp] theorem State.setNetPort_sys (s : State) (n : Nat) (q : Port) : (s.setNetPort n q).sys = s.sys := rfl
@[simp] theorem State.setNetPort_verbs (s : State) (n : Nat) (q : Port) : (s.setNetPort n q).verbs = s.verbs := rfl
@[simp] theorem State.setNetPort_dev (s : State) (n : Nat) (q : Port) : (s.setNetPort n q).dev = s.dev := rfl
@[simp] theorem State.setNetPort_sec (s : State) (n : Nat) (q : Port) : (s.setNetPort n q).sec = s.sec := rfl
@[simp] theorem State.setNetPort_obs (s : State) (n : Nat) (q : Port) : (s.setNetPort n q).obs = s.obs := rfl
@[simp] theorem State.setNetPort_phys (s : State) (n : Nat) (q : Port) : (s.setNetPort n q).phys = s.phys := rfl
@[simp] theorem State.setNetPort_hbm (s : State) (n : Nat) (q : Port) : (s.setNetPort n q).hbm = s.hbm := rfl
@[simp] theorem State.setNetPort_data (s : State) (n : Nat) (q : Port) : (s.setNetPort n q).data = s.data := rfl
@[simp] theorem State.setNetPort_rel (s : State) (n : Nat) (q : Port) : (s.setNetPort n q).rel = s.rel := rfl
@[simp] theorem State.setNetPort_sync (s : State) (n : Nat) (q : Port) : (s.setNetPort n q).sync = s.sync := rfl
@[simp] theorem State.setNetPort_pair (s : State) (n : Nat) (q : Port) : (s.setNetPort n q).pair = s.pair := rfl
@[simp] theorem State.setNetPort_hub (s : State) (n : Nat) (q : Port) : (s.setNetPort n q).hub = s.hub := rfl
@[simp] theorem State.setNetPort_sinks (s : State) (n : Nat) (q : Port) : (s.setNetPort n q).sinks = s.sinks := rfl
@[simp] theorem State.setNetPort_ports (s : State) (n : Nat) (q : Port) : (s.setNetPort n q).ports = s.ports := rfl
@[simp] theorem State.setNetPort_dtcs (s : State) (n : Nat) (q : Port) : (s.setNetPort n q).dtcs = s.dtcs := rfl

@[simp] theorem State.emit_pending (s : State) (c : Chan) (b : Bytes) : (s.emit c b).pending = s.pending := rfl
@[simp] theorem State.emit_free (s : State) (c : Chan) (b : Bytes) : (s.emit c b).free = s.free := rfl
@[simp] theorem State.emit_time (s : State) (c : Chan) (b : Bytes) : (s.emit c b).time = s.time := rfl
@[simp] theorem State.emit_sys (s : State) (c : Chan) (b : Bytes) : (s.emit c b).sys = s.sys := rfl
@[simp] theorem State.emit_verbs (s : State) (c : Chan) (b : Bytes) : (s.emit c b).verbs = s.verbs := rfl
@[simp] theorem State.emit_dev (s : State) (c : Chan) (b : Bytes) : (s.emit c b).dev = s.dev := rfl
@[simp] theorem State.emit_sec (s : State) (c : Chan) (b : Bytes) : (s.emit c b).sec = s.sec := rfl
@[simp] theorem State.emit_obs (s : State) (c : Chan) (b : Bytes) : (s.emit c b).obs = s.obs := rfl
@[simp] theorem State.emit_phys (s : State) (c : Chan) (b : Bytes) : (s.emit c b).phys = s.phys := rfl
@[simp] theorem State.emit_hbm (s : State) (c : Chan) (b : Bytes) : (s.emit c b).hbm = s.hbm := rfl
@[simp] theorem State.emit_net (s : State) (c : Chan) (b : Bytes) : (s.emit c b).net = s.net := rfl
@[simp] theorem State.emit_data (s : State) (c : Chan) (b : Bytes) : (s.emit c b).data = s.data := rfl
@[simp] theorem State.emit_rel (s : State) (c : Chan) (b : Bytes) : (s.emit c b).rel = s.rel := rfl
@[simp] theorem State.emit_sync (s : State) (c : Chan) (b : Bytes) : (s.emit c b).sync = s.sync := rfl
@[simp] theorem State.emit_pair (s : State) (c : Chan) (b : Bytes) : (s.emit c b).pair = s.pair := rfl
@[simp] theorem State.emit_hub (s : State) (c : Chan) (b : Bytes) : (s.emit c b).hub = s.hub := rfl
@[simp] theorem State.emit_sinks (s : State) (c : Chan) (b : Bytes) : (s.emit c b).sinks = s.sinks := rfl
@[simp] theorem State.emit_ports (s : State) (c : Chan) (b : Bytes) : (s.emit c b).ports = s.ports := rfl
@[simp] theorem State.emit_dtcs (s : State) (c : Chan) (b : Bytes) : (s.emit c b).dtcs = s.dtcs := rfl

@[simp] theorem State.setObject_pending (s : State) (i : Nat) (o : SyncObject) : (s.setObject i o).pending = s.pending := rfl
@[simp] theorem State.setObject_free (s : State) (i : Nat) (o : SyncObject) : (s.setObject i o).free = s.free := rfl
@[simp] theorem State.setObject_out (s : State) (i : Nat) (o : SyncObject) : (s.setObject i o).out = s.out := rfl
@[simp] theorem State.setObject_time (s : State) (i : Nat) (o : SyncObject) : (s.setObject i o).time = s.time := rfl
@[simp] theorem State.setObject_sys (s : State) (i : Nat) (o : SyncObject) : (s.setObject i o).sys = s.sys := rfl
@[simp] theorem State.setObject_verbs (s : State) (i : Nat) (o : SyncObject) : (s.setObject i o).verbs = s.verbs := rfl
@[simp] theorem State.setObject_dev (s : State) (i : Nat) (o : SyncObject) : (s.setObject i o).dev = s.dev := rfl
@[simp] theorem State.setObject_sec (s : State) (i : Nat) (o : SyncObject) : (s.setObject i o).sec = s.sec := rfl
@[simp] theorem State.setObject_obs (s : State) (i : Nat) (o : SyncObject) : (s.setObject i o).obs = s.obs := rfl
@[simp] theorem State.setObject_phys (s : State) (i : Nat) (o : SyncObject) : (s.setObject i o).phys = s.phys := rfl
@[simp] theorem State.setObject_hbm (s : State) (i : Nat) (o : SyncObject) : (s.setObject i o).hbm = s.hbm := rfl
@[simp] theorem State.setObject_net (s : State) (i : Nat) (o : SyncObject) : (s.setObject i o).net = s.net := rfl
@[simp] theorem State.setObject_data (s : State) (i : Nat) (o : SyncObject) : (s.setObject i o).data = s.data := rfl
@[simp] theorem State.setObject_rel (s : State) (i : Nat) (o : SyncObject) : (s.setObject i o).rel = s.rel := rfl
@[simp] theorem State.setObject_pair (s : State) (i : Nat) (o : SyncObject) : (s.setObject i o).pair = s.pair := rfl
@[simp] theorem State.setObject_hub (s : State) (i : Nat) (o : SyncObject) : (s.setObject i o).hub = s.hub := rfl
@[simp] theorem State.setObject_sinks (s : State) (i : Nat) (o : SyncObject) : (s.setObject i o).sinks = s.sinks := rfl
@[simp] theorem State.setObject_ports (s : State) (i : Nat) (o : SyncObject) : (s.setObject i o).ports = s.ports := rfl
@[simp] theorem State.setObject_dtcs (s : State) (i : Nat) (o : SyncObject) : (s.setObject i o).dtcs = s.dtcs := rfl

@[simp] theorem State.setQp_pending (s : State) (n : Fin 64) (q : Qp) : (s.setQp n q).pending = s.pending := rfl
@[simp] theorem State.setQp_free (s : State) (n : Fin 64) (q : Qp) : (s.setQp n q).free = s.free := rfl
@[simp] theorem State.setQp_out (s : State) (n : Fin 64) (q : Qp) : (s.setQp n q).out = s.out := rfl
@[simp] theorem State.setQp_time (s : State) (n : Fin 64) (q : Qp) : (s.setQp n q).time = s.time := rfl
@[simp] theorem State.setQp_sys (s : State) (n : Fin 64) (q : Qp) : (s.setQp n q).sys = s.sys := rfl
@[simp] theorem State.setQp_verbs (s : State) (n : Fin 64) (q : Qp) : (s.setQp n q).verbs = s.verbs := rfl
@[simp] theorem State.setQp_sec (s : State) (n : Fin 64) (q : Qp) : (s.setQp n q).sec = s.sec := rfl
@[simp] theorem State.setQp_obs (s : State) (n : Fin 64) (q : Qp) : (s.setQp n q).obs = s.obs := rfl
@[simp] theorem State.setQp_phys (s : State) (n : Fin 64) (q : Qp) : (s.setQp n q).phys = s.phys := rfl
@[simp] theorem State.setQp_hbm (s : State) (n : Fin 64) (q : Qp) : (s.setQp n q).hbm = s.hbm := rfl
@[simp] theorem State.setQp_net (s : State) (n : Fin 64) (q : Qp) : (s.setQp n q).net = s.net := rfl
@[simp] theorem State.setQp_data (s : State) (n : Fin 64) (q : Qp) : (s.setQp n q).data = s.data := rfl
@[simp] theorem State.setQp_rel (s : State) (n : Fin 64) (q : Qp) : (s.setQp n q).rel = s.rel := rfl
@[simp] theorem State.setQp_sync (s : State) (n : Fin 64) (q : Qp) : (s.setQp n q).sync = s.sync := rfl
@[simp] theorem State.setQp_pair (s : State) (n : Fin 64) (q : Qp) : (s.setQp n q).pair = s.pair := rfl
@[simp] theorem State.setQp_hub (s : State) (n : Fin 64) (q : Qp) : (s.setQp n q).hub = s.hub := rfl
@[simp] theorem State.setQp_sinks (s : State) (n : Fin 64) (q : Qp) : (s.setQp n q).sinks = s.sinks := rfl
@[simp] theorem State.setQp_ports (s : State) (n : Fin 64) (q : Qp) : (s.setQp n q).ports = s.ports := rfl
@[simp] theorem State.setQp_dtcs (s : State) (n : Fin 64) (q : Qp) : (s.setQp n q).dtcs = s.dtcs := rfl

@[simp] theorem State.setStaging_pending (s : State) (r : Requester) (g : Staging) : (s.setStaging r g).pending = s.pending := rfl
@[simp] theorem State.setStaging_free (s : State) (r : Requester) (g : Staging) : (s.setStaging r g).free = s.free := rfl
@[simp] theorem State.setStaging_out (s : State) (r : Requester) (g : Staging) : (s.setStaging r g).out = s.out := rfl
@[simp] theorem State.setStaging_time (s : State) (r : Requester) (g : Staging) : (s.setStaging r g).time = s.time := rfl
@[simp] theorem State.setStaging_sys (s : State) (r : Requester) (g : Staging) : (s.setStaging r g).sys = s.sys := rfl
@[simp] theorem State.setStaging_dev (s : State) (r : Requester) (g : Staging) : (s.setStaging r g).dev = s.dev := rfl
@[simp] theorem State.setStaging_sec (s : State) (r : Requester) (g : Staging) : (s.setStaging r g).sec = s.sec := rfl
@[simp] theorem State.setStaging_obs (s : State) (r : Requester) (g : Staging) : (s.setStaging r g).obs = s.obs := rfl
@[simp] theorem State.setStaging_phys (s : State) (r : Requester) (g : Staging) : (s.setStaging r g).phys = s.phys := rfl
@[simp] theorem State.setStaging_hbm (s : State) (r : Requester) (g : Staging) : (s.setStaging r g).hbm = s.hbm := rfl
@[simp] theorem State.setStaging_net (s : State) (r : Requester) (g : Staging) : (s.setStaging r g).net = s.net := rfl
@[simp] theorem State.setStaging_data (s : State) (r : Requester) (g : Staging) : (s.setStaging r g).data = s.data := rfl
@[simp] theorem State.setStaging_rel (s : State) (r : Requester) (g : Staging) : (s.setStaging r g).rel = s.rel := rfl
@[simp] theorem State.setStaging_sync (s : State) (r : Requester) (g : Staging) : (s.setStaging r g).sync = s.sync := rfl
@[simp] theorem State.setStaging_pair (s : State) (r : Requester) (g : Staging) : (s.setStaging r g).pair = s.pair := rfl
@[simp] theorem State.setStaging_hub (s : State) (r : Requester) (g : Staging) : (s.setStaging r g).hub = s.hub := rfl
@[simp] theorem State.setStaging_sinks (s : State) (r : Requester) (g : Staging) : (s.setStaging r g).sinks = s.sinks := rfl
@[simp] theorem State.setStaging_ports (s : State) (r : Requester) (g : Staging) : (s.setStaging r g).ports = s.ports := rfl
@[simp] theorem State.setStaging_dtcs (s : State) (r : Requester) (g : Staging) : (s.setStaging r g).dtcs = s.dtcs := rfl

@[simp] theorem State.setModel_pending (s : State) (k : Nat) (m : Model) : (s.setModel k m).pending = s.pending := rfl
@[simp] theorem State.setModel_free (s : State) (k : Nat) (m : Model) : (s.setModel k m).free = s.free := rfl
@[simp] theorem State.setModel_out (s : State) (k : Nat) (m : Model) : (s.setModel k m).out = s.out := rfl
@[simp] theorem State.setModel_time (s : State) (k : Nat) (m : Model) : (s.setModel k m).time = s.time := rfl
@[simp] theorem State.setModel_sys (s : State) (k : Nat) (m : Model) : (s.setModel k m).sys = s.sys := rfl
@[simp] theorem State.setModel_verbs (s : State) (k : Nat) (m : Model) : (s.setModel k m).verbs = s.verbs := rfl
@[simp] theorem State.setModel_dev (s : State) (k : Nat) (m : Model) : (s.setModel k m).dev = s.dev := rfl
@[simp] theorem State.setModel_sec (s : State) (k : Nat) (m : Model) : (s.setModel k m).sec = s.sec := rfl
@[simp] theorem State.setModel_obs (s : State) (k : Nat) (m : Model) : (s.setModel k m).obs = s.obs := rfl
@[simp] theorem State.setModel_phys (s : State) (k : Nat) (m : Model) : (s.setModel k m).phys = s.phys := rfl
@[simp] theorem State.setModel_hbm (s : State) (k : Nat) (m : Model) : (s.setModel k m).hbm = s.hbm := rfl
@[simp] theorem State.setModel_net (s : State) (k : Nat) (m : Model) : (s.setModel k m).net = s.net := rfl
@[simp] theorem State.setModel_rel (s : State) (k : Nat) (m : Model) : (s.setModel k m).rel = s.rel := rfl
@[simp] theorem State.setModel_sync (s : State) (k : Nat) (m : Model) : (s.setModel k m).sync = s.sync := rfl
@[simp] theorem State.setModel_pair (s : State) (k : Nat) (m : Model) : (s.setModel k m).pair = s.pair := rfl
@[simp] theorem State.setModel_hub (s : State) (k : Nat) (m : Model) : (s.setModel k m).hub = s.hub := rfl
@[simp] theorem State.setModel_sinks (s : State) (k : Nat) (m : Model) : (s.setModel k m).sinks = s.sinks := rfl
@[simp] theorem State.setModel_ports (s : State) (k : Nat) (m : Model) : (s.setModel k m).ports = s.ports := rfl
@[simp] theorem State.setModel_dtcs (s : State) (k : Nat) (m : Model) : (s.setModel k m).dtcs = s.dtcs := rfl

@[simp] theorem State.setTartlet_pending (s : State) (t : Nat) (v : Tartlet) : (s.setTartlet t v).pending = s.pending := rfl
@[simp] theorem State.setTartlet_free (s : State) (t : Nat) (v : Tartlet) : (s.setTartlet t v).free = s.free := rfl
@[simp] theorem State.setTartlet_out (s : State) (t : Nat) (v : Tartlet) : (s.setTartlet t v).out = s.out := rfl
@[simp] theorem State.setTartlet_time (s : State) (t : Nat) (v : Tartlet) : (s.setTartlet t v).time = s.time := rfl
@[simp] theorem State.setTartlet_sys (s : State) (t : Nat) (v : Tartlet) : (s.setTartlet t v).sys = s.sys := rfl
@[simp] theorem State.setTartlet_verbs (s : State) (t : Nat) (v : Tartlet) : (s.setTartlet t v).verbs = s.verbs := rfl
@[simp] theorem State.setTartlet_dev (s : State) (t : Nat) (v : Tartlet) : (s.setTartlet t v).dev = s.dev := rfl
@[simp] theorem State.setTartlet_sec (s : State) (t : Nat) (v : Tartlet) : (s.setTartlet t v).sec = s.sec := rfl
@[simp] theorem State.setTartlet_obs (s : State) (t : Nat) (v : Tartlet) : (s.setTartlet t v).obs = s.obs := rfl
@[simp] theorem State.setTartlet_phys (s : State) (t : Nat) (v : Tartlet) : (s.setTartlet t v).phys = s.phys := rfl
@[simp] theorem State.setTartlet_hbm (s : State) (t : Nat) (v : Tartlet) : (s.setTartlet t v).hbm = s.hbm := rfl
@[simp] theorem State.setTartlet_net (s : State) (t : Nat) (v : Tartlet) : (s.setTartlet t v).net = s.net := rfl
@[simp] theorem State.setTartlet_rel (s : State) (t : Nat) (v : Tartlet) : (s.setTartlet t v).rel = s.rel := rfl
@[simp] theorem State.setTartlet_sync (s : State) (t : Nat) (v : Tartlet) : (s.setTartlet t v).sync = s.sync := rfl
@[simp] theorem State.setTartlet_pair (s : State) (t : Nat) (v : Tartlet) : (s.setTartlet t v).pair = s.pair := rfl
@[simp] theorem State.setTartlet_hub (s : State) (t : Nat) (v : Tartlet) : (s.setTartlet t v).hub = s.hub := rfl
@[simp] theorem State.setTartlet_sinks (s : State) (t : Nat) (v : Tartlet) : (s.setTartlet t v).sinks = s.sinks := rfl
@[simp] theorem State.setTartlet_ports (s : State) (t : Nat) (v : Tartlet) : (s.setTartlet t v).ports = s.ports := rfl
@[simp] theorem State.setTartlet_dtcs (s : State) (t : Nat) (v : Tartlet) : (s.setTartlet t v).dtcs = s.dtcs := rfl

@[simp] theorem State.setDie_pending (s : State) (p : Nat) (d : Die) : (s.setDie p d).pending = s.pending := rfl
@[simp] theorem State.setDie_free (s : State) (p : Nat) (d : Die) : (s.setDie p d).free = s.free := rfl
@[simp] theorem State.setDie_out (s : State) (p : Nat) (d : Die) : (s.setDie p d).out = s.out := rfl
@[simp] theorem State.setDie_time (s : State) (p : Nat) (d : Die) : (s.setDie p d).time = s.time := rfl
@[simp] theorem State.setDie_sys (s : State) (p : Nat) (d : Die) : (s.setDie p d).sys = s.sys := rfl
@[simp] theorem State.setDie_verbs (s : State) (p : Nat) (d : Die) : (s.setDie p d).verbs = s.verbs := rfl
@[simp] theorem State.setDie_dev (s : State) (p : Nat) (d : Die) : (s.setDie p d).dev = s.dev := rfl
@[simp] theorem State.setDie_sec (s : State) (p : Nat) (d : Die) : (s.setDie p d).sec = s.sec := rfl
@[simp] theorem State.setDie_obs (s : State) (p : Nat) (d : Die) : (s.setDie p d).obs = s.obs := rfl
@[simp] theorem State.setDie_phys (s : State) (p : Nat) (d : Die) : (s.setDie p d).phys = s.phys := rfl
@[simp] theorem State.setDie_hbm (s : State) (p : Nat) (d : Die) : (s.setDie p d).hbm = s.hbm := rfl
@[simp] theorem State.setDie_net (s : State) (p : Nat) (d : Die) : (s.setDie p d).net = s.net := rfl
@[simp] theorem State.setDie_rel (s : State) (p : Nat) (d : Die) : (s.setDie p d).rel = s.rel := rfl
@[simp] theorem State.setDie_sync (s : State) (p : Nat) (d : Die) : (s.setDie p d).sync = s.sync := rfl
@[simp] theorem State.setDie_pair (s : State) (p : Nat) (d : Die) : (s.setDie p d).pair = s.pair := rfl
@[simp] theorem State.setDie_hub (s : State) (p : Nat) (d : Die) : (s.setDie p d).hub = s.hub := rfl
@[simp] theorem State.setDie_sinks (s : State) (p : Nat) (d : Die) : (s.setDie p d).sinks = s.sinks := rfl
@[simp] theorem State.setDie_ports (s : State) (p : Nat) (d : Die) : (s.setDie p d).ports = s.ports := rfl
@[simp] theorem State.setDie_dtcs (s : State) (p : Nat) (d : Die) : (s.setDie p d).dtcs = s.dtcs := rfl

@[simp] theorem State.setPolicer_pending (s : State) (c : Nat) (p : Policer) : (s.setPolicer c p).pending = s.pending := rfl
@[simp] theorem State.setPolicer_free (s : State) (c : Nat) (p : Policer) : (s.setPolicer c p).free = s.free := rfl
@[simp] theorem State.setPolicer_out (s : State) (c : Nat) (p : Policer) : (s.setPolicer c p).out = s.out := rfl
@[simp] theorem State.setPolicer_time (s : State) (c : Nat) (p : Policer) : (s.setPolicer c p).time = s.time := rfl
@[simp] theorem State.setPolicer_sys (s : State) (c : Nat) (p : Policer) : (s.setPolicer c p).sys = s.sys := rfl
@[simp] theorem State.setPolicer_verbs (s : State) (c : Nat) (p : Policer) : (s.setPolicer c p).verbs = s.verbs := rfl
@[simp] theorem State.setPolicer_dev (s : State) (c : Nat) (p : Policer) : (s.setPolicer c p).dev = s.dev := rfl
@[simp] theorem State.setPolicer_sec (s : State) (c : Nat) (p : Policer) : (s.setPolicer c p).sec = s.sec := rfl
@[simp] theorem State.setPolicer_obs (s : State) (c : Nat) (p : Policer) : (s.setPolicer c p).obs = s.obs := rfl
@[simp] theorem State.setPolicer_phys (s : State) (c : Nat) (p : Policer) : (s.setPolicer c p).phys = s.phys := rfl
@[simp] theorem State.setPolicer_hbm (s : State) (c : Nat) (p : Policer) : (s.setPolicer c p).hbm = s.hbm := rfl
@[simp] theorem State.setPolicer_data (s : State) (c : Nat) (p : Policer) : (s.setPolicer c p).data = s.data := rfl
@[simp] theorem State.setPolicer_rel (s : State) (c : Nat) (p : Policer) : (s.setPolicer c p).rel = s.rel := rfl
@[simp] theorem State.setPolicer_sync (s : State) (c : Nat) (p : Policer) : (s.setPolicer c p).sync = s.sync := rfl
@[simp] theorem State.setPolicer_pair (s : State) (c : Nat) (p : Policer) : (s.setPolicer c p).pair = s.pair := rfl
@[simp] theorem State.setPolicer_hub (s : State) (c : Nat) (p : Policer) : (s.setPolicer c p).hub = s.hub := rfl
@[simp] theorem State.setPolicer_sinks (s : State) (c : Nat) (p : Policer) : (s.setPolicer c p).sinks = s.sinks := rfl
@[simp] theorem State.setPolicer_ports (s : State) (c : Nat) (p : Policer) : (s.setPolicer c p).ports = s.ports := rfl
@[simp] theorem State.setPolicer_dtcs (s : State) (c : Nat) (p : Policer) : (s.setPolicer c p).dtcs = s.dtcs := rfl

@[simp] theorem State.setAccepted_pending (s : State) (l : List Mirrored) : (s.setAccepted l).pending = s.pending := rfl
@[simp] theorem State.setAccepted_free (s : State) (l : List Mirrored) : (s.setAccepted l).free = s.free := rfl
@[simp] theorem State.setAccepted_out (s : State) (l : List Mirrored) : (s.setAccepted l).out = s.out := rfl
@[simp] theorem State.setAccepted_time (s : State) (l : List Mirrored) : (s.setAccepted l).time = s.time := rfl
@[simp] theorem State.setAccepted_sys (s : State) (l : List Mirrored) : (s.setAccepted l).sys = s.sys := rfl
@[simp] theorem State.setAccepted_verbs (s : State) (l : List Mirrored) : (s.setAccepted l).verbs = s.verbs := rfl
@[simp] theorem State.setAccepted_dev (s : State) (l : List Mirrored) : (s.setAccepted l).dev = s.dev := rfl
@[simp] theorem State.setAccepted_sec (s : State) (l : List Mirrored) : (s.setAccepted l).sec = s.sec := rfl
@[simp] theorem State.setAccepted_obs (s : State) (l : List Mirrored) : (s.setAccepted l).obs = s.obs := rfl
@[simp] theorem State.setAccepted_phys (s : State) (l : List Mirrored) : (s.setAccepted l).phys = s.phys := rfl
@[simp] theorem State.setAccepted_hbm (s : State) (l : List Mirrored) : (s.setAccepted l).hbm = s.hbm := rfl
@[simp] theorem State.setAccepted_net (s : State) (l : List Mirrored) : (s.setAccepted l).net = s.net := rfl
@[simp] theorem State.setAccepted_data (s : State) (l : List Mirrored) : (s.setAccepted l).data = s.data := rfl
@[simp] theorem State.setAccepted_rel (s : State) (l : List Mirrored) : (s.setAccepted l).rel = s.rel := rfl
@[simp] theorem State.setAccepted_sync (s : State) (l : List Mirrored) : (s.setAccepted l).sync = s.sync := rfl
@[simp] theorem State.setAccepted_hub (s : State) (l : List Mirrored) : (s.setAccepted l).hub = s.hub := rfl
@[simp] theorem State.setAccepted_sinks (s : State) (l : List Mirrored) : (s.setAccepted l).sinks = s.sinks := rfl
@[simp] theorem State.setAccepted_ports (s : State) (l : List Mirrored) : (s.setAccepted l).ports = s.ports := rfl
@[simp] theorem State.setAccepted_dtcs (s : State) (l : List Mirrored) : (s.setAccepted l).dtcs = s.dtcs := rfl

@[simp] theorem State.countNoRoute_pending (s : State) (n : Nat) : (s.countNoRoute n).pending = s.pending := rfl
@[simp] theorem State.countNoRoute_free (s : State) (n : Nat) : (s.countNoRoute n).free = s.free := rfl
@[simp] theorem State.countNoRoute_out (s : State) (n : Nat) : (s.countNoRoute n).out = s.out := rfl
@[simp] theorem State.countNoRoute_time (s : State) (n : Nat) : (s.countNoRoute n).time = s.time := rfl
@[simp] theorem State.countNoRoute_sys (s : State) (n : Nat) : (s.countNoRoute n).sys = s.sys := rfl
@[simp] theorem State.countNoRoute_verbs (s : State) (n : Nat) : (s.countNoRoute n).verbs = s.verbs := rfl
@[simp] theorem State.countNoRoute_dev (s : State) (n : Nat) : (s.countNoRoute n).dev = s.dev := rfl
@[simp] theorem State.countNoRoute_sec (s : State) (n : Nat) : (s.countNoRoute n).sec = s.sec := rfl
@[simp] theorem State.countNoRoute_obs (s : State) (n : Nat) : (s.countNoRoute n).obs = s.obs := rfl
@[simp] theorem State.countNoRoute_phys (s : State) (n : Nat) : (s.countNoRoute n).phys = s.phys := rfl
@[simp] theorem State.countNoRoute_hbm (s : State) (n : Nat) : (s.countNoRoute n).hbm = s.hbm := rfl
@[simp] theorem State.countNoRoute_data (s : State) (n : Nat) : (s.countNoRoute n).data = s.data := rfl
@[simp] theorem State.countNoRoute_rel (s : State) (n : Nat) : (s.countNoRoute n).rel = s.rel := rfl
@[simp] theorem State.countNoRoute_sync (s : State) (n : Nat) : (s.countNoRoute n).sync = s.sync := rfl
@[simp] theorem State.countNoRoute_pair (s : State) (n : Nat) : (s.countNoRoute n).pair = s.pair := rfl
@[simp] theorem State.countNoRoute_hub (s : State) (n : Nat) : (s.countNoRoute n).hub = s.hub := rfl
@[simp] theorem State.countNoRoute_sinks (s : State) (n : Nat) : (s.countNoRoute n).sinks = s.sinks := rfl
@[simp] theorem State.countNoRoute_ports (s : State) (n : Nat) : (s.countNoRoute n).ports = s.ports := rfl
@[simp] theorem State.countNoRoute_dtcs (s : State) (n : Nat) : (s.countNoRoute n).dtcs = s.dtcs := rfl

@[simp] theorem State.dropForward_pending (s : State) (p : Fin 64) (f : Nat) : (s.dropForward p f).pending = s.pending := rfl
@[simp] theorem State.dropForward_free (s : State) (p : Fin 64) (f : Nat) : (s.dropForward p f).free = s.free := rfl
@[simp] theorem State.dropForward_out (s : State) (p : Fin 64) (f : Nat) : (s.dropForward p f).out = s.out := rfl
@[simp] theorem State.dropForward_time (s : State) (p : Fin 64) (f : Nat) : (s.dropForward p f).time = s.time := rfl
@[simp] theorem State.dropForward_sys (s : State) (p : Fin 64) (f : Nat) : (s.dropForward p f).sys = s.sys := rfl
@[simp] theorem State.dropForward_dev (s : State) (p : Fin 64) (f : Nat) : (s.dropForward p f).dev = s.dev := rfl
@[simp] theorem State.dropForward_sec (s : State) (p : Fin 64) (f : Nat) : (s.dropForward p f).sec = s.sec := rfl
@[simp] theorem State.dropForward_obs (s : State) (p : Fin 64) (f : Nat) : (s.dropForward p f).obs = s.obs := rfl
@[simp] theorem State.dropForward_phys (s : State) (p : Fin 64) (f : Nat) : (s.dropForward p f).phys = s.phys := rfl
@[simp] theorem State.dropForward_hbm (s : State) (p : Fin 64) (f : Nat) : (s.dropForward p f).hbm = s.hbm := rfl
@[simp] theorem State.dropForward_net (s : State) (p : Fin 64) (f : Nat) : (s.dropForward p f).net = s.net := rfl
@[simp] theorem State.dropForward_data (s : State) (p : Fin 64) (f : Nat) : (s.dropForward p f).data = s.data := rfl
@[simp] theorem State.dropForward_rel (s : State) (p : Fin 64) (f : Nat) : (s.dropForward p f).rel = s.rel := rfl
@[simp] theorem State.dropForward_sync (s : State) (p : Fin 64) (f : Nat) : (s.dropForward p f).sync = s.sync := rfl
@[simp] theorem State.dropForward_pair (s : State) (p : Fin 64) (f : Nat) : (s.dropForward p f).pair = s.pair := rfl
@[simp] theorem State.dropForward_hub (s : State) (p : Fin 64) (f : Nat) : (s.dropForward p f).hub = s.hub := rfl
@[simp] theorem State.dropForward_sinks (s : State) (p : Fin 64) (f : Nat) : (s.dropForward p f).sinks = s.sinks := rfl
@[simp] theorem State.dropForward_ports (s : State) (p : Fin 64) (f : Nat) : (s.dropForward p f).ports = s.ports := rfl
@[simp] theorem State.dropForward_dtcs (s : State) (p : Fin 64) (f : Nat) : (s.dropForward p f).dtcs = s.dtcs := rfl

@[simp] theorem State.setHalf_pending (s : State) (h : Nat) (v : Half) : (s.setHalf h v).pending = s.pending := by unfold State.setHalf; split <;> rfl
@[simp] theorem State.setHalf_free (s : State) (h : Nat) (v : Half) : (s.setHalf h v).free = s.free := by unfold State.setHalf; split <;> rfl
@[simp] theorem State.setHalf_out (s : State) (h : Nat) (v : Half) : (s.setHalf h v).out = s.out := by unfold State.setHalf; split <;> rfl
@[simp] theorem State.setHalf_time (s : State) (h : Nat) (v : Half) : (s.setHalf h v).time = s.time := by unfold State.setHalf; split <;> rfl
@[simp] theorem State.setHalf_sys (s : State) (h : Nat) (v : Half) : (s.setHalf h v).sys = s.sys := by unfold State.setHalf; split <;> rfl
@[simp] theorem State.setHalf_verbs (s : State) (h : Nat) (v : Half) : (s.setHalf h v).verbs = s.verbs := by unfold State.setHalf; split <;> rfl
@[simp] theorem State.setHalf_dev (s : State) (h : Nat) (v : Half) : (s.setHalf h v).dev = s.dev := by unfold State.setHalf; split <;> rfl
@[simp] theorem State.setHalf_sec (s : State) (h : Nat) (v : Half) : (s.setHalf h v).sec = s.sec := by unfold State.setHalf; split <;> rfl
@[simp] theorem State.setHalf_obs (s : State) (h : Nat) (v : Half) : (s.setHalf h v).obs = s.obs := by unfold State.setHalf; split <;> rfl
@[simp] theorem State.setHalf_phys (s : State) (h : Nat) (v : Half) : (s.setHalf h v).phys = s.phys := by unfold State.setHalf; split <;> rfl
@[simp] theorem State.setHalf_hbm (s : State) (h : Nat) (v : Half) : (s.setHalf h v).hbm = s.hbm := by unfold State.setHalf; split <;> rfl
@[simp] theorem State.setHalf_net (s : State) (h : Nat) (v : Half) : (s.setHalf h v).net = s.net := by unfold State.setHalf; split <;> rfl
@[simp] theorem State.setHalf_rel (s : State) (h : Nat) (v : Half) : (s.setHalf h v).rel = s.rel := by unfold State.setHalf; split <;> rfl
@[simp] theorem State.setHalf_sync (s : State) (h : Nat) (v : Half) : (s.setHalf h v).sync = s.sync := by unfold State.setHalf; split <;> rfl
@[simp] theorem State.setHalf_pair (s : State) (h : Nat) (v : Half) : (s.setHalf h v).pair = s.pair := by unfold State.setHalf; split <;> rfl
@[simp] theorem State.setHalf_hub (s : State) (h : Nat) (v : Half) : (s.setHalf h v).hub = s.hub := by unfold State.setHalf; split <;> rfl
@[simp] theorem State.setHalf_sinks (s : State) (h : Nat) (v : Half) : (s.setHalf h v).sinks = s.sinks := by unfold State.setHalf; split <;> rfl
@[simp] theorem State.setHalf_ports (s : State) (h : Nat) (v : Half) : (s.setHalf h v).ports = s.ports := by unfold State.setHalf; split <;> rfl
@[simp] theorem State.setHalf_dtcs (s : State) (h : Nat) (v : Half) : (s.setHalf h v).dtcs = s.dtcs := by unfold State.setHalf; split <;> rfl

@[simp] theorem State.setDomain_pending (s : State) (d : Fin 2) (v : Domain) : (s.setDomain d v).pending = s.pending := by unfold State.setDomain; split <;> rfl
@[simp] theorem State.setDomain_free (s : State) (d : Fin 2) (v : Domain) : (s.setDomain d v).free = s.free := by unfold State.setDomain; split <;> rfl
@[simp] theorem State.setDomain_out (s : State) (d : Fin 2) (v : Domain) : (s.setDomain d v).out = s.out := by unfold State.setDomain; split <;> rfl
@[simp] theorem State.setDomain_sys (s : State) (d : Fin 2) (v : Domain) : (s.setDomain d v).sys = s.sys := by unfold State.setDomain; split <;> rfl
@[simp] theorem State.setDomain_verbs (s : State) (d : Fin 2) (v : Domain) : (s.setDomain d v).verbs = s.verbs := by unfold State.setDomain; split <;> rfl
@[simp] theorem State.setDomain_dev (s : State) (d : Fin 2) (v : Domain) : (s.setDomain d v).dev = s.dev := by unfold State.setDomain; split <;> rfl
@[simp] theorem State.setDomain_sec (s : State) (d : Fin 2) (v : Domain) : (s.setDomain d v).sec = s.sec := by unfold State.setDomain; split <;> rfl
@[simp] theorem State.setDomain_obs (s : State) (d : Fin 2) (v : Domain) : (s.setDomain d v).obs = s.obs := by unfold State.setDomain; split <;> rfl
@[simp] theorem State.setDomain_phys (s : State) (d : Fin 2) (v : Domain) : (s.setDomain d v).phys = s.phys := by unfold State.setDomain; split <;> rfl
@[simp] theorem State.setDomain_hbm (s : State) (d : Fin 2) (v : Domain) : (s.setDomain d v).hbm = s.hbm := by unfold State.setDomain; split <;> rfl
@[simp] theorem State.setDomain_net (s : State) (d : Fin 2) (v : Domain) : (s.setDomain d v).net = s.net := by unfold State.setDomain; split <;> rfl
@[simp] theorem State.setDomain_data (s : State) (d : Fin 2) (v : Domain) : (s.setDomain d v).data = s.data := by unfold State.setDomain; split <;> rfl
@[simp] theorem State.setDomain_rel (s : State) (d : Fin 2) (v : Domain) : (s.setDomain d v).rel = s.rel := by unfold State.setDomain; split <;> rfl
@[simp] theorem State.setDomain_sync (s : State) (d : Fin 2) (v : Domain) : (s.setDomain d v).sync = s.sync := by unfold State.setDomain; split <;> rfl
@[simp] theorem State.setDomain_pair (s : State) (d : Fin 2) (v : Domain) : (s.setDomain d v).pair = s.pair := by unfold State.setDomain; split <;> rfl
@[simp] theorem State.setDomain_hub (s : State) (d : Fin 2) (v : Domain) : (s.setDomain d v).hub = s.hub := by unfold State.setDomain; split <;> rfl
@[simp] theorem State.setDomain_sinks (s : State) (d : Fin 2) (v : Domain) : (s.setDomain d v).sinks = s.sinks := by unfold State.setDomain; split <;> rfl
@[simp] theorem State.setDomain_ports (s : State) (d : Fin 2) (v : Domain) : (s.setDomain d v).ports = s.ports := by unfold State.setDomain; split <;> rfl
@[simp] theorem State.setDomain_dtcs (s : State) (d : Fin 2) (v : Domain) : (s.setDomain d v).dtcs = s.dtcs := by unfold State.setDomain; split <;> rfl

@[simp] theorem State.setTags_pending (s : State) (w : Part) (ts : List TagEntry) : (s.setTags w ts).pending = s.pending := by cases w <;> rfl
@[simp] theorem State.setTags_free (s : State) (w : Part) (ts : List TagEntry) : (s.setTags w ts).free = s.free := by cases w <;> rfl
@[simp] theorem State.setTags_out (s : State) (w : Part) (ts : List TagEntry) : (s.setTags w ts).out = s.out := by cases w <;> rfl
@[simp] theorem State.setTags_time (s : State) (w : Part) (ts : List TagEntry) : (s.setTags w ts).time = s.time := by cases w <;> rfl
@[simp] theorem State.setTags_sys (s : State) (w : Part) (ts : List TagEntry) : (s.setTags w ts).sys = s.sys := by cases w <;> rfl
@[simp] theorem State.setTags_dev (s : State) (w : Part) (ts : List TagEntry) : (s.setTags w ts).dev = s.dev := by cases w <;> rfl
@[simp] theorem State.setTags_sec (s : State) (w : Part) (ts : List TagEntry) : (s.setTags w ts).sec = s.sec := by cases w <;> rfl
@[simp] theorem State.setTags_obs (s : State) (w : Part) (ts : List TagEntry) : (s.setTags w ts).obs = s.obs := by cases w <;> rfl
@[simp] theorem State.setTags_phys (s : State) (w : Part) (ts : List TagEntry) : (s.setTags w ts).phys = s.phys := by cases w <;> rfl
@[simp] theorem State.setTags_hbm (s : State) (w : Part) (ts : List TagEntry) : (s.setTags w ts).hbm = s.hbm := by cases w <;> rfl
@[simp] theorem State.setTags_net (s : State) (w : Part) (ts : List TagEntry) : (s.setTags w ts).net = s.net := by cases w <;> rfl
@[simp] theorem State.setTags_data (s : State) (w : Part) (ts : List TagEntry) : (s.setTags w ts).data = s.data := by cases w <;> rfl
@[simp] theorem State.setTags_rel (s : State) (w : Part) (ts : List TagEntry) : (s.setTags w ts).rel = s.rel := by cases w <;> rfl
@[simp] theorem State.setTags_sync (s : State) (w : Part) (ts : List TagEntry) : (s.setTags w ts).sync = s.sync := by cases w <;> rfl
@[simp] theorem State.setTags_pair (s : State) (w : Part) (ts : List TagEntry) : (s.setTags w ts).pair = s.pair := by cases w <;> rfl
@[simp] theorem State.setTags_hub (s : State) (w : Part) (ts : List TagEntry) : (s.setTags w ts).hub = s.hub := by cases w <;> rfl
@[simp] theorem State.setTags_sinks (s : State) (w : Part) (ts : List TagEntry) : (s.setTags w ts).sinks = s.sinks := by cases w <;> rfl
@[simp] theorem State.setTags_ports (s : State) (w : Part) (ts : List TagEntry) : (s.setTags w ts).ports = s.ports := by cases w <;> rfl

@[simp] theorem State.setPath_pending (s : State) (p : PairPath) (k : PathState) : (s.setPath p k).pending = s.pending := by cases p <;> rfl
@[simp] theorem State.setPath_free (s : State) (p : PairPath) (k : PathState) : (s.setPath p k).free = s.free := by cases p <;> rfl
@[simp] theorem State.setPath_out (s : State) (p : PairPath) (k : PathState) : (s.setPath p k).out = s.out := by cases p <;> rfl
@[simp] theorem State.setPath_time (s : State) (p : PairPath) (k : PathState) : (s.setPath p k).time = s.time := by cases p <;> rfl
@[simp] theorem State.setPath_sys (s : State) (p : PairPath) (k : PathState) : (s.setPath p k).sys = s.sys := by cases p <;> rfl
@[simp] theorem State.setPath_verbs (s : State) (p : PairPath) (k : PathState) : (s.setPath p k).verbs = s.verbs := by cases p <;> rfl
@[simp] theorem State.setPath_dev (s : State) (p : PairPath) (k : PathState) : (s.setPath p k).dev = s.dev := by cases p <;> rfl
@[simp] theorem State.setPath_sec (s : State) (p : PairPath) (k : PathState) : (s.setPath p k).sec = s.sec := by cases p <;> rfl
@[simp] theorem State.setPath_obs (s : State) (p : PairPath) (k : PathState) : (s.setPath p k).obs = s.obs := by cases p <;> rfl
@[simp] theorem State.setPath_phys (s : State) (p : PairPath) (k : PathState) : (s.setPath p k).phys = s.phys := by cases p <;> rfl
@[simp] theorem State.setPath_hbm (s : State) (p : PairPath) (k : PathState) : (s.setPath p k).hbm = s.hbm := by cases p <;> rfl
@[simp] theorem State.setPath_net (s : State) (p : PairPath) (k : PathState) : (s.setPath p k).net = s.net := by cases p <;> rfl
@[simp] theorem State.setPath_data (s : State) (p : PairPath) (k : PathState) : (s.setPath p k).data = s.data := by cases p <;> rfl
@[simp] theorem State.setPath_rel (s : State) (p : PairPath) (k : PathState) : (s.setPath p k).rel = s.rel := by cases p <;> rfl
@[simp] theorem State.setPath_sync (s : State) (p : PairPath) (k : PathState) : (s.setPath p k).sync = s.sync := by cases p <;> rfl
@[simp] theorem State.setPath_hub (s : State) (p : PairPath) (k : PathState) : (s.setPath p k).hub = s.hub := by cases p <;> rfl
@[simp] theorem State.setPath_sinks (s : State) (p : PairPath) (k : PathState) : (s.setPath p k).sinks = s.sinks := by cases p <;> rfl
@[simp] theorem State.setPath_ports (s : State) (p : PairPath) (k : PathState) : (s.setPath p k).ports = s.ports := by cases p <;> rfl
@[simp] theorem State.setPath_dtcs (s : State) (p : PairPath) (k : PathState) : (s.setPath p k).dtcs = s.dtcs := by cases p <;> rfl

/-! ## What a command leaves of the queue -/

@[simp] theorem finish_eq (s t : State) : finish s t = .next { t with pending := s.pending } := rfl

theorem step_idle {s : State} (h : s.pending = []) : step s = .next s.tick := by unfold step; rw [h]

theorem step_front {s : State} {c : Instr} {rest : List Instr} (h : s.pending = c :: rest) : step s = exec c { s with pending := rest } := by
  unfold step; rw [h]

end Sys2Proof.Machine
end

