-- ==== Sys2Proof/Laws/Quiet.lean ====
section
/-! SUPPORT. What the shared operations of admission, replies, records and routing can change. `Quiet s t`: t differs from s at most in what is emitted,
queued, recorded, counted or mirrored; every clock, setting, model, object and memory is as it was. -/

namespace Sys2Proof.Machine
open Sys2Proof

theorem Quiet.refl (s : State) : Quiet s s := ⟨rfl, rfl, rfl, rfl, rfl, rfl, rfl, rfl, rfl, rfl, rfl, rfl⟩

theorem Quiet.trans {a b c : State} (h : Quiet a b) (k : Quiet b c) : Quiet a c :=
  ⟨k.pending.trans h.pending, k.free.trans h.free, k.time.trans h.time, k.sys.trans h.sys, k.sec.trans h.sec, k.phys.trans h.phys, k.hbm.trans h.hbm, k.data.trans h.data,
   k.rel.trans h.rel, k.sync.trans h.sync, k.hub.trans h.hub, k.sinks.trans h.sinks⟩

theorem Quiet.ite {s a b : State} {c : Prop} [Decidable c] (ha : Quiet s a) (hb : Quiet s b) : Quiet s (if c then a else b) := by
  split
  · exact ha
  · exact hb

theorem Quiet.foldl {α : Type} {f : State → α → State} (h : ∀ t a, Quiet t (f t a)) (l : List α) (s : State) : Quiet s (l.foldl f s) := by
  induction l generalizing s with
  | nil => exact Quiet.refl s
  | cons a l ih => exact (h s a).trans (ih (f s a))

/-! ## Updates -/

theorem quiet_setDtc (s : State) (p : Fin 64) (d : Dtc) : Quiet s (s.setDtc p d) := ⟨rfl, rfl, rfl, rfl, rfl, rfl, rfl, rfl, rfl, rfl, rfl, rfl⟩
theorem quiet_onDtc (s : State) (p : Fin 64) (f : Dtc → Dtc) : Quiet s (s.onDtc p f) := ⟨rfl, rfl, rfl, rfl, rfl, rfl, rfl, rfl, rfl, rfl, rfl, rfl⟩
theorem quiet_onPort (s : State) (p : Fin 64) (f : AggPort → AggPort) : Quiet s (s.onPort p f) := ⟨rfl, rfl, rfl, rfl, rfl, rfl, rfl, rfl, rfl, rfl, rfl, rfl⟩
theorem quiet_setNetPort (s : State) (n : Nat) (q : Port) : Quiet s (s.setNetPort n q) := ⟨rfl, rfl, rfl, rfl, rfl, rfl, rfl, rfl, rfl, rfl, rfl, rfl⟩
theorem quiet_setQp (s : State) (n : Fin 64) (q : Qp) : Quiet s (s.setQp n q) := ⟨rfl, rfl, rfl, rfl, rfl, rfl, rfl, rfl, rfl, rfl, rfl, rfl⟩
theorem quiet_emit (s : State) (c : Chan) (b : Bytes) : Quiet s (s.emit c b) := ⟨rfl, rfl, rfl, rfl, rfl, rfl, rfl, rfl, rfl, rfl, rfl, rfl⟩
theorem quiet_setStaging (s : State) (r : Requester) (g : Staging) : Quiet s (s.setStaging r g) := ⟨rfl, rfl, rfl, rfl, rfl, rfl, rfl, rfl, rfl, rfl, rfl, rfl⟩
theorem quiet_pair (s : State) (p : PairState) : Quiet s { s with pair := p } := ⟨rfl, rfl, rfl, rfl, rfl, rfl, rfl, rfl, rfl, rfl, rfl, rfl⟩
theorem quiet_verbs (s : State) (v : VerbState) : Quiet s { s with verbs := v } := ⟨rfl, rfl, rfl, rfl, rfl, rfl, rfl, rfl, rfl, rfl, rfl, rfl⟩
theorem quiet_dev (s : State) (d : DevState) : Quiet s { s with dev := d } := ⟨rfl, rfl, rfl, rfl, rfl, rfl, rfl, rfl, rfl, rfl, rfl, rfl⟩
theorem quiet_dtcs (s : State) (d : Tbl Dtc) : Quiet s { s with dtcs := d } := ⟨rfl, rfl, rfl, rfl, rfl, rfl, rfl, rfl, rfl, rfl, rfl, rfl⟩
theorem quiet_ports (s : State) (p : Tbl AggPort) : Quiet s { s with ports := p } := ⟨rfl, rfl, rfl, rfl, rfl, rfl, rfl, rfl, rfl, rfl, rfl, rfl⟩
theorem quiet_obs (s : State) (o : ObsState) : Quiet s { s with obs := o } := ⟨rfl, rfl, rfl, rfl, rfl, rfl, rfl, rfl, rfl, rfl, rfl, rfl⟩
theorem quiet_setTags (s : State) (w : Part) (ts : List TagEntry) : Quiet s (s.setTags w ts) := by
  cases w with
  | agg => exact quiet_verbs s _
  | dtc p => exact quiet_dtcs s _

/-! ## Interrupts, records, mirror entries -/

theorem quiet_signal (s : State) (n : Nat) : Quiet s (s.signal n) := by
  unfold State.signal
  exact Quiet.ite (quiet_dev s _) (quiet_emit s _ _)

theorem quiet_irq (s : State) (bit : Nat) : Quiet s (s.irq bit) := by
  unfold State.irq
  exact Quiet.ite ((quiet_dev s _).trans (quiet_signal _ _)) (quiet_dev s _)

theorem quiet_enqueueRecord (s : State) (r : RawRecord) : Quiet s (s.enqueueRecord r) := by
  unfold State.enqueueRecord
  exact Quiet.ite (Quiet.ite (quiet_obs s _) (quiet_obs s _)) (Quiet.ite (quiet_obs s _) (quiet_obs s _))

theorem quiet_raise (s : State) (source code severity : Nat) (data : Bytes) (ctx : Nat) (oid : Option Word) :
    Quiet s (s.raise source code severity data ctx oid) := quiet_enqueueRecord s _

theorem quiet_raiseGroup (s : State) (source code severity : Nat) (data : Bytes) (ctx : Nat) : Quiet s (s.raiseGroup source code severity data ctx) :=
  Quiet.foldl (fun _ _ => quiet_enqueueRecord _ _) _ s

theorem quiet_mirror (s : State) (typ : Nat) (b : Bytes) : Quiet s (s.mirror typ b) := by
  unfold State.mirror
  exact Quiet.ite ⟨rfl, rfl, rfl, rfl, rfl, rfl, rfl, rfl, rfl, rfl, rfl, rfl⟩ (Quiet.refl s)

/-! ## Frames and replies -/

theorem quiet_toPartner (s : State) (f : QFrame) : Quiet s (s.toPartner f) := by
  unfold State.toPartner
  exact Quiet.ite (quiet_emit s _ _) (quiet_setNetPort s _ _)

theorem quiet_enqueue (s : State) (port cls : Nat) (f : QFrame) : Quiet s (s.enqueue port cls f) := by
  unfold State.enqueue
  refine Quiet.ite (quiet_toPartner s f) (Quiet.ite (quiet_setNetPort s _ _) (Quiet.ite ?_ (Quiet.ite (quiet_toPartner s f)
    (Quiet.ite (quiet_setNetPort s _ _) (quiet_setNetPort s _ _)))))
  exact (quiet_setNetPort s _ _).trans (quiet_toPartner _ f)

theorem quiet_sendTo (s : State) (o : Word) (cls et : Nat) (b : Bytes) : Quiet s (s.sendTo o cls et b).1 := by
  unfold State.sendTo
  split
  · exact Quiet.refl s
  · exact quiet_enqueue s _ _ _

theorem quiet_countNoRoute (s : State) (port : Nat) : Quiet s (s.countNoRoute port) := quiet_setNetPort s _ _

theorem quiet_sendOr (s : State) (port : Nat) (o : Word) (cls et : Nat) (b : Bytes) : Quiet s (s.sendOr port o cls et b) := by
  unfold State.sendOr
  exact Quiet.ite (quiet_sendTo s _ _ _ _) (quiet_countNoRoute s _)

theorem quiet_complete (s : State) (n : Fin 64) (addr : Nat) (res entry : Bytes) : Quiet s (s.complete n addr res entry) := by
  unfold State.complete
  refine Quiet.trans ?_ (quiet_setQp _ _ _)
  refine Quiet.ite (Quiet.trans ?_ (quiet_signal _ _)) ?_
  all_goals refine Quiet.trans (Quiet.ite (Quiet.refl s) (quiet_emit s _ _)) (quiet_emit _ _ _)

theorem quiet_offer (s : State) (n : Fin 64) (addr : Nat) (res entry : Bytes) : Quiet s (s.offer n addr res entry) := by
  unfold State.offer
  exact Quiet.ite (quiet_setQp s _ _) (quiet_complete s _ _ _ _)

theorem quiet_transmit (s : State) (req : Requester) (buf : Option ResultBuffer) (src : Word) (b : Bytes) : Quiet s (s.transmit req buf src b) := by
  cases req with
  | qp n => cases buf with
    | none => exact quiet_emit s _ _
    | some r => exact quiet_offer s _ _ _ _
  | eth o => exact quiet_sendOr s _ _ _ _ _
  | dtcPort p => exact Quiet.ite (quiet_ports s _) (quiet_emit s _ _)
  | partner => exact quiet_emit s _ _
  | pair => exact quiet_emit s _ _
  | mailbox => exact quiet_emit s _ _

theorem quiet_transmitDtc (s : State) (p : Fin 64) (req : Requester) (b : Bytes) : Quiet s (s.transmitDtc p req b) := quiet_onDtc s p _

theorem quiet_deliver (s : State) (x : Sentence) (buf : Option ResultBuffer) (b : Bytes) : Quiet s (s.deliver x buf b) := by
  unfold State.deliver
  cases x.part with
  | agg => exact quiet_transmit s _ buf _ b
  | dtc p => exact quiet_transmitDtc s p _ b

theorem quiet_bumpCounter (s : State) (w : Part) (req : Requester) (f : VerbCounters → VerbCounters) : Quiet s (s.bumpCounter w req f) := by
  cases w with
  | agg => exact quiet_verbs s _
  | dtc p => exact quiet_dtcs s _

theorem quiet_quickReply (s : State) (x : Sentence) (buf : Option ResultBuffer) (st : Nat) (res : Bytes) (cs : Nat) :
    Quiet s (s.quickReply x buf st res cs) := by
  unfold State.quickReply
  extract_lets s1
  have h : Quiet s s1 := Quiet.ite (quiet_bumpCounter s _ _ _) (Quiet.ite (quiet_bumpCounter s _ _ _) (Quiet.refl s))
  refine h.trans (Quiet.ite (quiet_deliver _ _ _ _) ?_)
  split
  · exact quiet_onDtc _ _ _
  · exact quiet_onDtc _ _ _
  · split
    · exact quiet_setQp _ _ _
    · exact Quiet.refl _
  · exact Quiet.refl _

theorem quiet_settle (s : State) (w : Part) (t : Ticket) (st : Nat) : Quiet s (s.settle w t st) := by
  unfold State.settle
  exact Quiet.ite (Quiet.refl s) (Quiet.ite (quiet_setTags s _ _) (quiet_setTags s _ _))

theorem quiet_sendStored (s : State) (w : Part) (t : Ticket) : Quiet s (s.sendStored w t) := by
  unfold State.sendStored
  split
  · split
    · exact (quiet_quickReply s _ _ _ _ _).trans (quiet_settle _ _ _ _)
    · exact Quiet.refl s
  · exact Quiet.refl s

theorem quiet_hwFaultRecord (s : State) (x : Sentence) (verb : Nat) : Quiet s (s.hwFaultRecord x verb) := quiet_raise s _ _ _ _ _ _

theorem quiet_finalAt (s : State) (w : Part) (t : Ticket) (st : Nat) (res : Bytes) (cs : Nat) : Quiet s (s.finalAt w t st res cs) := by
  unfold State.finalAt
  split
  · exact Quiet.refl s
  · dsimp only
    refine Quiet.ite ?_ ?_
    · exact ((Quiet.ite (quiet_hwFaultRecord s _ _) (Quiet.refl s)).trans (quiet_setTags _ _ _)).trans ((quiet_mirror _ _ _).trans (quiet_pair _ _))
    · exact ((Quiet.ite (quiet_hwFaultRecord s _ _) (Quiet.refl s)).trans (quiet_setTags _ _ _)).trans (quiet_sendStored _ _ _)

theorem quiet_final (s : State) (w : Part) (t : Ticket) (st : Nat) (res : Bytes) : Quiet s (s.final w t st res) := quiet_finalAt s w t st res _

theorem quiet_acceptedAt (s : State) (x : Sentence) (buf : Option ResultBuffer) (c : Nat) : Quiet s (s.acceptedAt x buf c) := by
  unfold State.acceptedAt
  refine Quiet.trans (quiet_setTags s _ _) (Quiet.ite ?_ (Quiet.refl _))
  split
  · split
    · exact (quiet_setQp _ _ _).trans (quiet_deliver _ _ _ _)
    · exact quiet_deliver _ _ _ _
  · exact Quiet.refl _
  · exact quiet_deliver _ _ _ _

theorem quiet_acceptedReply (s : State) (x : Sentence) (buf : Option ResultBuffer) : Quiet s (s.acceptedReply x buf) := quiet_acceptedAt s x buf _

/-! ## Admission -/

theorem quiet_takeIn (s : State) (code : Nat) (x : Sentence) (buf : Option ResultBuffer) : Quiet s (s.takeIn code x buf).1 := by
  unfold State.takeIn
  dsimp only
  split
  · exact (quiet_setStaging s _ _).trans (quiet_quickReply _ _ _ _ _ _)
  · split
    · exact (quiet_setTags s _ _).trans (quiet_quickReply _ _ _ _ _ _)
    · split
      · exact (quiet_setTags s _ _).trans (quiet_quickReply _ _ _ _ _ _)
      · exact quiet_setTags s _ _

theorem quiet_violation (s : State) (req : Requester) (tenant verb model : Nat) (res : Nat × Nat) : Quiet s (s.violation req tenant verb model res) := by
  unfold State.violation
  exact Quiet.ite (((quiet_bumpCounter s _ _ _).trans (quiet_enqueueRecord _ _)).trans (quiet_verbs _ _)) (quiet_bumpCounter s _ _ _)

theorem quiet_giveAnswer (s : State) (x : Sentence) (a : Answer) : Quiet s (s.giveAnswer x a) := by
  cases a with
  | final st res => exact quiet_final s _ _ _ _
  | finalAt st res c => exact quiet_finalAt s _ _ _ _ _
  | accepted => exact quiet_acceptedReply s _ _
  | later => exact quiet_setTags s _ _
  | done => exact Quiet.refl s

theorem quiet_joinSet (s : State) (v : Verb) (x : Sentence) (bad : Bool) : Quiet s (s.joinSet v x bad) := by
  unfold State.joinSet
  dsimp only
  split
  · exact (((quiet_setStaging s _ _).trans (quiet_verbs _ _)).trans (quiet_mirror _ _ _)).trans (quiet_acceptedReply _ _ _)
  · exact Quiet.ite (quiet_final s _ _ _ _) (((quiet_setStaging s _ _).trans (quiet_mirror _ _ _)).trans (quiet_acceptedReply _ _ _))

theorem quiet_silent (s : State) (v : Verb) (x : Sentence) (res : Nat × Nat) (zl : Nat) : Quiet s (s.silent v x res zl) := by
  unfold State.silent
  refine Quiet.ite ((quiet_violation s _ _ _ _ _).trans (quiet_joinSet _ _ _ _)) ?_
  exact ((quiet_violation s _ _ _ _ _).trans (Quiet.ite (quiet_acceptedReply _ _ _) (Quiet.refl _))).trans (quiet_final _ _ _ _ _)

theorem quiet_sendVerb (s : State) (p : Fin 64) (b : Bytes) : Quiet s (s.sendVerb p b) := by
  unfold State.sendVerb
  exact Quiet.ite (quiet_onPort s _ _) (quiet_emit s _ _)

theorem quiet_forward (s : State) (p : Fin 64) (verb : Nat) (x : Sentence) (target : Word) (sub : Nat) (client : Bool) :
    Quiet s (s.forward p verb x target sub client).1 :=
  ((quiet_verbs s _).trans (quiet_onPort _ _ _)).trans ((quiet_mirror _ _ _).trans (quiet_sendVerb _ _ _))

theorem quiet_runForward (s : State) (v : Verb) (p : Fin 64) (x : Sentence) : Quiet s (s.runForward v p x) := by
  unfold State.runForward
  split
  · exact quiet_silent s _ _ _ _
  · exact (quiet_forward s _ _ _ _ _ _).trans (quiet_setTags _ _ _)

theorem quiet_passOnSentence (s : State) (verb : Nat) (x : Sentence) : Quiet s (s.passOnSentence verb x) := by
  unfold State.passOnSentence
  exact Quiet.ite ((quiet_sendTo s _ _ _ _).trans (quiet_setTags _ _ _)) (quiet_final s _ _ _ _)

/-! ## Running a sentence: everything that can happen -/

/-- A sentence is quiet, or its body runs between two quiet parts. -/
def Ran (body : Sentence → State → State × Answer) (x : Sentence) (s t : State) : Prop :=
  Quiet s t ∨ ∃ u, Quiet s u ∧ Quiet (body x u).1 t

theorem Ran.after {body : Sentence → State → State × Answer} {x : Sentence} {s u t : State} (h : Quiet s u) (r : Ran body x u t) : Ran body x s t := by
  rcases r with r | ⟨w, hw, r⟩
  · exact .inl (h.trans r)
  · exact .inr ⟨w, h.trans hw, r⟩

theorem Ran.ite {body : Sentence → State → State × Answer} {x : Sentence} {s a b : State} {c : Prop} [Decidable c] (ha : Ran body x s a)
    (hb : Ran body x s b) : Ran body x s (if c then a else b) := by
  split
  · exact ha
  · exact hb

theorem ran_execute (s : State) (body : Sentence → State → State × Answer) (x : Sentence) : Ran body x s (s.execute body x) :=
  .inr ⟨s, Quiet.refl s, quiet_giveAnswer _ _ _⟩

theorem ran_start (s : State) (v : Verb) (body : Sentence → State → State × Answer) (x : Sentence) : Ran body x s (s.start v body x) := by
  unfold State.start
  refine Ran.ite (Ran.ite (.inl ?_) ((ran_execute _ body x).after (quiet_mirror s _ _))) (ran_execute s body x)
  exact (((quiet_mirror s _ _).trans (quiet_mirror _ _ _)).trans (quiet_setTags _ _ _)).trans (quiet_pair _ _)

theorem ran_runOwn (s : State) (v : Verb) (body : Sentence → State → State × Answer) (x : Sentence) : Ran body x s (s.runOwn v body x) := by
  unfold State.runOwn
  have q (st : Nat) : Ran body x s (s.final .agg x.ticket st) := .inl (quiet_final s _ _ _ _)
  refine Ran.ite (q _) (Ran.ite (q _) (Ran.ite (q _) (Ran.ite (q _) (Ran.ite (q _) ?_))))
  split
  · exact .inl (quiet_silent s _ _ _ _)
  · refine Ran.ite (q _) (Ran.ite (.inl ((quiet_setTags s _ _).trans (quiet_emit _ _ _))) (Ran.ite (.inl (quiet_joinSet s _ _ _)) (ran_start s v body x)))

theorem ran_runAgg (s : State) (v : Verb) (body : Sentence → State → State × Answer) (x : Sentence) : Ran body x s (s.runAgg v body x) := by
  unfold State.runAgg
  refine Ran.ite (ran_runOwn s v body x) ?_
  split
  · exact .inl (quiet_runForward s _ _ _)
  · exact .inl (quiet_passOnSentence s _ _)

theorem ran_runDtc (s : State) (v : Verb) (body : Sentence → State → State × Answer) (p : Fin 64) (x : Sentence) : Ran body x s (s.runDtc v body p x) := by
  unfold State.runDtc
  have q (st : Nat) : Ran body x s (s.final x.part x.ticket st) := .inl (quiet_final s _ _ _ _)
  exact Ran.ite (q _) (Ran.ite (q _) (Ran.ite (q _) (Ran.ite (q _) (Ran.ite (q _) (Ran.ite (q _) (ran_execute s body x))))))

theorem ran_runSentence (s : State) (v : Verb) (body : Sentence → State → State × Answer) (x : Sentence) : Ran body x s (s.runSentence v body x) := by
  unfold State.runSentence
  dsimp only
  refine Ran.ite (.inl (Quiet.refl s)) ?_
  have hq : Quiet s (if s.isAdmitted v.code x = true then (s, true) else s.takeIn v.code x none).1 := by
    split
    · exact Quiet.refl s
    · exact quiet_takeIn s _ _ _
  refine Ran.ite (.inl hq) ?_
  split
  · exact (ran_runAgg _ v body x).after hq
  · exact (ran_runDtc _ v body _ x).after hq

end Sys2Proof.Machine
end

