-- ==== Sys2Proof/Laws/Sentences.lean ====
section
/-! SUPPORT. A sentence that passes every step of R102 runs its verb's body and gives its answer; one that is not taken leaves everything as it is. -/

namespace Sys2Proof.Machine
open Sys2Proof

/-- What an admitted sentence need not do. -/
theorem admits_turn {s : State} {v : Verb} {x : Sentence} (h : s.admits v x = true) : (s.taken v x).mustWait v.code x = false := by
  simpa using (Bool.and_eq_true_iff.mp h).2

/-- Past step 7 the row goes on from the taken state. -/
theorem taken_pair {s : State} {v : Verb} {x : Sentence} (h : s.admits v x = true) :
    (if s.isAdmitted v.code x = true then (s, true) else s.takeIn v.code x none) = (s.taken v x, true) := by
  have h := (Bool.and_eq_true_iff.mp h).1
  unfold State.taken
  split
  · rfl
  · rename_i hn
    rw [Bool.not_eq_true] at hn
    rw [hn, Bool.false_or] at h
    exact Prod.ext rfl h

/-- What `reaches` says, piece by piece. -/
theorem reaches_iff {s : State} {v : Verb} {x : Sentence} : s.reaches v x = true ↔
    x.part = .agg ∧ s.dev.fwReady = true ∧ s.admits v x = true ∧ (s.taken v x).isOwn x.target = true ∧
    v.agg = true ∧ v.minLevel ≤ (s.taken v x).level .agg ∧ headerValid v x = true ∧ x.plen ≤ v.maxLen ∧ v.minLen ≤ x.plen ∧ v.check .agg x = true := by
  simp only [State.reaches, Bool.and_eq_true, beq_iff_eq, decide_eq_true_eq, and_assoc]

/-- What `accepts` says, piece by piece. -/
theorem accepts_iff {s : State} {v : Verb} {x : Sentence} : s.accepts v x = true ↔
    s.reaches v x = true ∧ (s.taken v x).denied v x = none ∧ (s.taken v x).pair.standby = false ∧ x.staged = false ∧ (s.taken v x).mirrors = false := by
  simp only [State.accepts, Bool.and_eq_true, Bool.not_eq_true', Option.isNone_iff_eq_none, and_assoc]

/-- A sentence in form for its verb comes to step 12. -/
theorem runSentence_reaches {s : State} {v : Verb} {x : Sentence} (body : Sentence → State → State × Answer) (h : s.reaches v x = true) :
    s.runSentence v body x = match (s.taken v x).denied v x with
      | some res => (s.taken v x).silent v x res (v.zeroLen .agg x)
      | none =>
        let t := s.taken v x
        if t.pair.standby && v.atStandby x == .refuse then t.final .agg x.ticket St.state
        else if t.pair.standby && x.req != .partner && v.atStandby x == .carry then
          (t.setTags .agg (updTag (t.tagsOf .agg) x.req x.tag fun e => { e with phase := .running })).emit (.partnerLink 1) (shim t.dev.oid 1 1 ++
            pad4 (sentenceBytes v.code x x.tag x.target x.subunit.toNat))
        else if x.staged then t.joinSet v x false
        else t.start v body x := by
  obtain ⟨hp, hr, ha, ho, hg, hl, hh, hmax, hmin, hc⟩ := reaches_iff.mp h
  have e : s.runSentence v body x = (s.taken v x).runAgg v body x := by
    simp only [State.runSentence, hp, hr, taken_pair ha, admits_turn ha, Bool.not_true, Bool.or_self, Bool.false_eq_true, if_false]
  rw [e, State.runAgg, if_pos (by rw [ho, Bool.or_true]), State.runOwn, hg]
  simp only [Bool.not_true, Bool.false_eq_true, if_false, if_neg (Nat.not_lt.mpr hl), hh, if_neg (Nat.not_lt.mpr hmax), hc, Bool.or_false,
    decide_eq_true_eq, if_neg (Nat.not_lt.mpr hmin)] <;> (cases (s.taken v x).denied v x <;> rfl)

/-- An accepted sentence runs. -/
theorem runSentence_accepts {s : State} {v : Verb} {x : Sentence} (body : Sentence → State → State × Answer) (h : s.accepts v x = true) :
    s.runSentence v body x = (s.taken v x).execute body x := by
  obtain ⟨hr, hd, hs, hst, hm⟩ := accepts_iff.mp h
  rw [runSentence_reaches body hr, hd]
  simp only [hs, Bool.false_and, Bool.false_eq_true, if_false, hst, State.start, hm]

/-- A sentence that a DTC accepts runs. -/
theorem runSentence_acceptsDtc {s : State} {v : Verb} {x : Sentence} (body : Sentence → State → State × Answer) (h : s.acceptsDtc v x = true) :
    s.runSentence v body x = (s.taken v x).execute body x := by
  unfold State.acceptsDtc at h
  cases hp : x.part with
  | agg => simp only [hp, Bool.false_eq_true] at h
  | dtc p =>
    simp only [hp, Bool.and_eq_true, Bool.not_eq_true', decide_eq_true_eq, and_assoc] at h
    obtain ⟨hr, ha, hg, hmb, hl, hh, hmax, hmin, hc, hn⟩ := h
    have e : s.runSentence v body x = (s.taken v x).runDtc v body p x := by
      simp only [State.runSentence, hp, hr, taken_pair ha, admits_turn ha, Bool.not_true, Bool.or_self, Bool.false_eq_true, if_false]
    rw [e, State.runDtc]
    simp only [hg, Bool.not_true, hmb, Bool.false_eq_true, if_false, if_neg (Nat.not_lt.mpr hl), hh, if_neg (Nat.not_lt.mpr hmax), hp, hc,
      Bool.or_false, decide_eq_true_eq, if_neg (Nat.not_lt.mpr hmin), hn]

/-- A sentence that runs, at either part. -/
theorem runSentence_runs {s : State} {v : Verb} {x : Sentence} (body : Sentence → State → State × Answer) (h : s.runs v x = true) :
    s.runSentence v body x = (s.taken v x).execute body x := by
  rcases Bool.or_eq_true_iff.mp h with h | h
  · exact runSentence_accepts body h
  · exact runSentence_acceptsDtc body h

/-- The command of a sentence that runs. -/
theorem finish_runs {s : State} {v : Verb} {x : Sentence} (body : Sentence → State → State × Answer) (h : s.runs v x = true) :
    finish s (s.runSentence v body x) = .next (s.ran v x (body x)) := by
  rw [runSentence_runs body h]; rfl

/-- Before FW_READY no sentence runs at the aggregator (R295). -/
theorem runSentence_early {s : State} {v : Verb} {x : Sentence} (body : Sentence → State → State × Answer) (hp : x.part = .agg)
    (h : s.dev.fwReady = false) : s.runSentence v body x = s := by
  simp only [State.runSentence, hp, h, Bool.not_false, if_true]

/-- Before adp_ready no sentence runs at a DTC (R168). -/
theorem runSentence_earlyDtc {s : State} {v : Verb} {x : Sentence} {p : Fin 64} (body : Sentence → State → State × Answer) (hp : x.part = .dtc p)
    (h : (s.dtc p).ready = false) : s.runSentence v body x = s := by
  simp only [State.runSentence, hp, h, Bool.not_false, if_true]

/-! ## Claims about rows -/

/-- The command of a verb's row is the verb's meaning, where the sentence is of the row's own form; a staged PLACE_MODEL that joins its set also starts
its copy. -/
theorem exec_row_joined {i : Instr} {r : VerbCommand} {s : State} (h : verbRow i = some r) (ho : r.own s = true) :
    exec i s = finish s (
      let t := s.runSentence r.verb r.body r.x
      if (r.verb.code == 0x0502 && r.x.staged && (t.stagingOf r.x.req).opened != (s.stagingOf r.x.req).opened) = true then t.stagePlace r.x else t) := by
  cases i
  case placeModel x =>
    cases h
    rfl
  all_goals
    cases h
    try rfl
  all_goals
    dsimp only at ho
    simp only [exec, execScanStart, execScanAbort, execLinkRetrain, execLinkPrbs31Test, execLinkLoopbackTest, execLinkTakeOutOfService,
      execLinkReturnToService, execLaneSwapRetire, execLaneSwapSetAutomatic, State.linkModeRow, execRunMarginPlan, execSetMarginSchedule,
      execRunScreenPack, execListScreenPacks, execCompress, execDecompress, execSyncPost, execSyncPostOrdered, State.formRow, ho, if_true]
    rfl

/-- A sentence that leaves its requester's open set as it was starts no copy. -/
theorem exec_row_same {i : Instr} {r : VerbCommand} {s : State} (h : verbRow i = some r) (ho : r.own s = true)
    (hp : ((s.runSentence r.verb r.body r.x).stagingOf r.x.req).opened = (s.stagingOf r.x.req).opened) :
    exec i s = finish s (s.runSentence r.verb r.body r.x) := by
  rw [exec_row_joined h ho]
  simp only [hp, bne_self_eq_false, Bool.and_false, Bool.false_eq_true, if_false]

/-- As above, for every row but a staged PLACE_MODEL. -/
theorem exec_row {i : Instr} {r : VerbCommand} {s : State} (h : verbRow i = some r) (ho : r.own s = true)
    (hp : r.x.staged = true → ∀ x, i ≠ .placeModel x) : exec i s = finish s (s.runSentence r.verb r.body r.x) := by
  cases i
  case placeModel x =>
    cases h
    have : x.staged = false := by
      cases e : x.staged
      · rfl
      · exact absurd rfl (hp e x)
    show finish s _ = _
    simp only [this, Bool.false_and, Bool.false_eq_true, if_false]
  all_goals
    cases h
    try rfl
  all_goals
    dsimp only at ho
    simp only [exec, execScanStart, execScanAbort, execLinkRetrain, execLinkPrbs31Test, execLinkLoopbackTest, execLinkTakeOutOfService,
      execLinkReturnToService, execLaneSwapRetire, execLaneSwapSetAutomatic, State.linkModeRow, execRunMarginPlan, execSetMarginSchedule,
      execRunScreenPack, execListScreenPacks, execCompress, execDecompress, execSyncPost, execSyncPostOrdered, State.formRow, ho, if_true]

/-- A sentence past step 7 changes the tag window of its part and nothing else. -/
theorem taken_eq {s : State} {v : Verb} {x : Sentence} (h : s.admits v x = true) : s.taken v x = s ∨ ∃ ts, s.taken v x = s.setTags x.part ts := by
  have hp : _ = s.taken v x := congrArg Prod.fst (taken_pair h)
  have hq : _ = true := congrArg Prod.snd (taken_pair h)
  split at hp
  · exact .inl hp.symm
  · rename_i hn
    rw [if_neg hn] at hq
    right
    rw [← hp]
    unfold State.takeIn at hq ⊢
    dsimp only at hq ⊢
    split at hq
    · cases hq
    · rename_i hx
      rw [if_neg hx]
      split at hq
      · cases hq
      · split at hq
        · cases hq
        · rename_i hf
          simp only [hf]
          exact ⟨_, rfl⟩

theorem runs_admits {s : State} {v : Verb} {x : Sentence} (h : s.runs v x = true) : s.admits v x = true := by
  rcases Bool.or_eq_true_iff.mp h with h | h
  · exact (reaches_iff.mp (accepts_iff.mp h).1).2.2.1
  · unfold State.acceptsDtc at h
    split at h
    · cases h
    · simp only [Bool.and_eq_true, and_assoc] at h
      exact h.2.1

/-- Taking a sentence changes no resource. -/
theorem quiet_taken (s : State) (v : Verb) (x : Sentence) : Quiet s (s.taken v x) := by
  unfold State.taken
  exact Quiet.ite (Quiet.refl s) (quiet_takeIn s _ x none)

/-- Two effects that agree on the taken state give the same next state. -/
theorem ran_congr {s : State} {v : Verb} {x : Sentence} {f g : State → State × Answer} (h : f (s.taken v x) = g (s.taken v x)) :
    s.ran v x f = s.ran v x g := by
  simp only [State.ran, h]

/-- A row does what its body does. -/
theorem does_of {c : Sentence → Instr} {v : Verb} {g : Sentence → State → Prop} {f : Sentence → State → State × Answer}
    (body : Sentence → State → State × Answer)
    (row : ∀ s x, s.runs v x = true → g x (s.taken v x) → exec (c x) s = finish s (s.runSentence v body x))
    (h : ∀ x t, g x t → body x t = f x t) : Does c v g f := by
  intro s x hr hg
  rw [row s x hr hg, finish_runs body hr, ran_congr (h x _ hg)]

/-- A row shows what its body shows. -/
theorem shows_of {c : Sentence → Instr} {v : Verb} {g : Sentence → State → Prop} {k : Nat} {n : Sentence → State → Nat}
    (body : Sentence → State → State × Answer)
    (row : ∀ s x, s.runs v x = true → g x (s.taken v x) → exec (c x) s = finish s (s.runSentence v body x))
    (h : ∀ x t, g x t → ∃ r : Bytes, r.length = n x t ∧ body x t = ({ t with free := t.free + k }, .final St.ok r)) : Shows c v g k n := by
  intro s x hr hg
  obtain ⟨r, hl, hb⟩ := h x _ hg
  exact ⟨r, hl, by rw [row s x hr hg, finish_runs body hr, ran_congr (g := fun t => ({ t with free := t.free + k }, .final St.ok r)) hb]⟩

/-! ## Bytes of results -/

theorem be_length (n v : Nat) : (be n v).length = n := by
  induction n with
  | zero => rfl
  | succ n ih => simp only [be, List.length_cons, ih]

theorem zeros_length (n : Nat) : (zeros n).length = n := List.length_replicate ..

theorem padTo_length (n : Nat) (bs : Bytes) : (padTo n bs).length = n := by
  simp only [padTo, List.length_take, List.length_append, zeros_length]
  omega

theorem stampBytes_length (s : Stamp) : (stampBytes s).length = 16 := by
  simp only [stampBytes, List.length_append, be_length]

end Sys2Proof.Machine
end

