-- ==== Sys2Proof/Tests/Slice0.lean ====
section
/-! SUPPORT. Tests: ill-formed commands are refused by WellFormed; and for every statement, concrete states and operands that meet the hypotheses of each
of its clauses. -/

namespace Sys2Proof.Tests
open Sys2Proof Sys2Proof.Machine

set_option maxRecDepth 20000
set_option synthInstance.maxSize 1000
set_option Elab.async false

/-! ## Small states -/

/-- An aggregator in service without a partner. -/
def up : State :=
  { dev := { oid := 16, fwReady := true, service := true, stage := 9, domains := BitVec.allOnes 96 }
    phys := { porLow := false }
    sec := { requesters := defaultMap, locked := true }
    pair := { claiming := false, term := 1, partnerOid := 17 } }

/-- The same with service time valid at second 5, and the clock at 1 s. -/
def upT : State :=
  { up with time := { up.time with clock := 1000000000 * unit, sel := { up.time.sel with st := .track, valid := true, svc := 5000000000 * unit } } }

/-- A DTC with both links in service. -/
def die : Dtc :=
  { ready := true, attached := true, oid := 32, oidBad := false, la := { e := { st := .inService } }, lb := { e := { st := .inService } } }

def upD : State := up.setDtc 0 die

/-- A DTC whose links are both down, so that its mailbox may act. -/
def upM : State := up.setDtc 0 { die with la := {}, lb := {} }

/-- A sentence of queue pair 0 to the aggregator; with the management bit; staged. -/
def sn (b : Bytes) : Sentence := ⟨.agg, .qp 0, 0, 1, 16, 0, 0, b⟩
def sm (b : Bytes) : Sentence := ⟨.agg, .qp 0, 8, 1, 16, 0, 0, b⟩
def sub1 (x : Sentence) : Sentence := { x with subunit := 1 }

/-- A sentence of the pair, and of the mailbox, to DTC 0. -/
def sd (b : Bytes) : Sentence := ⟨.dtc 0, .pair, 0, 1, 32, 0, 0, b⟩
def sdm (b : Bytes) : Sentence := ⟨.dtc 0, .pair, 8, 1, 32, 0, 0, b⟩
def sbx (b : Bytes) : Sentence := ⟨.dtc 0, .mailbox, 8, 1, 32, 0, 0, b⟩

/-- The sentence runs, and the clause's guard holds once it is taken. -/
abbrev Meets (v : Verb) (s : State) (x : Sentence) (g : Sentence → State → Prop) : Prop := s.runs v x = true ∧ g x (s.taken v x)

/-! ## Ill-formed commands are refused (R92, R120, R121, R139, R173, R325, R386, R446, R485, R489, R522, R608) -/

theorem test_sentence_plen : Instr.wellFormed (.nop (sn (List.replicate 65536 0))) = false := by decide +kernel
theorem test_sentence_part : Instr.wellFormed (.nop { sn [] with part := .dtc 0 }) = false ∧ Instr.wellFormed (.nop { sn [] with req := .mailbox }) = false ∧
    Instr.wellFormed (.nop (sd [])) = true ∧ Instr.wellFormed (.nop (sn [])) = true := by decide
theorem test_host_entry : Instr.wellFormed (.sentenceFetch ⟨0, zeros 63, true, none, true⟩) = false ∧
    Instr.wellFormed (.sentenceFetch ⟨0, zeros 64, true, none, true⟩) = true := by decide +kernel
theorem test_frame : Instr.wellFormed (.fabricFrameReceive 0 ⟨0, 0, none, 0x88B5, zeros 47, 64, true⟩) = false ∧
    Instr.wellFormed (.fabricFrameReceive 0 ⟨0, 0, none, 0x88B5, zeros 46, 64, true⟩) = true := by decide
theorem test_request : Instr.wellFormed (.requestReceive ⟨.qp 0, 3, false, zeros 32, [], 0, 0⟩) = false ∧
    Instr.wellFormed (.requestReceive ⟨.eth 5, 17, false, zeros 32, [], 0, 0⟩) = false ∧
    Instr.wellFormed (.requestReceive ⟨.qp 0, 17, false, zeros 32, [], 0, 0⟩) = true := by decide
theorem test_ties : Instr.wellFormed (.dtcColdReset 0 ⟨1, true, true, true, 0, true, 99⟩) = false ∧
    Instr.wellFormed (.dtcColdReset 0 ⟨1, true, true, true, 0, true, 100⟩) = true := by decide
theorem test_spi : Instr.wellFormed (.mspiTransaction ⟨none, [], 32, 0⟩) = false ∧ Instr.wellFormed (.mspiTransaction ⟨none, [0], 0, 0⟩) = false ∧
    Instr.wellFormed (.mspiTransaction ⟨none, [], 31, 0⟩) = true := by decide
theorem test_stage : Instr.wellFormed (.bootStageComplete (.fuses [(512, ⟨0, 0, 0, 0, 0, 0⟩)])) = false ∧
    Instr.wellFormed (.bootStageComplete (.fuses [(511, ⟨0, 0, 0, 0, 0, 0⟩)])) = true := by decide
theorem test_notice : Instr.wellFormed (.claimReceive .fabric (zeros 79)) = false ∧ Instr.wellFormed (.claimReceive .fabric (zeros 80)) = true := by decide
theorem test_mirror : Instr.wellFormed (.mirrorEntryReceive (zeros 15)) = false ∧ Instr.wellFormed (.mirrorEntryReceive (zeros 16)) = true := by decide
theorem test_region : Instr.wellFormed (.tartletEccError 0 (.treeArray 0) 32000) = false ∧ Instr.wellFormed (.tartletEccError 0 .scratch 32768) = false ∧
    Instr.wellFormed (.tartletEccError 0 .clusterCache 2097152) = false ∧ Instr.wellFormed (.tartletEccError 0 .clusterCache 2097151) = true := by decide
theorem test_codes : Instr.wellFormed (.tapGroupClockEdge 0 0 (List.replicate 65 0)) = false ∧
    Instr.wellFormed (.tapGroupClockEdge 0 0 (List.replicate 64 4)) = true := by decide
theorem test_tod : Instr.wellFormed (.todMessage 0 (zeros 15)) = false ∧ Instr.wellFormed (.todMessage 0 (zeros 16)) = true := by decide

theorem test_bar : Instr.wellFormed (.barRegisterWrite ⟨true, 2⟩ 0) = false ∧ Instr.wellFormed (.barRegisterWrite ⟨false, 4⟩ 0) = true ∧
    Instr.wellFormed (.trbRegisterWrite 0 1 0 0) = false ∧ Instr.wellFormed (.trbRegisterWrite 0 4 0 0) = true := by decide
theorem test_beat : Instr.wellFormed (.hmResponseBeat 0 (zeros 65) true false) = false ∧
    Instr.wellFormed (.hmResponseBeat 0 (zeros 64) true false) = true := by decide

/-! ## The spec's own numbers -/

/-- R94, R201: the check values of the ASCII string 123456789 under the five configurations. -/
theorem test_check_values :
    [({} : CheckConfig), crc16Config, { w := 8, poly := 0x07, init := 0, xor := 0, refin := false, refout := false },
      { w := 5, poly := 0x05, init := 0x1F, xor := 0x1F, refin := true, refout := true }, crc64Config].map
      (fun c => checkValueOf c (List.map (BitVec.ofNat 8) [0x31, 0x32, 0x33, 0x34, 0x35, 0x36, 0x37, 0x38, 0x39])) =
    [0xE3069283, 0x29B1, 0xF4, 0x19, 0x995DC9BBDF1939FA] := by decide +kernel

/-- R555: the cipher of the pages and regions is AES-256 (FIPS 197, example C.3), and deciphering undoes it. -/
theorem test_aes :
    let key := (List.range 32).map (BitVec.ofNat 8)
    let block := (List.range 16).map fun i => BitVec.ofNat 8 (17 * i)
    aesEncrypt key block = [0x8E, 0xA2, 0xB7, 0xCA, 0x51, 0x67, 0x45, 0xBF, 0xEA, 0xFC, 0x49, 0x90, 0x4B, 0x49, 0x60, 0x89] ∧
      aesDecrypt key (aesEncrypt key block) = block := by decide +kernel

/-- R90, R133: NOP to an aggregator in service is answered with ST_OK on its queue pair. -/
theorem test_nop : ((match exec (.nop (sn [])) up with | .next t => t.verbs.tags | _ => ([] : List TagEntry)).map
      fun (e : TagEntry) => (e.phase, e.reply.map fun (q : Reply) => q.status)) = [(Phase.done, some 0x0000)] := by decide +kernel

/-! ## What each statement needs, met: one theorem for each statement with hypotheses -/

/-- NOP as a row of R133. -/
def nopRow : VerbCommand := { verb := vNop, x := sn [], body := nopBody }
def nopAt0 : VerbCommand := { verb := vNop, x := sd [], body := nopBody }
def done1 : TagEntry := { x := sn [], verb := 0, phase := .done, since := 0, startCs := 0, reply := some ⟨0, [], 0⟩ }
def busy (r : Requester) (n : Nat) : List TagEntry :=
  (List.range n).map fun i => { x := { sn [] with req := r, tag := BitVec.ofNat 32 (i + 2) }, verb := 0, phase := .running, since := 0, startCs := 0 }
def busyD (n : Nat) : List TagEntry :=
  (List.range n).map fun i => { x := { sd [] with tag := BitVec.ofNat 32 (i + 2) }, verb := 0, phase := .running, since := 0, startCs := 0 }
/-- The row of a verb in a state, and what it must meet there. -/
abbrev Row (i : Instr) (s : State) (g : Verb → Sentence → Prop) : Prop := ∃ r, verbRow i = some r ∧ r.own s = true ∧ g r.verb r.x
/-- The same for a sentence that reaches step 12 and is permitted there. -/
abbrev Permitted (i : Instr) (s : State) (g : Verb → Sentence → State → Prop) : Prop :=
  Row i s fun v x => s.reaches v x = true ∧ (s.taken v x).denied v x = none ∧ g v x (s.taken v x)
theorem witness_EmptyQueueIsOneClockCycle :
    (State.reset.pending = [] ∧ State.reset.hub.buffer = [] ∧ ∀ e ∈ State.reset.data.crossings, ∀ q ∈ e.2, State.reset.now + 1 < q.due) := by decide +kernel

theorem witness_FlashStaysCanonical :
    (Memory.wf up.phys.flash = true ∧ ∃ t, step up = .next t) :=
  ⟨by decide, _, rfl⟩

theorem witness_OnlyFlashRowsWriteTheFlash :
    (∃ t, exec (.nop (sn [])) up = .next t ∧ (∀ ok, Instr.nop (sn []) ≠ .flashProgram ok) ∧ (∀ ok, Instr.nop (sn []) ≠ .flashErase ok) ∧ ∀ r, Instr.nop (sn []) ≠ .bootStageComplete r) :=
  ⟨_, rfl, fun _ h => (nomatch h), fun _ h => (nomatch h), fun _ h => (nomatch h)⟩

theorem witness_FuseBitsNeverClear :
    (∃ t, step { up with rel := { up.rel with fuses := [(71, 1)] } } = .next t ∧ (Tbl.get (0 : Word) 71 ([(71, 1)] : Tbl Word)).getLsbD 0 = true) :=
  ⟨_, rfl, by decide⟩

theorem witness_OnlyFuseRowsAndServiceBlowFuses :
    (∃ t, exec .readmission up = .next t ∧ (∀ v ok, Instr.readmission ≠ .fuseOwner v ok) ∧ (∀ v ok, Instr.readmission ≠ .fuseDebugDisable v ok) ∧ t.dev.service = up.dev.service) :=
  ⟨_, rfl, fun _ _ h => (nomatch h), fun _ _ h => (nomatch h), rfl⟩

theorem witness_NoSentenceRunsBeforeItsPartIsReady :
    (verbRow (.nop (sn [])) = some nopRow ∧ nopRow.x.part = .agg ∧ State.reset.dev.fwReady = false) ∧
    (verbRow (.nop (sd [])) = some nopAt0 ∧ nopAt0.x.part = .dtc 0 ∧ (State.reset.dtc 0).ready = false) :=
  ⟨⟨rfl, rfl, rfl⟩, ⟨rfl, rfl, rfl⟩⟩

theorem witness_EverySentenceThatPassesRuns :
    (verbRow (.nop (sn [])) = some nopRow ∧ nopRow.own up = true ∧ up.runs nopRow.verb nopRow.x = true) ∧
    (verbRow (.nop (sd [])) = some nopAt0 ∧ nopAt0.own upD = true ∧ upD.runs nopAt0.verb nopAt0.x = true) :=
  ⟨⟨rfl, rfl, by decide⟩, ⟨rfl, rfl, by decide⟩⟩

theorem witness_RepeatedTagIsNeverExecuted :
    (let s : State := { up with verbs := { up.verbs with tags := [done1] } }; verbRow (.nop (sn [])) = some nopRow ∧ nopRow.own s = true ∧ nopRow.x.part = .agg ∧ s.dev.fwReady = true ∧ s.isAdmitted vNop.code (sn []) = false ∧ (s.stagingOf (sn []).req).expired = false ∧ findTag (window .agg s.now s.verbs.tags) (sn []).req (sn []).tag = some done1) ∧
    (let e : TagEntry := { done1 with x := sd [] }; let s := up.setDtc 0 { die with tags := [e] }; verbRow (.nop (sd [])) = some nopAt0 ∧ nopAt0.own s = true ∧ nopAt0.x.part = .dtc 0 ∧ (s.dtc 0).ready = true ∧ s.isAdmitted vNop.code (sd []) = false ∧ findTag (window (.dtc 0) (s.dtc 0).now (s.dtc 0).tags) (sd []).req (sd []).tag = some e) :=
  ⟨⟨rfl, by decide⟩, ⟨rfl, by decide⟩⟩

theorem witness_FirstSentenceAfterExpiryIsTurnedAway :
    (let s := up.setStaging (.qp 0) { expired := true }; verbRow (.nop (sn [])) = some nopRow ∧ nopRow.own s = true ∧ (sn []).part = .agg ∧ s.dev.fwReady = true ∧ s.isAdmitted vNop.code (sn []) = false ∧ (s.stagingOf (sn []).req).expired = true) :=
  ⟨rfl, by decide⟩

theorem witness_InFlightBoundsRefuseWithBusy :
    (let s : State := { up with verbs := { up.verbs with tags := busy (.qp 0) 256 } }; let ts := makeRoom .agg s.now (window .agg s.now s.verbs.tags); verbRow (.nop (sn [])) = some nopRow ∧ nopRow.own s = true ∧ s.isAdmitted vNop.code (sn []) = false ∧ s.dev.fwReady = true ∧ (s.stagingOf (sn []).req).expired = false ∧ findTag (window .agg s.now s.verbs.tags) (.qp 0) 1 = none ∧ 256 ≤ ((ts.filter (·.inFlight)).filter fun e => e.x.req == (.qp 0)).length) ∧
    (let s : State := { up with verbs := { up.verbs with tags := busy (.qp 1) 4096 } }; let ts := makeRoom .agg s.now (window .agg s.now s.verbs.tags); verbRow (.nop (sn [])) = some nopRow ∧ nopRow.own s = true ∧ s.isAdmitted vNop.code (sn []) = false ∧ s.dev.fwReady = true ∧ (s.stagingOf (sn []).req).expired = false ∧ findTag (window .agg s.now s.verbs.tags) (.qp 0) 1 = none ∧ 4096 ≤ (ts.filter (·.inFlight)).length) ∧
    (let s := up.setDtc 0 { die with tags := busyD 16 }; let ts := makeRoom (.dtc 0) (s.dtc 0).now (window (.dtc 0) (s.dtc 0).now (s.dtc 0).tags); verbRow (.nop (sd [])) = some nopAt0 ∧ nopAt0.own s = true ∧ s.isAdmitted vNop.code (sd []) = false ∧ (s.dtc 0).ready = true ∧ findTag (window (.dtc 0) (s.dtc 0).now (s.dtc 0).tags) .pair 1 = none ∧ (if (sd []).req == .mailbox then 1 else 16) ≤ ((ts.filter (·.inFlight)).filter fun e => e.x.req == .pair).length) :=
  ⟨⟨rfl, by decide +kernel⟩, ⟨rfl, by decide +kernel⟩, ⟨rfl, by decide⟩⟩

theorem witness_RefusedSentencesHaveNoEffect :
    (Row (.readCounters (sn [])) up fun v x => x.part = .agg ∧ up.admits v x = true ∧ (up.taken v x).isOwn x.target = true ∧ v.agg = false) ∧
    (let s : State := { up with dev := { up.dev with pinned := 2 } }; Row (.setBaseline (sn (zeros 12))) s fun v x => x.part = .agg ∧ s.admits v x = true ∧ (s.taken v x).isOwn x.target = true ∧ v.agg = true ∧ (s.taken v x).level .agg < v.minLevel) ∧
    (Row (.nop (sm [])) up fun v x => x.part = .agg ∧ up.admits v x = true ∧ (up.taken v x).isOwn x.target = true ∧ v.agg = true ∧ v.minLevel ≤ (up.taken v x).level .agg ∧ headerValid v x = false) ∧
    (Row (.nop (sn [0])) up fun v x => x.part = .agg ∧ up.admits v x = true ∧ (up.taken v x).isOwn x.target = true ∧ v.agg = true ∧ v.minLevel ≤ (up.taken v x).level .agg ∧ headerValid v x = true ∧ v.maxLen < x.plen) ∧
    (Row (.setTransport (sm [0])) up fun v x => x.part = .agg ∧ up.admits v x = true ∧ (up.taken v x).isOwn x.target = true ∧ v.agg = true ∧ v.minLevel ≤ (up.taken v x).level .agg ∧ headerValid v x = true ∧ x.plen ≤ v.maxLen ∧ x.plen < v.minLen) ∧
    (Row (.setTransport (sm (zeros 4))) up fun v x => x.part = .agg ∧ up.admits v x = true ∧ (up.taken v x).isOwn x.target = true ∧ v.agg = true ∧ v.minLevel ≤ (up.taken v x).level .agg ∧ headerValid v x = true ∧ x.plen ≤ v.maxLen ∧ v.check .agg x = false) :=
  ⟨⟨_, rfl, by decide +kernel⟩, ⟨_, rfl, by decide +kernel⟩, ⟨_, rfl, by decide +kernel⟩, ⟨_, rfl, by decide +kernel⟩, ⟨_, rfl, by decide +kernel⟩, ⟨_, rfl, by decide +kernel⟩⟩

theorem witness_DeniedSentencesAreSilent :
    (let s : State := { up with sec := { up.sec with requesters := [] } }; Row (.nop (sn [])) s fun v x => s.reaches v x = true ∧ (s.taken v x).denied v x = some (0, 0) ∧ x.staged = false) :=
  ⟨_, rfl, by decide +kernel⟩

theorem witness_StandbyRefusesOrCarries :
    (let s : State := { up with pair := { up.pair with standby := true } }; Permitted (.stage (sn [])) s fun v x t => t.pair.standby = true ∧ v.atStandby x = .refuse) ∧
    (let s : State := { up with pair := { up.pair with standby := true } }; Permitted (.setProfile (sm (zeros 4))) s fun v x t => t.pair.standby = true ∧ x.req ≠ .partner ∧ v.atStandby x = .carry) :=
  ⟨⟨_, rfl, by decide +kernel⟩, ⟨_, rfl, by decide +kernel⟩⟩

def routePar : Bytes := be 1 0 ++ zeros 3 ++ be 4 1 ++ be 8 0
theorem witness_StagedSentencesJoinTheirSet :
    (Permitted (.routeSet { sm routePar with flags := 12 }) up fun _ x t => t.pair.standby = false ∧ x.staged = true ∧ (up.stagingOf x.req).opened = none) ∧
    (let s := up.setStaging (.qp 0) { opened := some ⟨1, List.replicate 63 (0x0700, sn []), 0⟩ }; Permitted (.routeSet { sm routePar with flags := 12 }) s fun _ x t => t.pair.standby = false ∧ x.staged = true ∧ ∃ g ∈ (s.stagingOf x.req).opened, ¬ 64 ≤ g.changes.length) ∧
    (let s := up.setStaging (.qp 0) { opened := some ⟨1, List.replicate 64 (0x0700, sn []), 0⟩ }; Permitted (.routeSet { sm routePar with flags := 12 }) s fun _ x t => t.pair.standby = false ∧ x.staged = true ∧ ∃ g ∈ (s.stagingOf x.req).opened, 64 ≤ g.changes.length) ∧
    (Permitted (.placeModel { sn (be 2 1 ++ be 1 1 ++ zeros 13) with flags := 4 }) up fun _ x t => t.pair.standby = false ∧ x.staged = true ∧ (up.stagingOf x.req).opened = none) :=
  ⟨⟨_, rfl, by decide +kernel⟩, ⟨_, rfl, by decide +kernel⟩, ⟨_, rfl, by decide +kernel⟩, ⟨_, rfl, by decide +kernel⟩⟩

theorem witness_MirroringWithholdsEffects :
    (let s : State := { up with pair := { up.pair with mirrored := true } }; Permitted (.stage (sn [])) s fun v x t => x.staged = false ∧ t.mirrors = true ∧ v.nonIdem = true) ∧
    (let s : State := { up with pair := { up.pair with mirrored := true } }; Permitted (.nop (sn [])) s fun v x t => x.staged = false ∧ t.mirrors = true ∧ (v.nonIdem || v.syncEntry) = false) :=
  ⟨⟨_, rfl, by decide +kernel⟩, ⟨_, rfl, by decide +kernel⟩⟩

theorem witness_TakingAndAnsweringTouchNoResource :
    (up.runs vNop (sn []) = true) := by decide +kernel

def param (n : Nat) (b : Bytes) : Bytes := padTo n b
theorem witness_GetCapsReportsTheTable :
    (Meets vGetCaps up (sn []) (fun x _ => x.part = .agg)) ∧
    (Meets vGetCaps upD (sd []) (fun x _ => x.part ≠ .agg)) := by decide +kernel

theorem witness_BasicVerbsDoWhatTheySay :
    ((Meets vNop up (sn []) (fun _ _ => True) ∧ Meets vGetVersion up (sn []) (fun x _ => x.part = .agg)) ∧
    (Meets vGetVersion upD (sd []) (fun x _ => x.part = .dtc 0)) ∧
    (Meets vGetVerbCounters up (sm (zeros 4)) (fun x _ => x.part = .agg)) ∧
    (Meets vGetVerbCounters upD (sdm (be 1 2 ++ zeros 3)) (fun x _ => x.part = .dtc 0)) ∧
    (Meets vSetTransport up (sm (be 2 0x9000 ++ be 1 1 ++ be 1 0)) (fun x _ => x.b 2 = 1))) ∧
    ((Meets vSetTransport up (sm (be 2 0x0600 ++ be 1 2 ++ be 1 0)) (fun x _ => x.b 2 = 2)) ∧
    (Meets vSetOid up (sm (be 4 1)) (fun x _ => x.part = .agg ∧ x.subunit = 0)) ∧
    (Meets vSetOid up (sub1 (sm (be 4 0xFFFFFFFE))) (fun x _ => x.part = .agg ∧ x.subunit.toNat = (0 : Fin 64).val + 1)) ∧
    (Meets vSetOid upD (sdm (be 4 33)) (fun x _ => x.part = .dtc 0))) :=
  ⟨by decide +kernel, by decide +kernel⟩

theorem witness_TimebaseVerbsActOnTheirDomain :
    ((Meets vGetTime up (sn []) (fun x _ => x.part = .agg)) ∧
    (Meets vSetIncrement up (sm (be 8 1 ++ be 8 0x0001000000000000)) (fun x _ => x.part = .agg)) ∧
    (Meets vPhaseAdd up (sm (be 8 1 ++ be 8 5)) (fun x _ => x.part = .agg)) ∧
    (Meets vSetTime up (sm (be 1 1 ++ zeros 31)) (fun x t => x.part = .agg ∧ t.follows (idx2 (x.b 0)) = false)) ∧
    (Meets vSetTime upT (sm (zeros 32)) (fun x t => x.part = .agg ∧ t.follows (idx2 (x.b 0)) = true))) ∧
    ((Meets vSetDomainState up (sm (be 1 0 ++ be 1 1 ++ be 1 7 ++ zeros 5 ++ be 4 2000)) (fun x _ => x.b 0 = 0 ∧ x.b 3 = 0)) ∧
    (Meets vSetDomainState { up with time := { up.time with domB := { binding := .pps 0 } } } (sm (be 1 0 ++ be 1 1 ++ be 1 0 ++ be 1 2 ++ zeros 4 ++ be 4 2000)) (fun x t => t.boundTwice x = true)) ∧
    (Meets vSetSelection up (sm (be 4 0 ++ be 4 3600 ++ be 4 10000)) (fun _ _ => True)) ∧
    (Meets vGetSelection up (sm []) (fun _ _ => True))) :=
  ⟨by decide +kernel, by decide +kernel⟩

theorem witness_DtcTimeIsWrittenFromTheFollowedLink :
    ((Meets vGetTime upD (sd []) (fun x _ => x.part = .dtc 0)) ∧
    (Meets vSetIncrement upM (sbx (be 1 2 ++ zeros 7 ++ be 8 (4 * unit))) (fun x t => x.part = .dtc 0 ∧ fromFollowed t 0 x = true)) ∧
    (let x := sdm (be 1 2 ++ zeros 7 ++ be 8 (20 * unit)); Meets vSetIncrement (up.setDtc 0 { die with time := { dom := 0 }, tags := [⟨x, 0x0101, .admitted, 0, 0, none, none, some .b⟩] }) x (fun x t => x.part = .dtc 0 ∧ fromFollowed t 0 x = false)) ∧
    (let x := sdm (be 1 2 ++ zeros 7 ++ be 8 1); Meets vPhaseAdd (up.setDtc 0 { die with time := { dom := 0 }, tags := [⟨x, 0x0102, .admitted, 0, 0, none, none, some .b⟩] }) x (fun x t => x.part = .dtc 0 ∧ fromFollowed t 0 x = false)) ∧
    (let x := sdm (be 1 2 ++ zeros 7 ++ be 8 1); Meets vPhaseAdd (up.setDtc 0 { die with time := { dom := 0 }, tags := [⟨x, 0x0102, .admitted, 0, 0, none, none, some .a⟩] }) x (fun x t => x.part = .dtc 0 ∧ fromFollowed t 0 x = true))) ∧
    ((Meets vSetTime upM (sbx (be 1 2 ++ zeros 31)) (fun x t => x.part = .dtc 0 ∧ (x.req = .mailbox ∨ fromFollowed t 0 x = true) ∧ (t.dtc 0).time.valid = false)) ∧
    (Meets vSetTime (up.setDtc 0 { die with time := { valid := true } }) (sdm (be 1 2 ++ zeros 31)) (fun x t => x.part = .dtc 0 ∧ ((x.req ≠ .mailbox ∧ fromFollowed t 0 x = false) ∨ (t.dtc 0).time.valid = true)))) :=
  ⟨by decide +kernel, by decide +kernel⟩

theorem witness_StampingVerbsActOnTheirInput :
    ((Meets vSetAsymmetry up (sm (be 4 17 ++ be 4 9)) (fun x _ => x.part = .agg)) ∧
    (Meets vSetTrigger upT (sm (be 1 0 ++ be 1 1 ++ be 2 0 ++ zeros 24 ++ be 4 65535)) (fun x t => x.part = .agg ∧ takeTrigger (Tbl.get {} (x.b 0) t.time.trig) (progOf x) t.timeValid (frac16 t.svc) t.svcFlags = none)) ∧
    (Meets vGetTrigger up (sm (be 4 0x07000000)) (fun x _ => x.part = .agg)) ∧
    (Meets vSetCapture up (sm (be 1 7 ++ be 1 3 ++ zeros 2)) (fun x _ => x.part = .agg)) ∧
    (Meets vReadCaptures up (sm (be 1 7 ++ be 1 16 ++ zeros 2)) (fun x _ => x.part = .agg))) ∧
    ((Meets vSetAsymmetry upD (sdm (be 4 0 ++ be 4 9)) (fun x _ => x.part = .dtc 0)) ∧
    (Meets vSetTrigger (up.setDtc 0 { die with time := { valid := true, time := 5000000000 * unit } }) (sdm (be 1 0 ++ be 1 1 ++ be 2 0 ++ zeros 24 ++ be 4 65535)) (fun x t => x.part = .dtc 0 ∧ takeTrigger (Tbl.get {} (x.b 0) (t.dtc 0).time.trig) (progOf x) (t.dtc 0).time.valid (frac16 (t.dtc 0).time.time) (t.dtc 0).flags = none)) ∧
    (Meets vGetTrigger upD (sdm (be 4 0x03000000)) (fun x _ => x.part = .dtc 0)) ∧
    (Meets vSetCapture upD (sdm (be 1 3 ++ be 1 3 ++ zeros 2)) (fun x _ => x.part = .dtc 0)) ∧
    (Meets vReadCaptures upD (sdm (be 1 3 ++ be 1 16 ++ zeros 2)) (fun x _ => x.part = .dtc 0))) ∧
    ((Meets vSetFreqSource up (sm (be 1 0 ++ be 1 1 ++ zeros 2 ++ be 1 255)) (fun _ _ => True)) ∧
    (Meets vSetPtpPort up (sm (be 1 16 ++ zeros 7)) (fun _ _ => True)) ∧
    (Meets vGetPtpPort up (sm (be 4 0x10000000)) (fun _ _ => True))) ∧
    (Meets vSetTrigger up (sm (be 1 7 ++ zeros 31)) (fun x t => ∃ r, x.part = .agg ∧ takeTrigger (Tbl.get {} (x.b 0) t.time.trig) (progOf x) t.timeValid (frac16 t.svc) t.svcFlags = some r)) ∧
    (Meets vSetTrigger upD (sdm (be 1 3 ++ zeros 31)) (fun x t => ∃ r, x.part = .dtc 0 ∧ takeTrigger (Tbl.get {} (x.b 0) (t.dtc 0).time.trig) (progOf x) (t.dtc 0).time.valid (frac16 (t.dtc 0).time.time) (t.dtc 0).flags = some r)) :=
  ⟨by decide +kernel, by decide +kernel, by decide +kernel, ⟨by decide, _, rfl, rfl⟩, ⟨by decide, _, rfl, rfl⟩⟩

/-- Parameters of the three collection settings: a zero activation stamp, then the setting. -/
def setPar (id n : Nat) : Bytes := zeros 16 ++ be 2 id ++ be 2 n ++ be 1 255 ++ zeros 3
def redPar (w : Nat) : Bytes := zeros 16 ++ be 2 1 ++ be 2 w ++ be 4 100 ++ be 2 0 ++ zeros 6
def histPar (k : Nat) : Bytes := zeros 16 ++ be 1 63 ++ be 1 k ++ zeros 6
def late (b : Bytes) : Bytes := be 8 0 ++ be 4 1 ++ b.drop 12
def dieT : Dtc := { die with time := { valid := true } }
def upDT : State := up.setDtc 0 dieT
def sub64 (x : Sentence) : Sentence := { x with subunit := 64 }
def at1 (b : Bytes) : Bytes := be 8 1 ++ b.drop 8
def nearD (x : Sentence) (t : State) : Bool := ofStamp (stampAt x.params 0) % ((t.dtc 0).epoch * unit) ≠ 0 ∨ ofStamp (stampAt x.params 0) < (t.dtc 0).time.time + twoUs
def nearA (x : Sentence) (t : State) : Bool := ofStamp (stampAt x.params 0) % (t.sys.epoch * unit) ≠ 0 ∨ ofStamp (stampAt x.params 0) < t.svc + twoUs
theorem witness_CollectionSettingsWaitForTheirTick :
    ((Meets vSetCounterSet upDT (sd (setPar 1 0)) (fun x t => x.part = .dtc 0 ∧ (stampAt x.params 0 = Stamp.zero ∨ ((t.dtc 0).time.valid = true ∧ ¬ nearD x t)) ∧ (t.dtc 0).overloads ((t.dtc 0).askedTick (stampAt x.params 0)) (changeOf vSetCounterSet.code x) = false)) ∧
    (Meets vSetCounterSet upDT (sd (at1 (setPar 1 0))) (fun x t => x.part = .dtc 0 ∧ stampAt x.params 0 ≠ Stamp.zero ∧ (stampAt x.params 0 = Stamp.zero ∨ ((t.dtc 0).time.valid = true ∧ ¬ nearD x t)) ∧ (t.dtc 0).overloads ((t.dtc 0).askedTick (stampAt x.params 0)) (changeOf vSetCounterSet.code x) = false)) ∧
    (Meets vSetCounterSet upD (sd (late (setPar 1 0))) (fun x t => x.part = .dtc 0 ∧ stampAt x.params 0 ≠ Stamp.zero ∧ (t.dtc 0).time.valid = false)) ∧
    (Meets vSetCounterSet upDT (sd (late (setPar 1 0))) (fun x t => x.part = .dtc 0 ∧ stampAt x.params 0 ≠ Stamp.zero ∧ (t.dtc 0).time.valid = true ∧ nearD x t)) ∧
    (Meets vSetCounterSet (up.setDtc 0 { die with epoch := 0 }) (sd (setPar 1 0)) (fun x t => x.part = .dtc 0 ∧ (stampAt x.params 0 = Stamp.zero ∨ ((t.dtc 0).time.valid = true ∧ ¬ nearD x t)) ∧ (t.dtc 0).overloads ((t.dtc 0).askedTick (stampAt x.params 0)) (changeOf vSetCounterSet.code x) = true))) ∧
    ((Meets vSetCounterSet up (sub1 (sn (late (setPar 1 0)))) (fun x t => x.part = .agg ∧ stampAt x.params 0 ≠ Stamp.zero ∧ t.timeValid = false)) ∧
    (Meets vSetCounterSet upT (sub1 (sn (late (setPar 1 0)))) (fun x t => x.part = .agg ∧ stampAt x.params 0 ≠ Stamp.zero ∧ t.timeValid = true ∧ nearA x t)) ∧
    (Meets vSetCounterSet { up with sys := { up.sys with epoch := 0 } } (sub1 (sn (setPar 1 0))) (fun x t => x.part = .agg ∧ (stampAt x.params 0 = Stamp.zero ∨ (t.timeValid = true ∧ ¬ nearA x t)) ∧ t.configRefused vSetCounterSet.code x = true)) ∧
    (Meets vSetCounterSet up (sub1 (sn (setPar 1 0))) (fun x t => x.part = .agg ∧ (stampAt x.params 0 = Stamp.zero ∨ (t.timeValid = true ∧ ¬ nearA x t)) ∧ t.configRefused vSetCounterSet.code x = false)) ∧
    (Meets vSetReduction upDT (sd (redPar 1024)) (fun x t => x.part = .dtc 0 ∧ (stampAt x.params 0 = Stamp.zero ∨ ((t.dtc 0).time.valid = true ∧ ¬ nearD x t)) ∧ (t.dtc 0).overloads ((t.dtc 0).askedTick (stampAt x.params 0)) (changeOf vSetReduction.code x) = false))) ∧
    ((Meets vSetReduction upD (sd (late (redPar 1024))) (fun x t => x.part = .dtc 0 ∧ stampAt x.params 0 ≠ Stamp.zero ∧ (t.dtc 0).time.valid = false)) ∧
    (Meets vSetReduction upDT (sd (late (redPar 1024))) (fun x t => x.part = .dtc 0 ∧ stampAt x.params 0 ≠ Stamp.zero ∧ (t.dtc 0).time.valid = true ∧ nearD x t)) ∧
    (Meets vSetReduction (up.setDtc 0 { die with epoch := 0 }) (sd (redPar 0)) (fun x t => x.part = .dtc 0 ∧ (stampAt x.params 0 = Stamp.zero ∨ ((t.dtc 0).time.valid = true ∧ ¬ nearD x t)) ∧ (t.dtc 0).overloads ((t.dtc 0).askedTick (stampAt x.params 0)) (changeOf vSetReduction.code x) = true)) ∧
    (Meets vSetReduction up (sub1 (sn (late (redPar 1024)))) (fun x t => x.part = .agg ∧ stampAt x.params 0 ≠ Stamp.zero ∧ t.timeValid = false)) ∧
    (Meets vSetReduction upT (sub1 (sn (late (redPar 1024)))) (fun x t => x.part = .agg ∧ stampAt x.params 0 ≠ Stamp.zero ∧ t.timeValid = true ∧ nearA x t))) ∧
    ((Meets vSetReduction { up with sys := { up.sys with epoch := 0 } } (sub1 (sn (redPar 0))) (fun x t => x.part = .agg ∧ (stampAt x.params 0 = Stamp.zero ∨ (t.timeValid = true ∧ ¬ nearA x t)) ∧ t.configRefused vSetReduction.code x = true)) ∧
    (Meets vSetReduction up (sub1 (sn (redPar 1024))) (fun x t => x.part = .agg ∧ (stampAt x.params 0 = Stamp.zero ∨ (t.timeValid = true ∧ ¬ nearA x t)) ∧ t.configRefused vSetReduction.code x = false)) ∧
    (Meets vSetHistogram upDT (sd (histPar 0)) (fun x t => x.part = .dtc 0 ∧ (stampAt x.params 0 = Stamp.zero ∨ ((t.dtc 0).time.valid = true ∧ ¬ nearD x t)) ∧ (t.dtc 0).overloads ((t.dtc 0).askedTick (stampAt x.params 0)) (changeOf vSetHistogram.code x) = false)) ∧
    (Meets vSetHistogram upD (sd (late (histPar 0))) (fun x t => x.part = .dtc 0 ∧ stampAt x.params 0 ≠ Stamp.zero ∧ (t.dtc 0).time.valid = false)) ∧
    (Meets vSetHistogram upDT (sd (late (histPar 0))) (fun x t => x.part = .dtc 0 ∧ stampAt x.params 0 ≠ Stamp.zero ∧ (t.dtc 0).time.valid = true ∧ nearD x t))) ∧
    ((Meets vSetHistogram (up.setDtc 0 { die with epoch := 0 }) (sd (histPar 1)) (fun x t => x.part = .dtc 0 ∧ (stampAt x.params 0 = Stamp.zero ∨ ((t.dtc 0).time.valid = true ∧ ¬ nearD x t)) ∧ (t.dtc 0).overloads ((t.dtc 0).askedTick (stampAt x.params 0)) (changeOf vSetHistogram.code x) = true)) ∧
    (Meets vSetHistogram up (sub1 (sn (late (histPar 0)))) (fun x t => x.part = .agg ∧ stampAt x.params 0 ≠ Stamp.zero ∧ t.timeValid = false)) ∧
    (Meets vSetHistogram upT (sub1 (sn (late (histPar 0)))) (fun x t => x.part = .agg ∧ stampAt x.params 0 ≠ Stamp.zero ∧ t.timeValid = true ∧ nearA x t)) ∧
    (Meets vSetHistogram up (sub1 (sn (histPar 1))) (fun x t => x.part = .agg ∧ (stampAt x.params 0 = Stamp.zero ∨ (t.timeValid = true ∧ ¬ nearA x t)) ∧ t.configRefused vSetHistogram.code x = true)) ∧
    (Meets vSetHistogram up (sub1 (sn (histPar 0))) (fun x t => x.part = .agg ∧ (stampAt x.params 0 = Stamp.zero ∨ (t.timeValid = true ∧ ¬ nearA x t)) ∧ t.configRefused vSetHistogram.code x = false))) :=
  ⟨by decide +kernel, by decide +kernel, by decide +kernel, by decide +kernel, by decide +kernel⟩

theorem witness_DtcReadsReturnTheirBanks :
    ((Meets vReadCounters upD (sd (be 2 4056 ++ be 2 40 ++ be 1 1 ++ zeros 3)) (fun x _ => x.part = .dtc 0 ∧ x.b 4 = 1)) ∧
    (Meets vReadCounters upD (sd (be 2 4095 ++ be 2 1 ++ zeros 4)) (fun x _ => x.part = .dtc 0 ∧ x.b 4 ≠ 1)) ∧
    (Meets vFreezeCounters (up.setDtc 0 { die with cnt := { snapshotPending := true } }) (sd []) (fun x t => x.part = .dtc 0 ∧ (t.dtc 0).cnt.snapshotPending = true ∧ (t.dtc 0).joins 1 = false)) ∧
    (Meets vFreezeCounters (up.setDtc 0 { die with cnt := { snapshotPending := true, snapshot := some [], frozenAt := some die.now, freezeKind := 2 } }) (sd []) (fun x t => x.part = .dtc 0 ∧ (t.dtc 0).joins 1 = true)) ∧
    (Meets vFreezeCounters upD (sd []) (fun x t => x.part = .dtc 0 ∧ (t.dtc 0).cnt.snapshotPending = false))) ∧
    ((Meets vReadSensors upD (sd (be 1 34 ++ be 1 30 ++ zeros 2)) (fun x _ => x.part = .dtc 0)) ∧
    (Meets vReadEventRing upD (sd (be 1 63 ++ be 1 63 ++ be 1 24 ++ zeros 1)) (fun x _ => x.part = .dtc 0)) ∧
    (Meets vReadHang upD (sd []) (fun x _ => x.part = .dtc 0))) :=
  ⟨by decide +kernel, by decide +kernel⟩

theorem witness_DtcScansRunOneAtATime :
    ((Meets vSetCheckValue upD (sd (be 1 64 ++ zeros 7 ++ zeros 24)) (fun x t => x.part = .dtc 0 ∧ (t.dtc 0).scan = none)) ∧
    (Meets vSetCheckValue (up.setDtc 0 { die with scan := some ⟨⟨.pair, 9⟩, 0, 1, 0, 0, 0⟩ }) (sd (be 1 1 ++ zeros 31)) (fun x t => x.part = .dtc 0 ∧ (t.dtc 0).scan ≠ none)) ∧
    (Meets vScan (up.setDtc 0 { die with scan := some ⟨⟨.pair, 9⟩, 0, 1, 0, 0, 0⟩ }) (sd (zeros 24)) (fun x t => x.b 0 = 0 ∧ x.part = .dtc 0 ∧ (t.dtc 0).scan ≠ none)) ∧
    (Meets vScan upD (sd (zeros 8 ++ be 8 (2 ^ 64 - 1) ++ be 8 0)) (fun x t => x.b 0 = 0 ∧ x.part = .dtc 0 ∧ (t.dtc 0).scan = none ∧ x.f 16 8 = 0)) ∧
    (Meets vScan upD (sd (zeros 8 ++ be 8 (2 ^ 64 - 1) ++ be 8 1)) (fun x t => x.b 0 = 0 ∧ x.part = .dtc 0 ∧ (t.dtc 0).scan = none ∧ x.f 16 8 ≠ 0))) ∧
    ((Meets vScan (up.setDtc 0 { die with scan := some ⟨⟨.pair, 9⟩, 0, 1, 0, 0, 0⟩ }) (sd (be 1 1 ++ zeros 7)) (fun x t => x.b 0 = 1 ∧ x.part = .dtc 0 ∧ (t.dtc 0).scan ≠ none)) ∧
    (Meets vScan upD (sd (be 1 1 ++ zeros 7)) (fun x t => x.b 0 = 1 ∧ x.part = .dtc 0 ∧ (t.dtc 0).scan = none))) :=
  ⟨by decide +kernel, by decide +kernel⟩

def tracing0 : State := { up with hub := up.hub.setSource 0 { up.hub.source 0 with enabled := true, prevEn := true } }
theorem witness_TraceVerbsSetSourcesAndSinks :
    ((Meets vSetTraceSource up (sm (be 1 0 ++ be 1 1 ++ zeros 2)) (fun x t => x.part = .agg ∧ x.b 1 % 2 = 1 ∧ t.hubTraceAllowed = false)) ∧
    (Meets vSetTraceSource { up with sec := { up.sec with debugAuth := some ⟨1, 100⟩ } } (sm (be 1 0 ++ be 1 1 ++ zeros 2)) (fun x t => x.part = .agg ∧ x.b 1 % 2 = 1 ∧ (x.part = .agg → t.hubTraceAllowed = true))) ∧
    (Meets vSetTraceSource upD (sdm (be 1 0 ++ be 1 1 ++ zeros 2)) (fun x t => x.b 1 % 2 = 1 ∧ (x.part = .agg → t.hubTraceAllowed = true))) ∧
    (Meets vSetTraceSource up (sm (zeros 4)) (fun x _ => x.b 1 % 2 = 0)) ∧
    (Meets vSetTraceSink up (sm (zeros 24)) (fun x _ => x.f 8 4 = 0))) ∧
    ((Meets vSetTraceSink up (sub64 (sm (be 8 64 ++ be 4 65536 ++ zeros 12))) (fun x _ => x.f 8 4 ≠ 0)) ∧
    (Meets vTraceFlush up (sn (zeros 16)) (fun x t => ((flushSources x).filter fun i => ((t.traceUnit x.part).source i).enabled && ((t.traceUnit x.part).source i).prevEn && ((t.traceUnit x.part).source i).dropped.isNone) = [])) ∧
    (Meets vTraceFlush tracing0 (sn (be 16 1)) (fun x t => ((flushSources x).filter fun i => ((t.traceUnit x.part).source i).enabled && ((t.traceUnit x.part).source i).prevEn && ((t.traceUnit x.part).source i).dropped.isNone) ≠ [])) ∧
    (Meets vGetTraceStatus up (sn []) (fun x _ => x.part = .agg ∧ x.subunit.toNat = 0)) ∧
    (Meets vGetTraceStatus up (sub64 (sn [])) (fun x _ => x.part = .agg ∧ x.subunit.toNat ≠ 0))) ∧
    ((Meets vGetTraceStatus upD (sd []) (fun x _ => x.part = .dtc 0))) :=
  ⟨by decide +kernel, by decide +kernel, by decide +kernel⟩

theorem witness_LinkModesMoveTheLink :
    ((Meets vLinkRetrain { up with dev := { up.dev with domains := 0 } } (sub64 (sm (be 1 0 ++ be 1 0 ++ zeros 2))) (fun x t => x.b 1 = 0 ∧ t.endOff (endOf x) = true)) ∧
    (Meets vLinkRetrain { up with dev := { up.dev with domains := 0 } } (sub64 (sm (be 1 0 ++ be 1 1 ++ zeros 2))) (fun x t => x.b 1 = 1 ∧ t.endOff (endOf x) = true)) ∧
    (Meets vLinkRetrain { up with dev := { up.dev with domains := 0 } } (sub64 (sm (be 1 0 ++ be 1 2 ++ zeros 2))) (fun x t => x.b 1 = 2 ∧ t.endOff (endOf x) = true)) ∧
    (Meets vLinkRetrain { up with dev := { up.dev with domains := 0 } } (sub64 (sm (be 1 0 ++ be 1 3 ++ zeros 2))) (fun x t => x.b 1 = 3 ∧ t.endOff (endOf x) = true)) ∧
    (Meets vLinkRetrain { up with dev := { up.dev with domains := 0 } } (sub64 (sm (be 1 0 ++ be 1 4 ++ zeros 2))) (fun x t => x.b 1 = 4 ∧ t.endOff (endOf x) = true))) ∧
    ((Meets vLinkRetrain up (sub64 (sm (be 1 0 ++ be 1 0 ++ zeros 2))) (fun x t => x.b 1 = 0 ∧ t.endOff (endOf x) = false ∧ (t.linkEnd (endOf x).1 (endOf x).2.1 (endOf x).2.2).active = false)) ∧
    (Meets vLinkRetrain upD (sdm (zeros 4)) (fun x t => x.b 1 = 0 ∧ t.endOff (endOf x) = false ∧ (t.linkEnd (endOf x).1 (endOf x).2.1 (endOf x).2.2).active = true)) ∧
    (Meets vLinkRetrain upD (sdm (be 1 1 ++ be 1 1 ++ zeros 2)) (fun x t => x.b 1 = 1 ∧ t.endOff (endOf x) = false ∧ (t.linkEnd (endOf x).1 (endOf x).2.1 (endOf x).2.2).lives = true)) ∧
    (Meets vLinkRetrain up (sub64 (sm (be 1 0 ++ be 1 1 ++ zeros 2))) (fun x t => x.b 1 = 1 ∧ t.endOff (endOf x) = false ∧ (t.linkEnd (endOf x).1 (endOf x).2.1 (endOf x).2.2).lives = false)) ∧
    (Meets vLinkRetrain upD (sdm (be 1 1 ++ be 1 2 ++ zeros 2)) (fun x t => x.b 1 = 2 ∧ t.endOff (endOf x) = false ∧ (t.linkEnd (endOf x).1 (endOf x).2.1 (endOf x).2.2).lives = true))) ∧
    ((Meets vLinkRetrain up (sub64 (sm (be 1 0 ++ be 1 2 ++ zeros 2))) (fun x t => x.b 1 = 2 ∧ t.endOff (endOf x) = false ∧ (t.linkEnd (endOf x).1 (endOf x).2.1 (endOf x).2.2).lives = false)) ∧
    (Meets vLinkRetrain up (sub64 (sm (be 1 0 ++ be 1 3 ++ zeros 2))) (fun x t => x.b 1 = 3 ∧ t.endOff (endOf x) = false)) ∧
    (Meets vLinkRetrain up (sub64 (sm (be 1 0 ++ be 1 4 ++ zeros 2))) (fun x t => x.b 1 = 4 ∧ t.endOff (endOf x) = false))) :=
  ⟨by decide +kernel, by decide +kernel, by decide +kernel⟩

theorem witness_LinkVerbsActOnTheirEnd :
    ((Meets vLaneSwap { up with dev := { up.dev with domains := 0 } } (sub1 (sm (zeros 8))) (fun x t => x.b 1 = 0 ∧ t.endOff (endOf x) = true)) ∧
    (Meets vLaneSwap { up with dev := { up.dev with domains := 0 } } (sub1 (sm (be 1 0 ++ be 1 1 ++ zeros 6))) (fun x t => x.b 1 = 1 ∧ t.endOff (endOf x) = true)) ∧
    (Meets vGetLinkStatus { up with dev := { up.dev with domains := 0 } } (sub64 (sn (zeros 4))) (fun x t => t.endOff (endOf x) = true)) ∧
    (Meets vGetJournal { up with dev := { up.dev with domains := 0 } } (sub64 (sn (zeros 4))) (fun x t => t.endOff (endOf x) = true)) ∧
    (Meets vLaneSwap up (sub1 (sm (zeros 8))) (fun x t => x.b 1 = 0 ∧ ((t.linkEnd (endOf x).1 (endOf x).2.1 (endOf x).2.2).active = false ∨ (t.linkEnd (endOf x).1 (endOf x).2.1 (endOf x).2.2).rxSwap ≠ .none)))) ∧
    ((Meets vLaneSwap (up.setDtc 0 { die with la := { e := { st := .inService, rxSwap := .asked 0 none } } }) (sdm (zeros 8)) (fun x t => x.b 1 = 0 ∧ ((t.linkEnd (endOf x).1 (endOf x).2.1 (endOf x).2.2).active = false ∨ (t.linkEnd (endOf x).1 (endOf x).2.1 (endOf x).2.2).rxSwap ≠ .none))) ∧
    (Meets vLaneSwap upD (sdm (be 2 0 ++ be 1 1 ++ zeros 5)) (fun x t => x.b 1 = 0 ∧ t.endOff (endOf x) = false ∧ (t.linkEnd (endOf x).1 (endOf x).2.1 (endOf x).2.2).active = true ∧ (t.linkEnd (endOf x).1 (endOf x).2.1 (endOf x).2.2).rxSwap = .none ∧ x.b 2 ≠ (t.linkEnd (endOf x).1 (endOf x).2.1 (endOf x).2.2).rxMap.spare)) ∧
    (Meets vLaneSwap upD (sdm (be 2 0 ++ be 1 2 ++ zeros 5)) (fun x t => x.b 1 = 0 ∧ t.endOff (endOf x) = false ∧ (t.linkEnd (endOf x).1 (endOf x).2.1 (endOf x).2.2).active = true ∧ (t.linkEnd (endOf x).1 (endOf x).2.1 (endOf x).2.2).rxSwap = .none ∧ x.b 2 = (t.linkEnd (endOf x).1 (endOf x).2.1 (endOf x).2.2).rxMap.spare)) ∧
    (Meets vLaneSwap up (sub1 (sm (be 1 0 ++ be 1 1 ++ zeros 6))) (fun x t => x.b 1 = 1 ∧ (t.linkEnd (endOf x).1 (endOf x).2.1 (endOf x).2.2).st = .down)) ∧
    (Meets vLaneSwap upD (sdm (be 1 1 ++ be 1 1 ++ be 2 0 ++ be 1 255 ++ zeros 3)) (fun x t => x.b 1 = 1 ∧ t.endOff (endOf x) = false ∧ (t.linkEnd (endOf x).1 (endOf x).2.1 (endOf x).2.2).st ≠ .down))) ∧
    ((Meets vSetCompression up (sub64 (sm (be 2 1 ++ be 2 31))) (fun x _ => x.part = .agg)) ∧
    (Meets vSetCompression (up.setDtc 0 { die with pinned := 2 }) (sdm (be 2 1 ++ be 2 16)) (fun x t => x.part = .dtc 0 ∧ t.level (.dtc 0) < 3 ∧ (BitVec.ofNat 5 (x.f 2 2)).getLsbD 4 = true)) ∧
    (Meets vSetCompression upD (sdm (be 2 1 ++ be 2 16)) (fun x t => x.part = .dtc 0 ∧ (3 ≤ t.level (.dtc 0) ∨ (BitVec.ofNat 5 (x.f 2 2)).getLsbD 4 = false))) ∧
    (Meets vGetLinkStatus upD (sd (zeros 4)) (fun x _ => x.part = .dtc 0)) ∧
    (Meets vGetJournal upD (sd (be 1 1 ++ zeros 3)) (fun x _ => x.part = .dtc 0))) ∧
    ((Meets vGetLinkStatus up (sub64 (sn (zeros 4))) (fun x t => x.part = .agg ∧ t.endOff (endOf x) = false)) ∧
    (Meets vGetJournal up (sub1 (sn (zeros 4))) (fun x t => x.part = .agg ∧ t.endOff (endOf x) = false))) :=
  ⟨by decide +kernel, by decide +kernel, by decide +kernel, by decide +kernel⟩

/-- A tree image of depth 1 with one tree and one feature, and the model image around it; each with its CRC written in. -/
def ensTail : Bytes := zeros 128
def ens1 : Bytes := be 4 0x4F545231 ++ be 2 1 ++ [1, 0, 1, 0, 0, 0] ++ be 4 1 ++ zeros 8 ++ be 8 192 ++ be 4 (crc32c ensTail) ++ zeros 28 ++ ensTail
def image1 : Bytes := be 4 0x4F4D4431 ++ be 2 1 ++ [0, 0, 0, 0] ++ be 2 1 ++ zeros 4 ++ be 8 256 ++ be 4 (crc32c ens1) ++ zeros 12 ++ be 8 192 ++
  zeros 16 ++ ens1
/-- A sequence program of one operation, of which only the use and the count are read here. -/
def imageOps : Bytes := zeros 7 ++ [0, 0, 1]
def imageTel : Bytes := zeros 7 ++ [1]
def chunk (id fl off total : Nat) (b : Bytes) : Bytes := be 2 id ++ be 1 fl ++ zeros 1 ++ be 8 off ++ be 8 total ++ zeros 12 ++ b
def upMod (m : Model) : State := up.setModel 1 m
/-- n entries of the sequence table, open; and a state whose table is full. -/
def openSeqs (n : Nat) : Tbl SeqEntry := (List.range n).map fun i => (i, { isOpen := true })
@[irreducible] def fullSeqs : Tbl SeqEntry := openSeqs 65536
def upFull : State := { upMod { st := 2, image := imageOps } with data := { (upMod { st := 2, image := imageOps }).data with seqs := fullSeqs } }
theorem find_range {α : Type} (v : α) (n k j : Nat) (hk : k ≤ j) (hj : j < k + n) : Tbl.find? j ((List.range' k n).map fun i => (i, v)) = some v := by
  induction n generalizing k with
  | zero => omega
  | succ n ih =>
    simp only [List.range'_succ, List.map_cons, Tbl.find?]
    by_cases h : k = j
    · simp [h]
    · simp only [h, if_false, show ¬ j < k by omega]
      exact ih (k + 1) (by omega) (by omega)
theorem find_openSeqs (n j : Nat) (h : j < n) : Tbl.find? j (openSeqs n) = some { isOpen := true } := by
  unfold openSeqs
  rw [List.range_eq_range']
  exact find_range _ n 0 j (by omega) (by omega)
theorem openSeqs_used (s : State) (n j : Nat) (h : j < n) (hs : s.data.seqs = openSeqs n) : (s.seq j).used = true := by
  unfold State.seq Tbl.get
  rw [hs, find_openSeqs n j h]
  rfl
theorem fullSeqs_used (s : State) (j : Nat) (h : j < 65536) (hs : s.data.seqs = fullSeqs) : (s.seq j).used = true :=
  openSeqs_used s 65536 j h (hs.trans (by unfold fullSeqs; rfl))
def upG (g : Group) : State := up.setGroup 1 g
def gid : Bytes := be 4 1
def groupPar (k : Nat) : Bytes := be 4 1 ++ be 4 1 ++ [1, 1, 0, 0] ++ be 2 2 ++ be 2 1 ++ be 2 k ++ zeros 1070
def upNet : State := { up with dev := { up.dev with domains := 0 } }
def seal60 : Bytes := be 4 0x4F534531 ++ zeros 60
def map1 : Bytes := let t := zeros 32; be 4 0x4F464D31 ++ be 2 1 ++ be 2 1 ++ be 4 64 ++ be 2 0 ++ be 2 0 ++ be 4 (crc32c t) ++ zeros 12 ++ t
def models4096 (m : Model) : Tbl Model := (List.range 4096).map fun i => (i + 2, m)
def withModels (ms : Tbl Model) : State := { up with data := { up.data with models := ms } }
abbrev mdl (x : Sentence) (t : State) : Model := t.model (xModel x)
def first (x : Sentence) : LoadState := ⟨chBytes x, chTotal x, up.now⟩
abbrev lmStarted (x : Sentence) (t : State) (l : LoadState) : State := t.setModel (xModel x) { mdl x t with st := 1, load := some l }
abbrev lmTaken (x : Sentence) (t : State) (l : LoadState) : Prop := nextLoad t.now (mdl x t).load x = some l ∧
  (chFirst x = true ∧ mdl x t = {} ∧ t.data.models.length < 4096 ∨ chFirst x = false ∧ (mdl x t).st = 1)
abbrev lmRoom (x : Sentence) (t : State) (l : LoadState) : Prop :=
  (lmStarted x t l).pagesUsed ≤ 35776 ∧ (lmStarted x t l).pagesOf x.tenant.toNat ≤ t.pageQuota x.tenant.toNat
abbrev sealOk (x : Sentence) (t : State) (l : LoadState) : Prop :=
  isSealed l.received = true → 64 ≤ l.received.length → t.sealMatches x.tenant.toNat (x.f 0 2) l.received = true
abbrev fmWith (x : Sentence) (t : State) (l : Option LoadState) : State := t.setModel (xModel x) { mdl x t with mapLoad := l }
abbrev fmOpen (x : Sentence) (t : State) : Prop :=
  ((mdl x t).st = 2 ∨ (mdl x t).st = 4 ∨ (mdl x t).st = 3 ∧ (mdl x t).place.isSome = true) ∧ (chFirst x = true → (mdl x t).mapLoad = none)
abbrev fmRoom (x : Sentence) (t : State) (l : LoadState) : Prop :=
  (fmWith x t (some l)).mapBytes (xModel x) + l.stored ≤ 8388608 ∧ ((mdl x t).map ≠ [] ∨ t.mapCount < 4096)
abbrev plMay (x : Sentence) (t : State) : Prop := x.staged = false ∧ ((mdl x t).st = 2 ∨ (mdl x t).st = 4) ∧ (mdl x t).next = none
abbrev plSuits (x : Sentence) (t : State) : Prop := plMay x t ∧ (placeOf x).mask ≠ 0 ∧ placeSuits (mdl x t).image (placeOf x) = true
abbrev plStands (t : State) (c : Nat) : Prop := t.powered c = true ∧ ∀ r ∈ t.rel.retired, r.1 ≠ c
def plBase (x : Sentence) (t : State) : Option Nat :=
  let held := ((mdl x t).place.map (·.seqBase)).getD 0xFFFFFFFF
  if mdUse (mdl x t).image = 1 then (if held = 0xFFFFFFFF then t.freeSeqRun else some held) else some 0xFFFFFFFF
def place (mask : Nat) : Bytes := be 2 1 ++ be 1 1 ++ be 1 0 ++ be 8 mask ++ zeros 4
def fullTartlet : Tbl SlotDir := (List.range 100).map fun i => (76800 + i, ⟨9, 0, 0⟩)
theorem witness_ModelsAreLoadedInChunks :
    ((Meets vLoadModel (upMod { st := 2 }) (sn (chunk 1 1 0 100 [0])) (fun x t => chFirst x = true ∧ mdl x t ≠ {} ∨ chFirst x = false ∧ ((mdl x t).st ≠ 1 ∨ nextLoad t.now (mdl x t).load x = none))) ∧
    (Meets vLoadModel up (sn (chunk 1 0 1 100 [0])) (fun x t => chFirst x = true ∧ mdl x t ≠ {} ∨ chFirst x = false ∧ ((mdl x t).st ≠ 1 ∨ nextLoad t.now (mdl x t).load x = none))) ∧
    (Meets vLoadModel (withModels (models4096 { st := 2 })) (sn (chunk 1 1 0 100 [0])) (fun x t => chFirst x = true ∧ mdl x t = {} ∧ 4096 ≤ t.data.models.length)) ∧
    (Meets vLoadModel { up with data := { up.data with zeroing := [(0, List.replicate 35776 0)] } } (sn (chunk 1 1 0 100 [0])) (fun x t => lmTaken x t (first x) ∧ ¬ lmRoom x t (first x))) ∧
    (Meets vLoadModel up (sn (chunk 1 1 0 200 seal60)) (fun x t => lmTaken x t (first x) ∧ lmRoom x t (first x) ∧ ¬ sealOk x t (first x)))) ∧
    ((Meets vLoadModel up (sn (chunk 1 1 0 100 [0])) (fun x t => lmTaken x t (first x) ∧ lmRoom x t (first x) ∧ sealOk x t (first x) ∧ chLast x = false)) ∧
    (Meets vLoadModel (upMod { st := 1, load := some ⟨[0], 100, 0⟩ }) (sn (chunk 1 0 1 100 [7])) (fun x t => lmTaken x t ⟨[0, 7], 100, t.now⟩ ∧ lmRoom x t ⟨[0, 7], 100, t.now⟩ ∧ sealOk x t ⟨[0, 7], 100, t.now⟩ ∧ chLast x = false)) ∧
    (Meets vLoadModel up (sn (chunk 1 3 0 12 (be 4 0x4F534531 ++ zeros 8))) (fun x t => lmTaken x t (first x) ∧ lmRoom x t (first x) ∧ sealOk x t (first x) ∧ chLast x = true ∧ t.openImage x.tenant.toNat (first x).received = none)) ∧
    (Meets vLoadModel up (sn (chunk 1 3 0 1 [0])) (fun x t => lmTaken x t (first x) ∧ lmRoom x t (first x) ∧ sealOk x t (first x) ∧ chLast x = true ∧ t.openImage x.tenant.toNat (first x).received = some [0] ∧ (modelValid [0] x.tenant.toNat = false ∨ t.level .agg < 3 ∧ usesLevel3 [0] = true))) ∧
    (Meets vLoadModel up (sn (chunk 1 3 0 256 image1)) (fun x t => lmTaken x t (first x) ∧ lmRoom x t (first x) ∧ sealOk x t (first x) ∧ chLast x = true ∧ t.openImage x.tenant.toNat (first x).received = some image1 ∧ modelValid image1 x.tenant.toNat = true ∧ (3 ≤ t.level .agg ∨ usesLevel3 image1 = false)))) ∧
    ((Meets vSetFeatureMap up (sn (chunk 1 1 0 100 [0])) (fun x t => ¬ fmOpen x t ∨ nextLoad t.now (mdl x t).mapLoad x = none)) ∧
    (Meets vSetFeatureMap (upMod { st := 2 }) (sn (chunk 1 0 1 100 [0])) (fun x t => ¬ fmOpen x t ∨ nextLoad t.now (mdl x t).mapLoad x = none)) ∧
    (Meets vSetFeatureMap (withModels ((1, { st := 2 }) :: models4096 { st := 2, map := [0] })) (sn (chunk 1 1 0 100 [0])) (fun x t => fmOpen x t ∧ nextLoad t.now (mdl x t).mapLoad x = some (first x) ∧ ¬ fmRoom x t (first x))) ∧
    (Meets vSetFeatureMap (upMod { st := 2 }) (sn (chunk 1 1 0 200 seal60)) (fun x t => fmOpen x t ∧ nextLoad t.now (mdl x t).mapLoad x = some (first x) ∧ fmRoom x t (first x) ∧ ¬ sealOk x t (first x))) ∧
    (Meets vSetFeatureMap (upMod { st := 2 }) (sn (chunk 1 1 0 100 [0])) (fun x t => fmOpen x t ∧ nextLoad t.now (mdl x t).mapLoad x = some (first x) ∧ fmRoom x t (first x) ∧ sealOk x t (first x) ∧ chLast x = false))) ∧
    ((Meets vSetFeatureMap (upMod { st := 2 }) (sn (chunk 1 3 0 1 [0])) (fun x t => fmOpen x t ∧ nextLoad t.now (mdl x t).mapLoad x = some (first x) ∧ fmRoom x t (first x) ∧ sealOk x t (first x) ∧ chLast x = true ∧ ((fmWith x t (some (first x))).mapOf x (first x)).1 ≠ St.ok)) ∧
    (Meets vSetFeatureMap (upMod { st := 2, image := image1 }) (sn (chunk 1 3 0 64 map1)) (fun x t => fmOpen x t ∧ nextLoad t.now (mdl x t).mapLoad x = some (first x) ∧ fmRoom x t (first x) ∧ sealOk x t (first x) ∧ chLast x = true ∧ ((fmWith x t (some (first x))).mapOf x (first x)).1 = St.ok)) ∧
    (Meets vUnloadModel up (sn (be 2 0xFFFF ++ zeros 2)) (fun x t => t.model (xModel x) = {} ∨ (t.model (xModel x)).st = 5)) ∧
    (Meets vUnloadModel (upMod { st := 2 }) (sn (be 2 1 ++ zeros 2)) (fun x t => t.model (xModel x) ≠ {} ∧ (t.model (xModel x)).st ≠ 5))) :=
  ⟨by decide +kernel, by decide +kernel, by decide +kernel, by decide +kernel⟩

theorem witness_PlacementAndSequencesAnswer :
    ((Meets vPlaceModel up (sn (be 2 1 ++ be 1 1 ++ zeros 13)) (fun x t => x.staged = false ∧ ((mdl x t).st ≠ 2 ∧ (mdl x t).st ≠ 4 ∨ (mdl x t).next.isSome = true))) ∧
    (Meets vPlaceModel (upMod { st := 4 }) (sn (be 2 1 ++ be 1 4 ++ zeros 13)) (fun x t => plMay x t ∧ (placeOf x).mask = 0)) ∧
    (Meets vPlaceModel (upMod { st := 2 }) (sn (be 2 1 ++ be 1 4 ++ be 1 0 ++ be 8 0x7000 ++ zeros 4)) (fun x t => plMay x t ∧ (placeOf x).mask ≠ 0 ∧ placeSuits (mdl x t).image (placeOf x) = false)) ∧
    (Meets vPlaceModel { upMod { st := 2, image := image1 } with dev := { up.dev with domains := 0 } } (sn (place 0x1000)) (fun x t => plSuits x t ∧ ∃ c ∈ maskClusters (placeOf x).mask, ¬ plStands t c)) ∧
    (Meets vPlaceModel { upMod { st := 2, image := image1 } with rel := { up.rel with retired := [(12, 0)] } } (sn (place 0x1000)) (fun x t => plSuits x t ∧ ∃ c ∈ maskClusters (placeOf x).mask, ¬ plStands t c))) ∧
    ((Meets vPlaceModel (let s := (upMod { st := 2, image := image1 }); { s with data := { s.data with directory := fullTartlet } }) (sn (place 0x1000)) (fun x t => plSuits x t ∧ (∀ c ∈ maskClusters (placeOf x).mask, plStands t c) ∧ (layout t.data.directory (mdl x t).image (placeOf x) = none ∨ plBase x t = none))) ∧
    (Meets vPlaceModel (upMod { st := 2, image := image1 }) (sn (place 0x1000)) (fun x t => plSuits x t ∧ (∀ c ∈ maskClusters (placeOf x).mask, plStands t c) ∧ layout t.data.directory (mdl x t).image (placeOf x) = some [⟨0, 0, 0, 1, 0⟩] ∧ plBase x t = some 0xFFFFFFFF)) ∧
    (Meets vCloseSequence up (sn (be 4 0xFFFFFFFF)) (fun x t => t.seqNamed x.tenant.toNat (x.f 0 4) = none)) ∧
    (Meets vCloseSequence (up.setSeq 65535 { isOpen := true, gen := 1, closing := some ⟨.qp 0, 9⟩ }) (sn (be 4 0x1FFFF)) (fun x t => let e : SeqEntry := { isOpen := true, gen := 1, closing := some ⟨.qp 0, 9⟩ }; t.seqNamed x.tenant.toNat (x.f 0 4) = some (65535, e) ∧ e.closing ≠ none)) ∧
    (Meets vCloseSequence (up.setSeq 65535 { isOpen := true, gen := 1 }) (sn (be 4 0x1FFFF)) (fun x t => let e : SeqEntry := { isOpen := true, gen := 1 }; t.seqNamed x.tenant.toNat (x.f 0 4) = some (65535, e) ∧ e.closing = none ∧ e.order = []))) ∧
    ((Meets vCloseSequence (up.setSeq 65535 { isOpen := true, gen := 1, order := [7] }) (sn (be 4 0x1FFFF)) (fun x t => let e : SeqEntry := { isOpen := true, gen := 1, order := [7] }; t.seqNamed x.tenant.toNat (x.f 0 4) = some (65535, e) ∧ e.closing = none ∧ e.order ≠ [])) ∧
    (Meets vGetJobs up (sn (be 2 1023 ++ zeros 2)) (fun x t => True)) ∧
    (Meets vGetModelStatus up (sn (be 2 1 ++ zeros 2)) (fun x t => True))) :=
  ⟨by decide +kernel, by decide +kernel, by decide +kernel⟩

theorem witness_OpenSequenceTakesTheLowestFreeIndex :
    ((Meets vOpenSequence ((upMod { st := 2, image := imageOps }).setSeq 0 { isOpen := true }) (sn (be 2 1 ++ zeros 2)) (fun x t => ((t.model (xModel x)).st = 2 ∨ (t.model (xModel x)).st = 4 ∨ (t.model (xModel x)).serving = true) ∧ mdUse (t.model (xModel x)).image ≠ 1 ∧ mdOps (t.model (xModel x)).image ≠ 0 ∧ seqStateValid (t.model (xModel x)).image (if x.plen = 4 then zeros 256 else x.params.drop 4) = true ∧ (∀ j, j < 1 → (t.seq j).used = true) ∧ (t.seq 1).used = false))) ∧
    (Meets vOpenSequence upFull (sn (be 2 1 ++ zeros 2)) (fun x t => ((t.model (xModel x)).st = 2 ∨ (t.model (xModel x)).st = 4 ∨ (t.model (xModel x)).serving = true) ∧ mdUse (t.model (xModel x)).image ≠ 1 ∧ mdOps (t.model (xModel x)).image ≠ 0 ∧ seqStateValid (t.model (xModel x)).image (if x.plen = 4 then zeros 256 else x.params.drop 4) = true ∧ ∀ j, j < 65536 → (t.seq j).used = true)) :=
  ⟨by decide +kernel, ⟨by decide +kernel, by decide +kernel, by decide +kernel, by decide +kernel, by decide +kernel, fun j h => fullSeqs_used _ j h rfl⟩⟩

theorem witness_GroupVerbsQueueTheirChange :
    ((Meets vGroupJoin { up with data := { up.data with groups := (List.range 256).map fun i => (i + 2, {}) } } (sm (gid ++ be 2 0 ++ zeros 10)) (fun x t => t.hasGroup (xGroup x) = false ∧ 256 ≤ t.data.groups.length)) ∧
    (Meets vGroupJoin (upG { joined := true, pos := 1 }) (sm (gid ++ be 2 8191 ++ zeros 10)) (fun x t => (t.hasGroup (xGroup x) = true ∨ t.data.groups.length < 256) ∧ (t.group (xGroup x)).joined = true ∧ (t.group (xGroup x)).pos ≠ x.f 4 2)) ∧
    (Meets vGroupJoin (upG { gen := 2, pos := 1 }) (sm (gid ++ be 2 0 ++ be 1 1 ++ zeros 9)) (fun x t => t.hasGroup (xGroup x) = true ∧ ((t.group (xGroup x)).joined = false ∨ (t.group (xGroup x)).pos = x.f 4 2) ∧ x.b 6 ≠ 0 ∧ genOlder (x.b 6) (t.group (xGroup x)).gen = true)) ∧
    (Meets vGroupJoin up (sm (be 4 0xFFFFFE ++ be 2 0 ++ be 1 1 ++ zeros 9)) (fun x t => (t.hasGroup (xGroup x) = true ∨ t.data.groups.length < 256) ∧ ((t.group (xGroup x)).joined = false ∨ (t.group (xGroup x)).pos = x.f 4 2) ∧ (t.hasGroup (xGroup x) = false ∨ x.b 6 = 0 ∨ genOlder (x.b 6) (t.group (xGroup x)).gen = false))) ∧
    (Meets vGroupLeave up (sm gid) (fun x t => (t.group (xGroup x)).joined = false))) ∧
    ((Meets vGroupLeave (upG { joined := true }) (sm gid) (fun x t => (t.group (xGroup x)).joined = true)) ∧
    (Meets vGroupFence up (sm (gid ++ be 1 1 ++ zeros 19)) (fun x t => t.hasGroup (xGroup x) = false)) ∧
    (Meets vGroupFence (upG { gen := 1, joined := true }) (sm (gid ++ be 1 130 ++ zeros 19)) (fun x t => t.hasGroup (xGroup x) = true ∧ genOlder (x.b 4) (t.group (xGroup x)).gen = true)) ∧
    (Meets vGroupFence (upG { gen := 1, joined := true }) (sm (gid ++ be 1 2 ++ zeros 19)) (fun x t => t.hasGroup (xGroup x) = true ∧ genOlder (x.b 4) (t.group (xGroup x)).gen = false ∧ x.b 4 ≠ (t.group (xGroup x)).gen)) ∧
    (Meets vGroupFence (let s := upG { gen := 1, joined := true }; { s with time := upT.time }) (sm (gid ++ be 1 1 ++ zeros 3 ++ be 8 6 ++ zeros 8)) (fun x t => t.hasGroup (xGroup x) = true ∧ genOlder (x.b 4) (t.group (xGroup x)).gen = false ∧ x.b 4 = (t.group (xGroup x)).gen ∧ t.timeValid = true ∧ t.svc < ofStamp (stampAt x.params 8)))) ∧
    ((Meets vGroupFence (upG { gen := 1, joined := true }) (sm (gid ++ be 1 1 ++ zeros 3 ++ be 8 6 ++ zeros 8)) (fun x t => t.hasGroup (xGroup x) = true ∧ genOlder (x.b 4) (t.group (xGroup x)).gen = false ∧ x.b 4 = (t.group (xGroup x)).gen ∧ (t.timeValid = false ∨ ofStamp (stampAt x.params 8) ≤ t.svc))) ∧
    (Meets vGroupSet { up with data := { up.data with groups := (List.range 256).map fun i => (i + 2, {}) } } (sm (groupPar 0)) (fun x t => t.hasGroup (xGroup x) = false ∧ 256 ≤ t.data.groups.length)) ∧
    (Meets vGroupSet { upG { pos := 1 } with sys := { epoch := 5000 } } (sm (groupPar 1)) (fun x t => (t.hasGroup (xGroup x) = true ∨ t.data.groups.length < 256) ∧ ¬ ((((t.group (xGroup x)).joined = true → gcMember x.params (t.group (xGroup x)).pos = true) ∧ (gcP x.params = 0 ∨ 10000 ≤ gcP x.params * t.sys.epoch))))) ∧
    (Meets vGroupSet (upG { pos := 1 }) (sm (groupPar 0)) (fun x t => (t.hasGroup (xGroup x) = true ∨ t.data.groups.length < 256) ∧ ((((t.group (xGroup x)).joined = true → gcMember x.params (t.group (xGroup x)).pos = true) ∧ (gcP x.params = 0 ∨ 10000 ≤ gcP x.params * t.sys.epoch))) ∧ ¬ (t.telemetryModel (gcSource x.params) = true ∧ (gcCause x.params = 0 ∨ t.telemetryModel (gcCause x.params) = true)))) ∧
    (Meets vGroupSet ((upG { pos := 1 }).setModel 2 { st := 2, image := imageTel }) (sm (groupPar 0)) (fun x t => (t.hasGroup (xGroup x) = true ∨ t.data.groups.length < 256) ∧ ((((t.group (xGroup x)).joined = true → gcMember x.params (t.group (xGroup x)).pos = true) ∧ (gcP x.params = 0 ∨ 10000 ≤ gcP x.params * t.sys.epoch))) ∧ (t.telemetryModel (gcSource x.params) = true ∧ (gcCause x.params = 0 ∨ t.telemetryModel (gcCause x.params) = true))))) ∧
    ((Meets vGroupStatus (upG { pos := 1 }) (sn gid) (fun x t => t.hasGroup (xGroup x) = true)) ∧
    (Meets vGroupStatus up (sn gid) (fun x t => t.hasGroup (xGroup x) = false)) ∧
    (Meets vReadStragglers (upG {}) (sn (gid ++ be 1 1 ++ be 1 0 ++ zeros 2 ++ be 8 7 ++ be 4 0)) (fun x t => (t.group (xGroup x)).retained.find? (fun c => c.gen == x.b 4 && c.index == x.f 8 8) = none)) ∧
    (Meets vReadStragglers (upG { retained := [⟨1, 7, [], none, []⟩] }) (sn (gid ++ be 1 1 ++ be 1 2 ++ zeros 2 ++ be 8 7 ++ be 4 0)) (fun x t => let r : Retained := ⟨1, 7, [], none, []⟩; (t.group (xGroup x)).retained.find? (fun c => c.gen == x.b 4 && c.index == x.f 8 8) = some r ∧ (if x.b 5 = 0 then some r.summary else if x.b 5 = 1 then some r.final else r.payload) = none)) ∧
    (Meets vReadStragglers (upG { retained := [⟨1, 7, [], none, []⟩] }) (sn (gid ++ be 1 1 ++ be 1 0 ++ zeros 2 ++ be 8 7 ++ be 4 0)) (fun x t => let r : Retained := ⟨1, 7, [], none, []⟩; (t.group (xGroup x)).retained.find? (fun c => c.gen == x.b 4 && c.index == x.f 8 8) = some r ∧ (if x.b 5 = 0 then some r.summary else if x.b 5 = 1 then some r.final else r.payload) = some []))) ∧
    ((Meets vSetBaseline up (sn (be 2 1 ++ zeros 10)) (fun x t => t.telemetryModel (x.f 0 2) = false)) ∧
    (Meets vSetBaseline (up.setModel 1 { st := 2, image := imageTel }) (sn (be 2 1 ++ zeros 10)) (fun x t => t.telemetryModel (x.f 0 2) = true ∧ x.b 2 = 0)) ∧
    (Meets vSetBaseline (up.setModel 1 { st := 2, image := imageTel }) (sn (be 2 1 ++ be 1 1 ++ zeros 5 ++ be 4 1)) (fun x t => t.telemetryModel (x.f 0 2) = true ∧ x.b 2 ≠ 0))) :=
  ⟨by decide +kernel, by decide +kernel, by decide +kernel, by decide +kernel, by decide +kernel⟩

theorem witness_NetworkVerbsWriteTheirTables :
    ((Meets vRouteSet upNet (sm (be 4 0 ++ be 4 0 ++ zeros 8)) (fun x t => t.domainOn 94 = false)) ∧
    (Meets vRouteSet up (sm (be 4 0 ++ be 4 1048575 ++ zeros 8)) (fun x t => t.domainOn 94 = true ∧ x.b 0 = 0)) ∧
    (Meets vRouteSet up (sm (be 1 1 ++ be 3 0 ++ be 4 4095 ++ zeros 8)) (fun x t => t.domainOn 94 = true ∧ x.b 0 ≠ 0)) ∧
    (Meets vRouteGet upNet (sm (be 4 0 ++ be 4 1048575)) (fun x t => t.domainOn 94 = false)) ∧
    (Meets vRouteGet up (sm (be 4 0 ++ be 4 1048575)) (fun x t => t.domainOn 94 = true ∧ x.b 0 = 0))) ∧
    ((Meets vRouteGet up (sm (be 1 1 ++ be 3 0 ++ be 4 4095)) (fun x t => t.domainOn 94 = true ∧ x.b 0 ≠ 0)) ∧
    (Meets vPolicerSet up (sm (be 2 1023 ++ be 1 2 ++ be 1 3 ++ be 4 1 ++ be 4 1 ++ be 4 65535 ++ be 4 1 ++ be 4 0 ++ be 4 65535 ++ zeros 4)) (fun x t => True)) ∧
    (Meets vQueueSet upNet (sm (be 1 16 ++ zeros 3 ++ [1, 1, 1, 1, 255] ++ zeros 3)) (fun x t => t.domainOn (portDomain (x.b 0)) = false)) ∧
    (Meets vQueueSet up (sm (be 1 16 ++ zeros 3 ++ [1, 1, 1, 1, 255] ++ zeros 3)) (fun x t => t.domainOn (portDomain (x.b 0)) = true)) ∧
    (Meets vShaperSet upNet (sm ([16, 7] ++ zeros 2 ++ be 4 0 ++ be 4 65535)) (fun x t => t.domainOn (portDomain (x.b 0)) = false))) ∧
    ((Meets vShaperSet up (sm ([16, 7] ++ zeros 2 ++ be 4 0 ++ be 4 65535)) (fun x t => t.domainOn (portDomain (x.b 0)) = true)) ∧
    (Meets vGateListSet upNet (sm ([15, 0] ++ be 2 1 ++ zeros 16 ++ be 4 1000 ++ zeros 8 ++ be 4 0x01000000 ++ be 4 1000)) (fun x t => t.domainOn (portDomain (x.b 0)) = false)) ∧
    (Meets vGateListSet up (sm ([15, 0] ++ be 2 1 ++ zeros 16 ++ be 4 1000 ++ zeros 8 ++ be 4 0x01000000 ++ be 4 1000)) (fun x t => t.domainOn (portDomain (x.b 0)) = true ∧ x.staged = false)) ∧
    (Meets vGateListGet upNet (sm [15, 1, 0, 0]) (fun x t => t.domainOn (portDomain (x.b 0)) = false)) ∧
    (Meets vGateListGet up (sm [15, 1, 0, 0]) (fun x t => t.domainOn (portDomain (x.b 0)) = true ∧ (if x.b 1 = 0 then (t.netPort (x.b 0)).gate else (t.netPort (x.b 0)).gatePending) = none))) ∧
    ((Meets vGateListGet (up.setNetPort 15 { gatePending := some { base := 0, cycle := 1000, entries := [(1, 1000)], stamp := Stamp.zero, activation := 0 } }) (sm [15, 1, 0, 0]) (fun x t => t.domainOn (portDomain (x.b 0)) = true ∧ (if x.b 1 = 0 then (t.netPort (x.b 0)).gate else (t.netPort (x.b 0)).gatePending) = some { base := 0, cycle := 1000, entries := [(1, 1000)], stamp := Stamp.zero, activation := 0 })) ∧
    (Meets vGetPortStatus upNet (sn [16, 0, 0, 0]) (fun x t => x.subunit = 0 ∧ t.domainOn (portDomain (x.b 0)) = false)) ∧
    (Meets vGetPortStatus up (sn [16, 0, 0, 0]) (fun x t => x.subunit = 0 ∧ t.domainOn (portDomain (x.b 0)) = true)) ∧
    (Meets vGetPortStatus up { sn [] with subunit := 1024 } (fun x _ => x.subunit ≠ 0))) :=
  ⟨by decide +kernel, by decide +kernel, by decide +kernel, by decide +kernel⟩

def upMir (w : List (Nat × Withheld)) : State :=
  { up with pair := { up.pair with mirrored := true, partnerRole := 1, withheld := w, mseqNext := 8, mseqAcked := 6 } }
def upObj (k : SyncObject) : State := up.setObject 5 k
def obj : SyncObject := { count := 3, limit := 9, producer := 0xFFFF, consumer := 0xFFFF, inited := true }
def amount (n fl : Nat) : Bytes := be 4 5 ++ be 4 n ++ be 1 fl ++ zeros 7
def upRel (r : RelState) : State := { up with rel := r }
def pack1 : Bytes := zeros 14 ++ be 2 1
def upDbg (boot : Nat) : State := { upT with rel := { latched := [(49, 1), (71, BitVec.ofNat 32 boot)] } }
def authFor (oid nb na : Nat) (scope op : Nat) : Bytes := be 4 0x4F444131 ++ be 4 oid ++ be 8 1 ++ be 8 nb ++ be 8 na ++ be 1 scope ++ be 1 op ++ zeros 126
def auth (nb na : Nat) (scope op : Nat) : Bytes := authFor 16 nb na scope op
abbrev daPassed (x : Sentence) (t : State) : Prop := fld x.params 4 4 = t.pair.partnerOid.toNat ∧ fld x.params 4 4 ≠ t.dev.oid.toNat ∧ x.req ≠ .partner
abbrev daOpen (t : State) (x : Sentence) : Prop := t.debugDisabled = false ∧ t.timeValid = true ∧
  fld x.params 16 8 ≤ t.svcNs / 1000000000 ∧ t.svcNs / 1000000000 < fld x.params 24 8
/-- An authorisation that the owner signed: the check of a signature is a free function, so its answer is the premise. -/
abbrev Signed (s : State) (b : Bytes) (g : Sentence → State → Prop) : Prop :=
  s.runs vDebugAuthorise (sm b) = true ∧ g (sm b) (s.taken vDebugAuthorise (sm b)) ∧
    (Config.verify (s.taken vDebugAuthorise (sm b)).ownerHash (b.take 64) (sub b 64 96) = true → (s.taken vDebugAuthorise (sm b)).authValid b = true)
def release (i c : Nat) : Release := ⟨BitVec.ofNat 32 i, BitVec.ofNat 10 c, 0, i⟩
def upR (rs : List Release) : State := { up with sec := { up.sec with releases := rs } }
def upSt (g : Staging) : State := up.setStaging (.qp 0) g
def upObs (o : ObsState) : State := { up with obs := o }
def cvPar (n : Nat) : Bytes := [5, 0, 64, 0] ++ zeros 24 ++ be 8 (96 * 2 ^ 30 - n) ++ be 8 n
def czPar (op : Nat) : Bytes := [3, BitVec.ofNat 8 op, 0, 1] ++ be 8 (96 * 2 ^ 30 - 2 ^ 30) ++ be 8 0 ++ be 8 (2 ^ 30) ++ be 8 (2 ^ 30)
theorem witness_SyncVerbsActOnTheirObject :
    ((Meets vSyncInit up (sn (be 4 32767 ++ be 4 9 ++ be 4 9 ++ be 4 0 ++ be 2 0xFFFF ++ be 2 0x41 ++ zeros 4 ++ be 2 1023 ++ zeros 6)) (fun x t => True)) ∧
    (Meets vSyncPost up (sn (amount 6 0)) (fun x t => x.b 8 = 0 ∧ ¬ ((t.object (x.f 0 4)).inited = true ∧ agentAllowed (t.object (x.f 0 4)).producer (t.object (x.f 0 4)).producerOid (agentOf x.req) = true))) ∧
    (Meets vSyncPost (upObj obj) (sn (amount 7 0)) (fun x t => x.b 8 = 0 ∧ ((t.object (x.f 0 4)).inited = true ∧ agentAllowed (t.object (x.f 0 4)).producer (t.object (x.f 0 4)).producerOid (agentOf x.req) = true) ∧ (t.object (x.f 0 4)).limit < (t.object (x.f 0 4)).count + x.f 4 4)) ∧
    (Meets vSyncPost (upObj obj) (sn (amount 6 0)) (fun x t => x.b 8 = 0 ∧ ((t.object (x.f 0 4)).inited = true ∧ agentAllowed (t.object (x.f 0 4)).producer (t.object (x.f 0 4)).producerOid (agentOf x.req) = true) ∧ (t.object (x.f 0 4)).count + x.f 4 4 ≤ (t.object (x.f 0 4)).limit)) ∧
    (Meets vSyncPost (upObj obj) (sn (amount 6 1)) (fun x t => x.b 8 = 1))) ∧
    ((Meets vSyncWait up (sn (amount 1 1)) (fun x t => ¬ ((t.object (x.f 0 4)).inited = true ∧ agentAllowed (t.object (x.f 0 4)).consumer 0 ((agentOf x.req).1, 0) = true))) ∧
    (Meets vSyncWait (upObj obj) (sn (amount 3 1)) (fun x t => ((t.object (x.f 0 4)).inited = true ∧ agentAllowed (t.object (x.f 0 4)).consumer 0 ((agentOf x.req).1, 0) = true) ∧ ((t.object (x.f 0 4)).waiters = [] ∧ x.f 4 4 ≤ (t.object (x.f 0 4)).count))) ∧
    (Meets vSyncWait (upObj obj) (sn (amount 4 1)) (fun x t => ((t.object (x.f 0 4)).inited = true ∧ agentAllowed (t.object (x.f 0 4)).consumer 0 ((agentOf x.req).1, 0) = true) ∧ ¬ ((t.object (x.f 0 4)).waiters = [] ∧ x.f 4 4 ≤ (t.object (x.f 0 4)).count) ∧ x.b 8 % 2 = 1)) ∧
    (Meets vSyncWait (upObj obj) (sn (amount 4 0)) (fun x t => ((t.object (x.f 0 4)).inited = true ∧ agentAllowed (t.object (x.f 0 4)).consumer 0 ((agentOf x.req).1, 0) = true) ∧ ¬ ((t.object (x.f 0 4)).waiters = [] ∧ x.f 4 4 ≤ (t.object (x.f 0 4)).count) ∧ x.b 8 % 2 = 0)) ∧
    (Meets vSyncRead up (sn (be 4 0)) (fun x t => True))) :=
  ⟨by decide +kernel, by decide +kernel⟩

theorem witness_RecoveryVerbsActOnThePair :
    ((Meets vGetHang up (sm []) (fun x t => x.params = [] ∨ x.b 0 = 0)) ∧
    (Meets vGetHang up (sm (be 1 1 ++ zeros 3 ++ be 4 0 ++ be 4 4000)) (fun x t => x.params ≠ [] ∧ x.b 0 ≠ 0 ∧ (if x.b 0 = 1 then t.pair.own else t.pair.partner).present = false)) ∧
    (Meets vGetHang { up with pair := { up.pair with own := { present := true } } } (sm (be 1 1 ++ zeros 3 ++ be 4 (0x2000000 - 4000) ++ be 4 4000)) (fun x t => x.params ≠ [] ∧ x.b 0 ≠ 0 ∧ (if x.b 0 = 1 then t.pair.own else t.pair.partner).present = true)) ∧
    (Meets vForceFailover up (sm []) (fun x t => t.canFailOver = false)) ∧
    (let s := upMir []; s.reaches vForceFailover (sm []) = true ∧ (s.taken vForceFailover (sm [])).denied vForceFailover (sm []) = none ∧ (sm []).staged = false ∧ (s.taken vForceFailover (sm [])).mirrors = true)) ∧
    ((let s := upMir [(7, .effect 0x0805 (sm []))]; s.active = true ∧ s.canFailOver = true ∧ s.pair.withheld = [(7, .effect 0x0805 (sm []))] ∧ s.pair.mseqAcked < 7 ∧ 7 < s.pair.mseqNext) ∧
    (let e : TagEntry := ⟨sm [], 0x0805, .done, 0, 0, some ⟨0, [], 0⟩, none, none⟩; let s := { upMir [(7, .reply ⟨.qp 0, 1⟩)] with verbs := { up.verbs with tags := [e] } }; s.active = true ∧ s.pair.copy = none ∧ s.pair.withheld = [(7, .reply ⟨.qp 0, 1⟩)] ∧ s.pair.mseqAcked < 7 ∧ 7 < s.pair.mseqNext ∧ findTag s.verbs.tags (.qp 0) 1 = some e ∧ e.verb = 0x0805 ∧ (e.reply.map (·.status)) = some St.ok) ∧
    (Meets vResetDtc up (sm (be 1 63 ++ zeros 3)) (fun x t => x.b 0 = (63 : Fin 64).val ∧ (t.dtc 63).la.e.st ≠ .inService ∧ (t.dtc 63).lb.e.st ≠ .inService)) ∧
    (Meets vResetDtc upD (sm (zeros 4)) (fun x t => x.b 0 = (0 : Fin 64).val ∧ ((t.dtc 0).la.e.st = .inService ∨ (t.dtc 0).lb.e.st = .inService))) ∧
    (Meets vGetPairStatus up (sm []) (fun x t => True))) :=
  ⟨by decide +kernel, by decide +kernel⟩

theorem witness_ReliabilityVerbsReadStartAndPin :
    ((Meets vReadAgeing up (sm (be 1 0 ++ zeros 7)) (fun x t => x.b 0 = 0)) ∧
    (Meets vReadAgeing up (sm (be 1 1 ++ zeros 7)) (fun x t => x.b 0 = 1)) ∧
    (Meets vReadAgeing up (sm (be 1 2 ++ zeros 7)) (fun x t => x.b 0 = 2)) ∧
    (Meets vReadAgeing up (sm (be 1 3 ++ zeros 7)) (fun x t => x.b 0 = 3)) ∧
    (Meets vRunMarginPlan (upRel { run := some { apply := true, ticket := none } }) (sm (zeros 8)) (fun x t => x.b 0 < 2 ∧ t.rel.run.isSome = true))) ∧
    ((Meets vRunMarginPlan up (sm (be 1 1 ++ zeros 7)) (fun x t => x.b 0 < 2 ∧ t.rel.run = none)) ∧
    (Meets vRunMarginPlan up (sm (be 1 2 ++ zeros 3 ++ be 4 86399)) (fun x t => x.b 0 = 2)) ∧
    (Meets vGetMargins up (sm [3, 63, 0, 0]) (fun x t => x.b 0 ≠ 4)) ∧
    (Meets vGetMargins up (sm [4, 0, 0, 0]) (fun x t => x.b 0 = 4)) ∧
    (Meets vRunScreenPack up (sm (be 2 1 ++ zeros 10)) (fun x t => x.b 2 = 0 ∧ (t.rel.screen.isSome = true ∨ Tbl.find? (x.f 0 2) t.rel.packs = none)))) ∧
    ((Meets vRunScreenPack (upRel { packs := [(65535, pack1)] }) (sm (be 2 65535 ++ zeros 2 ++ be 8 (2 ^ 63))) (fun x t => x.b 2 = 0 ∧ t.rel.screen = none ∧ Tbl.find? (x.f 0 2) t.rel.packs = some pack1 ∧ ((maskClusters (x.f 4 8)).map fun c => (List.range (packTests pack1)).map fun i => (c, i)).flatten ≠ [])) ∧
    (Meets vRunScreenPack (upRel { packs := [(65535, pack1)] }) (sm (be 2 65535 ++ zeros 2 ++ be 8 (0))) (fun x t => x.b 2 = 0 ∧ t.rel.screen = none ∧ Tbl.find? (x.f 0 2) t.rel.packs = some pack1 ∧ ((maskClusters (x.f 4 8)).map fun c => (List.range (packTests pack1)).map fun i => (c, i)).flatten = [])) ∧
    (Meets vRunScreenPack up (sm (be 2 0 ++ be 1 1 ++ zeros 9)) (fun x t => x.b 2 = 1)) ∧
    (Meets vReadSilentErrors up (sm (zeros 4 ++ be 1 42 ++ zeros 3)) (fun x t => True)) ∧
    (Meets vGetFuseStatus up (sm []) (fun x t => True))) ∧
    ((Meets vPinBehaviour (up.setModel 1 { baseline := { group := some 1 } }) (sm (be 1 2 ++ zeros 3)) (fun x t => x.part = .agg ∧ x.subunit = 0 ∧ x.b 0 = 2 ∧ t.needsLevel3 = true)) ∧
    (Meets vPinBehaviour up (sm (be 1 2 ++ zeros 3)) (fun x t => x.part = .agg ∧ x.subunit = 0 ∧ (x.b 0 ≠ 2 ∨ t.needsLevel3 = false))) ∧
    (Meets vPinBehaviour up (sub1 (sm (be 1 2 ++ zeros 3))) (fun x t => x.part = .agg ∧ x.subunit.toNat = (0 : Fin 64).val + 1)) ∧
    (Meets vPinBehaviour (up.setDtc 0 { die with compEnable := true, compMask := 16 }) (sdm (be 1 2 ++ zeros 3)) (fun x t => x.part = .dtc 0 ∧ (t.dtc 0).compEnable = true ∧ (t.dtc 0).compMask.getLsbD 4 = true)) ∧
    (Meets vPinBehaviour upD (sdm (be 1 3 ++ zeros 3)) (fun x t => x.part = .dtc 0 ∧ ((t.dtc 0).compEnable = false ∨ (t.dtc 0).compMask.getLsbD 4 = false)))) :=
  ⟨by decide +kernel, by decide +kernel, by decide +kernel, by decide +kernel⟩

theorem witness_SecurityVerbsKeepTheirGates :
    ((Meets vGetAttestation up (sm (zeros 32)) (fun _ _ => True)) ∧
    (Meets vKeyReleaseBegin (upR ((List.range 64).map fun i => release i (i + 1))) (sm (be 2 0 ++ zeros 2)) (fun x t => 64 ≤ (t.openReleases.filter fun r => r.ctx.toNat != x.f 0 2).length)) ∧
    (Meets vKeyReleaseBegin (upR ((List.range 64).map fun i => release i (i + 1))) (sm (be 2 64 ++ zeros 2)) (fun x t => (t.openReleases.filter fun r => r.ctx.toNat != x.f 0 2).length < 64)) ∧
    (Meets vKeyInstall up (sm (be 4 1 ++ be 2 1023 ++ zeros 162)) (fun x t => t.openReleases.find? (fun r => r.id == BitVec.ofNat 32 (x.f 0 4)) = none)) ∧
    (Meets vKeyInstall (upR [release 1 2]) (sm (be 4 1 ++ be 2 1023 ++ zeros 162)) (fun x t => t.openReleases.find? (fun r => r.id == BitVec.ofNat 32 (x.f 0 4)) = some (release 1 2) ∧ (release 1 2).ctx.toNat ≠ x.f 4 2))) ∧
    ((Meets vKeyInstall (upR [release 1 1023]) (sm (be 4 1 ++ be 2 1023 ++ zeros 162)) (fun x t => t.openReleases.find? (fun r => r.id == BitVec.ofNat 32 (x.f 0 4)) = some (release 1 1023) ∧ (release 1 1023).ctx.toNat = x.f 4 2)) ∧
    (Meets vKeyRevoke up (sm (be 2 1 ++ zeros 2)) (fun x t => (t.keySlot (x.f 0 2)).state ≠ 1)) ∧
    (Meets vKeyRevoke (up.setKeySlot 1023 { state := 1 }) (sm (be 2 1023 ++ zeros 2)) (fun x t => (t.keySlot (x.f 0 2)).state = 1)) ∧
    (Meets vDebugAuthorise { up with pair := { up.pair with partnerOid := 17 } } (sm (authFor 17 0 9 1 0)) (fun x t => daPassed x t)) ∧
    (Meets vDebugAuthorise up (sm (auth 0 9 1 0)) (fun x t => ¬ daPassed x t ∧ t.ownerSet = false))) ∧
    ((Meets vDebugAuthorise (upDbg 0) (sm (auth 9 0 1 0)) (fun x t => ¬ daPassed x t ∧ t.ownerSet = true ∧ t.authValid x.params = false)) ∧
    (Meets vGetAccessMap up (sm (zeros 4 ++ be 4 3)) (fun x t => (if x.b 0 = 0 then t.sec.requesters.map MapRequester.bytes else t.sec.windows.map MapWindow.bytes).length < x.f 4 4)) ∧
    (Meets vGetAccessMap up (sm (zeros 4 ++ be 4 2)) (fun x t => x.f 4 4 ≤ (if x.b 0 = 0 then t.sec.requesters.map MapRequester.bytes else t.sec.windows.map MapWindow.bytes).length)) ∧
    (Meets vGetAccessMap up (sm (be 1 1 ++ zeros 3 ++ be 4 0)) (fun x t => x.f 4 4 ≤ (if x.b 0 = 0 then t.sec.requesters.map MapRequester.bytes else t.sec.windows.map MapWindow.bytes).length))) ∧
    (Signed (upDbg 2) (auth 0 9 1 0) (fun x t => ¬ daPassed x t ∧ t.ownerSet = true ∧ ¬ daOpen t x)) ∧
    (Signed { upDbg 0 with time := up.time } (auth 0 9 1 0) (fun x t => ¬ daPassed x t ∧ t.ownerSet = true ∧ ¬ daOpen t x)) ∧
    (Signed (upDbg 0) (auth 6 9 1 0) (fun x t => ¬ daPassed x t ∧ t.ownerSet = true ∧ ¬ daOpen t x)) ∧
    (Signed (upDbg 0) (auth 0 5 1 0) (fun x t => ¬ daPassed x t ∧ t.ownerSet = true ∧ ¬ daOpen t x)) ∧
    (Signed (upDbg 0) (auth 5 6 1 1) (fun x t => ¬ daPassed x t ∧ t.ownerSet = true ∧ daOpen t x ∧ byteAt x.params 33 = 1)) ∧
    (Signed (upDbg 0) (auth 5 6 3 0) (fun x t => ¬ daPassed x t ∧ t.ownerSet = true ∧ daOpen t x ∧ byteAt x.params 33 ≠ 1)) :=
  ⟨by decide +kernel, by decide +kernel, by decide +kernel, ⟨by decide +kernel, by decide +kernel, fun h => h⟩, ⟨by decide +kernel, by decide +kernel, fun h => h⟩, ⟨by decide +kernel, by decide +kernel, fun h => h⟩, ⟨by decide +kernel, by decide +kernel, fun h => h⟩, ⟨by decide +kernel, by decide +kernel, fun h => h⟩, ⟨by decide +kernel, by decide +kernel, fun h => h⟩⟩

theorem witness_ObservabilityVerbsReadAndHold :
    ((Meets vReadSelfCounters (upObs { held := true, hold := { writing := true } }) (sn ([1, 1] ++ be 2 4170 ++ be 2 25 ++ zeros 2)) (fun x t => x.b 1 = 1 ∧ t.obs.hold.writing = true)) ∧
    (Meets vReadSelfCounters up (sn ([0, 0] ++ be 2 4194 ++ be 2 1 ++ zeros 2)) (fun x t => ¬ (x.b 1 = 1 ∧ t.obs.hold.writing = true) ∧ ¬ (if x.b 0 = 0 then t.obs.tick.valid = true else t.obs.held = true))) ∧
    (Meets vReadSelfCounters (upObs { tick := { valid := true } }) (sn ([0, 0] ++ be 2 4170 ++ be 2 25 ++ zeros 2)) (fun x t => ¬ (x.b 1 = 1 ∧ t.obs.hold.writing = true) ∧ (if x.b 0 = 0 then t.obs.tick.valid = true else t.obs.held = true))) ∧
    (Meets vReadSelfCounters (upObs { held := true }) (sn ([1, 1] ++ be 2 4170 ++ be 2 25 ++ zeros 2)) (fun x t => ¬ (x.b 1 = 1 ∧ t.obs.hold.writing = true) ∧ (if x.b 0 = 0 then t.obs.tick.valid = true else t.obs.held = true))) ∧
    (Meets vFreeze { up with obs := { held := true, holdCause := 2, hold := { writing := true, stamp := up.cs } } } (sn []) (fun x t => t.sameCycle 2 = true))) ∧
    ((Meets vFreeze (upObs { held := true }) (sn []) (fun x t => t.sameCycle 2 = false ∧ (t.obs.held = true ∨ t.obs.hold.writing = true))) ∧
    (Meets vFreeze up (sn []) (fun x t => t.sameCycle 2 = false ∧ t.obs.held = false ∧ t.obs.hold.writing = false)) ∧
    (Meets vReadRecords up (sn (zeros 4 ++ be 1 16 ++ zeros 3)) (fun x t => True)) ∧
    (Meets vCheckValue (upObs { units := [(5, some ⟨⟨.qp 0, 9⟩, []⟩)] }) (sn (cvPar 0)) (fun x t => (Tbl.get none (x.b 0) t.obs.units).isSome = true)) ∧
    (Meets vCheckValue up (sn (cvPar 0)) (fun x t => Tbl.get none (x.b 0) t.obs.units = none ∧ x.f 36 8 = 0))) ∧
    ((Meets vCheckValue up (sn (cvPar 1)) (fun x t => Tbl.get none (x.b 0) t.obs.units = none ∧ x.f 36 8 ≠ 0)) ∧
    (Meets vCompress (upObs { engines := [(3, some ⟨⟨.qp 0, 9⟩, []⟩)] }) (sn (czPar 0)) (fun x t => x.b 1 = 0 ∧ (Tbl.get none (x.b 0) t.obs.engines).isSome = true)) ∧
    (Meets vCompress up (sn (czPar 0)) (fun x t => x.b 1 = 0 ∧ Tbl.get none (x.b 0) t.obs.engines = none)) ∧
    (Meets vCompress (upObs { engines := [(3, some ⟨⟨.qp 0, 9⟩, []⟩)] }) (sn (czPar 1)) (fun x t => x.b 1 = 1 ∧ (Tbl.get none (x.b 0) t.obs.engines).isSome = true)) ∧
    (Meets vCompress up (sn (czPar 1)) (fun x t => x.b 1 = 1 ∧ Tbl.get none (x.b 0) t.obs.engines = none))) :=
  ⟨by decide +kernel, by decide +kernel, by decide +kernel⟩

theorem witness_ProfileAndEpochChangesArePending :
    ((Meets vGetProfile up (sm []) (fun x t => True)) ∧
    (Meets vSetProfile { up with sys := { epoch := 10000 } } (sm (be 1 2 ++ zeros 3)) (fun x t => Profile.ofCode (x.b 0) = some .l ∧ (¬ (t.minEpoch .l ≤ t.sys.epoch ∧ ∀ e ∈ t.sys.pendingEpoch, t.minEpoch .l ≤ e.epoch) ∨ (t.sys.profile = .h ∧ Profile.l ≠ .h ∧ 800 ≤ t.hottest.2)))) ∧
    (Meets vSetProfile { up with sys := { epoch := 20000, pendingEpoch := some ⟨10000, 9, []⟩ } } (sm (be 1 2 ++ zeros 3)) (fun x t => Profile.ofCode (x.b 0) = some .l ∧ (¬ (t.minEpoch .l ≤ t.sys.epoch ∧ ∀ e ∈ t.sys.pendingEpoch, t.minEpoch .l ≤ e.epoch) ∨ (t.sys.profile = .h ∧ Profile.l ≠ .h ∧ 800 ≤ t.hottest.2)))) ∧
    (Meets vSetProfile { up with sys := { profile := .h, epoch := 20000, tj := [(3, 800)] } } (sm (be 1 1 ++ zeros 3)) (fun x t => Profile.ofCode (x.b 0) = some .b ∧ (¬ (t.minEpoch .b ≤ t.sys.epoch ∧ ∀ e ∈ t.sys.pendingEpoch, t.minEpoch .b ≤ e.epoch) ∨ (t.sys.profile = .h ∧ Profile.b ≠ .h ∧ 800 ≤ t.hottest.2)))) ∧
    (Meets vSetProfile up (sm (be 1 3 ++ zeros 3)) (fun x t => Profile.ofCode (x.b 0) = some .h ∧ (t.minEpoch .h ≤ t.sys.epoch ∧ ∀ e ∈ t.sys.pendingEpoch, t.minEpoch .h ≤ e.epoch) ∧ ¬ (t.sys.profile = .h ∧ Profile.h ≠ .h ∧ 800 ≤ t.hottest.2)))) ∧
    ((Meets vSetProfile { up with sys := { profile := .h, epoch := 5000 } } (sm (be 1 1 ++ zeros 3)) (fun x t => Profile.ofCode (x.b 0) = some .b ∧ (t.minEpoch .b ≤ t.sys.epoch ∧ ∀ e ∈ t.sys.pendingEpoch, t.minEpoch .b ≤ e.epoch) ∧ ¬ (t.sys.profile = .h ∧ Profile.b ≠ .h ∧ 800 ≤ t.hottest.2))) ∧
    (Meets vGetEpoch up (sm []) (fun x t => True)) ∧
    (Meets vSetEpoch up (sm (be 4 10000 ++ be 8 6)) (fun x t => t.timeValid = false)) ∧
    (Meets vSetEpoch upT (sm (be 4 10000 ++ be 8 5)) (fun x t => t.timeValid = true ∧ (epochValid (x.f 0 4) = false ∨ x.f 4 8 ≤ t.svcNs / 1000000000))) ∧
    (Meets vSetEpoch upT (sm (be 4 999 ++ be 8 6)) (fun x t => t.timeValid = true ∧ (epochValid (x.f 0 4) = false ∨ x.f 4 8 ≤ t.svcNs / 1000000000)))) ∧
    ((Meets vSetEpoch upT (sm (be 4 1000 ++ be 8 6)) (fun x t => (t.timeValid = true ∧ epochValid (x.f 0 4) = true ∧ t.svcNs / 1000000000 < x.f 4 8) ∧ (x.f 0 4 < t.minEpoch t.sys.profile ∨ x.f 0 4 < t.setMinimum))) ∧
    (Meets vSetEpoch upT (sm (be 4 5000 ++ be 8 6)) (fun x t => (t.timeValid = true ∧ epochValid (x.f 0 4) = true ∧ t.svcNs / 1000000000 < x.f 4 8) ∧ t.minEpoch t.sys.profile ≤ x.f 0 4 ∧ t.setMinimum ≤ x.f 0 4))) :=
  ⟨by decide +kernel, by decide +kernel, by decide +kernel⟩

theorem witness_StagedSetsOpenAndCommit :
    ((Meets vStage (upSt { opened := some ⟨1, [], 0⟩ }) (sn []) (fun x t => (t.stagingOf x.req).opened.isSome = true)) ∧
    (Meets vStage up (sn []) (fun x t => (t.stagingOf x.req).opened = none)) ∧
    (Meets vCommit (upSt { opened := some ⟨2, [], 0⟩, committed := some ⟨⟨1, [], 0⟩, ⟨.qp 0, 9⟩, 0, 0, none⟩ }) (sn (zeros 16)) (fun x t => (t.stagingOf x.req).committed.isSome = true)) ∧
    (Meets vCommit up (sn (zeros 16)) (fun x t => (t.stagingOf x.req).committed = none ∧ (t.stagingOf x.req).opened = none)) ∧
    (Meets vCommit { (upSt { opened := some ⟨1, [], 0⟩ }) with time := upT.time } (sn (be 8 6 ++ be 4 1 ++ zeros 4)) (fun x t => (t.stagingOf x.req).committed = none ∧ (t.stagingOf x.req).opened = some ⟨1, [], 0⟩ ∧ (t.timeValid = true ∧ t.svc + 1000000000 * unit < (if stampAt x.params 0 = Stamp.zero then 0 else ofStamp (stampAt x.params 0)))))) ∧
    ((Meets vCommit (upSt { opened := some ⟨1, [], 0⟩ }) (sn (zeros 16)) (fun x t => (t.stagingOf x.req).committed = none ∧ (t.stagingOf x.req).opened = some ⟨1, [], 0⟩ ∧ ¬ (t.timeValid = true ∧ t.svc + 1000000000 * unit < (if stampAt x.params 0 = Stamp.zero then 0 else ofStamp (stampAt x.params 0))))) ∧
    (Meets vDiscard up (sn []) (fun x t => (t.stagingOf x.req).opened = none)) ∧
    (Meets vDiscard (upSt { opened := some ⟨1, [(0x0700, sm [])], 0⟩ }) (sn []) (fun x t => (t.stagingOf x.req).opened = some ⟨1, [(0x0700, sm [])], 0⟩)) ∧
    (Meets vGetStaged up (sn []) (fun x t => (t.stagingOf x.req).opened = none)) ∧
    (Meets vGetStaged (upSt { opened := some ⟨1, [], 0⟩ }) (sn []) (fun x t => (t.stagingOf x.req).opened = some ⟨1, [], 0⟩))) :=
  ⟨by decide +kernel, by decide +kernel⟩

/-- A clock at one millisecond, a committed set, a forwarded sentence, a queue pair. -/
def cm0 : CommitWait := ⟨⟨1, [], 0⟩, ⟨.qp 0, 9⟩, 0, 0, none⟩
/-- A set of one change, a route, or one of a model that is absent. -/
def cm1 (v : Nat) (b : Bytes) (p : Option (Nat × List Nat)) : CommitWait := ⟨⟨1, [(v, { sm b with flags := 12 })], 0⟩, ⟨.qp 0, 9⟩, 0, 0, p⟩
def late1 (s : State) (ns : Nat) : State := { s with time := { s.time with clock := ns * unit } }
def upCm (p : Option (Nat × List Nat)) : State :=
  { upT.setStaging (.qp 0) { committed := some ⟨⟨1, [], 0⟩, ⟨.qp 0, 9⟩, 0, 0, p⟩ } with time := { upT.time with sel := { upT.time.sel with svc := 6000000000 * unit } } }
def fwd : Forwarded := ⟨5, ⟨.qp 0, 9⟩, .a, 0, 0, 0x0005, zeros 36, false⟩
def upF (ns : Nat) : State := late1 { up with verbs := { up.verbs with forwarded := [(0, [fwd])] } } ns
def upQ (q : Qp) : State := up.setQp 0 q
def entry (k : Nat) : HostEntry := ⟨0, be 1 k ++ zeros 63, true, none, true⟩
def mbReq (b : Bytes) : Tbl Byte := (b.zipIdx.map fun e => (e.2, e.1)).filter fun e => e.2 != 0
def mbBytes (t : Word) : Bytes := sentenceBytes 0 (sbx []) 1 t 0
def kd (f : Dtc → Dtc) : State := up.setDtc 0 (f die)
def used : Dtc := { die with ties := ⟨32, true, true, true, BitVec.allOnes 64, true, 100⟩ }
def frm (b : Bytes) (k : Nat) : JFrame := ⟨BitVec.ofNat 32 k, b⟩
/-- The DTC's link A in service and framing; its journal. -/
def lnk (j : Journal) (f : DtcLink → DtcLink) : Dtc := { die with journal := j, la := f { e := { st := .inService, framing := true } } }
def upP (a : AggPort) : State := up.setPort 0 a
def frameBad : Bytes := [0xFF] ++ zeros 255
theorem witness_StagedSetsAndForwardsEnd :
    (((up.stagingOf (.qp 0)).committed = none) ∧
    (((upCm none).stagingOf (.qp 0)).committed = some cm0 ∧ cm0.prepared = none ∧ (∀ st ∈ dryRun cm0.set.changes (upCm none) cm0.set.changes, st = St.ok) ∧ (upCm none).commitTick cm0 = none) ∧
    (let c := cm1 0x0502 (be 2 1 ++ be 1 1 ++ zeros 13) none; let s := upSt { committed := some c }; (s.stagingOf (.qp 0)).committed = some c ∧ c.prepared = none ∧ (dryRun c.set.changes s c.set.changes).findIdx? (· != St.ok) = some 0) ∧
    (let c := cm1 0x0700 routePar none; let s := upSt { committed := some c }; (s.stagingOf (.qp 0)).committed = some c ∧ c.prepared = none ∧ ∀ st ∈ dryRun c.set.changes s c.set.changes, st = St.ok) ∧
    (let c : CommitWait := { cm0 with prepared := some (0, []) }; let s := upCm (some (0, [])); let u := s.setStaging (.qp 0) { s.stagingOf (.qp 0) with committed := none }; (s.stagingOf (.qp 0)).committed = some c ∧ c.prepared.isSome = true ∧ (s.commitTick c).isSome = true ∧ (∀ t ∈ s.commitTick c, s.setBefore (.qp 0) t = false) ∧ ∀ st ∈ dryRun c.set.changes u c.set.changes, st = St.ok)) ∧
    ((let c := cm1 0x0502 (be 2 1 ++ be 1 1 ++ zeros 13) (some (0, [0])); let s := (upCm none).setStaging (.qp 0) { committed := some c }; let u := s.setStaging (.qp 0) { s.stagingOf (.qp 0) with committed := none }; (s.commitTick c).isSome = true ∧ (∀ t ∈ s.commitTick c, s.setBefore (.qp 0) t = false) ∧ (dryRun c.set.changes u c.set.changes).findIdx? (· != St.ok) = some 0) ∧
    (let c : CommitWait := { cm0 with prepared := some (0, []) }; let s := (upCm (some (0, []))).setStaging (.qp 1) { committed := some c }; (s.stagingOf (.qp 1)).committed = some c ∧ (s.commitTick c).isSome = true ∧ ∀ t ∈ s.commitTick c, s.setBefore (.qp 1) t = true) ∧
    ((up.stagingOf (.qp 0)).opened = none) ∧
    (let s := late1 (upSt { opened := some ⟨1, [], 0⟩ }) 100000000; (s.stagingOf (.qp 0)).opened = some ⟨1, [], 0⟩ ∧ 0 + 100000000 ≤ s.now) ∧
    (let s := late1 (upSt { opened := some ⟨1, [], 0⟩ }) 99999999; (s.stagingOf (.qp 0)).opened = some ⟨1, [], 0⟩ ∧ s.now < 0 + 100000000)) ∧
    (((Tbl.get [] 0 up.verbs.forwarded).find? (fun w => w.ftag == (5 : Word).toNat) = none) ∧
    ((Tbl.get [] 0 (upF 110000).verbs.forwarded).find? (fun w => w.ftag == (5 : Word).toNat) = some fwd ∧ fwd.answered = false ∧ fwd.sentAt + 2 * ((upF 110000).port 0).delayNs + 10000 ≤ (upF 110000).now) ∧
    ((Tbl.get [] 0 (upF 109999).verbs.forwarded).find? (fun w => w.ftag == (5 : Word).toNat) = some fwd ∧ (upF 109999).now < fwd.sentAt + 2 * ((upF 109999).port 0).delayNs + 10000) ∧
    (let s := (upF 10000000).setDtc 0 { time := { clock := 10000000 * unit } }; (s.port 0).e.longDown s.now = true ∧ (s.dtc 0).lb.e.longDown (s.dtc 0).now = true ∧ fwd.since + 10000000 ≤ s.now) ∧
    (let s := (upF 9999999).setDtc 0 { time := { clock := 9999999 * unit } }; ¬ (((s.port 0).e.longDown s.now = true ∧ (s.dtc 0).lb.e.longDown (s.dtc 0).now = true) ∧ fwd.since + 10000000 ≤ s.now))) ∧
    ((let b : Bytes := be 4 6 ++ zeros 12; (Tbl.get [] 0 (upF 0).verbs.forwarded).find? (fun w => w.ftag == fld b 0 4) = none) ∧
    (let b := be 4 5 ++ be 2 0 ++ be 2 (zeros 0).length ++ zeros 8 ++ zeros 0; (Tbl.get [] 0 (upF 0).verbs.forwarded).find? (fun w => w.ftag == fld b 0 4) = some fwd ∧ fld b 4 2 ≠ St.accepted ∧ fld b 4 2 ≠ St.duplicate) ∧
    (let b := be 4 5 ++ be 2 St.duplicate ++ be 2 (zeros 4).length ++ zeros 8 ++ zeros 4; (Tbl.get [] 0 (upF 0).verbs.forwarded).find? (fun w => w.ftag == fld b 0 4) = some fwd ∧ fld b 4 2 = St.duplicate ∧ fld (sub b 16 (fld b 6 2)) 0 2 ≠ St.accepted) ∧
    (let b := be 4 5 ++ be 2 St.duplicate ++ be 2 ((be 2 St.accepted ++ zeros 2)).length ++ zeros 8 ++ (be 2 St.accepted ++ zeros 2); (Tbl.get [] 0 (upF 0).verbs.forwarded).find? (fun w => w.ftag == fld b 0 4) = some fwd ∧ fld b 4 2 = St.duplicate ∧ fld (sub b 16 (fld b 6 2)) 0 2 = St.accepted) ∧
    (let b := be 4 5 ++ be 2 St.accepted ++ be 2 (zeros 0).length ++ zeros 8 ++ zeros 0; (Tbl.get [] 0 (upF 0).verbs.forwarded).find? (fun w => w.ftag == fld b 0 4) = some fwd ∧ fld b 4 2 = St.accepted ∧ findTag (upF 0).verbs.tags fwd.ticket.req fwd.ticket.tag = none)) ∧
    ((let e : TagEntry := ⟨{ sn [] with tag := 9, flags := 1 }, 0, .running, 0, 0, none, none, none⟩; let s := { upF 0 with verbs := { (upF 0).verbs with tags := [e] } }; findTag s.verbs.tags fwd.ticket.req fwd.ticket.tag = some e ∧ e.x.wantsAll = true) ∧
    (let s := kd fun d => { d with mb := { busy := true } }; let b : Bytes := zeros 16; (s.dtc 0).ready = true ∧ (s.dtc 0).mb.busy = true ∧ fld b 4 2 ≠ St.accepted) ∧
    ((upD.dtc 0).mb.busy = false)) :=
  ⟨by decide +kernel, by decide +kernel, by decide +kernel, by decide +kernel, by decide +kernel⟩

theorem witness_HostRegistersAndQueuePairs :
    ((up.dev.halted = false ∧ ((upQ { enabled := true }).qp 0).enabled = true ∧ (up.qp 0).enabled = false ∧ { up with dev := { up.dev with halted := true } }.dev.halted = true) ∧
    ((1 : Word).getLsbD 0 = true ∧ up.obs.hold.writing = false ∧ (0 : Word).getLsbD 0 = false ∧ (upObs { hold := { writing := true } }).obs.hold.writing = true) ∧
    (let v : Word := 0xFF000000; (v.extractLsb' 0 24).toNat = 0) ∧
    (let s := upObj { obj with hseq := 255 }; let v : Word := 0xFF000001; (v.extractLsb' 0 24).toNat ≠ 0 ∧ s.active = true ∧ (s.object (5 : BitVec 15).toNat).inited = true ∧ (s.object (5 : BitVec 15).toNat).hseq = (v.extractLsb' 24 8).toNat) ∧
    (let s := up; let v : Word := 0xFF000001; (v.extractLsb' 0 24).toNat ≠ 0 ∧ s.active = true ∧ ((s.object (5 : BitVec 15).toNat).inited = false ∨ (s.object (5 : BitVec 15).toNat).hseq ≠ (v.extractLsb' 24 8).toNat ∧ agentAllowed (s.object (5 : BitVec 15).toNat).producer (s.object (5 : BitVec 15).toNat).producerOid (0x41, 0) = false))) ∧
    ((let s := upObj obj; let v : Word := 0xFF000001; (v.extractLsb' 0 24).toNat ≠ 0 ∧ s.active = true ∧ (s.object (5 : BitVec 15).toNat).inited = true ∧ (s.object (5 : BitVec 15).toNat).hseq ≠ (v.extractLsb' 24 8).toNat ∧ agentAllowed (s.object (5 : BitVec 15).toNat).producer (s.object (5 : BitVec 15).toNat).producerOid (0x41, 0) = true) ∧
    (State.reset.active = false ∧ State.reset.sync.heldPosts.length < 4096) ∧
    (let s : State := { State.reset with sync := { State.reset.sync with heldPosts := List.replicate 4096 ⟨5, 1, 1⟩ } }; s.active = false ∧ 4096 ≤ s.sync.heldPosts.length) ∧
    ((0x1000 : Nat) ≤ (0x1000 : BitVec 24).toNat) ∧
    (((upQ { enable := true, enabled := true, sqTail := 1 }).qp 0).waiting = true ∧ (up.qp 0).waiting = false)) ∧
    ((State.reset.dev.fwReady = false ∧ up.dev.fwReady = true ∧ up.nextQp = none) ∧
    (let s := upQ { enable := true, enabled := true, sqTail := 1 }; s.dev.fwReady = true ∧ s.nextQp = some 0 ∧ s.verbs.waiting = [] ∧ (entry 1).queue = 0 ∧ byteAt (entry 1).header 0 ≠ 2 ∧ byteAt (entry 2).header 0 = 2 ∧ (⟨1, zeros 64, true, none, true⟩ : HostEntry).queue ≠ 0) ∧
    (let s := upQ { enable := true, enabled := true, sqTail := 1 }; let t : State := { s with dev := { s.dev with ethTurn := true }, verbs := { s.verbs with waiting := [(.eth 5, [])] } }; t.nextQp = some 0 ∧ t.verbs.waiting ≠ [] ∧ t.dev.ethTurn = true) ∧
    ((0x14 : BitVec 24).toNat ≠ 0x10 ∧ (0x14 : BitVec 24).toNat ≠ 0x20 ∧ (0x14 : BitVec 24).toNat ≠ 0x24 ∧ (0x14 : BitVec 24).toNat < 0x10000 ∧ 0x11000 ≤ (0x11000 : BitVec 24).toNat) ∧
    (0x10000 ≤ (0x10010 : BitVec 24).toNat ∧ (0x10010 : BitVec 24).toNat < 0x11000 ∧ (0x10010 : BitVec 24).toNat % 64 = 0x10 ∧ 0x18 ≤ (0x10018 : BitVec 24).toNat % 64)) ∧
    (((2 : BitVec 24).toNat % 4 ≠ 0 ∧ 0x8000 ≤ (0x8000 : BitVec 24).toNat) ∧
    ((upD.dtc 0).ready = true ∧ (State.reset.dtc 0).ready = false) ∧
    (up.phys.porLow = false ∧ State.reset.phys.porLow = true)) :=
  ⟨by decide +kernel, by decide +kernel, by decide +kernel, by decide +kernel⟩

theorem witness_DtcRegistersAndResets :
    (((State.reset.dtc 0).ready = false ∧ trbOffset 8 ≠ 0 ∧ trbOffset 8 ≠ 12) ∧
    ((upD.dtc 0).ready = true ∧ (14 : BitVec 4) ≠ 15 ∧ (upD.dtc 0).trbValue (trbOffset 0x18) = none) ∧
    (trbOffset 8 ≠ 0x40 ∧ ((upD.dtc 0).trbValue (trbOffset 8)).isSome = true ∧ trbOffset 0x40 = 0x40) ∧
    ((0 : Word).getLsbD 31 = false ∧ (0x80000000 : Word).getLsbD 31 = true) ∧
    ((0xA5D60001 : Word).extractLsb' 16 16 ≠ (0xA5D7 : BitVec 16) ∧ (0xA5D70000 : Word).getLsbD 0 = false ∧ (0xA5D70001 : Word).extractLsb' 16 16 = (0xA5D7 : BitVec 16) ∧ (0xA5D70001 : Word).getLsbD 0 = true)) ∧
    ((0x400 ≤ trbOffset 0x400 ∧ trbOffset 0x400 ≤ 0x51C ∧ 0x400 ≤ trbOffset 0x51C ∧ trbOffset 0x51C ≤ 0x51C) ∧
    (((upD.dtc 0).trbValue (trbOffset 8)).isSome = true ∧ trbOffset 8 ∉ [0x10, 0x14, 0x20, 0x24, 0x50, 0x80, 0x84] ∧ trbOffset 8 < 0x400) ∧
    (let s := kd fun d => { d with mb := { busy := true } }; (s.dtc 0).ready = true ∧ (s.dtc 0).mb.busy = true) ∧
    ((upD.dtc 0).mb.busy = false ∧ (31 : BitVec 9).toNat < 32 ∧ 288 < (289 : BitVec 9).toNat) ∧
    (let s := kd fun d => { d with mb := { req := mbReq (mbBytes 32) } }; let b := (List.range (32 : BitVec 9).toNat).map fun k => Tbl.get 0 k (s.dtc 0).mb.req; (s.dtc 0).ready = true ∧ (s.dtc 0).mb.busy = false ∧ 32 ≤ (32 : BitVec 9).toNat ∧ (32 : BitVec 9).toNat ≤ 288 ∧ ¬ (headerGood (b.take 32) = true ∧ byteAt b 0 = 1 ∧ fld b 16 2 = b.length - 32 ∧ fld b 18 4 = crc32c (b.drop 32) ∧ (parseSentence (.dtc 0) .mailbox (b.take 32) (b.drop 32)).target ≠ (s.dtc 0).oid ∧ (s.dtc 0).oidBad = false))) ∧
    ((let s := kd fun d => { d with mb := { req := mbReq (mbBytes 33) } }; let b := (List.range (32 : BitVec 9).toNat).map fun k => Tbl.get 0 k (s.dtc 0).mb.req; (s.dtc 0).ready = true ∧ (s.dtc 0).mb.busy = false ∧ 32 ≤ (32 : BitVec 9).toNat ∧ (32 : BitVec 9).toNat ≤ 288 ∧ headerGood (b.take 32) = true ∧ byteAt b 0 = 1 ∧ fld b 16 2 = b.length - 32 ∧ fld b 18 4 = crc32c (b.drop 32) ∧ (parseSentence (.dtc 0) .mailbox (b.take 32) (b.drop 32)).target ≠ (s.dtc 0).oid ∧ (s.dtc 0).oidBad = false ∧ ((s.dtc 0).link (s.dtc 0).followed).e.st = .inService) ∧
    (let s := kd fun d => { d with la := {}, lb := {}, mb := { req := mbReq (mbBytes 33) } }; let b := (List.range (32 : BitVec 9).toNat).map fun k => Tbl.get 0 k (s.dtc 0).mb.req; (s.dtc 0).ready = true ∧ (s.dtc 0).mb.busy = false ∧ 32 ≤ (32 : BitVec 9).toNat ∧ (32 : BitVec 9).toNat ≤ 288 ∧ headerGood (b.take 32) = true ∧ byteAt b 0 = 1 ∧ fld b 16 2 = b.length - 32 ∧ fld b 18 4 = crc32c (b.drop 32) ∧ (parseSentence (.dtc 0) .mailbox (b.take 32) (b.drop 32)).target ≠ (s.dtc 0).oid ∧ (s.dtc 0).oidBad = false ∧ ((s.dtc 0).link (s.dtc 0).followed).e.st ≠ .inService)) :=
  ⟨by decide +kernel, by decide +kernel, by decide +kernel⟩

theorem witness_CollectionEventsOnTheDie :
    (((upD.dtc 0).ready = true) ∧
    (let s := kd fun d => { d with cnt := { alive := 1 } }; (s.dtc 0).ready = true ∧ (s.dtc 0).alive 0 = true ∧ 4 < (5 : BitVec 3).toNat ∧ (s.dtc 0).alive 63 = false ∧ (List.replicate 64 (4 : BitVec 3)).length ≤ 64) ∧
    (let s := up.setDtc 0 used; (s.dtc 0).ready = true ∧ ((s.dtc 0).ties.snsUsed.getLsbD 31 = true ∧ ((31 : Fin 64).val < 32 → false = false)) ∧ ¬ ((upD.dtc 0).ties.snsUsed.getLsbD 63 = true) ∧ (0x40000 : BitVec 20).getLsbD 18 = true ∧ (0 : BitVec 20).getLsbD 18 = false) ∧
    (let s := up.setDtc 0 { used with time := { clock := 400000 * unit } }; (s.dtc 0).ties.snsUsed.getLsbD 0 = true ∧ ((s.dtc 0).sensor 0).stale = false ∧ ((s.dtc 0).sensor 0).lastAt + 4 * sensorInterval 0 ≤ (s.dtc 0).now) ∧
    (let s := up.setDtc 0 { used with time := { clock := 399999 * unit } }; ¬ (((s.dtc 0).sensor 0).lastAt + 4 * sensorInterval 0 ≤ (s.dtc 0).now))) ∧
    (((upD.dtc 0).now / 1000 ≤ (upD.dtc 0).hang.lastEval) ∧
    (let s := kd fun d => { d with time := { clock := 1000 * unit } }; (s.dtc 0).hang.lastEval < (s.dtc 0).now / 1000 ∧ hangCondition (s.dtc 0).liveQueues = false) ∧
    (let s := kd fun d => { d with time := { clock := 1000 * unit }, queues := [(1, some ⟨true, true, 1, 0⟩)] }; (s.dtc 0).hang.lastEval < (s.dtc 0).now / 1000 ∧ hangCondition (s.dtc 0).liveQueues = true ∧ (if ((s.dtc 0).liveQueues.map fun e => (e.1, e.2.on.toNat)) = (s.dtc 0).hang.relation then (s.dtc 0).hang.run + 1 else 1) < 4) ∧
    (let s := kd fun d => { d with time := { clock := 1000 * unit }, queues := [(1, some ⟨true, true, 1, 0⟩)], hang := { relation := [(1, 1)], run := 3 } }; (s.dtc 0).hang.lastEval < (s.dtc 0).now / 1000 ∧ hangCondition (s.dtc 0).liveQueues = true ∧ 4 ≤ (if ((s.dtc 0).liveQueues.map fun e => (e.1, e.2.on.toNat)) = (s.dtc 0).hang.relation then (s.dtc 0).hang.run + 1 else 1) ∧ (s.dtc 0).hang.raised = false) ∧
    ((upD.dtc 0).time.valid = false ∧ (upDT.dtc 0).time.valid = true)) ∧
    (((upD.dtc 0).hm = []) ∧
    (let s := kd fun d => { d with hm := [⟨0, 1, 0, 0, false⟩] }; (s.dtc 0).hm = ⟨0, 1, 0, 0, false⟩ :: [] ∧ (s.dtc 0).scan = none ∧ (s.dtc 0).hmBlocked = false ∧ ¬ (0 + 1000000 ≤ (s.dtc 0).now)) ∧
    (let s := kd fun d => { d with hmBlocked := true, hm := [⟨0, 1, 0, 0, false⟩] }; (s.dtc 0).hm = ⟨0, 1, 0, 0, false⟩ :: [] ∧ (s.dtc 0).hmBlocked = true) ∧
    (let s := kd fun d => { d with scan := some ⟨⟨.pair, 9⟩, 0, 64, 0, 0, 64⟩, hm := [⟨0, 1, 0, 0, false⟩] }; (s.dtc 0).hm = ⟨0, 1, 0, 0, false⟩ :: [] ∧ (s.dtc 0).scan = some ⟨⟨.pair, 9⟩, 0, 64, 0, 0, 64⟩ ∧ (s.dtc 0).hmBlocked = false) ∧
    (let s := kd fun d => { d with time := { clock := 1000000 * unit }, hm := [⟨0, 1, 0, 0, false⟩] }; (s.dtc 0).hm = ⟨0, 1, 0, 0, false⟩ :: [] ∧ (⟨0, 1, 0, 0, false⟩ : HmRequest).late = false ∧ (⟨0, 1, 0, 0, false⟩ : HmRequest).since + 1000000 ≤ (s.dtc 0).now)) ∧
    ((let s := upDT; (s.dtc 0).time.valid = true ∧ (s.dtc 0).time.time / unit / (s.dtc 0).epoch * (s.dtc 0).epoch * unit ≤ (s.dtc 0).cnt.lastTick) ∧
    (let s := kd fun d => { d with time := { valid := true, time := 10000 * unit } }; (s.dtc 0).time.valid = true ∧ (s.dtc 0).cnt.lastTick < (s.dtc 0).time.time / unit / (s.dtc 0).epoch * (s.dtc 0).epoch * unit ∧ (s.dtc 0).cnt.frozenAt ≠ some (s.dtc 0).now) ∧
    ((upD.dtc 0).cnt.set.capture ≠ (15 : Fin 16).val) ∧
    (let s := kd fun d => { d with time := { cap := [(3, { edges := 1 })] }, cnt := { set := { capture := 3 } } }; let e : Dtc := { s.dtc 0 with time := { (s.dtc 0).time with cap := Tbl.set {} 3 ((Tbl.get ({} : Capture) 3 (s.dtc 0).time.cap).take true (captureStamp (s.dtc 0).instant (7 : Fin 8).val (s.dtc 0).capDly.toNat (s.dtc 0).flags)) (s.dtc 0).time.cap } }; (s.dtc 0).cnt.set.capture = (3 : Fin 16).val ∧ (Tbl.get ({} : Capture) 3 (s.dtc 0).time.cap).edges % 2 = 1 ∧ e.joins 2 = false ∧ (s.dtc 0).cnt.snapshotPending = false) ∧
    (let s := kd fun d => { d with time := { cap := [(3, { edges := 1 })] }, cnt := { set := { capture := 3 }, snapshotPending := true } }; let e : Dtc := { s.dtc 0 with time := { (s.dtc 0).time with cap := Tbl.set {} 3 ((Tbl.get ({} : Capture) 3 (s.dtc 0).time.cap).take true (captureStamp (s.dtc 0).instant (7 : Fin 8).val (s.dtc 0).capDly.toNat (s.dtc 0).flags)) (s.dtc 0).time.cap } }; (s.dtc 0).cnt.set.capture = (3 : Fin 16).val ∧ (Tbl.get ({} : Capture) 3 (s.dtc 0).time.cap).edges % 2 = 1 ∧ e.joins 2 = false ∧ (s.dtc 0).cnt.snapshotPending = true)) ∧
    ((let s := kd fun d => { d with time := { cap := [(3, { edges := 1 })] }, cnt := { set := { capture := 3 }, snapshotPending := true, snapshot := some [], frozenAt := some die.now, freezeKind := 1 } }; let e : Dtc := { s.dtc 0 with time := { (s.dtc 0).time with cap := Tbl.set {} 3 ((Tbl.get ({} : Capture) 3 (s.dtc 0).time.cap).take true (captureStamp (s.dtc 0).instant (7 : Fin 8).val (s.dtc 0).capDly.toNat (s.dtc 0).flags)) (s.dtc 0).time.cap } }; (s.dtc 0).cnt.set.capture = (3 : Fin 16).val ∧ (Tbl.get ({} : Capture) 3 (s.dtc 0).time.cap).edges % 2 = 1 ∧ e.joins 2 = true) ∧
    ((7 : Fin 16).val < 8 ∧ 8 ≤ (8 : Fin 16).val) ∧
    (let s := kd fun d => { d with time := { valid := true }, cnt := { pending := [(some 0, .set {})] } }; (∃ e ∈ (s.dtc 0).cnt.pending, ∃ t ∈ e.1, t ≤ (s.dtc 0).time.time) ∧ (upD.dtc 0).cnt.pending = [])) :=
  ⟨by decide +kernel, by decide +kernel, by decide +kernel, by decide +kernel, by decide +kernel⟩

theorem witness_LinkFramesAndTheJournal :
    ((¬ (up.hasEnd .dtc 0 .a = true ∧ (up.linkEnd .dtc 0 .a).st ≠ .down) ∧ upD.hasEnd .dtc 0 .a = true ∧ (upD.linkEnd .dtc 0 .a).st ≠ .down ∧ (upD.linkEnd .dtc 0 .a).framing = false ∧ ¬ ((upD.linkEnd .dtc 0 .a).st = .test ∧ (upD.linkEnd .dtc 0 .a).testMode = 2)) ∧
    (let s := upP { e := { st := .test, testMode := 2 } }; s.hasEnd .agg 0 .a = true ∧ (s.linkEnd .agg 0 .a).framing = false ∧ (s.linkEnd .agg 0 .a).st = .test ∧ (s.linkEnd .agg 0 .a).testMode = 2) ∧
    (let s := upP { e := { st := .inService, framing := true, firstIdle := true } }; s.hasEnd .agg 0 .a = true ∧ (s.linkEnd .agg 0 .a).st ≠ .down ∧ (s.linkEnd .agg 0 .a).framing = true ∧ (s.linkEnd .agg 0 .a).firstIdle = true) ∧
    (let s := upP { e := { st := .inService, framing := true } }; s.hasEnd .agg 0 .a = true ∧ (s.linkEnd .agg 0 .a).st ≠ .down ∧ (s.linkEnd .agg 0 .a).framing = true ∧ (s.linkEnd .agg 0 .a).firstIdle = false) ∧
    (let s := up.setDtc 0 (lnk { frames := [frm [1] 0], nextSeq := 1 } id); (s.dtc 0).ready = true ∧ ((s.dtc 0).link .a).e.st = .inService ∧ ((s.dtc 0).link .a).e.framing = true ∧ ((s.dtc 0).link .a).e.firstIdle = false ∧ ((s.dtc 0).link .a).e.ctrlOut = [] ∧ ((s.dtc 0).journal.frames.find? fun f => f.seq == ((s.dtc 0).link .a).sentTo) = some (frm [1] 0))) ∧
    ((let s := up.setDtc 0 (lnk { frames := [frm [1] 0], nextSeq := 1 } fun k => { k with sentTo := 1, again := [0] }); (s.dtc 0).ready = true ∧ ((s.dtc 0).link .a).e.st = .inService ∧ ((s.dtc 0).link .a).e.framing = true ∧ ((s.dtc 0).link .a).e.firstIdle = false ∧ ((s.dtc 0).link .a).e.ctrlOut = [] ∧ ((s.dtc 0).journal.frames.find? fun f => f.seq == ((s.dtc 0).link .a).sentTo) = none ∧ ((s.dtc 0).journal.frames.find? fun f => ((s.dtc 0).link .a).again.contains f.seq) = some (frm [1] 0)) ∧
    (let s := up.setDtc 0 (lnk {} id); (s.dtc 0).ready = true ∧ ((s.dtc 0).link .a).e.st = .inService ∧ ((s.dtc 0).link .a).e.framing = true ∧ ((s.dtc 0).link .a).e.firstIdle = false ∧ ((s.dtc 0).link .a).e.ctrlOut = [] ∧ ((s.dtc 0).journal.frames.find? fun f => f.seq == ((s.dtc 0).link .a).sentTo) = none ∧ ((s.dtc 0).journal.frames.find? fun f => ((s.dtc 0).link .a).again.contains f.seq) = none) ∧
    (let s := up.setDtc 0 (lnk {} fun k => { k with e := { k.e with ctrlOut := [[0]] } }); ((s.dtc 0).link .a).e.st ≠ .down ∧ ((s.dtc 0).link .a).e.framing = true ∧ ((s.dtc 0).link .a).e.firstIdle = false ∧ ((s.dtc 0).link .a).e.ctrlOut ≠ []) ∧
    (let d1 := (lnk { running := true, waiting := [{ cls := 0x12, data := zeros 8 }] } id).queueSnapshot; d1.journal.running = true ∧ d1.journal.frames.length < 511 ∧ d1.wantsFrame = true ∧ d1.journal.waiting ≠ []) ∧
    ((die.queueSnapshot).journal.running = false)) ∧
    ((((lnk {} id).link .a).e.lives = true ∧ (lnk {} id).journal.running = false) ∧
    (let d := lnk { running := true, nextSeq := 1, frames := [frm [1] 1] } id; (d.link .a).e.lives = true ∧ d.journal.running = true ∧ seqAfter 1 d.journal.nextSeq = false ∧ seqAfter 1 (d.link .a).acked = true ∧ seqAfter 2 d.journal.nextSeq = true ∧ frm [1] 1 ∈ d.journal.frames ∧ seqAfter ((d.takeAck .a 1 []).link .a).acked (frm [1] 1).seq = false) ∧
    (let s := up.setDtc 0 { lnk {} (fun k => { k with sentAt := [(0, 0)] }) with time := { clock := 104000 * unit } }; (∃ t ∈ Tbl.find? ((s.dtc 0).link .a).acked.toNat ((s.dtc 0).link .a).sentAt, ((s.dtc 0).link .a).e.lives = true ∧ ((s.dtc 0).link .a).ackedAt ≤ t ∧ t + 2 * s.linkDelay 0 .a + 4000 ≤ (s.dtc 0).now)) ∧
    (Tbl.find? ((upD.dtc 0).link .a).acked.toNat ((upD.dtc 0).link .a).sentAt = none ∧ ((upD.dtc 0).link .a).e.framing = false ∧ ((lnk {} id).link .a).e.framing = true) ∧
    (let s := up.setDtc 0 (lnk {} fun k => { k with echo := some (1, Stamp.zero) }); ((s.dtc 0).link .a).e.framing = true ∧ ((s.dtc 0).link .a).e.firstIdle = false ∧ ((s.dtc 0).link .a).echo.isSome = true ∧ ((upD.dtc 0).link .a).echo.isSome = false)) ∧
    ((let s := kd fun d => { d with time := { valid := true, clock := 10000 * unit } }; (s.dtc 0).time.valid = true ∧ (s.dtc 0).time.hold = false ∧ (s.dtc 0).time.lastRecord + 10000 ≤ (s.dtc 0).now ∧ (upDT.dtc 0).now < (upDT.dtc 0).time.lastRecord + 10000) ∧
    (let s := up.setDtc 0 (lnk {} id); ((s.dtc 0).link .a).e.framing = true ∧ (s.dtc 0).journal.running = false) ∧
    (let s := up.setDtc 0 (lnk { running := true } id); ((s.dtc 0).link .a).e.framing = true ∧ (s.dtc 0).journal.running = true ∧ (∀ f ∈ (s.dtc 0).journal.frames, f.seq ≠ 5)) ∧
    (let s := up.setDtc 0 (lnk { running := true, frames := [frm [1] 5] } id); (s.dtc 0).journal.running = true ∧ (∃ f ∈ (s.dtc 0).journal.frames, f.seq = 5)) ∧
    (let s := up.setDtc 0 (lnk {} id); let b := frameBad; s.hasEnd .dtc 0 .a = true ∧ (s.linkEnd .dtc 0 .a).framing = true ∧ b.length = 256 ∧ fld b 6 2 ≠ hcrc16 b ∧ (s.linkEnd .dtc 0 .a).hcrcRun < 7)) ∧
    ((let s := up.setDtc 0 (lnk {} fun k => { k with e := { k.e with hcrcRun := 7 } }); let b := frameBad; s.hasEnd .dtc 0 .a = true ∧ (s.linkEnd .dtc 0 .a).framing = true ∧ b.length = 256 ∧ fld b 6 2 ≠ hcrc16 b ∧ 7 ≤ (s.linkEnd .dtc 0 .a).hcrcRun) ∧
    (let s := up.setDtc 0 (lnk {} id); let b := linkFrame 4 0 0 []; s.hasEnd .dtc 0 .a = true ∧ (s.linkEnd .dtc 0 .a).framing = true ∧ b.length = 256 ∧ fld b 6 2 = hcrc16 b ∧ 3 < byteAt b 0 ∧ ¬ (upD.hasEnd .dtc 0 .a = true ∧ (upD.linkEnd .dtc 0 .a).framing = true)) ∧
    (let s := up.setDtc 0 (lnk {} id); let b := (linkFrame 2 0 0 []).take 252 ++ [1, 2, 3, 4]; s.hasEnd .dtc 0 .a = true ∧ (s.linkEnd .dtc 0 .a).framing = true ∧ b.length = 256 ∧ fld b 6 2 = hcrc16 b ∧ 1 ≤ byteAt b 0 ∧ byteAt b 0 ≤ 3 ∧ fld b 252 4 ≠ crc32c (b.take 252) ∧ ¬ ((min (s.linkEnd .dtc 0 .a).limit ((if (s.linkEnd .dtc 0 .a).windowIndex < s.msIndex .dtc 0 then 0 else (s.linkEnd .dtc 0 .a).window) + 1)) = (s.linkEnd .dtc 0 .a).limit ∧ ((s.linkEnd .dtc 0 .a).window ≠ (s.linkEnd .dtc 0 .a).limit ∨ (s.linkEnd .dtc 0 .a).windowIndex < s.msIndex .dtc 0))) ∧
    (let s := up.setDtc 0 (lnk {} fun k => { k with e := { k.e with window := 63 } }); let b := (linkFrame 2 0 0 []).take 252 ++ [1, 2, 3, 4]; s.hasEnd .dtc 0 .a = true ∧ (s.linkEnd .dtc 0 .a).framing = true ∧ b.length = 256 ∧ fld b 6 2 = hcrc16 b ∧ 1 ≤ byteAt b 0 ∧ byteAt b 0 ≤ 3 ∧ fld b 252 4 ≠ crc32c (b.take 252) ∧ ((min (s.linkEnd .dtc 0 .a).limit ((if (s.linkEnd .dtc 0 .a).windowIndex < s.msIndex .dtc 0 then 0 else (s.linkEnd .dtc 0 .a).window) + 1)) = (s.linkEnd .dtc 0 .a).limit ∧ ((s.linkEnd .dtc 0 .a).window ≠ (s.linkEnd .dtc 0 .a).limit ∨ (s.linkEnd .dtc 0 .a).windowIndex < s.msIndex .dtc 0))) ∧
    (let s := up.setDtc 0 (lnk {} id); let b := linkFrame 1 0 0 []; s.hasEnd .dtc 0 .a = true ∧ (s.linkEnd .dtc 0 .a).framing = true ∧ b.length = 256 ∧ fld b 6 2 = hcrc16 b ∧ fld b 252 4 = crc32c (b.take 252) ∧ byteAt b 0 = 1)) ∧
    ((let s := upP { e := { st := .inService, framing := true } }; let b := linkFrame 1 0 0 []; s.hasEnd .agg 0 .a = true ∧ (s.linkEnd .agg 0 .a).framing = true ∧ b.length = 256 ∧ fld b 6 2 = hcrc16 b ∧ fld b 252 4 = crc32c (b.take 252) ∧ byteAt b 0 = 1) ∧
    (let s := up.setDtc 0 (lnk {} id); let b := linkFrame 2 0 0 []; s.hasEnd .dtc 0 .a = true ∧ (s.linkEnd .dtc 0 .a).framing = true ∧ b.length = 256 ∧ fld b 6 2 = hcrc16 b ∧ fld b 252 4 = crc32c (b.take 252) ∧ byteAt b 0 = 2) ∧
    (let s := up.setDtc 0 (lnk {} id); let b := linkFrame 3 0 0 []; s.hasEnd .dtc 0 .a = true ∧ (s.linkEnd .dtc 0 .a).framing = true ∧ b.length = 256 ∧ fld b 6 2 = hcrc16 b ∧ fld b 252 4 = crc32c (b.take 252) ∧ byteAt b 0 = 3) ∧
    ((late1 up 1000000).hasEnd .agg 0 .a = true ∧ ((late1 up 1000000).linkEnd .agg 0 .a).windowIndex < (late1 up 1000000).msIndex .agg 0 ∧ up.msIndex .agg 0 ≤ (up.linkEnd .agg 0 .a).windowIndex) ∧
    ((up.port 0).e.framing = false)) ∧
    ((let s := late1 (upP { e := { st := .inService, framing := true } }) 2000; (s.port 0).e.framing = true ∧ (s.port 0).e.firstIdle = false ∧ (((if s.timeValid then s.svcNs else s.now - (s.port 0).firstFrame) / 2000) ≠ (s.port 0).lastBeacon ∨ (s.port 0).beaconTimed ≠ s.timeValid) ∧ s.timeValid = false) ∧
    (let s : State := { upP { e := { st := .inService, framing := true }, beacons := 1 } with time := upT.time }; (s.port 0).e.framing = true ∧ (s.port 0).e.firstIdle = false ∧ (((if s.timeValid then s.svcNs else s.now - (s.port 0).firstFrame) / 2000) ≠ (s.port 0).lastBeacon ∨ (s.port 0).beaconTimed ≠ s.timeValid) ∧ s.timeValid = true ∧ (s.port 0).beacons % 8 ≠ 0) ∧
    (let s : State := { upP { e := { st := .inService, framing := true }, beacons := 8 } with time := upT.time }; (s.port 0).e.framing = true ∧ (s.port 0).e.firstIdle = false ∧ (((if s.timeValid then s.svcNs else s.now - (s.port 0).firstFrame) / 2000) ≠ (s.port 0).lastBeacon ∨ (s.port 0).beaconTimed ≠ s.timeValid) ∧ s.timeValid = true ∧ (s.port 0).beacons % 8 = 0) ∧
    ((up.port 0).t1s.find? (fun e => e.1 == BitVec.ofNat 8 (byteAt [1] 0)) = none ∧ ((upP { t1s := [(1, Stamp.zero)] }).port 0).t1s.find? (fun e => e.1 == BitVec.ofNat 8 (byteAt [1] 0)) = some (1, Stamp.zero)) ∧
    (let s := upP { e := { st := .inService }, measured := true, offsets := 1 }; (s.port 0).e.st = .inService ∧ (s.port 0).measured = true ∧ (s.port 0).offsets ≠ (s.port 0).disciplined ∧ (up.port 0).offsets = (up.port 0).disciplined)) :=
  ⟨by decide +kernel, by decide +kernel, by decide +kernel, by decide +kernel, by decide +kernel, by decide +kernel, by decide +kernel⟩

def onA (e : LinkEnd) : State := upP { e := e }
def svcE : LinkEnd := { st := .inService, framing := true }
def mir (x : Nat) : LinkEnd := { svcE with rxSwap := .mirroring x 0 none }
def upW (m : Model) (w : List Work) : State := { upMod m with data := { (upMod m).data with works := w } }
/-- A placement of one tree on tartlet 0 of cluster c. -/
def place1 (c : Nat) (slots : List SlotPlace) : Placement := { mask := 2 ^ c, slots := slots }
def vec0 : Vec := ⟨[], [], 0, 0, none⟩
def workOn (c : Nat) : Work := { id := 5, src := .request 0, model := 1, replica := 0, tick := 0, epoch := 10000, order := 0, vec := vec0, undispatched := [c], todo := [], pass := true }
def slot0 : SlotPlace := ⟨0, 0, 0, 1, 0⟩
def job : VecJob := { src := .request 0, model := 1, map := [] }
def upDie (d : Die) : State := up.setDie 0 d
def key1 : ModelKey := ⟨0, 1⟩
def noDomains (s : State) : State := { s with dev := { s.dev with domains := 0 } }
/-- Service time valid at n seconds, and the duration clock with it. -/
def upS (n : Nat) : State := { upT with time := { upT.time with clock := n * 1000000000 * unit, sel := { upT.time.sel with svc := n * 1000000000 * unit } } }
def atS (n : Nat) (s : State) : State := { s with time := (upS n).time }
def upN (p : Port) : State := up.setNetPort 3 p
def fr (et : BitVec 16) (b : Bytes) : Frame := ⟨0, 0, none, et, b, 100, true⟩
/-- A frame body of kind 1 with one sentence to OID 16. -/
def nopTo16 : Bytes := sentenceBytes 0 (sn []) 1 16 0
def frBody : Bytes := zeros 4 ++ [1, 1, 0, 0] ++ nopTo16
/-- A frame body from OID src of the given kind, with one item of the given bytes. -/
def frKind (k src : Nat) (b : Bytes) : Bytes := be 4 src ++ be 1 k ++ [1, 0, 0] ++ b
def sentTo (oid : Nat) : Bytes := sentenceBytes 0 (sn []) 1 (BitVec.ofNat 32 oid) 0
def qOf (n : Nat) : EgressQueue := { frames := [{ len := n, dst := 0, vlan := none, etherType := 0, body := [] }] }
def gl (es : List (Nat × Nat)) (at_ : Nat) : GateList := ⟨0, 1000, es, at_, Stamp.zero⟩
def rq (fl : Nat) (p : Bytes) : Bytes :=
  let h := [2, 0] ++ be 2 1 ++ zeros 14 ++ be 2 p.length ++ be 4 (crc32c p) ++ zeros 4
  h ++ be 4 (crc32c h) ++ zeros fl
def reqEth (h p : Bytes) : RequestIn := ⟨.eth 5, 3, false, h, p, 0, 0⟩
def upServe : State := { upMod { st := 4, map := [1], place := some (place1 12 []) } with sec := { up.sec with requesters := [⟨1, 7, 0xFFFF, 0, 0xFFFF⟩] } }
/-- A group configuration whose members are all positions; one that names stragglers. -/
def cfgAll (kind run : Nat) : Bytes := zeros 8 ++ be 1 kind ++ zeros 5 ++ be 2 1 ++ zeros 2 ++ be 1 run ++ zeros 45 ++ List.replicate 1024 0xFF
def cfgOnly (kind : Nat) : Bytes := zeros 8 ++ be 1 kind ++ zeros 5 ++ be 2 1 ++ zeros 48 ++ zeros 1023 ++ [1]
def close0 (c : Bytes) : Close := { index := 7, instant := 0, since := 0, gen := 1, config := c }
def upC (ns : Nat) (c : List Close) : State :=
  { upG { closes := c } with time := { upT.time with sel := { upT.time.sel with svc := ns * unit } } }
def upP1 (g : GroupChange) : State := atS 6 { upG { pending := [⟨g, 0, 0, none⟩], gen := 1 } with data := { (upG { pending := [⟨g, 0, 0, none⟩], gen := 1 }).data with lastTick := 6000000000 * unit } }
def upSys (f : SysState → SysState) : State := { up with sys := f up.sys }
def hot (s : State) (n : Nat) (tj : BitVec 16) : Nat × Int := ({ s with sys := { s.sys with tj := Tbl.set 0 n tj s.sys.tj } } : State).hottest
theorem witness_LanesAndLinkStates :
    ((up.hasEnd .dtc 0 .a = false ∧ up.hasEnd .agg 0 .b = false ∧ up.hasEnd .agg 0 .a = true ∧ upD.hasEnd .dtc 0 .a = true) ∧
    (let e := (onA svcE).linkEnd .agg 0 .a; e.st = .inService ∧ e.rxMap.isData 0 = true ∧ e.rxSwap.lane = none ∧ e.rxMap.isData 2 = false ∧ ((onA (mir 1)).linkEnd .agg 0 .a).rxSwap.lane = some 1) ∧
    ((0x7E3C5A01 : Word).toNat / 4 = 0x7E3C5A00 / 4 ∧ (0x7E3C5A01 : Word).toNat % 4 ≠ 3 ∧ (0x7E3C5A03 : Word).toNat % 4 = 3) ∧
    (({ svcE with outOfService := true } : LinkEnd).outOfService = true ∧ svcE.outOfService = false ∧ svcE.st ≠ .test) ∧
    (let s := onA { st := .test, testMode := 2 }; (s.linkEnd .agg 0 .a).outOfService = false ∧ (s.linkEnd .agg 0 .a).st = .test ∧ (s.linkEnd .agg 0 .a).testMode ≠ 1)) ∧
    ((let s := onA { st := .test, testMode := 1 }; (s.linkEnd .agg 0 .a).outOfService = false ∧ (s.linkEnd .agg 0 .a).st = .test ∧ (s.linkEnd .agg 0 .a).testMode = 1) ∧
    (3 ≤ (3 : Fin 5).val ∧ (2 : Fin 5).val < 3 ∧ ((onA svcE).linkEnd .agg 0 .a).threshold ≤ (32 : Byte).toNat) ∧
    (let s := onA svcE; (31 : Byte).toNat < (s.linkEnd .agg 0 .a).threshold ∧ ((s.linkEnd .agg 0 .a).autoSwap = true ∧ (s.linkEnd .agg 0 .a).rxMap.isData 1 = true ∧ ((s.linkEnd .agg 0 .a).lane (s.linkEnd .agg 0 .a).rxMap.spare).alarm = false ∧ (s.linkEnd .agg 0 .a).rxSwap = .none ∧ (s.linkEnd .agg 0 .a).st = .inService)) ∧
    (let s := onA { svcE with autoSwap := false }; (31 : Byte).toNat < (s.linkEnd .agg 0 .a).threshold ∧ ¬ ((s.linkEnd .agg 0 .a).autoSwap = true ∧ (s.linkEnd .agg 0 .a).rxMap.isData 1 = true ∧ ((s.linkEnd .agg 0 .a).lane (s.linkEnd .agg 0 .a).rxMap.spare).alarm = false ∧ (s.linkEnd .agg 0 .a).rxSwap = .none ∧ (s.linkEnd .agg 0 .a).st = .inService)) ∧
    (let s := onA { svcE with txSwap := .mirroring 0 0 none }; (s.linkEnd .agg 0 .a).txSwap ≠ .none)) ∧
    ((let s := onA svcE; (s.linkEnd .agg 0 .a).txSwap = .none ∧ (s.linkEnd .agg 0 .a).txMap.isData 2 = false ∧ (s.linkEnd .agg 0 .a).txMap.isData 0 = true) ∧
    (let s := onA svcE; (s.linkEnd .agg 0 .a).rxSwap.lane ≠ some (1 : Fin 5).val) ∧
    (((onA { svcE with rxSwap := .asked 1 none }).linkEnd .agg 0 .a).rxSwap = .asked (1 : Fin 5).val none ∧ ((onA (mir 1)).linkEnd .agg 0 .a).rxSwap = .mirroring (1 : Fin 5).val 0 none ∧ ((onA (mir 1)).linkEnd .agg 0 .a).rxSwap.lane = some (1 : Fin 5).val) ∧
    (((onA { svcE with txSwap := .mirroring 1 0 none }).linkEnd .agg 0 .a).txSwap.lane = some (1 : Fin 5).val ∧ ((onA svcE).linkEnd .agg 0 .a).txSwap.lane ≠ some (1 : Fin 5).val) ∧
    (let s := late1 (onA (mir 1)) 10000; (s.linkEnd .agg 0 .a).rxSwap = .mirroring 1 0 none ∧ 0 + 10000 ≤ s.nowOf (sidePart .agg 0))) ∧
    ((let s := late1 (onA (mir 1)) 9999; ¬ 0 + 10000 ≤ s.nowOf (sidePart .agg 0)) ∧
    ((up.linkEnd .agg 0 .a).st = .down) ∧
    (let s := onA svcE; (s.linkEnd .agg 0 .a).st ≠ .down ∧ (s.linkEnd .agg 0 .a).st ≠ .test ∧ (s.linkEnd .agg 0 .a).rxSwap = .none) ∧
    ((up.linkEnd .agg 0 .a).framing = false) ∧
    (let s := up.setDtc 0 { die with la := { e := { st := .training, framing := true, startOk := true, beaconOk := true } } }; s.hasEnd .dtc 0 .a = true ∧ (s.linkEnd .dtc 0 .a).framing = true ∧ (s.linkEnd .dtc 0 .a).startOk = true ∧ (s.linkEnd .dtc 0 .a).st ≠ .inService ∧ (s.linkEnd .dtc 0 .a).outOfService = false ∧ (s.linkEnd .dtc 0 .a).beaconOk = true)) ∧
    ((let s := up.setDtc 0 { die with la := { e := { st := .training, framing := true, startOk := true, beaconOk := false } } }; s.hasEnd .dtc 0 .a = true ∧ (s.linkEnd .dtc 0 .a).framing = true ∧ (s.linkEnd .dtc 0 .a).startOk = true ∧ (s.linkEnd .dtc 0 .a).st ≠ .inService ∧ (s.linkEnd .dtc 0 .a).outOfService = false ∧ (s.linkEnd .dtc 0 .a).beaconOk = false) ∧
    (let s := onA { st := .training, framing := true, startOk := true }; (s.linkEnd .agg 0 .a).framing = true ∧ (s.linkEnd .agg 0 .a).startOk = true ∧ (s.linkEnd .agg 0 .a).st ≠ .inService ∧ (s.linkEnd .agg 0 .a).outOfService = false) ∧
    ((up.linkEnd .agg 0 .a).st ≠ .inService ∧ ((onA svcE).linkEnd .agg 0 .a).st = .inService) ∧
    (let s := late1 (onA { st := .held }) 100000; (s.linkEnd .agg 0 .a).st = .held ∧ (s.linkEnd .agg 0 .a).heldSince + 100000 ≤ s.nowOf (sidePart .agg 0)) ∧
    (let s := late1 (onA { st := .held }) 99999; ¬ (s.linkEnd .agg 0 .a).heldSince + 100000 ≤ s.nowOf (sidePart .agg 0))) ∧
    ((let s := up; ¬ ((255 : Byte).toNat < (s.netPort 3).threshold ∧ (((s.netPort 3).swappable 3 = true ∧ (s.netPort 3).isData 1 = true ∧ ((s.netPort 3).lane (s.netPort 3).spare).alarm = false ∧ (s.netPort 3).rxSwap = .none ∧ (s.netPort 3).st = .inService))) ∧ (17 : Nat) = 17 ∧ (3 : Fin 16).val = 3) ∧
    (let s := upN { spareMode := true, st := .inService }; (0 : Byte).toNat < (s.netPort 3).threshold ∧ (((s.netPort 3).swappable 3 = true ∧ (s.netPort 3).isData 1 = true ∧ ((s.netPort 3).lane (s.netPort 3).spare).alarm = false ∧ (s.netPort 3).rxSwap = .none ∧ (s.netPort 3).st = .inService))) ∧
    (let s := upN { spareMode := true, txSwap := .mirroring 0 0 none }; (s.netPort 3).txSwap ≠ .none ∧ (s.netPort 3).txSwap.lane ≠ some 4 ∧ (s.netPort 3).txSwap.lane = some (0 : Fin 5).val) ∧
    ((up.netPort 3).txSwap = .none ∧ (up.netPort 3).swappable 3 = false ∧ ((upN { spareMode := true }).netPort 3).swappable 3 = true ∧ (up.netPort 3).rxSwap.lane ≠ some 1) ∧
    (let s := upN { rxSwap := .asked 1 none }; (s.netPort 3).rxSwap = .asked (1 : Fin 5).val none ∧ ((upN { rxSwap := .mirroring 1 0 none }).netPort 3).rxSwap = .mirroring (1 : Fin 5).val 0 none)) ∧
    ((let s := late1 (upN { rxSwap := .mirroring 1 0 none }) 200000; (s.netPort 3).rxSwap = .mirroring 1 0 none ∧ 0 + 200000 ≤ s.now ∧ (up.netPort 3).rxSwap = .none)) :=
  ⟨by decide +kernel, by decide +kernel, by decide +kernel, by decide +kernel, by decide +kernel, by decide +kernel, by decide +kernel⟩

theorem witness_ScoringMovesWorkAlong :
    (((up.port 0).bodies = []) ∧
    (let s := upP { bodies := [(0x16, zeros 8, none)] }; (s.port 0).bodies = (0x16, zeros 8, none) :: [] ∧ recordBody (zeros 8) = some [] ∧ (0x16 : Nat) ∉ [0x10, 0x11, 0x12, 0x13, 0x14, 0x15]) ∧
    (recordBody (be 2 4 ++ [1] ++ zeros 5 ++ [0xFF]) = none) ∧
    (let s := upDie { waits := [⟨0, 10000, 0, []⟩] }; ∀ w ∈ (s.die 0).waits, s.svc < w.instant + s.cutoffNs 0 * unit) ∧
    (let s := atS 1 (upDie { waits := [⟨0, 10000, 0, []⟩] }); (s.die 0).waits.find? (fun w => w.instant + s.cutoffNs 0 * unit ≤ s.svc) = some ⟨0, 10000, 0, []⟩)) ∧
    ((((up.setHalf 1 { busy := some (job, vec0, 0) }).half 1).busy.isSome = true ∧ (up.half 1).telemetry = [] ∧ (up.half 1).requests = [] ∧ (up.half 1).busy = none) ∧
    (let s := up.setHalf 1 { telemetry := [job] }; (s.half 1).busy = none ∧ (s.half 1).telemetry = job :: []) ∧
    (let s := up.setHalf 0 { requests := [job] }; (s.half 0).busy = none ∧ (s.half 0).telemetry = [] ∧ (s.half 0).requests = job :: []) ∧
    (let s := up.setHalf 0 { busy := some (job, vec0, 1) }; (s.half 0).busy = some (job, vec0, 1) ∧ s.now < 1) ∧
    (let s := up.setHalf 0 { busy := some (job, vec0, 0) }; (s.half 0).busy = some (job, vec0, 0) ∧ 0 ≤ s.now ∧ vec0.invalid = none ∧ s.goesTo job = none ∧ ({ vec0 with invalid := some 3 } : Vec).invalid = some 3)) ∧
    (((noDomains up).clusterUp 63 = false ∧ up.nextWork 63 = none) ∧
    (let s := upW { st := 4 } [workOn 63]; s.clusterUp 63 = true ∧ s.nextWork 63 = some (workOn 63) ∧ (s.model 1).placeFor (workOn 63).gen = none) ∧
    (let s := upW { st := 4, place := some (place1 63 [slot0]) } [workOn 63]; s.clusterUp 63 = true ∧ s.nextWork 63 = some (workOn 63) ∧ (s.model 1).placeFor (workOn 63).gen = some (place1 63 [slot0]) ∧ ((place1 63 [slot0]).users 0).filter (fun t => t / 64 == 63) = [4032]) ∧
    ((up.tartlet 4095).queue = []) ∧
    (let s := up.setTartlet 0 { queue := [⟨5, zeros 64⟩] }; (s.tartlet 0).queue = ⟨5, zeros 64⟩ :: [] ∧ (s.data.works.find? fun w => w.id == 5) = none)) ∧
    ((let w := { workOn 0 with todo := [0] }; let s := (upW {} [w]).setTartlet 0 { queue := [⟨5, zeros 64⟩, ⟨5, zeros 64⟩] }; (s.tartlet 0).queue = ⟨5, zeros 64⟩ :: [⟨5, zeros 64⟩] ∧ (s.data.works.find? fun w => w.id == 5) = some w) ∧
    (let w := { workOn 0 with todo := [0], undispatched := [] }; let s := (upW {} [w]).setTartlet 0 { queue := [⟨5, zeros 64⟩] }; (s.tartlet 0).queue = ⟨5, zeros 64⟩ :: [] ∧ (s.data.works.find? fun w => w.id == 5) = some w ∧ (w.todo.filter (· != 0)) = [] ∧ w.undispatched = [] ∧ w.crossing = []) ∧
    (∀ w ∈ (upW {} [workOn 0]).data.works, w.id ≠ 0) ∧
    (let s := (upW {} [workOn 0]).setTartlet 0 { queue := [⟨5, zeros 64⟩] }; (s.data.works.find? fun w => w.id == ((s.tartlet 0).queue.head?.map (·.work)).getD 0) = some (workOn 0)) ∧
    (Tbl.find? (slotKey 4095 3 24) up.data.directory = none ∧ Tbl.find? (slotKey 768 0 0) { up with data := { up.data with directory := fullTartlet } }.data.directory = some ⟨9, 0, 0⟩)) ∧
    ((let s := up; s.data.scored.find? (fun q : Scored => q.seq == 65535 && (match q.src with | .die p => !s.verdictDue p q.model (q.tick * q.epoch - 1) | .request n => (s.seq 65535).order.head? == some n)) = none) ∧
    (let q : Scored := ⟨.request 3, 1, 0, 10000, 0, [], 65535⟩; let s := { up.setSeq 65535 { isOpen := true, order := [3] } with data := { (up.setSeq 65535 { isOpen := true, order := [3] }).data with scored := [q] } }; s.data.scored.find? (fun q : Scored => q.seq == 65535 && (match q.src with | .die p => !s.verdictDue p q.model (q.tick * q.epoch - 1) | .request n => (s.seq 65535).order.head? == some n)) = some q) ∧
    (keyNum key1 = 1 ∧ (up.model (keyNum key1)).pass = none) ∧
    (let s := upW { st := 4, image := image1, place := some (place1 12 []), pass := some ⟨[5], 0⟩ } [workOn 12]; let works := s.data.works.filter fun w => [5].contains w.id; (s.model 1).pass = some ⟨[5], 0⟩ ∧ passChunks (mdEns (s.model 1).image) (((works.head?.bind fun w => (s.model 1).placeFor w.gen).map fun p => (p.clusters 0).length).getD 1) ≤ 0 + 1) ∧
    (0 + 1 < passChunks (zeros 8 ++ [1, 0, 0, 0] ++ be 4 1025) 1)) ∧
    ((let s := upW { st := 4, place := some { place1 12 [] with mode := 1 } } [workOn 12]; let all := s.data.works.filter fun w => w.model == 1 && w.pass; let gen := (all.head?.map (·.gen)).getD (s.model 1).gen; (s.model 1).pass = none ∧ (all.filter fun w => w.gen == gen).take 4 ≠ [] ∧ ∃ p ∈ (s.model 1).placeFor gen, p.mode = 1 ∧ s.eligible (s.model 1) p 0 = true) ∧
    ((upW { pass := some ⟨[5], 0⟩ } []).data.works = []) ∧
    (let x : NextPlace := ⟨place1 12 [], ⟨.qp 0, 9⟩, false, false, 0⟩; ((upMod { next := some x }).model 1).next = some x ∧ x.copied = false ∧ (up.model 1).next = none) ∧
    (let x : NextPlace := ⟨place1 12 [], ⟨.qp 0, 9⟩, false, true, 0⟩; let s := atS 1 (upMod { next := some x }); (s.model 1).next = some x ∧ x.staged = false ∧ x.copied = true ∧ (s.dueTick (x.copiedAt + 2000)).isSome = true) ∧
    (let s := upMod { unloadAt := some 0, st := 1 }; (s.model 1).unloadAt = some 0 ∧ s.dueTick (0 + 2000) = none ∧ ((atS 1 s).dueTick (0 + 2000)).isSome = true ∧ (s.model 1).st = 1)) ∧
    ((let s := atS 1 (upMod { unloadAt := some 0, st := 2 }); (s.model 1).unloadAt = some 0 ∧ (s.dueTick (0 + 2000)).isSome = true ∧ (s.model 1).st ≠ 1 ∧ (s.model 1).next = none) ∧
    (let x : NextPlace := ⟨place1 12 [], ⟨.qp 0, 9⟩, false, true, 0⟩; let s := atS 1 (upMod { unloadAt := some 0, st := 3, next := some x }); (s.model 1).unloadAt = some 0 ∧ (s.dueTick (0 + 2000)).isSome = true ∧ (s.model 1).st ≠ 1 ∧ (s.model 1).next = some x) ∧
    (((upMod { st := 5 }).model 1).unloadAt = none ∧ ((upMod { st := 5 }).model 1).st = 5 ∧ (up.model 1).unloadAt = none ∧ (up.model 1).st ≠ 5) ∧
    (let s := atS 1 (upMod { mapNext := some ([1], 0) }); (s.model 1).mapNext = some ([1], 0) ∧ (s.dueTick 0).isSome = true ∧ (up.model 1).mapNext = none) ∧
    (let s := atS 1 (upMod { st := 1, load := some ⟨[1], 9, 0⟩ }); (s.model 1).load = some ⟨[1], 9, 0⟩ ∧ (s.model 1).st = 1 ∧ 0 + 1000000000 ≤ s.now ∧ (((s.setModel 1 {}).zeroPages (modelCtx 1) (s.model 1).at_).model 1).mapLoad = none)) ∧
    ((let s := atS 1 (upMod { st := 2, mapLoad := some ⟨[1], 9, 0⟩ }); (s.model 1).st ≠ 1 ∧ ∃ l ∈ (s.model 1).mapLoad, l.last + 1000000000 ≤ s.now ∧ s.stagedChunk 1 = false) ∧
    (let s := atS 1 (upMod { st := 4, place := some (place1 12 []) }); (s.model 1).serving = true ∧ (s.model 1).scanning = false ∧ ∃ p ∈ (s.model 1).place, p.mode = 0 ∧ (s.model 1).scannedAt + p.intervalMs * 1000000 ≤ s.now) ∧
    (let s := upMod { st := 4, place := some (place1 12 []), scanning := true }; (s.model 1).scanning = true ∧ (s.model 1).place = some (place1 12 []) ∧ (up.model 1).place = none) ∧
    (State.reset.dev.fwReady = false) ∧
    (let s : State := upServe; let q := (reqEth (zeros 32) []); let h := q.header; let c := rqTenant h; let met := if c < 1024 then s.meter c q.yellow else (s, Colour.green); let t := met.1; s.dev.fwReady = true ∧ ¬ (headerGood h = true ∧ byteAt h 0 = 2))) ∧
    ((let s : State := { upServe with net := { upServe.net with policers := [(0, { cfg := { mode := 2 }, usedP := 1 })] } }; let q := (reqEth (rq 0 (zeros 8)) (zeros 8)); let h := q.header; let c := rqTenant h; let met := if c < 1024 then s.meter c q.yellow else (s, Colour.green); let t := met.1; s.dev.fwReady = true ∧ (headerGood h = true ∧ byteAt h 0 = 2) ∧ ¬ (met.2 ≠ .red ∧ met.2 ≠ .dropped)) ∧
    (let s : State := upServe; let q := (reqEth (rq 0 (zeros 8)) []); let h := q.header; let c := rqTenant h; let met := if c < 1024 then s.meter c q.yellow else (s, Colour.green); let t := met.1; s.dev.fwReady = true ∧ (headerGood h = true ∧ byteAt h 0 = 2) ∧ met.2 ≠ .red ∧ met.2 ≠ .dropped ∧ ¬ (fld h 18 2 ≤ 4096 ∧ fld h 18 2 = q.payload.length)) ∧
    (let s : State := upServe; let q := (reqEth (rq 0 (zeros 8)) (be 8 1)); let h := q.header; let c := rqTenant h; let met := if c < 1024 then s.meter c q.yellow else (s, Colour.green); let t := met.1; s.dev.fwReady = true ∧ (headerGood h = true ∧ byteAt h 0 = 2) ∧ met.2 ≠ .red ∧ met.2 ≠ .dropped ∧ fld h 18 2 ≤ 4096 ∧ fld h 18 2 = q.payload.length ∧ ¬ fld h 20 4 = crc32c q.payload) ∧
    (let s : State := { upServe with data := { upServe.data with requests := [(0, ⟨.eth 5, 3, rq 0 (zeros 8), zeros 8, none, 1, 0, 0, none⟩)] } }; let q := (reqEth (rq 0 (zeros 8)) (zeros 8)); let h := q.header; let c := rqTenant h; let met := if c < 1024 then s.meter c q.yellow else (s, Colour.green); let t := met.1; s.dev.fwReady = true ∧ (headerGood h = true ∧ byteAt h 0 = 2) ∧ met.2 ≠ .red ∧ met.2 ≠ .dropped ∧ fld h 18 2 ≤ 4096 ∧ fld h 18 2 = q.payload.length ∧ fld h 20 4 = crc32c q.payload ∧ ¬ (t.data.requests.any fun e => e.2.req == q.req && rqTenant e.2.header == c && rqTag e.2.header == rqTag h) = false) ∧
    (let s : State := { upServe with data := { upServe.data with stored := [⟨.eth 5, 0, 0, [], 0⟩] } }; let q := (reqEth (rq 0 (zeros 8)) (zeros 8)); let h := q.header; let c := rqTenant h; let met := if c < 1024 then s.meter c q.yellow else (s, Colour.green); let t := met.1; s.dev.fwReady = true ∧ (headerGood h = true ∧ byteAt h 0 = 2) ∧ met.2 ≠ .red ∧ met.2 ≠ .dropped ∧ fld h 18 2 ≤ 4096 ∧ fld h 18 2 = q.payload.length ∧ fld h 20 4 = crc32c q.payload ∧ (t.data.requests.any fun e => e.2.req == q.req && rqTenant e.2.header == c && rqTag e.2.header == rqTag h) = false ∧ ¬ (t.data.stored.find? fun r => r.req == q.req && r.tenant == c && r.tag == rqTag h && t.now < r.since + 10000000) = none)) ∧
    ((let s : State := { upServe with sec := { upServe.sec with requesters := [] } }; let q := (reqEth (rq 0 (zeros 8)) (zeros 8)); let h := q.header; let c := rqTenant h; let met := if c < 1024 then s.meter c q.yellow else (s, Colour.green); let t := met.1; s.dev.fwReady = true ∧ (headerGood h = true ∧ byteAt h 0 = 2) ∧ met.2 ≠ .red ∧ met.2 ≠ .dropped ∧ fld h 18 2 ≤ 4096 ∧ fld h 18 2 = q.payload.length ∧ fld h 20 4 = crc32c q.payload ∧ (t.data.requests.any fun e => e.2.req == q.req && rqTenant e.2.header == c && rqTag e.2.header == rqTag h) = false ∧ (t.data.stored.find? fun r => r.req == q.req && r.tenant == c && r.tag == rqTag h && t.now < r.since + 10000000) = none ∧ ¬ t.requestAllowed q.req c = true) ∧
    (let s : State := { upServe with sys := { upServe.sys with profile := .h } }; let q := (reqEth (rq 0 (zeros 8)) (zeros 8)); let h := q.header; let c := rqTenant h; let met := if c < 1024 then s.meter c q.yellow else (s, Colour.green); let t := met.1; s.dev.fwReady = true ∧ (headerGood h = true ∧ byteAt h 0 = 2) ∧ met.2 ≠ .red ∧ met.2 ≠ .dropped ∧ fld h 18 2 ≤ 4096 ∧ fld h 18 2 = q.payload.length ∧ fld h 20 4 = crc32c q.payload ∧ (t.data.requests.any fun e => e.2.req == q.req && rqTenant e.2.header == c && rqTag e.2.header == rqTag h) = false ∧ (t.data.stored.find? fun r => r.req == q.req && r.tenant == c && r.tag == rqTag h && t.now < r.since + 10000000) = none ∧ t.requestAllowed q.req c = true ∧ t.sys.profile = .h) ∧
    (let s : State := { upServe with data := { upServe.data with models := [] } }; let q := (reqEth (rq 0 (zeros 8)) (zeros 8)); let h := q.header; let c := rqTenant h; let met := if c < 1024 then s.meter c q.yellow else (s, Colour.green); let t := met.1; s.dev.fwReady = true ∧ (headerGood h = true ∧ byteAt h 0 = 2) ∧ met.2 ≠ .red ∧ met.2 ≠ .dropped ∧ fld h 18 2 ≤ 4096 ∧ fld h 18 2 = q.payload.length ∧ fld h 20 4 = crc32c q.payload ∧ (t.data.requests.any fun e => e.2.req == q.req && rqTenant e.2.header == c && rqTag e.2.header == rqTag h) = false ∧ (t.data.stored.find? fun r => r.req == q.req && r.tenant == c && r.tag == rqTag h && t.now < r.since + 10000000) = none ∧ t.requestAllowed q.req c = true ∧ t.sys.profile ≠ .h ∧ t.requestReady h = false) ∧
    (let s : State := upServe; let q := (reqEth (rq 0 (be 8 1)) (be 8 1)); let h := q.header; let c := rqTenant h; let met := if c < 1024 then s.meter c q.yellow else (s, Colour.green); let t := met.1; s.dev.fwReady = true ∧ (headerGood h = true ∧ byteAt h 0 = 2) ∧ met.2 ≠ .red ∧ met.2 ≠ .dropped ∧ fld h 18 2 ≤ 4096 ∧ fld h 18 2 = q.payload.length ∧ fld h 20 4 = crc32c q.payload ∧ (t.data.requests.any fun e => e.2.req == q.req && rqTenant e.2.header == c && rqTag e.2.header == rqTag h) = false ∧ (t.data.stored.find? fun r => r.req == q.req && r.tenant == c && r.tag == rqTag h && t.now < r.since + 10000000) = none ∧ t.requestAllowed q.req c = true ∧ t.sys.profile ≠ .h ∧ t.requestReady h = true ∧ ¬ payloadValid h q.payload = true) ∧
    (let s : State := upServe; let q := (reqEth (rq 0 (zeros 8)) (zeros 8)); let h := q.header; let c := rqTenant h; let met := if c < 1024 then s.meter c q.yellow else (s, Colour.green); let t := met.1; s.dev.fwReady = true ∧ (headerGood h = true ∧ byteAt h 0 = 2) ∧ met.2 ≠ .red ∧ met.2 ≠ .dropped ∧ fld h 18 2 ≤ 4096 ∧ fld h 18 2 = q.payload.length ∧ fld h 20 4 = crc32c q.payload ∧ (t.data.requests.any fun e => e.2.req == q.req && rqTenant e.2.header == c && rqTag e.2.header == rqTag h) = false ∧ (t.data.stored.find? fun r => r.req == q.req && r.tenant == c && r.tag == rqTag h && t.now < r.since + 10000000) = none ∧ t.requestAllowed q.req c = true ∧ t.sys.profile ≠ .h ∧ t.requestReady h = true ∧ payloadValid h q.payload = true ∧ t.requestBusy c (met.2 == .yellow) = false)) ∧
    ((let s : State := { upServe with data := { upServe.data with requests := (List.range 16384).map fun i => (i, ⟨.eth 6, 3, zeros 32, [], none, 1, 0, 0, none⟩) } }; let q := (reqEth (rq 0 (zeros 8)) (zeros 8)); let h := q.header; let c := rqTenant h; let met := if c < 1024 then s.meter c q.yellow else (s, Colour.green); let t := met.1; s.dev.fwReady = true ∧ (headerGood h = true ∧ byteAt h 0 = 2) ∧ met.2 ≠ .red ∧ met.2 ≠ .dropped ∧ fld h 18 2 ≤ 4096 ∧ fld h 18 2 = q.payload.length ∧ fld h 20 4 = crc32c q.payload ∧ (t.data.requests.any fun e => e.2.req == q.req && rqTenant e.2.header == c && rqTag e.2.header == rqTag h) = false ∧ (t.data.stored.find? fun r => r.req == q.req && r.tenant == c && r.tag == rqTag h && t.now < r.since + 10000000) = none ∧ t.requestAllowed q.req c = true ∧ t.sys.profile ≠ .h ∧ t.requestReady h = true ∧ payloadValid h q.payload = true ∧ t.requestBusy c (met.2 == .yellow) = true)) ∧
    (let p := place1 12 [slot0]; let s : State := { (upMod { st := 4, place := some p }).setHalf 0 { busy := some (job, vec0, 0) } with data := { ((upMod { st := 4, place := some p }).setHalf 0 { busy := some (job, vec0, 0) }).data with crossings := [(12, List.replicate (Config.crossingDepth 12 + 1) ⟨5, 0⟩)] } }; s.goesTo job = some (p, 0) ∧ s.crossingHolds 0 p 0 = true) ∧
    ((∀ o, (Requester.partner) ≠ .eth o) ∧ (∀ i, Requester.partner ≠ .qp i)) :=
  ⟨by decide +kernel, by decide +kernel, by decide +kernel, by decide +kernel, by decide +kernel, by decide +kernel, by decide +kernel, by decide +kernel, by decide +kernel, by decide +kernel, by decide +kernel, ⟨by decide +kernel, by simp only [State.crossingHolds, List.any_eq_true]; exact ⟨12, by decide +kernel, by simp [State.crossingFull, State.crossing, Tbl.get, Tbl.find?]⟩⟩, ⟨fun _ h => (nomatch h), fun _ h => (nomatch h)⟩⟩

/-- OID 99 routed over port 3 or 4. -/
def upR0 : State := let s := upN { st := .inService }; { s with net := { s.net with routes := [(99, 0x8000C000)] } }
def upR1 : State := let s := upN { st := .inService }; { s with net := { s.net with routes := [(99, 0x80010000)] } }
theorem witness_FabricPortsCarryFrames :
    (((up.netPort 16).st ≠ .inService ∧ ((upN { st := .inService }).netPort 3).st = .inService) ∧
    (({ fr 0x88B6 [] with fcsOk := false } : Frame).fcsOk = false ∧ 9216 < ({ fr 0x88B6 [] with len := 9217 } : Frame).len) ∧
    (let s := upN { st := .inService }; ¬ ((fr 0x88F7 []).fcsOk = false ∨ 9216 < (fr 0x88F7 []).len ∨ ((fr 0x88F7 []).dst.toNat ≠ (s.netPort 3).mac ∧ (fr 0x88F7 []).dst.toNat ∉ timingMulticast)) ∧ (fr 0x88F7 []).etherType = 0x88F7) ∧
    (let s := upN { st := .inService }; ¬ ((fr 0x88B5 []).fcsOk = false ∨ 9216 < (fr 0x88B5 []).len ∨ ((fr 0x88B5 []).dst.toNat ≠ (s.netPort 3).mac ∧ (fr 0x88B5 []).dst.toNat ∉ timingMulticast)) ∧ ¬ ((fr 0x88B5 []).etherType = 0x88F7 ∨ (fr 0x88B5 []).etherType = 0x8809) ∧ s.frameItems 3 (fr 0x88B5 []) = none) ∧
    (let s := upN { st := .inService }; ¬ ((fr 0x88B6 (frKind 5 5 (zeros 64))).fcsOk = false ∨ 9216 < (fr 0x88B6 (frKind 5 5 (zeros 64))).len ∨ ((fr 0x88B6 (frKind 5 5 (zeros 64))).dst.toNat ≠ (s.netPort 3).mac ∧ (fr 0x88B6 (frKind 5 5 (zeros 64))).dst.toNat ∉ timingMulticast)) ∧ ¬ ((fr 0x88B6 (frKind 5 5 (zeros 64))).etherType = 0x88F7 ∨ (fr 0x88B6 (frKind 5 5 (zeros 64))).etherType = 0x8809) ∧ s.frameItems 3 (fr 0x88B6 (frKind 5 5 (zeros 64))) = some (5, [zeros 64]))) ∧
    ((let s := upN { st := .inService }; ¬ ((fr 0x88B6 (frKind 6 5 (be 1 1 ++ zeros 11))).fcsOk = false ∨ 9216 < (fr 0x88B6 (frKind 6 5 (be 1 1 ++ zeros 11))).len ∨ ((fr 0x88B6 (frKind 6 5 (be 1 1 ++ zeros 11))).dst.toNat ≠ (s.netPort 3).mac ∧ (fr 0x88B6 (frKind 6 5 (be 1 1 ++ zeros 11))).dst.toNat ∉ timingMulticast)) ∧ ¬ ((fr 0x88B6 (frKind 6 5 (be 1 1 ++ zeros 11))).etherType = 0x88F7 ∨ (fr 0x88B6 (frKind 6 5 (be 1 1 ++ zeros 11))).etherType = 0x8809) ∧ s.frameItems 3 (fr 0x88B6 (frKind 6 5 (be 1 1 ++ zeros 11))) = some (6, [be 1 1 ++ zeros 11])) ∧
    (let s := upN { st := .inService }; ¬ ((fr 0x88B6 (frKind 7 5 (zeros 80))).fcsOk = false ∨ 9216 < (fr 0x88B6 (frKind 7 5 (zeros 80))).len ∨ ((fr 0x88B6 (frKind 7 5 (zeros 80))).dst.toNat ≠ (s.netPort 3).mac ∧ (fr 0x88B6 (frKind 7 5 (zeros 80))).dst.toNat ∉ timingMulticast)) ∧ ¬ ((fr 0x88B6 (frKind 7 5 (zeros 80))).etherType = 0x88F7 ∨ (fr 0x88B6 (frKind 7 5 (zeros 80))).etherType = 0x8809) ∧ s.frameItems 3 (fr 0x88B6 (frKind 7 5 (zeros 80))) = some (7, [zeros 80])) ∧
    (let s := upN { st := .inService }; ¬ ((fr 0x88B5 (frKind 1 5 (sentTo 16))).fcsOk = false ∨ 9216 < (fr 0x88B5 (frKind 1 5 (sentTo 16))).len ∨ ((fr 0x88B5 (frKind 1 5 (sentTo 16))).dst.toNat ≠ (s.netPort 3).mac ∧ (fr 0x88B5 (frKind 1 5 (sentTo 16))).dst.toNat ∉ timingMulticast)) ∧ ¬ ((fr 0x88B5 (frKind 1 5 (sentTo 16))).etherType = 0x88F7 ∨ (fr 0x88B5 (frKind 1 5 (sentTo 16))).etherType = 0x8809) ∧ s.frameItems 3 (fr 0x88B5 (frKind 1 5 (sentTo 16))) = some (1, [sentTo 16]) ∧ (headerGood ((sentTo 16).take 32) = false ∨ s.isOwn (targetOf (sentTo 16)) = true ∨ (s.dtcOf (targetOf (sentTo 16))).isSome = true ∨ targetOf (sentTo 16) = 0 ∨ targetOf (sentTo 16) = 0xFFFFFFFF ∨ s.route (targetOf (sentTo 16)) = none)) ∧
    (let s := upR1; let t := s.setNetPort 3 { (s.netPort 3) with received := satInc 64 (s.netPort 3).received }; ¬ ((fr 0x88B5 (frKind 1 5 (sentTo 99))).fcsOk = false ∨ 9216 < (fr 0x88B5 (frKind 1 5 (sentTo 99))).len ∨ ((fr 0x88B5 (frKind 1 5 (sentTo 99))).dst.toNat ≠ (s.netPort 3).mac ∧ (fr 0x88B5 (frKind 1 5 (sentTo 99))).dst.toNat ∉ timingMulticast)) ∧ ¬ ((fr 0x88B5 (frKind 1 5 (sentTo 99))).etherType = 0x88F7 ∨ (fr 0x88B5 (frKind 1 5 (sentTo 99))).etherType = 0x8809) ∧ s.frameItems 3 (fr 0x88B5 (frKind 1 5 (sentTo 99))) = some (1, [sentTo 99]) ∧ ¬ (headerGood ((sentTo 99).take 32) = false ∨ s.isOwn (targetOf (sentTo 99)) = true ∨ (s.dtcOf (targetOf (sentTo 99))).isSome = true ∨ targetOf (sentTo 99) = 0 ∨ targetOf (sentTo 99) = 0xFFFFFFFF ∨ s.route (targetOf (sentTo 99)) = none) ∧ (t.onward 3 2 (targetOf (sentTo 99)) (sentTo 99)).isSome = true) ∧
    (let s := upR0; let t := s.setNetPort 3 { (s.netPort 3) with received := satInc 64 (s.netPort 3).received }; ¬ ((fr 0x88B5 (frKind 1 5 (sentTo 99))).fcsOk = false ∨ 9216 < (fr 0x88B5 (frKind 1 5 (sentTo 99))).len ∨ ((fr 0x88B5 (frKind 1 5 (sentTo 99))).dst.toNat ≠ (s.netPort 3).mac ∧ (fr 0x88B5 (frKind 1 5 (sentTo 99))).dst.toNat ∉ timingMulticast)) ∧ ¬ ((fr 0x88B5 (frKind 1 5 (sentTo 99))).etherType = 0x88F7 ∨ (fr 0x88B5 (frKind 1 5 (sentTo 99))).etherType = 0x8809) ∧ s.frameItems 3 (fr 0x88B5 (frKind 1 5 (sentTo 99))) = some (1, [sentTo 99]) ∧ ¬ (headerGood ((sentTo 99).take 32) = false ∨ s.isOwn (targetOf (sentTo 99)) = true ∨ (s.dtcOf (targetOf (sentTo 99))).isSome = true ∨ targetOf (sentTo 99) = 0 ∨ targetOf (sentTo 99) = 0xFFFFFFFF ∨ s.route (targetOf (sentTo 99)) = none) ∧ t.onward 3 2 (targetOf (sentTo 99)) (sentTo 99) = none)) ∧
    ((up.refillIndex ≤ up.net.lastRefill ∧ (late1 up 1000).net.lastRefill < (late1 up 1000).refillIndex ∧ ({} : Policer).next = none ∧ ({ next := some {} } : Policer).next = some {}) ∧
    (({ up with net := { up.net with rewriting := true } } : State).net.rewriting = true ∧ up.net.rewriting = false) ∧
    (up.lineTime < ((upN { lineFree := 1 }).netPort 3).lineFree) ∧
    (let s := late1 (upN { st := .inService }) 1; (s.netPort 3).st = .inService ∧ (s.netPort 3).lineFree ≤ s.lineTime ∧ ((s.netPort 3).dropLong.choose 3 (if s.lineTime < (s.netPort 3).lineFree + unit then (s.netPort 3).lineFree else s.lineTime)).2 = none) ∧
    (let s := late1 (upN { st := .inService, queues := [(0, qOf 64)] }) 1; (s.netPort 3).st = .inService ∧ (s.netPort 3).lineFree ≤ s.lineTime ∧ ((s.netPort 3).dropLong.choose 3 (if s.lineTime < (s.netPort 3).lineFree + unit then (s.netPort 3).lineFree else s.lineTime)).2 = some 0 ∧ (Tbl.get {} 0 ((s.netPort 3).dropLong.choose 3 (if s.lineTime < (s.netPort 3).lineFree + unit then (s.netPort 3).lineFree else s.lineTime)).1.queues).frames ≠ [] ∧ (s.netPort 3).dropLong.eligible 3 0 (if s.lineTime < (s.netPort 3).lineFree + unit then (s.netPort 3).lineFree else s.lineTime) = true ∧ (0 : Nat) ∈ [0, 1, 2])) ∧
    (((up.netPort 3).gate = none ∧ ((upN { gate := some (gl [(1, 1000)] 0) }).netPort 3).gate = some (gl [(1, 1000)] 0) ∧ (up.netPort 3).gatePending = none ∧ upT.timeValid = true ∧ up.timeValid = false) ∧
    (let s := upN { gatePending := some (gl [(1, 1000)] unit) }; (s.netPort 3).gatePending = some (gl [(1, 1000)] unit) ∧ s.svc < (gl [(1, 1000)] unit).effective) ∧
    (upT.timeValid = true ∧ (gl [] 0).effective ≤ upT.svc ∧ (gl [] 0).entries = [] ∧ (gl [(1, 1000)] 0).effective ≤ upT.svc ∧ (gl [(1, 1000)] 0).entries ≠ []) ∧
    (let s := upN { st := .inService, spareMode := true }; (s.netPort 3).spareMode = true ∧ (s.netPort 3).st = .inService ∧ (s.netPort 3).lastHello = 0 ∧ (up.netPort 3).spareMode = false) ∧
    ((3 : Byte).toNat = 3 ∧ (4 : Byte).toNat < 5 ∧ 5 ≤ (5 : Byte).toNat ∧ (2 : Byte) ∉ [1, 3, 4, 5])) ∧
    ((((upN { txSwap := .mirroring 0 0 none }).netPort 3).txSwap ≠ .none ∧ (up.netPort 3).txSwap = .none ∧ (up.netPort 3).spareMode = false ∧ ((upN { spareMode := true }).netPort 3).fallback = false) ∧
    (let s := late1 (upN { st := .inService, spareMode := true }) 10000000; (s.netPort 3).spareMode = true ∧ (s.netPort 3).st = .inService ∧ (s.netPort 3).helloSeen = false ∧ (s.netPort 3).upSince + 10000000 ≤ s.now ∧ ((upN { helloSeen := true }).netPort 3).helloSeen = true) ∧
    (let s := late1 up 1000000; let u := 15; (s.netPort 3).windowIndex < s.msIndex .agg 0 ∧ ¬ ((s.netPort 3).limit ≤ u ∧ (s.netPort 3).window < (s.netPort 3).limit) ∧ up.msIndex .agg 0 ≤ (up.netPort 3).windowIndex) ∧
    (let s := late1 up 1000000; let u := (s.netPort 3).limit; (s.netPort 3).windowIndex < s.msIndex .agg 0 ∧ ((s.netPort 3).limit ≤ u ∧ (s.netPort 3).window < (s.netPort 3).limit)) ∧
    (((upN { rxSwap := .asked 1 none, st := .inService }).netPort 3).rxSwap ≠ .none ∧ (up.netPort 3).st ≠ .inService)) ∧
    ((let s := upN { st := .inService, lanes := (List.range 5).map fun i => (i, { lock := true }) }; (s.netPort 3).st = .inService ∧ (s.netPort 3).rxSwap = .none ∧ (s.netPort 3).txSwap = .none ∧ ((s.netPort 3).roles.take 4).find? (fun x => (!((s.netPort 3).lane x).lock || ((s.netPort 3).lane x).alarm)) = none) ∧
    (let s := upN { st := .inService, spareMode := true, lanes := [(4, { lock := true })] }; (s.netPort 3).st = .inService ∧ (s.netPort 3).rxSwap = .none ∧ (s.netPort 3).txSwap = .none ∧ ((s.netPort 3).roles.take 4).find? (fun x => (!((s.netPort 3).lane x).lock || ((s.netPort 3).lane x).alarm)) = some 0 ∧ (s.netPort 3).spareMode = true ∧ (s.netPort 3).fallback = false ∧ (!((s.netPort 3).lane (s.netPort 3).spare).lock || ((s.netPort 3).lane (s.netPort 3).spare).alarm) = false) ∧
    (let s := upN { st := .inService }; (s.netPort 3).st = .inService ∧ (s.netPort 3).rxSwap = .none ∧ (s.netPort 3).txSwap = .none ∧ ((s.netPort 3).roles.take 4).find? (fun x => (!((s.netPort 3).lane x).lock || ((s.netPort 3).lane x).alarm)) = some 0 ∧ (s.netPort 3).spareMode = false) ∧
    (let s := late1 (upN { st := .retraining }) 100000; (s.netPort 3).st ≠ .inService ∧ (s.netPort 3).outage = false ∧ (s.netPort 3).outSince + 100000 ≤ s.now ∧ s.pair.partnerUp = false ∧ ((upN { outage := true }).netPort 3).outage = true) ∧
    (let s := late1 { upN { st := .retraining } with pair := { up.pair with partnerUp := true } } 100000; (s.netPort 3).st ≠ .inService ∧ (s.netPort 3).outage = false ∧ (s.netPort 3).outSince + 100000 ≤ s.now ∧ s.pair.partnerUp = true)) ∧
    ((let s := upN { enabled := true }; (s.netPort 3).enabled = true ∧ (s.netPort 3).st ≠ .disabled ∧ (s.netPort 3).st ≠ .inService ∧ (up.netPort 3).enabled = false) ∧
    (let s := late1 (upN { rxSwap := .mirroring 4 0 none }) 200000; (s.netPort 3).rxSwap = .mirroring 4 0 none ∧ 0 + 200000 ≤ s.now ∧ (up.netPort 3).rxSwap = .none) ∧
    (let s := late1 (upN { rxSwap := .mirroring 4 0 none }) 199999; (s.netPort 3).rxSwap = .mirroring 4 0 none ∧ s.now < 0 + 200000) ∧
    (((upN { st := .retraining }).netPort 3).st = .retraining ∧ (up.netPort 3).st ≠ .retraining)) :=
  ⟨by decide +kernel, by decide +kernel, by decide +kernel, by decide +kernel, by decide +kernel, by decide +kernel, by decide +kernel⟩

theorem witness_ReductionClosesRunToTheirEnds :
    ((∀ c ∈ ((upC 5499 [close0 []]).group 1).closes, c.own.isSome = true ∨ (upC 5499 [close0 []]).svc < c.instant + 5500 * unit) ∧
    (let s := upC 5500 [close0 (cfgAll 4 0)]; (s.group 1).closes.find? (fun c => c.own.isNone && c.instant + 5500 * unit ≤ s.svc) = some (close0 (cfgAll 4 0))) ∧
    (let c := close0 (cfgAll 4 0); let u := upC 0 [c]; topLevel c.config (u.group 1).pos ≤ 4 ∧ 0 < topLevel c.config (u.group 1).pos ∧ expected c.config (u.group 1).pos (0 + 1) ≠ []) ∧
    (let c := close0 (cfgOnly 4); let u := upC 0 [c]; 0 < topLevel c.config (u.group 1).pos ∧ expected c.config (u.group 1).pos (0 + 1) = [] ∧ u.foldOnce 1 c 0 (0 + 1) = none) ∧
    (let c := { close0 (cfgOnly 4) with own := some {} }; let u := upC 0 [c]; 0 < topLevel c.config (u.group 1).pos ∧ expected c.config (u.group 1).pos (0 + 1) = [] ∧ (u.foldOnce 1 c 1 (0 + 1)).isSome = true)) ∧
    ((Tbl.find? (fld (zeros 64) 0 3) up.data.groups = none) ∧
    (let s := upG { gen := 2 }; let b : Bytes := be 3 1 ++ be 1 1 ++ be 8 7 ++ zeros 6 ++ be 1 1 ++ zeros 1 ++ be 2 5 ++ zeros 12 ++ [0, 0] ++ zeros 28; let h := b.take 64; let g0 := s.group 1; let g1 : Group := if g0.genOwed = true ∧ byteAt h 18 = 3 then { g0 with gen := byteAt h 3, genOwed := false, closes := g0.closes.map fun c => { c with gen := byteAt h 3 } } else g0; let found := g1.closes.find? fun c => c.index == fld h 4 8 && c.gen == byteAt h 3 && !c.complete; Tbl.find? (fld h 0 3) s.data.groups = some g0 ∧ (b.length < 64 ∨ byteAt h 35 = 0 ∨ 8 < byteAt h 35 ∨ byteAt h 35 ≤ byteAt h 34 ∨ 9088 < b.length - 64)) ∧
    (let s := upG { gen := 2 }; let b : Bytes := be 3 1 ++ be 1 1 ++ be 8 7 ++ zeros 6 ++ be 1 1 ++ zeros 1 ++ be 2 5 ++ zeros 12 ++ [0, 1] ++ zeros 28; let h := b.take 64; let g0 := s.group 1; let g1 : Group := if g0.genOwed = true ∧ byteAt h 18 = 3 then { g0 with gen := byteAt h 3, genOwed := false, closes := g0.closes.map fun c => { c with gen := byteAt h 3 } } else g0; let found := g1.closes.find? fun c => c.index == fld h 4 8 && c.gen == byteAt h 3 && !c.complete; Tbl.find? (fld h 0 3) s.data.groups = some g0 ∧ ¬ (b.length < 64 ∨ byteAt h 35 = 0 ∨ 8 < byteAt h 35 ∨ byteAt h 35 ≤ byteAt h 34 ∨ 9088 < b.length - 64) ∧ found = none ∧ genOlder (byteAt h 3) g1.gen = true) ∧
    (let s := upG { gen := 2 }; let b : Bytes := be 3 1 ++ be 1 2 ++ be 8 7 ++ zeros 6 ++ be 1 1 ++ zeros 1 ++ be 2 5 ++ zeros 12 ++ [0, 1] ++ zeros 28; let h := b.take 64; let g0 := s.group 1; let g1 : Group := if g0.genOwed = true ∧ byteAt h 18 = 3 then { g0 with gen := byteAt h 3, genOwed := false, closes := g0.closes.map fun c => { c with gen := byteAt h 3 } } else g0; let found := g1.closes.find? fun c => c.index == fld h 4 8 && c.gen == byteAt h 3 && !c.complete; Tbl.find? (fld h 0 3) s.data.groups = some g0 ∧ ¬ (b.length < 64 ∨ byteAt h 35 = 0 ∨ 8 < byteAt h 35 ∨ byteAt h 35 ≤ byteAt h 34 ∨ 9088 < b.length - 64) ∧ found = none ∧ genOlder (byteAt h 3) g1.gen = false) ∧
    (let c : Close := { close0 (cfgAll 4 0) with neighbours := [⟨5, 1, 0, 77, 0⟩] }; let s := upC 0 [c]; let b : Bytes := be 3 1 ++ be 1 1 ++ be 8 7 ++ zeros 6 ++ be 1 1 ++ zeros 1 ++ be 2 5 ++ zeros 12 ++ [0, 1] ++ zeros 28; let h := b.take 64; let g0 := s.group 1; let g1 : Group := if g0.genOwed = true ∧ byteAt h 18 = 3 then { g0 with gen := byteAt h 3, genOwed := false, closes := g0.closes.map fun c => { c with gen := byteAt h 3 } } else g0; let found := g1.closes.find? fun c => c.index == fld h 4 8 && c.gen == byteAt h 3 && !c.complete; Tbl.find? (fld h 0 3) s.data.groups = some g0 ∧ ¬ (b.length < 64 ∨ byteAt h 35 = 0 ∨ 8 < byteAt h 35 ∨ byteAt h 35 ≤ byteAt h 34 ∨ 9088 < b.length - 64) ∧ found = some c ∧ (78 : Word) ∉ neighbourOids c.neighbours (fld h 20 2))) ∧
    ((let c : Close := { close0 (cfgAll 4 0) with neighbours := [⟨5, 1, 0, 77, 0⟩] }; let s := upC 0 [c]; let b : Bytes := be 3 1 ++ be 1 1 ++ be 8 7 ++ zeros 6 ++ be 1 1 ++ zeros 1 ++ be 2 5 ++ zeros 12 ++ [0, 2] ++ zeros 28; let h := b.take 64; let g0 := s.group 1; let g1 : Group := if g0.genOwed = true ∧ byteAt h 18 = 3 then { g0 with gen := byteAt h 3, genOwed := false, closes := g0.closes.map fun c => { c with gen := byteAt h 3 } } else g0; let found := g1.closes.find? fun c => c.index == fld h 4 8 && c.gen == byteAt h 3 && !c.complete; Tbl.find? (fld h 0 3) s.data.groups = some g0 ∧ ¬ (b.length < 64 ∨ byteAt h 35 = 0 ∨ 8 < byteAt h 35 ∨ byteAt h 35 ≤ byteAt h 34 ∨ 9088 < b.length - 64) ∧ found = some c ∧ (77 : Word) ∈ neighbourOids c.neighbours (fld h 20 2) ∧ (c.collect h (b.drop 64)).2 = none) ∧
    (let c : Close := { close0 (cfgAll 4 0) with neighbours := [⟨5, 1, 0, 77, 0⟩] }; let s := upC 0 [c]; let b : Bytes := be 3 1 ++ be 1 1 ++ be 8 7 ++ zeros 6 ++ be 1 1 ++ zeros 1 ++ be 2 5 ++ zeros 12 ++ [0, 1] ++ zeros 28; let h := b.take 64; let g0 := s.group 1; let g1 : Group := if g0.genOwed = true ∧ byteAt h 18 = 3 then { g0 with gen := byteAt h 3, genOwed := false, closes := g0.closes.map fun c => { c with gen := byteAt h 3 } } else g0; let found := g1.closes.find? fun c => c.index == fld h 4 8 && c.gen == byteAt h 3 && !c.complete; Tbl.find? (fld h 0 3) s.data.groups = some g0 ∧ ¬ (b.length < 64 ∨ byteAt h 35 = 0 ∨ 8 < byteAt h 35 ∨ byteAt h 35 ≤ byteAt h 34 ∨ 9088 < b.length - 64) ∧ found = some c ∧ (77 : Word) ∈ neighbourOids c.neighbours (fld h 20 2) ∧ (c.collect h (b.drop 64)).2.isSome = true ∧ byteAt h 18 = 1) ∧
    (let c : Close := { close0 (cfgAll 4 0) with neighbours := [⟨5, 1, 0, 77, 0⟩] }; let s := upC 0 [c]; let b : Bytes := be 3 1 ++ be 1 1 ++ be 8 7 ++ zeros 6 ++ be 1 3 ++ zeros 1 ++ be 2 5 ++ zeros 12 ++ [0, 1] ++ zeros 28; let h := b.take 64; let g0 := s.group 1; let g1 : Group := if g0.genOwed = true ∧ byteAt h 18 = 3 then { g0 with gen := byteAt h 3, genOwed := false, closes := g0.closes.map fun c => { c with gen := byteAt h 3 } } else g0; let found := g1.closes.find? fun c => c.index == fld h 4 8 && c.gen == byteAt h 3 && !c.complete; Tbl.find? (fld h 0 3) s.data.groups = some g0 ∧ ¬ (b.length < 64 ∨ byteAt h 35 = 0 ∨ 8 < byteAt h 35 ∨ byteAt h 35 ≤ byteAt h 34 ∨ 9088 < b.length - 64) ∧ found = some c ∧ (77 : Word) ∈ neighbourOids c.neighbours (fld h 20 2) ∧ (c.collect h (b.drop 64)).2.isSome = true ∧ byteAt h 18 = 3) ∧
    (let c : Close := { close0 (cfgAll 4 0) with neighbours := [⟨5, 1, 0, 77, 0⟩] }; let s := upC 0 [c]; let b : Bytes := be 3 1 ++ be 1 1 ++ be 8 7 ++ zeros 6 ++ be 1 4 ++ zeros 1 ++ be 2 5 ++ zeros 12 ++ [0, 1] ++ zeros 28; let h := b.take 64; let g0 := s.group 1; let g1 : Group := if g0.genOwed = true ∧ byteAt h 18 = 3 then { g0 with gen := byteAt h 3, genOwed := false, closes := g0.closes.map fun c => { c with gen := byteAt h 3 } } else g0; let found := g1.closes.find? fun c => c.index == fld h 4 8 && c.gen == byteAt h 3 && !c.complete; Tbl.find? (fld h 0 3) s.data.groups = some g0 ∧ ¬ (b.length < 64 ∨ byteAt h 35 = 0 ∨ 8 < byteAt h 35 ∨ byteAt h 35 ≤ byteAt h 34 ∨ 9088 < b.length - 64) ∧ found = some c ∧ (77 : Word) ∈ neighbourOids c.neighbours (fld h 20 2) ∧ (c.collect h (b.drop 64)).2.isSome = true ∧ byteAt h 18 ∉ [1, 2, 3]) ∧
    ((up.group 1).close 7 = none)) ∧
    ((let c : Close := { close0 [] with nodes := [⟨1, 3, [], true, {}⟩] }; (((upC 0 [c]).group 1).close 7) = some c ∧ (c.node (1 : Fin 3).val (3 : Fin 5).val).done = true) ∧
    (let c := close0 (cfgAll 4 0); let s := upC 0 [c]; (s.group 1).close 7 = some c ∧ (∃ q ∈ expected c.config (s.group 1).pos 1, q ∉ (c.node 1 1).arrived.map (·.1)) ∧ nsOf s.svc < (s.group 1).foldAt c 1 1 ∧ c.below 1 1 = none) ∧
    (let c := { close0 (cfgOnly 4) with own := some {} }; let s := upC 0 [c]; (s.group 1).close 7 = some c ∧ (1 : Fin 3).val ≠ 0 ∧ (s.foldOnce 1 c 1 1).isSome = true) ∧
    (let c := close0 (cfgAll 5 1); let s := upC 41000 [c]; (s.group 1).close 7 = some c ∧ c.passTwo = false ∧ gcStraggler c.config = true ∧ c.instant + 41000 * unit ≤ s.svc) ∧
    ((upC 40999 [close0 []]).svc < 0 + 41000 * unit ∧ (upC 99999 [close0 []]).svc < 0 + 100000 * unit ∧ 0 + 100000 * unit ≤ (upC 100000 [close0 []]).svc ∧ (close0 []).summary = [] ∧ ({ close0 [] with summary := [1] } : Close).summary ≠ [])) ∧
    ((up.timeValid = false ∧ upT.timeValid = true) ∧
    (let p : GroupPending := ⟨.fence 1, 0, 0, none⟩; let s := upP1 (.fence 1); (s.group 1).pending = [p] ∧ p.change = .fence (s.group 1).gen ∧ (s.changeTick (s.group 1) p).isSome = true ∧ (2 : Nat) ≠ (s.group 1).gen)) :=
  ⟨by decide +kernel, by decide +kernel, by decide +kernel, by decide +kernel, by decide +kernel⟩

theorem witness_EpochProfileHeatAndPower :
    ((up.timeValid = false) ∧
    (let s := { upT with data := { upT.data with lastTick := 5000000000 * unit } }; let e := s.sys.epoch; let t := s.svcNs / e * e * unit; t ≤ s.data.lastTick) ∧
    (let s := { upT with time := { upT.time with sel := { upT.time.sel with validAt := 5000000000 * unit + 1 } } }; let e := s.sys.epoch; let t := s.svcNs / e * e * unit; t < s.time.sel.validAt) ∧
    (let s := upT; let e := s.sys.epoch; let t := s.svcNs / e * e * unit; s.timeValid = true ∧ s.data.lastTick < t ∧ s.time.sel.validAt ≤ t) ∧
    (up.sys.pendingEpoch = none)) ∧
    ((let s := { upT with sys := { upT.sys with pendingEpoch := some ⟨5000, 5, [⟨.qp 0, 9⟩]⟩ } }; s.sys.pendingEpoch = some ⟨5000, 5, [⟨.qp 0, 9⟩]⟩ ∧ s.data.lastTick < 5 * 1000000000 * unit) ∧
    (let s := { upT with sys := { upT.sys with pendingEpoch := some ⟨5000, 5, [⟨.qp 0, 9⟩]⟩ }, data := { upT.data with lastTick := 5000000000 * unit } }; s.sys.pendingEpoch = some ⟨5000, 5, [⟨.qp 0, 9⟩]⟩ ∧ s.timeValid = true ∧ 5 * 1000000000 * unit ≤ s.svc ∧ 5 * 1000000000 * unit ≤ s.data.lastTick) ∧
    (up.sys.pendingProfile = []) ∧
    (let s := { up with sys := { up.sys with pendingProfile := [⟨.w, 5000, 0, ⟨.qp 0, 9⟩⟩] } }; s.profileTick ⟨.w, 5000, 0, ⟨.qp 0, 9⟩⟩ = none) ∧
    (let s := { upT with sys := { upT.sys with pendingProfile := [⟨.w, 0, 0, ⟨.qp 0, 9⟩⟩] } }; s.sys.pendingProfile = [⟨.w, 0, 0, ⟨.qp 0, 9⟩⟩] ∧ (s.profileTick ⟨.w, 0, 0, ⟨.qp 0, 9⟩⟩).isSome = true ∧ s.holdTick = none ∧ s.sys.thermal = false)) ∧
    ((let s := { upT with sys := { upT.sys with pendingProfile := [⟨.w, 0, 0, ⟨.qp 0, 9⟩⟩], thermal := true } }; s.sys.pendingProfile = [⟨.w, 0, 0, ⟨.qp 0, 9⟩⟩] ∧ (s.profileTick ⟨.w, 0, 0, ⟨.qp 0, 9⟩⟩).isSome = true ∧ s.holdTick = none ∧ s.sys.thermal = true) ∧
    (let s := { upT with sys := { upT.sys with pendingProfile := [⟨.w, 900000000, 0, ⟨.qp 0, 9⟩⟩], hotNs := some 0 } }; s.sys.pendingProfile = [⟨.w, 900000000, 0, ⟨.qp 0, 9⟩⟩] ∧ (s.profileTick ⟨.w, 900000000, 0, ⟨.qp 0, 9⟩⟩).isSome = true ∧ (∃ t ∈ s.profileTick ⟨.w, 900000000, 0, ⟨.qp 0, 9⟩⟩, ∃ h ∈ s.holdTick, h ≤ t) ∧ s.sys.thermal = false) ∧
    (up.hottest.2 < 800 ∧ 800 ≤ (hot up 96 800).2 ∧ (hot up 96 799).2 < 800 ∧ up.sys.thermal = false ∧ up.sys.hotNs = none) ∧
    (let s := { up with sys := { up.sys with tj := [(3, 799)] } }; 760 < s.hottest.2 ∧ (hot s 3 760).2 ≤ 760 ∧ 760 < (hot s 3 761).2) ∧
    (let s := { upT with sys := { upT.sys with hotNs := some 0 } }; up.holdTick = none ∧ s.holdTick.isSome = true ∧ s.sys.profile ≠ .h)) ∧
    ((let s := { upT with sys := { upT.sys with hotNs := some 0, profile := .h } }; s.holdTick.isSome = true ∧ s.sys.profile = .h) ∧
    (up.sys.coolNs = none) ∧
    (let s := late1 (upSys fun y => { y with coolNs := some 0, thermal := true, profile := .h }) 10000002000; s.sys.coolNs = some 0 ∧ s.sys.thermal = true ∧ ((s.timeValid = true ∧ (s.dueTick (0 + 10000002000)).isSome = true) ∨ (s.timeValid = false ∧ 0 + 10000002000 ≤ s.now))) ∧
    (let s := atS 11 (upSys fun y => { y with coolNs := some 0, thermal := true, profile := .h }); s.sys.coolNs = some 0 ∧ s.sys.thermal = true ∧ ((s.timeValid = true ∧ (s.dueTick (0 + 10000002000)).isSome = true) ∨ (s.timeValid = false ∧ 0 + 10000002000 ≤ s.now))) ∧
    (let s := late1 (upSys fun y => { y with coolNs := some 0, thermal := true, profile := .h }) 10000001999; s.sys.coolNs = some 0 ∧ s.sys.thermal = true ∧ ¬ ((s.timeValid = true ∧ (s.dueTick (0 + 10000002000)).isSome = true) ∨ (s.timeValid = false ∧ 0 + 10000002000 ≤ s.now)))) ∧
    ((up.sys.profile ≠ .h) ∧
    (let s := upSys fun y => { y with profile := .h }; s.sys.profile = .h ∧ s.dev.powerUp = 0 ∧ ¬ (s.active = true ∧ ∃ e ∈ s.data.requests, e.2.resp = none)) ∧
    (let s := { upSys (fun y => { y with profile := .h }) with data := { up.data with requests := [(0, ⟨.eth 6, 3, zeros 32, [], none, 1, 0, 0, none⟩)] } }; (s.active = true ∧ ∃ e ∈ s.data.requests, e.2.resp = none)) ∧
    (up.dev.powerUp = 0) ∧
    (let s := { up with dev := { up.dev with reload := BitVec.allOnes 64 } }; up.dev.reload.getLsbD 63 = false ∧ s.dev.reload.getLsbD 63 = true ∧ (inTelemetry s.sys.profile 63 = false ∧ ∃ d < 64, inTelemetry s.sys.profile d = true ∧ (s.dev.reload.getLsbD d = true ∨ s.dev.powerUp.getLsbD d = true)))) ∧
    ((let s := { up with dev := { up.dev with reload := 1 } }; s.dev.reload.getLsbD 0 = true ∧ ¬ (inTelemetry s.sys.profile 0 = false ∧ ∃ d < 64, inTelemetry s.sys.profile d = true ∧ (s.dev.reload.getLsbD d = true ∨ s.dev.powerUp.getLsbD d = true))) ∧
    (Tbl.find? (slotKey 4095 3 24) up.data.directory = none) ∧
    (let s := { up.setTartlet 1 { bad := [2 * 32 + 3] } with data := { (up.setTartlet 1 { bad := [2 * 32 + 3] }).data with directory := [(slotKey 1 2 3, ⟨1, 0, 0⟩), (slotKey 1 2 4, ⟨1, 0, 0⟩)] } }; Tbl.find? (slotKey 1 2 3) s.data.directory = some ⟨1, 0, 0⟩ ∧ (⟨1, 0, 0⟩ : SlotDir).mode ≠ 2 ∧ 2 * 32 + 3 ∈ (s.tartlet 1).bad ∧ 2 * 32 + 4 ∉ (s.tartlet 1).bad ∧ Tbl.find? (slotKey 1 2 4) s.data.directory = some ⟨1, 0, 0⟩) ∧
    (let s := noDomains (upSys fun y => { y with profile := .h }); (s.sys.profile = .h ∧ ∀ c < 64, inTelemetry .h c = true ∨ s.dev.domains.getLsbD c = false)) ∧
    (let s := up; ¬ (s.sys.profile = .h ∧ ∀ c < 64, inTelemetry .h c = true ∨ s.dev.domains.getLsbD c = false))) ∧
    ((State.reset.phys.porLow = true ∧ up.phys.porLow = false) ∧
    (let s := { atS 10 (upSys fun y => { y with coolNs := some 0 }) with phys := { up.phys with thermtrip := true } }; s.sys.coolNs = some 0 ∧ s.phys.thermtrip = true ∧ 0 + 10000000000 ≤ s.now ∧ up.phys.thermtrip = false) ∧
    (let s := { up with phys := { up.phys with tripShutdown := true } }; s.phys.tripShutdown = true ∧ s.phys.thermtrip = false ∧ up.phys.tripShutdown = false)) :=
  ⟨by decide +kernel, by decide +kernel, by decide +kernel, by decide +kernel, by decide +kernel, by decide +kernel, by decide +kernel⟩

def upSel (f : Selection → Selection) : State := { upT with time := { upT.time with sel := f upT.time.sel } }
def upA (d : Domain) : State := { upSel (fun k => k) with time := { upT.time with domA := d } }
def upPps (p : PpsInput) (ns : Nat) : State := late1 { up with time := { up.time with pps := [(0, p)] } } ns
def todMsg (flag : Nat) : Bytes := let b := be 2 0x4F54 ++ be 1 1 ++ be 8 7 ++ be 2 37 ++ be 1 flag; b ++ be 2 (checkValueOf crc16Config b)
def upPtp (b : Bytes) : State := { up with time := { up.time with ptp := [(0, { params := b })], domA := { binding := .ptp 5 } } }
def ptpOn : Bytes := [0, 1, 0, 128, 0, 0, 0, 0]
/-- A pair notice: kind, role, OID, TERM. -/
def nt (k role : Nat) (oid term : Nat) : Bytes := be 1 k ++ be 1 role ++ zeros 2 ++ be 4 oid ++ be 4 term ++ zeros 52
def upPair (f : PairState → PairState) : State := { up with pair := f up.pair }
def claims : State := upPair fun p => { p with claiming := true, term := 0 }
def stands : State := upPair fun p => { p with standby := true }
def entryOf (m typ : Nat) : Bytes := be 8 m ++ be 4 0 ++ be 1 typ ++ zeros 3
/-- An entry with its MSEQ, copy number, type and body. -/
def entryCp (m num typ : Nat) (b : Bytes) : Bytes := be 8 m ++ be 4 num ++ be 1 typ ++ zeros 1 ++ be 2 b.length ++ b
def ntFlag (role fl : Nat) : Bytes := be 1 1 ++ be 1 role ++ be 1 fl ++ zeros 1 ++ be 4 17 ++ be 4 0 ++ zeros 52
def copying (n : Nat) : State := upPair fun p => { p with standby := true, copy := some { number := n } }
def unsettled : State := upPair fun p => { p with mseqNext := 8, mseqAcked := 6 }
def waiter (t : Nat) : Waiter := ⟨1, 0, 4, 0, t, ⟨.qp 0, 9⟩, 0⟩
def scanAt (os : Tbl SyncObject) : State := late1 { up with sync := { up.sync with objects := os } } 10000
/-- Queue pair 0 waits on object 5, whose producer it is. -/
def selfWait : Tbl SyncObject := [(5, { inited := true, producer := 0, waiters := [{ waiter 0 with agent := 0 }] })]
/-- The selection in a state, with its mode, following domain A; the two domains; the clock at n ns. -/
def evT (st : SelState) (mode : Nat) (a b : Domain) : State :=
  { upT with time := { upT.time with sel := { upT.time.sel with st := st, mode := mode }, domA := a, domB := b } }
def domQ (c : Nat) : Domain := { qualified := true, cls := c, base := unit }
def domOff : Domain := {}
def wtr0 (s : State) : State := { s with time := { s.time with sel := { s.time.sel with wtrSec := 0 } } }
def residue (s : State) : State := { s with time := { s.time with sel := { s.time.sel with residual := 7 } } }
def ptpRx (n : Byte) (k : PtpKind) : PtpMessage := ⟨n, k⟩
def portRetraining : State := (upPtp ptpOn).setNetPort 0 { (upPtp ptpOn).netPort 0 with st := .retraining }
def selfEdge : WaitEdge := ⟨(0, 0), (0, 0), 5, ⟨.qp 0, 9⟩, 0⟩
def op : OrderedPost := ⟨sn (amount 1 1), 5, 1, 7, [], 0⟩
def upOp (tags : List TagEntry) (ns : Nat) : State := late1 { up with sync := { up.sync with ordered := [op] }, verbs := { up.verbs with tags := tags } } ns
theorem witness_TimeEventsKeepServiceTime :
    ((stands.pair.standby = true ∧ (upSel fun k => { k with lastEval := 1000001 }).now / 1000 < (upSel fun k => { k with lastEval := 1000001 }).time.sel.lastEval) ∧
    (upT.pair.standby = false ∧ upT.time.sel.lastEval ≤ upT.now / 1000) ∧
    (up.time.sel.st = upT.time.sel.st → False) ∧
    (upT.time.sel.st = (wtr0 upT).time.sel.st ∧ upT.time.sel.followed = (wtr0 upT).time.sel.followed) ∧
    ((evT .init 0 domOff domOff).time.sel.st = .init ∧ (evT .init 0 domOff domOff).candidate = none ∧ (evT .init 0 domOff (domQ 0)).candidate = some 1)) ∧
    ((let s := evT .track 0 domOff (domQ 0); s.time.sel.st = .track ∧ (s.domain s.time.sel.followed).qualified = false ∧ s.usable (other s.time.sel.followed) = true ∧ (evT .track 0 domOff domOff).usable 1 = false) ∧
    (let s := evT .track 3 (domQ 0) (domQ 0); s.time.sel.st = .track ∧ (s.domain s.time.sel.followed).qualified = true ∧ allowed s.time.sel.mode s.time.sel.followed = false ∧ (s.domain 1).qualified = true ∧ ((evT .track 3 (domQ 0) domOff).domain 1).qualified = false) ∧
    (let s := wtr0 (evT .track 0 (domQ 2) (domQ 1)); s.time.sel.st = .track ∧ (s.domain 0).qualified = true ∧ allowed s.time.sel.mode 0 = true ∧ s.time.sel.mode = 0 ∧ s.better 1 0 = true ∧ s.time.sel.betterSince = none ∧ s.time.sel.wtrSec = 0) ∧
    (let s := evT .track 0 (domQ 1) (domQ 2); s.time.sel.st = .track ∧ (s.domain 0).qualified = true ∧ allowed s.time.sel.mode 0 = true ∧ s.better 1 0 = false) ∧
    (let s := evT .switch 0 domOff (domQ 0); s.time.sel.st = .switch ∧ (s.domain 0).qualified = false ∧ s.usable 1 = true ∧ allowed (evT .switch 3 (domQ 0) domOff).time.sel.mode 0 = false ∧ (evT .switch 3 (domQ 0) domOff).usable 1 = false)) ∧
    ((let s := evT .switch 0 (domQ 0) domOff; s.time.sel.st = .switch ∧ (s.domain 0).qualified = true ∧ allowed s.time.sel.mode 0 = true ∧ s.time.sel.residual = 0 ∧ (residue s).time.sel.residual ≠ 0) ∧
    ((evT .hold 0 domOff domOff).time.sel.st = .hold ∧ (evT .hold 0 domOff domOff).candidate = none ∧ (evT .hold 0 (domQ 0) domOff).candidate = some 0) ∧
    (up.time.sel.betterSince = none) ∧
    (let s := atS 61 up; let t : State := { s with time := { s.time with sel := { s.time.sel with betterSince := some 0 } } }; t.time.sel.betterSince = some 0 ∧ 0 + t.time.sel.wtrSec * 1000000000 ≤ t.now ∧ (atS 59 up).now < 0 + (atS 59 up).time.sel.wtrSec * 1000000000) ∧
    ((residue upT).time.sel.residual ≠ 0)) ∧
    ((let s := upSel fun k => { k with slew := true }; s.time.sel.residual = 0 ∧ s.time.sel.slew = true ∧ s.pair.standby = false ∧ (evT .switch 0 domOff domOff).time.sel.residual = 0) ∧
    ((up.dtc 63).time.residual = 0 ∧ ((kd fun d => { d with time := { d.time with residual := -1 } }).dtc 0).time.residual ≠ 0) ∧
    (let s := late1 (upA { qualified := true }) 2000000000; s.pair.standby = false ∧ (s.domain 0).qualified = true ∧ (s.domain 0).lastWrite + (s.domain 0).watchdogMs * 1000000 ≤ s.now ∧ (up.domain 1).qualified = false ∧ (late1 (upA { qualified := true }) 1999999999).now < 2000000000) ∧
    (let s := late1 (upA { qualified := true, binding := .pps 1 }) 1500000000; (s.domain 0).binding = .pps 1 ∧ (s.domain 0).qualified = true ∧ (s.domain 0).lastPulse + 1500000000 ≤ s.now ∧ (late1 (upA { qualified := true, binding := .pps 1 }) 1499999999).now < 1500000000) ∧
    ((up.domain 0).binding ≠ .pps 1 ∧ ((upA { binding := .pps 1 }).domain 0).binding = .pps 1)) ∧
    (((zeros 15).length ≠ 16 ∧ (Tbl.get ({} : PpsInput) 1 up.time.pps).lastStamp.isSome = false) ∧
    (let b := todMsg 1; b.length = 16 ∧ fld b 0 2 = 0x4F54 ∧ byteAt b 2 = 1 ∧ fld b 14 2 = checkValueOf crc16Config (b.take 14) ∧ byteAt b 13 % 2 = 1) ∧
    (let b := todMsg 2; b.length = 16 ∧ fld b 0 2 = 0x4F54 ∧ byteAt b 2 = 1 ∧ fld b 14 2 = checkValueOf crc16Config (b.take 14) ∧ byteAt b 13 % 2 = 0) ∧
    (let s := upPps { lastStamp := some Stamp.zero } 10000000; let p := Tbl.get ({} : PpsInput) 0 s.time.pps; p.lastStamp.isSome = true ∧ p.lastAt + 10000000 ≤ s.now ∧ s.now ≤ p.lastAt + 900000000 ∧ (upPps p 9999999).now < p.lastAt + 10000000 ∧ 900000000 < (upPps p 900000001).now) ∧
    (byteAt (Tbl.get ({} : PtpPort) 16 up.time.ptp).params 1 % 2 = 0 ∧ (up.netPort 16).st ≠ .retraining ∧ (upPtp ptpOn).ptpDomain 6 = none)) ∧
    ((byteAt (Tbl.get ({} : PtpPort) 0 (upPtp ptpOn).time.ptp).params 1 % 2 = 1 ∧ (upPtp ptpOn).ptpDomain 5 = some 0 ∧ (ptpRx 5 (.sync (-1) true)).domainNumber = 5) ∧
    (byteAt (Tbl.get ({} : PtpPort) 0 (upPtp ptpOn).time.ptp).params 2 ≠ 2 ∧ (upPtp ptpOn).active = true ∧ byteAt (Tbl.get ({} : PtpPort) 0 (upPtp [0, 1, 2, 128, 0, 0, 0, 0]).time.ptp).params 2 = 2 ∧ stands.active = false) ∧
    (((upPtp ptpOn).netPort 0).st ≠ .retraining ∧ (portRetraining.netPort 0).st = .retraining ∧ byteAt ptpOn 1 / 2 % 2 = 0 ∧ byteAt (Tbl.get ({} : PtpPort) 0 (upPtp [0, 3, 0, 128, 0, 0, 0, 0]).time.ptp).params 1 / 2 % 2 = 1) ∧
    (up.timeValid = false ∧ upT.timeValid = true ∧ (7 : Fin 16).val < 8 ∧ 8 ≤ (8 : Fin 16).val) ∧
    ((upD.dtc 0).time.valid = false ∧ (up.dtc 0).ready = false ∧ let d := (kd fun d => { d with time := { d.time with valid := true } }).dtc 0; d.time.valid = true ∧ d.ready = true)) :=
  ⟨by decide +kernel, by decide +kernel, by decide +kernel, by decide +kernel, by decide +kernel, by decide +kernel⟩

theorem witness_ThePairKeepsItsRoles :
    ((up.pair.claiming = false ∧ State.reset.takesNotices = false ∧ claims.now / 2000 ≤ claims.pair.lastClaim) ∧
    (let s := late1 claims 2000; s.pair.claiming = true ∧ s.takesNotices = true ∧ s.pair.lastClaim < s.now / 2000) ∧
    (State.reset.dev.stage < 7 ∧ up.takesNotices = true ∧ ({ up with phys := { up.phys with tripShutdown := true } } : State).phys.tripShutdown = true) ∧
    (let t := claims.hear .fabric (nt 4 2 17 0); t.pair.claiming = true ∧ t.dev.oid < ntOid (nt 4 2 17 0)) ∧
    (let t := claims.hear .partnerLink (nt 4 2 15 0); t.pair.claiming = true ∧ ¬ t.dev.oid < ntOid (nt 4 2 15 0) ∧ ntRole (nt 4 2 15 0) ≠ 0)) ∧
    (((up.hear .fabric (nt 4 2 17 0)).pair.claiming = false) ∧
    ((claims.hear .fabric (nt 1 0 17 3)).pair.claiming = true ∧ ntRole (nt 1 0 17 3) = 0 ∧ ntRole (nt 1 1 17 3) ≠ 0) ∧
    (let t := stands.hear .fabric (nt 1 0 17 3); t.pair.claiming = false ∧ t.pair.standby = true) ∧
    (let t := up.hear .fabric (nt 3 0 17 2); t.pair.claiming = false ∧ t.pair.standby = false ∧ t.outranked (nt 3 0 17 2) = true ∧ t.outranked (nt 3 0 17 1) = false) ∧
    (let s := upPair fun p => { p with partnerFlags := 8 }; let t := s.hear .partnerLink (ntFlag 1 1); t.pair.claiming = false ∧ t.pair.standby = false ∧ t.outranked (ntFlag 1 1) = false ∧ ntRole (ntFlag 1 1) = 1)) ∧
    (((upPair fun p => { p with partnerFlags := 8 }).pair.partnerFlags / 8 % 2 = 1 ∧ ntFlags (ntFlag 1 1) % 2 = 1 ∧ ntFlags (ntFlag 1 1) / 8 % 2 = 0 ∧ up.pair.partnerFlags / 8 % 2 ≠ 1 ∧ ntFlags (ntFlag 1 9) / 8 % 2 = 1) ∧
    (let t := stands.hear .fabric (nt 2 0 17 1); t.pair.standby = true ∧ t.pair.claiming = false ∧ (claims.hear .fabric (nt 2 0 17 1)).pair.claiming = true ∧ (up.hear .fabric (nt 2 1 17 1)).pair.standby = false) ∧
    (stands.sync.heldPosts = [] ∧ stands.sync.objects = [] ∧ stands.data.requests = [] ∧ stands.data.groups = [] ∧ stands.pair.accepted = [] ∧ stands.verbs.staging = []) ∧
    (let s := late1 (upPair fun p => { p with claiming := true, firstClaim := some 0 }) 50000000; s.pair.firstClaim = some 0 ∧ s.pair.claiming = true ∧ s.pair.heardAny = false ∧ 0 + (if s.phys.straps.pairSel then 250000000 else 50000000) ≤ s.now) ∧
    (up.pair.firstClaim = none)) ∧
    ((let s := late1 up 2000; s.pair.claiming = false ∧ s.pair.hangCause = none ∧ s.takesNotices = true ∧ s.pair.lastBeat < nsOf s.lineTime / 2000) ∧
    (claims.pair.claiming = true ∧ nsOf up.lineTime / 2000 ≤ up.pair.lastBeat) ∧
    (let s := upPair fun p => { p with link := { heard := true } }; s.pathUp s.pair.link = true ∧ s.pair.standby = false) ∧
    (let s := late1 (upPair fun p => { p with standby := true, link := { heard := true } }) 7000; s.pair.standby = true ∧ s.pair.claiming = false ∧ s.pair.link.heard = true ∧ s.pathUp s.pair.link = false ∧ s.pathUp s.pair.fabric = false) ∧
    (up.pair.standby = false ∧ (zeros 15).length < 16)) ∧
    ((let e := entryOf 0 3; stands.pair.standby = true ∧ 16 ≤ e.length ∧ (emHeader e).1 ≤ stands.pair.mseqApplied ∧ (emHeader e).2.2 ≠ 10 ∧ (emHeader e).2.2 ≠ 9) ∧
    (stands.pair.mseqApplied + 1 < (emHeader (entryOf 2 8)).1 ∧ (emHeader (entryOf 2 8)).2.2 ≠ 10 ∧ (emHeader (entryOf 2 8)).2.2 ≠ 9) ∧
    ((emHeader (entryOf 1 9)).1 = stands.pair.mseqApplied + 1 ∧ 16 ≤ (entryOf 1 9).length ∧ (emHeader (entryOf 1 9)).2.2 = 9 ∧ (emHeader (entryCp 7 1 9 [8])).2.2 = 9 ∧ byteAt (entryBody (entryCp 7 1 9 [8])) 0 = 8) ∧
    (let e := entryCp 7 1 10 (zeros 5); 16 ≤ e.length ∧ (emHeader e).2.2 = 10 ∧ byteAt (entryBody e) 0 = 0) ∧
    (let e := entryCp 1 1 10 (be 1 1 ++ be 4 1); (emHeader e).1 = stands.pair.mseqApplied + 1 ∧ (emHeader e).2.2 = 10 ∧ byteAt (entryBody e) 0 ≠ 0)) ∧
    ((let s := copying 3; let e := entryCp 1 3 4 (zeros 9); s.pair.standby = true ∧ (emHeader e).1 = s.pair.mseqApplied + 1 ∧ s.pair.copy = some { number := 3 } ∧ (CopyState.number { number := 3 }) = (emHeader e).2.1 ∧ (emHeader e).2.2 ∉ [9, 10]) ∧
    (let e := entryCp 1 2 4 (zeros 9); (CopyState.number { number := 3 }) ≠ (emHeader e).2.1 ∧ (emHeader e).2.2 ∉ [9, 10] ∧ stands.pair.copy = none) ∧
    ((6 : BitVec 64).toNat ≤ unsettled.pair.mseqAcked ∧ stands.active = false) ∧
    (unsettled.active = true ∧ unsettled.pair.mseqAcked < (7 : BitVec 64).toNat ∧ unsettled.pair.copy = none) ∧
    (let s := upPair fun p => { p with mseqNext := 8, copy := some { number := 3 }, commitMseq := 7 }; s.active = true ∧ s.pair.mseqAcked < (7 : BitVec 64).toNat ∧ s.pair.copy = some { number := 3 } ∧ s.pair.commitMseq ≠ 0 ∧ s.pair.commitMseq ≤ min (7 : BitVec 64).toNat (s.pair.mseqNext - 1) ∧ min 6 (s.pair.mseqNext - 1) < s.pair.commitMseq)) ∧
    ((let s := late1 (upPair fun p => { p with partnerUp := true }) 10000; s.pair.partnerUp = true ∧ s.pair.link.heardAt + 10000 ≤ s.now ∧ (late1 s 9999).now < s.pair.link.heardAt + 10000) ∧
    (let s := upPair fun p => { p with partnerUp := true, partnerRole := 1 }; stands.active = false ∧ s.active = true ∧ s.pair.mirrored = false ∧ s.pair.copy = none ∧ s.pair.partnerUp = true ∧ s.pair.partnerRole = 1 ∧ s.pair.hangCause = none) ∧
    (up.pair.standby = false ∧ stands.pair.copy = none) ∧
    ((copying 3).pair.standby = true ∧ (copying 3).pair.copy = some { number := 3 } ∧ (CopyState.number { number := 3 }) = (3 : Word).toNat ∧ (CopyState.number { number := 3 }) ≠ (4 : Word).toNat) ∧
    (BitVec.ofNat 64 (crc64 (Tbl.get [] 1 [])) ≠ 5 ∧ ∀ e ∈ ([(1, BitVec.ofNat 64 (crc64 []))] : List (Nat × BitVec 64)), BitVec.ofNat 64 (crc64 (Tbl.get [] e.1 [])) = e.2)) ∧
    ((let s := late1 (upPair fun p => { p with copy := some { number := 3 }, partnerDownSince := some 0 }) 100001; s.pair.copy.isSome = true ∧ s.pair.partnerDownSince = some 0 ∧ s.pair.partnerUp = false ∧ 0 + 100000 < s.now ∧ up.pair.copy.isSome = false) ∧
    (let s := upPair fun p => { p with hangCause := some .crossing }; s.pair.hangCause.isSome = true ∧ s.pair.hangCause = some .crossing ∧ State.reset.phys.porLow = true) ∧
    (up.pair.hangCause = none ∧ up.phys.porLow = false ∧ up.phys.tripShutdown = false) ∧
    (let s := atS 6 { (upPair fun p => { p with standby := true, readmitDue := some 0 }) with dev := { up.dev with stage := 9 } }; s.pair.readmitDue = some 0 ∧ s.pair.standby = true ∧ s.pair.claiming = false ∧ s.dev.stage = 9 ∧ (s.dueTick (0 + 2000)).isSome = true) ∧
    (up.pair.readmitDue = none)) :=
  ⟨by decide +kernel, by decide +kernel, by decide +kernel, by decide +kernel, by decide +kernel, by decide +kernel, by decide +kernel, by decide +kernel⟩

theorem witness_WaitsAndOrderedPostsEnd :
    (((if up.timeValid then up.svcNs else up.now) / 10000 ≤ up.sync.lastScan) ∧
    (let s := scanAt []; s.sync.lastScan < (if s.timeValid then s.svcNs else s.now) / 10000 ∧ cycleEdges s.waitEdges = []) ∧
    (let s := scanAt selfWait; s.sync.lastScan < (if s.timeValid then s.svcNs else s.now) / 10000 ∧ cycleEdges s.waitEdges ≠ [] ∧ cycleKey (cycleEdges s.waitEdges) ≠ s.sync.cycle) ∧
    (let s := { scanAt selfWait with sync := { (scanAt selfWait).sync with cycle := [(5, ⟨.qp 0, 9⟩)] } }; s.sync.lastScan < (if s.timeValid then s.svcNs else s.now) / 10000 ∧ cycleEdges s.waitEdges = selfEdge :: [] ∧ cycleKey (cycleEdges s.waitEdges) = s.sync.cycle ∧ (s.object 5).waiters.find? (fun w => w.ticket == selfEdge.ticket) = some { waiter 0 with agent := 0 }) ∧
    (let s := { scanAt ((5, {}) :: selfWait) with sync := { (scanAt ((5, {}) :: selfWait)).sync with cycle := [(5, ⟨.qp 0, 9⟩)] } }; s.sync.lastScan < (if s.timeValid then s.svcNs else s.now) / 10000 ∧ cycleEdges s.waitEdges = selfEdge :: [] ∧ cycleKey (cycleEdges s.waitEdges) = s.sync.cycle ∧ (s.object 5).waiters.find? (fun w => w.ticket == selfEdge.ticket) = none)) ∧
    ((∀ w ∈ (up.object (32767 : BitVec 15).toNat).waiters, w.ticket ≠ ⟨.qp 0, 9⟩) ∧
    (let s := late1 (upObj { obj with waiters := [waiter 7] }) 7000; (s.object (5 : BitVec 15).toNat).waiters.find? (fun w => w.ticket == ⟨.qp 0, 9⟩) = some (waiter 7) ∧ (waiter 7).timeoutUs ≠ 0 ∧ (waiter 7).since + 1000 * (waiter 7).timeoutUs ≤ s.now ∧ (waiter 0).timeoutUs = 0 ∧ (late1 s 6999).now < (waiter 7).since + 1000 * (waiter 7).timeoutUs) ∧
    (up.orderedOf (.qp 0) 1 = none ∧ (upOp [] 0).orderedOf (.qp 0) 1 = some op ∧ (upOp [] 0).sentFinal (.qp 0) op.behind = none) ∧
    (let s := upOp [{ x := { sn [] with tag := 7 }, verb := 0, phase := .done, since := 0, startCs := 0, reply := some ⟨0, [], 0⟩ }] 0; s.orderedOf (.qp 0) 1 = some op ∧ op.earlier = [] ∧ s.sentFinal (.qp 0) op.behind = some 0) ∧
    ((upOp [] 9999999).now < op.since + 10000000 ∧ (upOp [] 10000000).orderedOf (.qp 0) 1 = some op ∧ op.since + 10000000 ≤ (upOp [] 10000000).now ∧ (upOp [] 10000000).sentFinal (.qp 0) op.behind = none)) ∧
    ((let s := upObj obj; s.postRefused 5 (0, 0) = false ∧ (s.object 5).limit < (s.object 5).count + 7 ∧ (s.object 5).count + 6 ≤ (s.object 5).limit ∧ s.postRefused 6 (0, 0) = true) ∧
    ((up.object 5).waiters = [] ∧ let s := upObj { obj with waiters := [{ waiter 0 with n := obj.count + 1 }] }; (s.object 5).waiters = { waiter 0 with n := obj.count + 1 } :: [] ∧ (s.object 5).count < obj.count + 1) ∧
    (let s := upObj { obj with waiters := [{ waiter 0 with n := obj.count }] }; (s.object 5).waiters = { waiter 0 with n := obj.count } :: [] ∧ obj.count ≤ (s.object 5).count)) :=
  ⟨by decide +kernel, by decide +kernel, by decide +kernel⟩

/-- Boot at a stage, POR_N high. -/
def boot (n : Nat) : State := { State.reset with phys := { State.reset.phys with porLow := false }, dev := { State.reset.dev with stage := n } }
def copies (a b c : Word) : FuseCopies := ⟨a, b, c, a, b, c⟩
def mapBytes : Bytes := be 2 1 ++ zeros 30 ++ be 1 0 ++ be 1 7 ++ be 2 0xFFFF ++ be 4 0 ++ be 4 63 ++ zeros 4
/-- A second of the TAI day at which the schedule stands. -/
def planTime : State := { atS 7200 up with rel := {} }
def runOf (r : PlanRun) (s : State) : State := { s with rel := { s.rel with run := some r } }
def chg (f : Nat) : PlanChange := ⟨3, 0, f, false, none⟩
def scr (t : List (Nat × Nat)) : ScreenRun := { ticket := ⟨.qp 0, 9⟩, pack := 1, todo := t }
def upScr (t : List (Nat × Nat)) : State := upRel { screen := some (scr t) }
def raw : RawRecord := ⟨Stamp.zero, 2, 1, 0, 0, 0, 0, []⟩
def at6 (o : ObsState) : State := { up with dev := { up.dev with stage := 6 }, obs := o }
def revoking (k : KeySlot) : State := atS 6 (up.setKeySlot 1023 k)
def slotR (t : Nat) : KeySlot := { state := 2, revokeDue := 2000, revokeTick := t, ticket := some ⟨.qp 0, 9⟩ }
def unitScan (n : Nat) : UnitScan := ⟨⟨.qp 0, 9⟩, zeros 1 ++ be 1 1 ++ zeros 34 ++ be 8 n⟩
/-- The engine's sentence over n bytes into 64 KiB of host memory; an empty stored block of DEFLATE. -/
def engScan (op n cap : Nat) : UnitScan := ⟨⟨.qp 0, 9⟩, zeros 1 ++ be 1 op ++ be 1 1 ++ be 1 1 ++ zeros 16 ++ be 8 n ++ be 8 cap⟩
def emptyBlock : Bytes := [1, 0, 0, 0xFF, 0xFF]
def oneBlock : Bytes := [1, 1, 0, 0xFE, 0xFF, 7]
def upM1 (m : Mspi) : State := { up with phys := { up.phys with mspi := m } }
def cmd (n : Nat) (a l : Nat) : State := upM1 { run := some ⟨n, none⟩, addr := a, len := l }
def tx (h : Option Word) (d : List Word) : SpiTransaction := ⟨h, d, 8, 0⟩
/-- A flash whose erase journal marks the sector at 0x100000 BAD. -/
def badFlash : Tbl Byte := jWrite (jFormat []) journal0 (jEntry 3 0x100000 1)
/-- An image's header of a type with the form's fields, its version and, for firmware, its level; and a state whose flash holds it in copy 0. -/
def imgHead (type version level : Nat) : Bytes :=
  be 4 0x4F534931 ++ be 2 1 ++ be 1 type ++ zeros 1 ++ be 4 version ++ be 4 0 ++ be 1 level ++ zeros 367
def bootImg (n type version level : Nat) : State :=
  { boot n with phys := { (boot n).phys with flash := flashPut [] (imagePlace type 0) (imgHead type version level) } }
/-- A weekly series that climbs. -/
def steep : Series := { values := [90, 60, 30, 0] }
def upSteep : State := upRel { series := [(3, steep)] }
def readingOf (k : Fin 5) (i l : Nat) (q : Fin 3) : MarginReading := ⟨k, i, l, q, 9, true⟩
def mUnit : TraceUnit := { sources := [(2, { fifo := [⟨[1, 2], 0, [], false⟩] })] }
def mFull : TraceUnit := { mUnit with buffer := [⟨zeros 8192, 0, [], false⟩] }
def flushing : State := up.setTraceUnit .agg { up.hub with flush := [⟨⟨.qp 0, 9⟩, 1, 4, []⟩] }
def ringAt (k : Sink) : State := up.setSink 64 k
def traceCycle : TraceCycle := ⟨true, none, none, none, 0, 0⟩
theorem witness_BootRunsInStages :
    ((up.phys.porLow = false ∧ State.reset.phys.porLow = true ∧ State.reset.dev.domains.getLsbD 81 = false) ∧
    (({ up with dev := { up.dev with halted := true } } : State).dev.halted = true ∧ ({ up with phys := { up.phys with tripShutdown := true } } : State).phys.tripShutdown = true) ∧
    ((boot 0).phys.porLow = false ∧ (boot 0).dev.halted = false ∧ (boot 0).phys.tripShutdown = false ∧ (boot 0).dev.stage = 0 ∧ (boot 0).phys.straps.testEn = false ∧ (boot 0).phys.straps.bootSel.toNat < 2 ∧ 2 ≤ (3 : BitVec 2).toNat) ∧
    ((boot 1).phys.porLow = false ∧ (boot 1).dev.halted = false ∧ (boot 1).phys.tripShutdown = false ∧ (boot 1).dev.stage = 1) ∧
    (∀ r ∈ [((7 : Nat), copies 5 5 5), (8, copies 5 5 4)], (fuseValue r.2).isSome = true)) ∧
    ((fuseMarginal (copies 5 5 5) 5 = false ∧ fuseMarginal (copies 5 5 4) 5 = true) ∧
    ((boot 2).phys.porLow = false ∧ (boot 2).dev.halted = false ∧ (boot 2).phys.tripShutdown = false ∧ (boot 2).dev.stage = 2 ∧ (boot 2).copyInUse 1 = none) ∧
    ((boot 3).phys.porLow = false ∧ (boot 3).dev.halted = false ∧ (boot 3).phys.tripShutdown = false ∧ (boot 3).dev.stage = 3) ∧
    ((boot 4).phys.porLow = false ∧ (boot 4).dev.halted = false ∧ (boot 4).phys.tripShutdown = false ∧ (boot 4).dev.stage = 4 ∧ (boot 4).copyInUse 3 = none) ∧
    (let s := bootImg 3 2 5 2; let u : State := { s with phys := { s.phys with flash := flashPut (flashPut [] (imagePlace 2 0) (zeros 16)) (imagePlace 2 1) (zeros 16) } }; u.dev.stage = 3 ∧ u.phys.porLow = false ∧ u.copyInUse 2 = none)) ∧
    ((parseMap mapBytes = some ([⟨0, 7, 0xFFFF, 0, 63⟩], [])) ∧
    ((boot 5).phys.porLow = false ∧ (boot 5).dev.halted = false ∧ (boot 5).phys.tripShutdown = false ∧ (boot 5).dev.stage = 5) ∧
    ((boot 6).phys.porLow = false ∧ (boot 6).dev.halted = false ∧ (boot 6).phys.tripShutdown = false ∧ (boot 6).dev.stage = 6) ∧
    ((boot 7).phys.porLow = false ∧ (boot 7).dev.halted = false ∧ (boot 7).phys.tripShutdown = false ∧ (boot 7).dev.stage = 7 ∧ (boot 7).pair.claiming = true) ∧
    (let s := boot 7; let t : State := { s with pair := { s.pair with claiming := false } }; t.dev.stage = 7 ∧ t.pair.claiming = false ∧ t.phys.porLow = false ∧ t.dev.halted = false)) ∧
    (((boot 8).dev.stage = 8 ∧ (boot 8).timeValid = false ∧ let s : State := { upT with dev := { upT.dev with stage := 8 } }; s.dev.stage = 8 ∧ s.timeValid = true ∧ s.time.sel.st ≠ .init) ∧
    (let s := { upT with dev := { upT.dev with service := false } }; s.dev.stage = 9 ∧ s.active = true ∧ s.dev.service = false ∧ s.onTick = true ∧ s.phys.porLow = false ∧ s.dev.halted = false ∧ s.phys.tripShutdown = false) ∧
    (up.dev.service = true ∧ stands.active = false ∧ up.onTick = false) ∧
    ((boot 0).dev.stage ∉ [2, 3] ∧ 2 ≤ (boot 2).dev.stage ∧ (boot 6).dev.stage ≤ 6) ∧
    (let b := imageAt (bootImg 3 2 5 2).phys.flash 2 0; fld b 0 4 = 0x4F534931 ∧ fld b 4 2 = 1 ∧ byteAt b 6 = 2 ∧ fld b 12 4 ≤ imageLimit 2 ∧ 2 ≤ byteAt b 16 ∧ byteAt b 16 ≤ 3 ∧ fld b 8 4 ≤ 64 ∧ ¬ fld b 8 4 < (bootImg 3 2 5 2).antiRollback)) ∧
    ((byteAt (imgHead 2 65 4) 16 = 4 ∧ 64 < fld (imgHead 2 65 4) 8 4 ∧ (imgHead 2 65 4).length = 384 ∧ imageVersion (bootImg 3 2 5 2).phys.flash 2 1 = 2 ^ 32 - 1) ∧
    (let b := 7; let img : Bytes := (imgHead 2 5 2).set b 4; up.keyTrusted 2 img = false)) ∧
    ((∃ r ∈ [((7 : Nat), copies 1 2 3)], fuseValue r.2 = none)) ∧
    ((∀ s : State, s.keyTrusted 2 (imgHead 2 5 2) = true → Config.verify (sub (imgHead 2 5 2) 24 96) (Config.sha384 ((imgHead 2 5 2).take 288)) (sub (imgHead 2 5 2) 288 96) = true → Config.sha384 ((imgHead 2 5 2).drop 384) = sub (imgHead 2 5 2) 120 48 → s.antiRollback = 0 → s.imageCheck 2 (imgHead 2 5 2) = none)) :=
  ⟨by decide +kernel, by decide +kernel, by decide +kernel, by decide +kernel, by decide +kernel, ⟨(7, copies 1 2 3), by decide, by decide +kernel⟩, (fun s h1 h2 h3 h4 => by unfold State.imageCheck; rw [if_neg (by decide +kernel), h1, h2, h3, h4]; decide +kernel)⟩

theorem witness_MonitorsPlansScreensAndPins :
    ((up.timeValid = false ∧ State.reset.dev.fwReady = false) ∧
    (let s := planTime; s.timeValid = true ∧ s.svcNs / 1000000000 % 86400 = s.rel.schedule ∧ s.rel.run = none ∧ s.dev.fwReady = true ∧ (atS 7201 up).svcNs / 1000000000 % 86400 ≠ (atS 7201 up).rel.schedule) ∧
    (let r : PlanRun := ⟨false, some ⟨.qp 0, 9⟩, none, [], none⟩; (runOf r up).rel.run = some r ∧ r.plan = none ∧ r.apply = false ∧ r.ticket = some ⟨.qp 0, 9⟩) ∧
    (let r : PlanRun := ⟨false, none, none, [], none⟩; (runOf r up).rel.run = some r ∧ r.plan = none ∧ r.apply = false ∧ r.ticket = none ∧ ({ r with apply := true } : PlanRun).apply = true ∧ up.rel.run = none) ∧
    (let r : PlanRun := ⟨true, none, some ([], 0), [], none⟩; (runOf r up).rel.run = some r ∧ r.plan = some ([], 0) ∧ r.plan.isSome = true ∧ (runOf r up).dueTick (0 + 1) = none ∧ r.wrote = none)) ∧
    ((let r : PlanRun := ⟨true, none, some ([chg 0], 0), [], none⟩; let s := (runOf r (atS 6 up)).setIsland 3 { fstep := 1 }; let u := (List.range 20).foldl (State.applyRail [chg 0] []) ([chg 0].foldl (fun t c => if (t.island c.island).fstep < c.fstep then t.setIsland c.island { t.island c.island with fstep := c.fstep } else t) s); s.rel.run = some r ∧ r.wrote = none ∧ (s.dueTick (0 + 1)).isSome = true ∧ ∃ c ∈ [chg 0], c.fstep < (u.island c.island).fstep) ∧
    (let r : PlanRun := ⟨true, none, some ([chg 2], 0), [], none⟩; let s := runOf r (atS 6 up); let u := (List.range 20).foldl (State.applyRail [chg 2] []) ([chg 2].foldl (fun t c => if (t.island c.island).fstep < c.fstep then t.setIsland c.island { t.island c.island with fstep := c.fstep } else t) s); s.rel.run = some r ∧ (s.dueTick (0 + 1)).isSome = true ∧ ¬ ∃ c ∈ [chg 2], c.fstep < (u.island c.island).fstep) ∧
    (let r : PlanRun := ⟨true, none, some ([chg 0], 0), [], some 0⟩; let s := (runOf r (atS 6 up)).setIsland 3 { fstep := 1 }; s.rel.run = some r ∧ r.wrote = some 0 ∧ (s.dueTick (0 + 1000000)).isSome = true ∧ (runOf r up).dueTick (0 + 1000000) = none) ∧
    ((atS 6 up).timeValid = true) ∧
    (marginIndexValid (readingOf 4 3 15 2).kind.val 3 15 = true ∧ marginIndexValid (readingOf 2 1 0 0).kind.val 1 0 = false ∧ (readingOf 3 63 0 0).quantity.val = 0)) ∧
    ((let k := marginKey 4 3 15 2; (Tbl.get ({} : Margin) k up.rel.margins).alarmAt = 0 ∧ (readingOf 4 3 15 2).alarm = true ∧ ({ (readingOf 0 1 1 0) with alarm := false } : MarginReading).alarm = false) ∧
    (belowRated (up.series up.projection.1) = false ∧ belowRated (upSteep.series upSteep.projection.1) = true) ∧
    (up.rel.screen = none ∧ (upScr []).rel.screen = some (scr []) ∧ (scr []).todo = []) ∧
    (let s := upScr [(12, 0), (12, 1)]; s.rel.screen = some (scr [(12, 0), (12, 1)]) ∧ (scr [(12, 0), (12, 1)]).todo = (12, 0) :: [(12, 1)] ∧ s.screenable 12 = true ∧ (upScr [(5, 0), (12, 1)]).screenable 5 = false) ∧
    (let s := { atS 6 up with dev := { up.dev with pinNext := some (2, 0, [⟨.qp 0, 9⟩]) } }; up.dev.pinNext = none ∧ s.dev.pinNext = some (2, 0, [⟨.qp 0, 9⟩]) ∧ (s.dueTick 0).isSome = true ∧ up.dueTick 0 = none)) ∧
    ((let s := kd fun d => { d with time := { valid := true, time := 10000 * unit, clock := 10000 * unit }, pinNext := some (2, 2000, ⟨.pair, 9⟩) }; (upD.dtc 0).pinNext = none ∧ (s.dtc 0).pinNext = some (2, 2000, ⟨.pair, 9⟩) ∧ ((s.dtc 0).dueTick 2000).isSome = true) ∧
    (let s := kd fun d => { d with pinNext := some (2, 2000, ⟨.pair, 9⟩) }; (s.dtc 0).pinNext = some (2, 2000, ⟨.pair, 9⟩) ∧ (s.dtc 0).dueTick 2000 = none)) :=
  ⟨by decide +kernel, by decide +kernel, by decide +kernel, by decide +kernel⟩

theorem witness_SecretsRecordsAndUnitsEnd :
    (((boot 5).dev.stage < 6 ∧ 6 ≤ (at6 {}).dev.stage ∧ (at6 {}).obs.early = [] ∧ (at6 {}).obs.nextSource = none) ∧
    (let s := at6 { early := [raw] }; s.obs.early = raw :: [] ∧ raw.severity < 3 ∧ s.obs.recs.length < 65536) ∧
    (let s := at6 { queues := [(12, [raw, { raw with flags := 4 }])] }; s.obs.early = [] ∧ s.obs.nextSource = some 12 ∧ Tbl.get [] 12 s.obs.queues = raw :: [{ raw with flags := 4 }] ∧ raw.flags / 4 % 2 = 0 ∧ ({ raw with flags := 4 } : RawRecord).flags / 4 % 2 = 1) ∧
    (up.dev.fwReady = true ∧ State.reset.dev.fwReady = false) ∧
    ((up.keySlot (1023 : BitVec 10).toNat).ticket = none ∧ (revoking (slotR 0)).pagesOf 1022 = 0)) ∧
    ((let s := revoking (slotR 0); (s.keySlot 1023).ticket.isSome = true ∧ (s.keySlot 1023).revokeTick = 0 ∧ ((s.dueTick (s.keySlot 1023).revokeDue).map fun t => decide (t ≠ 0)) = some true) ∧
    (let s := revoking (slotR 1); (s.keySlot 1023).ticket = some ⟨.qp 0, 9⟩ ∧ (s.keySlot 1023).revokeTick ≠ 0 ∧ s.pagesOf 1023 = 0 ∧ ({ s with data := { s.data with zeroing := [(1023, [7])] } } : State).pagesOf 1023 ≠ 0) ∧
    (let s : State := { upT with sec := { upT.sec with debugAuth := some ⟨1, 5⟩ } }; up.sec.debugAuth = none ∧ s.sec.debugAuth = some ⟨1, 5⟩ ∧ s.timeValid = true ∧ (5 : Nat) ≤ s.svcNs / 1000000000 ∧ s.svcNs / 1000000000 < 6) ∧
    (Tbl.get none 5 up.obs.units = none ∧ Tbl.get none 5 (upObs { units := [(5, some (unitScan 3))] }).obs.units = some (unitScan 3) ∧ (zeros 3).length = fld (unitScan 3).params 36 8 ∧ byteAt (unitScan 3).params 1 = 1 ∧ byteAt (zeros 44) 1 = 0) ∧
    (Tbl.get none 3 up.obs.engines = none ∧ Tbl.get none 3 (upObs { engines := [(3, some (engScan 1 6 9))] }).obs.engines = some (engScan 1 6 9) ∧ oneBlock.length = fld (engScan 1 6 9).params 20 8 ∧ byteAt (engScan 1 6 9).params 2 = 1 ∧ byteAt (engScan 1 6 9).params 3 = 1)) ∧
    ((engineOutput (byteAt (engScan 1 6 9).params 1) 0 (fld (engScan 1 6 9).params 28 8) oneBlock = (St.ok, [7])) ∧
    ((engineOutput (byteAt (engScan 1 6 0).params 1) 0 (fld (engScan 1 6 0).params 28 8) oneBlock).1 = St.state ∧ St.state ≠ St.ok ∧ St.state ≠ St.param) ∧
    ((engineOutput (byteAt (engScan 1 1 9).params 1) 0 (fld (engScan 1 1 9).params 28 8) [7]).1 = St.param ∧ [(7 : Byte)].length = fld (engScan 1 1 9).params 20 8) ∧
    (up.obs.tick.writing = false ∧ (upObs { tick := { writing := true } }).obs.tick.writing = true)) :=
  ⟨by decide +kernel, by decide +kernel, by decide +kernel⟩

theorem witness_FlashPortTapAndTraceRun :
    ((State.reset.phys.porLow = true ∧ up.phys.porLow = false ∧ (tx none []).header = none ∧ (tx none []).edges ≠ 0 ∧ (tx (some 0x03010014) []).header = some 0x03010014 ∧ spiHeaderValid 0x03010014 = false) ∧
    (let t := tx (some 0x01010014) [0]; t.header = some 0x01010014 ∧ spiHeaderValid 0x01010014 = true ∧ (t.data.take 1).length = (0x01010014 : Word).toNat / 65536 % 256 ∧ (((tx (some 0x01020014) [0]).data.take 2).length ≠ (0x01020014 : Word).toNat / 65536 % 256)) ∧
    (spiHeaderValid 0x01020014 = true ∧ up.phys.mspi.run = none ∧ (cmd 1 0 1).phys.mspi.run.isSome = true) ∧
    (up.phys.mspi.run ≠ some ⟨1, none⟩) ∧
    ((cmd 1 0x3FFFFFF 2).phys.mspi.run = some ⟨1, none⟩ ∧ (cmd 1 0x3FFFFFF 2).phys.mspi.rangeValid = false)) ∧
    ((let s := { cmd 1 0 64 with dev := { up.dev with stage := 4 } }; s.phys.mspi.run = some ⟨1, none⟩ ∧ s.phys.mspi.rangeValid = true ∧ s.bootReads = true) ∧
    (let s := cmd 1 0x35FFFF0 16; s.phys.mspi.run = some ⟨1, none⟩ ∧ s.phys.mspi.rangeValid = true ∧ s.bootReads = false) ∧
    (let s := cmd 2 0x2000 1; s.phys.mspi.run = some ⟨2, none⟩ ∧ s.phys.mspi.rangeValid = true ∧ s.bootReads = false ∧ regionAllows s.phys.mspi.addr s.phys.mspi.len = false ∧ (cmd 2 0x3FFFFFF 2).phys.mspi.rangeValid = false) ∧
    (let s := { cmd 2 0x100000 1 with dev := { up.dev with stage := 4 } }; s.phys.mspi.run = some ⟨2, none⟩ ∧ s.phys.mspi.rangeValid = true ∧ s.bootReads = true) ∧
    (let s := cmd 2 0x100000 256; s.phys.mspi.run = some ⟨2, none⟩ ∧ s.phys.mspi.rangeValid = true ∧ s.bootReads = false ∧ regionAllows s.phys.mspi.addr s.phys.mspi.len = true ∧ (sectorsOf s.phys.mspi.addr s.phys.mspi.len).any (sectorBad s.phys.flash) = false)) ∧
    ((let s := cmd 2 0x100000 4; (flashBytes s.phys.flash s.phys.mspi.addr s.phys.mspi.len).all (· == 0xFF) = true ∧ (flashBytes (flashPut [] 0x100000 [7]) 0x100000 4).any (· != 0xFF) = true) ∧
    (let s := cmd 3 0x4000000 0; s.phys.mspi.run = some ⟨3, none⟩ ∧ 0x4000000 ≤ s.phys.mspi.addr) ∧
    (let s := { cmd 3 0x100000 0 with dev := { up.dev with stage := 4 } }; s.phys.mspi.run = some ⟨3, none⟩ ∧ s.phys.mspi.addr < 0x4000000 ∧ s.bootReads = true) ∧
    (let s := cmd 3 0x100FFF 0; s.phys.mspi.run = some ⟨3, none⟩ ∧ s.phys.mspi.addr < 0x4000000 ∧ s.bootReads = false ∧ regionAllows (s.phys.mspi.addr / 4096 * 4096) 4096 = true ∧ sectorBad s.phys.flash (s.phys.mspi.addr / 4096 * 4096) = false ∧ regionAllows 0x2000 4096 = false) ∧
    (sectorBad badFlash 0x100000 = true ∧ (sectorsOf 0x100FFF 2).any (sectorBad badFlash) = true ∧ regionAllows 0x100FFF 2 = true)) ∧
    ((let s := cmd 4 0 0; s.phys.mspi.run = some ⟨4, none⟩ ∧ (s.phys.mspi.data 48).all (· == 0) = true) ∧
    (let s := upM1 { run := some ⟨4, none⟩, buffer := [(47, 1)] }; s.phys.mspi.run = some ⟨4, none⟩ ∧ (Tbl.get 0 71 s.rel.fuses).getLsbD 0 = false ∧ (s.phys.mspi.data 48).all (· == 0) = false) ∧
    ((cmd 5 0 0).phys.mspi.run = some ⟨5, none⟩ ∧ (upM1 { run := some ⟨5, some 0⟩ }).phys.mspi.run = some ⟨5, some 0⟩) ∧
    (Tbl.wf 0xFF up.phys.flash = true) ∧
    (tapRestricted .dft = true ∧ up.phys.straps.testEn = false ∧ tapRestricted .samplePreload = false ∧ up.debugDisabled = false ∧ ({ up with phys := { up.phys with straps := { up.phys.straps with testEn := true } } } : State).phys.straps.testEn = true)) ∧
    ((up.hub.turn (traceSources .agg) = none ∧ mUnit.turn (traceSources (.dtc 0)) = some 2) ∧
    (mUnit.fill + clauseBytes [⟨srcClause 2, 0, [], false⟩] + (((mUnit.source 2).fifo.head?.map fun c => c.bytes.length).getD 0) ≤ mergeCap (.dtc 0) ∧ mergeCap (.dtc 0) < mFull.fill + clauseBytes [⟨srcClause 2, 0, [], false⟩] ∧ mFull.turn (traceSources (.dtc 0)) = some 2) ∧
    ((up.dtc 0).ready = false ∧ 16 ≤ (67 : Fin 68).val ∧ (upD.dtc 0).ready = true ∧ (15 : Fin 68).val < 16) ∧
    (let s := kd fun d => { d with trace := { record := [1] }, time := { clock := 1000 * unit } }; (s.dtc 0).ready = true ∧ (s.dtc 0).trace.record ≠ [] ∧ (s.dtc 0).trace.recordAt + 1000 ≤ (s.dtc 0).now ∧ (upD.dtc 0).trace.record = []) ∧
    (let gone (u : TraceUnit) (f : FlushWait) : Bool := !u.holdsMark f.mark && !u.recMarks.contains f.mark && f.recs.isEmpty; (flushing.traceUnit .agg).flush.filter (gone (flushing.traceUnit .agg)) ≠ [] ∧ (up.traceUnit .agg).flush.filter (gone (up.traceUnit .agg)) = [])) ∧
    (((up.sink ((63 : Fin 64).val + 1)).size = 0 ∧ let s := ringAt { size := 65536, lastSeq := some 7 }; s.active = true ∧ (s.sink ((63 : Fin 64).val + 1)).size ≠ 0 ∧ (s.sinkWrite 64 [1, 2]).2 = true ∧ (s.sink 64).lastSeq = some 7) ∧
    (((ringAt { size := 65536, wr := 65536 }).sinkWrite 64 [1, 2]).2 = false ∧ (up.sink (64 : Fin 65).val).size = 0)) ∧
    ((∀ n r, up.phys.mspi.run ≠ some ⟨n, some r⟩)) :=
  ⟨by decide +kernel, by decide +kernel, by decide +kernel, by decide +kernel, by decide +kernel, by decide +kernel, (fun _ _ h => by cases h)⟩

end Sys2Proof.Tests
end

section
namespace Sys2Proof.Proofs
open Sys2Proof Sys2Proof.Machine

/-- A row that takes sentences of every form does what its body does; `exec_row` reads the command, `does_of` the admission (R102). -/
theorem does_of_row {c : Sentence → Instr} {v : Verb} {body f : Sentence → State → State × Answer} {g : Sentence → State → Prop}
    (row : ∀ x, verbRow (c x) = some { verb := v, x := x, body := body }) (notPlace : ∀ x y, c x ≠ .placeModel y)
    (h : ∀ x t, g x t → body x t = f x t) : Does c v g f :=
  does_of body (fun _ x _ _ => exec_row (row x) rfl fun _ => notPlace x) h

/-- Settles O20: at either part GET_CAPS runs its body, whose answer is that part's column of R134. -/
theorem getCapsReportsTheTable : Obligations.GetCapsReportsTheTable := by
  refine ⟨does_of_row (fun _ => rfl) nofun fun x t agg => ?_, does_of_row (fun _ => rfl) nofun fun x t notAgg => ?_⟩
  · simp only [getCapsBody, agg]
  · cases part : x.part with
    | agg => exact absurd part notAgg
    | dtc p => simp only [getCapsBody, part]

end Sys2Proof.Proofs
end

section
namespace Sys2Proof.Proofs
open Sys2Proof Sys2Proof.Machine

/-! ## Opening a sequence (R394) -/

theorem freeIndex_eq_some_iff {used : Nat → Bool} {n i : Nat} :
    freeIndex used n = some i ↔ i < n ∧ used i = false ∧ ∀ j, j < i → used j = true := by
  simp only [freeIndex, List.find?_range_eq_some, Bool.not_eq_true', Bool.not_not, List.mem_range]
  exact ⟨fun ⟨free, lt, below⟩ => ⟨lt, free, below⟩, fun ⟨lt, free, below⟩ => ⟨free, lt, below⟩⟩

theorem freeIndex_eq_none_iff {used : Nat → Bool} {n : Nat} : freeIndex used n = none ↔ ∀ j, j < n → used j = true := by
  simp only [freeIndex, List.find?_range_eq_none, Bool.not_not]

/-- The generation that an opening gives: the next of 16 bits, skipping 0. -/
def nextGen (g : Nat) : Nat := if 65535 ≤ g then 1 else g + 1

theorem nextGen_pos (g : Nat) : 0 < nextGen g := by unfold nextGen; split <;> omega

theorem nextGen_lt (g : Nat) : nextGen g < 65536 := by unfold nextGen; split <;> omega

/-- The sequence state that OPEN_SEQUENCE brings: 256 zero bytes where its parameters end with the model. -/
def openState (x : Sentence) : Bytes := if x.plen = 4 then zeros 256 else x.params.drop 4

/-- No refusal of R406 applies to an opening: the model is LOADED, PLACED or still serves, is no telemetry model and
has OPS, and R396 takes the initial state. -/
def ReadyToOpen (x : Sentence) (t : State) : Prop :=
  ((t.model (xModel x)).st = 2 ∨ (t.model (xModel x)).st = 4 ∨ (t.model (xModel x)).serving = true) ∧
    mdUse (t.model (xModel x)).image ≠ 1 ∧ mdOps (t.model (xModel x)).image ≠ 0 ∧
    seqStateValid (t.model (xModel x)).image (openState x) = true

/-- What an opening at entry i makes of the state, and its answer, the sequence ID. -/
def openAt (x : Sentence) (t : State) (i : Nat) : State × Answer :=
  (t.setSeq i { isOpen := true, gen := nextGen (t.seq i).gen, model := xModel x, steps := 0, state := openState x },
    .final St.ok (be 4 (nextGen (t.seq i).gen * 65536 + i)))

/-- Past the refusals of R406, the outcome of OPEN_SEQUENCE turns on the lowest free entry alone. -/
theorem openSequenceBody_of_ready {x : Sentence} {t : State} (ready : ReadyToOpen x t) :
    openSequenceBody x t = (freeIndex (fun i => (t.seq i).used) 65536).elim (t, .final St.busy) (openAt x t) := by
  obtain ⟨serves, use, ops, valid⟩ := ready
  have serving : ((t.model (xModel x)).st != 2 && (t.model (xModel x)).st != 4 && !(t.model (xModel x)).serving) = false := by
    obtain st | st | st := serves <;> simp [st]
  unfold openState at valid
  simp only [openSequenceBody, serving, use, ops, valid, decide_false, Bool.or_false, Bool.not_true, Bool.false_eq_true, if_false]
  cases freeIndex (fun i => (t.seq i).used) 65536 <;> rfl

/-- Settles O33: the search of the table finds the lowest free entry or none, and the generation, which stays within 16 bits and above 0, parts the ID. -/
theorem openSequenceTakesTheLowestFreeIndex : Obligations.OpenSequenceTakesTheLowestFreeIndex := by
  refine ⟨fun i lt => does_of_row (fun _ => rfl) nofun fun x t ⟨ready, below, free⟩ => ?_,
    does_of_row (fun _ => rfl) nofun fun x t ⟨ready, full⟩ => ?_, fun g i lt => ?_⟩
  · have lowest := freeIndex_eq_some_iff (used := fun i => (t.seq i).used).mpr ⟨lt, free, below⟩
    rw [openSequenceBody_of_ready ready, lowest]
    rfl
  · have noneFree := freeIndex_eq_none_iff (used := fun i => (t.seq i).used).mpr full
    rw [openSequenceBody_of_ready ready, noneFree]
    rfl
  · have pos := nextGen_pos g
    have lt16 := nextGen_lt g
    change nextGen g ≠ 0 ∧ nextGen g * 65536 + i < 2 ^ 32 ∧ (nextGen g * 65536 + i) / 65536 = nextGen g ∧ (nextGen g * 65536 + i) % 65536 = i
    omega

end Sys2Proof.Proofs
end

section
/-! What every operation leaves of the boot flash and the fuses: one lemma for each, in the order of the model. -/

namespace Sys2Proof.Machine
open Sys2Proof

/-- Two conditionals of equivalent conditions with equal branches are equal. -/
theorem ite_of_iff {α : Type} {b c : Prop} [Decidable b] [Decidable c] {x y u v : α} (h : b ↔ c) (hx : x = u) (hy : y = v) :
    (if b then x else y) = if c then u else v := ite_congr (propext h) (fun _ => hx) fun _ => hy

/-- What the boot flash and the fuses hold: no reset takes it away (R524, R535). -/
def State.nonvol (s : State) : List Host.Cell × Tbl Word := (s.phys.flash, s.rel.fuses)

@[simp] theorem nonvol_mk (pending : List Instr) (free : Nat) (out : List Output) (time : AggTime) (sys : SysState) (verbs : VerbState) (dev : DevState)
    (sec : SecState) (obs : ObsState) (phys : PhysState) (hbm : HbmState) (net : NetState) (data : DataPlane) (rel : RelState) (sync : SyncState)
    (pair : PairState) (hub : TraceUnit) (sinks : Tbl Sink) (ports : Tbl AggPort) (dtcs : Tbl Dtc) :
    (State.mk pending free out time sys verbs dev sec obs phys hbm net data rel sync pair hub sinks ports dtcs).nonvol = (phys.flash, rel.fuses) := rfl

@[simp] theorem flash_fuses_eq_nonvol (s : State) : (s.phys.flash, s.rel.fuses) = s.nonvol := rfl

theorem nonvol_eq_iff {s t : State} : t.nonvol = s.nonvol ↔ t.phys.flash = s.phys.flash ∧ t.rel.fuses = s.rel.fuses :=
  ⟨fun h => ⟨congrArg Prod.fst h, congrArg Prod.snd h⟩, fun h => Prod.ext h.1 h.2⟩

@[simp] theorem nonvol_ite {c : Prop} [Decidable c] {a b : State} : (if c then a else b).nonvol = if c then a.nonvol else b.nonvol := apply_ite _ _ _ _

theorem nonvol_of_ite {c : Prop} [Decidable c] {a b s : State} (ha : a.nonvol = s.nonvol) (hb : b.nonvol = s.nonvol) :
    (if c then a else b).nonvol = s.nonvol := by
  rw [nonvol_ite, ha, hb, ite_self]

@[simp] theorem fst_ite {α β : Type} {c : Prop} [Decidable c] {a b : α × β} : (if c then a else b).1 = if c then a.1 else b.1 := apply_ite _ _ _ _

@[simp] theorem snd_ite {α β : Type} {c : Prop} [Decidable c] {a b : α × β} : (if c then a else b).2 = if c then a.2 else b.2 := apply_ite _ _ _ _

@[simp] theorem nonvol_foldl {α : Type} {f : State → α → State} (h : ∀ t a, (f t a).nonvol = t.nonvol) (l : List α) (s : State) :
    (l.foldl f s).nonvol = s.nonvol := by
  induction l generalizing s with
  | nil => rfl
  | cons a l ih => rw [List.foldl_cons, ih, h]

theorem Quiet.nonvol {s t : State} (h : Quiet s t) : t.nonvol = s.nonvol := by
  rw [State.nonvol, h.phys, h.rel, State.nonvol]

/-! ### Ops -/

@[simp] theorem setDtc_nonvol (s : State) (p : Fin 64) (d : Dtc) : (s.setDtc p d).nonvol = s.nonvol := (quiet_setDtc ..).nonvol
@[simp] theorem setPort_nonvol (s : State) (p : Fin 64) (a : AggPort) : (s.setPort p a).nonvol = s.nonvol := by rfl
@[simp] theorem onDtc_nonvol (s : State) (p : Fin 64) (f : Dtc → Dtc) : (s.onDtc p f).nonvol = s.nonvol := (quiet_onDtc ..).nonvol
@[simp] theorem onPort_nonvol (s : State) (p : Fin 64) (f : AggPort → AggPort) : (s.onPort p f).nonvol = s.nonvol := (quiet_onPort ..).nonvol
@[simp] theorem setNetPort_nonvol (s : State) (n : Nat) (q : Port) : (s.setNetPort n q).nonvol = s.nonvol := (quiet_setNetPort ..).nonvol
@[simp] theorem setDomain_nonvol (s : State) (d : Fin 2) (v : Domain) : (s.setDomain d v).nonvol = s.nonvol := by simp [State.setDomain]
@[simp] theorem emit_nonvol (s : State) (c : Chan) (data : Bytes) : (s.emit c data).nonvol = s.nonvol := (quiet_emit ..).nonvol
@[simp] theorem draw_nonvol (s : State) : (s.draw).2.nonvol = s.nonvol := by rfl
@[simp] theorem setVector_nonvol (s : State) (n : Nat) (e : MsixEntry) : (s.setVector n e).nonvol = s.nonvol := by rfl
@[simp] theorem signal_nonvol (s : State) (n : Nat) : (s.signal n).nonvol = s.nonvol := (quiet_signal ..).nonvol
@[simp] theorem irq_nonvol (s : State) (bit : Nat) : (s.irq bit).nonvol = s.nonvol := (quiet_irq ..).nonvol
@[simp] theorem enqueueRecord_nonvol (s : State) (r : RawRecord) : (s.enqueueRecord r).nonvol = s.nonvol := (quiet_enqueueRecord ..).nonvol
@[simp] theorem raise_nonvol (s : State) (source code severity : Nat) (data : Bytes) (ctx : Nat) (oid : Option Word) :
    (s.raise source code severity data ctx oid).nonvol = s.nonvol := (quiet_raise ..).nonvol
@[simp] theorem raiseGroup_nonvol (s : State) (source code severity : Nat) (data : Bytes) (ctx : Nat) :
    (s.raiseGroup source code severity data ctx).nonvol = s.nonvol := (quiet_raiseGroup ..).nonvol
@[simp] theorem mirror_nonvol (s : State) (typ : Nat) (body : Bytes) : (s.mirror typ body).nonvol = s.nonvol := (quiet_mirror ..).nonvol
@[simp] theorem setObject_nonvol (s : State) (i : Nat) (o : SyncObject) : (s.setObject i o).nonvol = s.nonvol := by rfl
@[simp] theorem toPartner_nonvol (s : State) (f : QFrame) : (s.toPartner f).nonvol = s.nonvol := (quiet_toPartner ..).nonvol
@[simp] theorem enqueue_nonvol (s : State) (port cls : Nat) (f : QFrame) : (s.enqueue port cls f).nonvol = s.nonvol := (quiet_enqueue ..).nonvol
@[simp] theorem sendTo_nonvol (s : State) (o : Word) (cls etherType : Nat) (body : Bytes) :
    (s.sendTo o cls etherType body).1.nonvol = s.nonvol := (quiet_sendTo ..).nonvol
@[simp] theorem setQp_nonvol (s : State) (n : Fin 64) (q : Qp) : (s.setQp n q).nonvol = s.nonvol := (quiet_setQp ..).nonvol
@[simp] theorem complete_nonvol (s : State) (n : Fin 64) (addr : Nat) (results entry : Bytes) :
    (s.complete n addr results entry).nonvol = s.nonvol := (quiet_complete ..).nonvol
@[simp] theorem offer_nonvol (s : State) (n : Fin 64) (addr : Nat) (results entry : Bytes) :
    (s.offer n addr results entry).nonvol = s.nonvol := (quiet_offer ..).nonvol
@[simp] theorem countNoRoute_nonvol (s : State) (port : Nat) : (s.countNoRoute port).nonvol = s.nonvol := (quiet_countNoRoute ..).nonvol
@[simp] theorem sendOr_nonvol (s : State) (port : Nat) (o : Word) (cls etherType : Nat) (body : Bytes) :
    (s.sendOr port o cls etherType body).nonvol = s.nonvol := (quiet_sendOr ..).nonvol
@[simp] theorem transmit_nonvol (s : State) (req : Requester) (buf : Option ResultBuffer) (src : Word) (bytes : Bytes) :
    (s.transmit req buf src bytes).nonvol = s.nonvol := (quiet_transmit ..).nonvol
@[simp] theorem transmitDtc_nonvol (s : State) (p : Fin 64) (req : Requester) (bytes : Bytes) :
    (s.transmitDtc p req bytes).nonvol = s.nonvol := (quiet_transmitDtc ..).nonvol
@[simp] theorem setTags_nonvol (s : State) (w : Part) (ts : List TagEntry) : (s.setTags w ts).nonvol = s.nonvol := (quiet_setTags ..).nonvol
@[simp] theorem bumpCounter_nonvol (s : State) (w : Part) (req : Requester) (f : VerbCounters → VerbCounters) :
    (s.bumpCounter w req f).nonvol = s.nonvol := (quiet_bumpCounter ..).nonvol
@[simp] theorem deliver_nonvol (s : State) (x : Sentence) (buf : Option ResultBuffer) (bytes : Bytes) :
    (s.deliver x buf bytes).nonvol = s.nonvol := (quiet_deliver ..).nonvol
@[simp] theorem quickReply_nonvol (s : State) (x : Sentence) (buf : Option ResultBuffer) (st : Nat) (results : Bytes) (cstamp : Nat) :
    (s.quickReply x buf st results cstamp).nonvol = s.nonvol := (quiet_quickReply ..).nonvol
@[simp] theorem settle_nonvol (s : State) (w : Part) (t : Ticket) (st : Nat) :
    (s.settle w t st).nonvol = s.nonvol := (quiet_settle ..).nonvol
@[simp] theorem sendStored_nonvol (s : State) (w : Part) (t : Ticket) : (s.sendStored w t).nonvol = s.nonvol := (quiet_sendStored ..).nonvol
@[simp] theorem hwFaultRecord_nonvol (s : State) (x : Sentence) (verb : Nat) :
    (s.hwFaultRecord x verb).nonvol = s.nonvol := (quiet_hwFaultRecord ..).nonvol
@[simp] theorem finalAt_nonvol (s : State) (w : Part) (t : Ticket) (st : Nat) (results : Bytes) (cstamp : Nat) :
    (s.finalAt w t st results cstamp).nonvol = s.nonvol := (quiet_finalAt ..).nonvol
@[simp] theorem final_nonvol (s : State) (w : Part) (t : Ticket) (st : Nat) (results : Bytes) :
    (s.final w t st results).nonvol = s.nonvol := (quiet_final ..).nonvol
@[simp] theorem acceptedAt_nonvol (s : State) (x : Sentence) (buf : Option ResultBuffer) (c : Nat) :
    (s.acceptedAt x buf c).nonvol = s.nonvol := (quiet_acceptedAt ..).nonvol
@[simp] theorem acceptedReply_nonvol (s : State) (x : Sentence) (buf : Option ResultBuffer) :
    (s.acceptedReply x buf).nonvol = s.nonvol := (quiet_acceptedReply ..).nonvol

/-! ### Slots -/

@[simp] theorem setModel_nonvol (s : State) (k : Nat) (m : Model) : (s.setModel k m).nonvol = s.nonvol := by rfl
@[simp] theorem setTartlet_nonvol (s : State) (t : Nat) (v : Tartlet) : (s.setTartlet t v).nonvol = s.nonvol := by rfl
@[simp] theorem takeSlots_nonvol (s : State) (k : Nat) (p : Placement) (mode : Nat) : (s.takeSlots k p mode).nonvol = s.nonvol := by rfl
@[simp] theorem freeSlots_nonvol (s : State) (p : Placement) : (s.freeSlots p).nonvol = s.nonvol := by rfl
@[simp] theorem freeTelemetrySeqs_nonvol (s : State) (base : Nat) : (s.freeTelemetrySeqs base).nonvol = s.nonvol := by simp [State.freeTelemetrySeqs]
@[simp] theorem dropNext_nonvol (s : State) (k : Nat) : (s.dropNext k).nonvol = s.nonvol := by
  unfold State.dropNext
  dsimp only
  split <;> simp
@[simp] theorem dropStaged_nonvol (s : State) (verb : Nat) (x : Sentence) : (s.dropStaged verb x).nonvol = s.nonvol := by
  simp [State.dropStaged]
  split <;> simp

/-! ### Hbm -/

@[simp] theorem putUnit_nonvol (s : State) (u : Nat) (b : Bytes) : (s.putUnit u b).nonvol = s.nonvol := by rfl
@[simp] theorem hbmWrite_nonvol (s : State) (a : Nat) (bs : Bytes) : (State.hbmWrite s a bs).nonvol = s.nonvol := by
  obtain ⟨c, hc, _⟩ := hbmWrite_spec s a bs
  rw [hc]
  rfl
@[simp] theorem storeImage_nonvol (s : State) (k off : Nat) (bs : Bytes) : (s.storeImage k off bs).nonvol = s.nonvol := by simp [State.storeImage]
@[simp] theorem zeroPages_nonvol (s : State) (c : Nat) (ps : List Nat) : (s.zeroPages c ps).nonvol = s.nonvol := by rfl
@[simp] theorem pagesZeroed_nonvol (s : State) (c : Nat) : (s.pagesZeroed c).nonvol = s.nonvol := by rfl

/-! ### Admission -/

@[simp] theorem violation_nonvol (s : State) (req : Requester) (tenant verb model : Nat) (res : Nat × Nat) :
    (s.violation req tenant verb model res).nonvol = s.nonvol := (quiet_violation ..).nonvol
@[simp] theorem setStaging_nonvol (s : State) (r : Requester) (v : Staging) : (s.setStaging r v).nonvol = s.nonvol := (quiet_setStaging ..).nonvol
@[simp] theorem takeIn_nonvol (s : State) (verb : Nat) (x : Sentence) (buf : Option ResultBuffer) :
    (s.takeIn verb x buf).1.nonvol = s.nonvol := (quiet_takeIn ..).nonvol
@[simp] theorem giveAnswer_nonvol (s : State) (x : Sentence) (a : Answer) : (s.giveAnswer x a).nonvol = s.nonvol := (quiet_giveAnswer ..).nonvol
/-- A sentence whose body keeps flash and fuses keeps them. -/
theorem ran_nonvol {s t : State} {body : Sentence → State → State × Answer} {x : Sentence} (r : Ran body x s t)
    (h : ∀ u, (body x u).1.nonvol = u.nonvol) : t.nonvol = s.nonvol := by
  rcases r with q | ⟨u, q, q'⟩
  · exact q.nonvol
  · rw [q'.nonvol, h, q.nonvol]

@[simp] theorem execute_nonvol {s : State} {body : Sentence → State → State × Answer} {x : Sentence} (h : ∀ u, (body x u).1.nonvol = u.nonvol) :
    (s.execute body x).nonvol = s.nonvol := ran_nonvol (ran_execute s body x) h
@[simp] theorem start_nonvol {s : State} {v : Verb} {body : Sentence → State → State × Answer} {x : Sentence}
    (h : ∀ u, (body x u).1.nonvol = u.nonvol) : (s.start v body x).nonvol = s.nonvol := ran_nonvol (ran_start s v body x) h
@[simp] theorem joinSet_nonvol (s : State) (v : Verb) (x : Sentence) (violating : Bool) :
    (s.joinSet v x violating).nonvol = s.nonvol := (quiet_joinSet ..).nonvol
@[simp] theorem silent_nonvol (s : State) (v : Verb) (x : Sentence) (res : Nat × Nat) (zl : Nat) :
    (s.silent v x res zl).nonvol = s.nonvol := (quiet_silent ..).nonvol
@[simp] theorem sendVerb_nonvol (s : State) (p : Fin 64) (bytes : Bytes) : (s.sendVerb p bytes).nonvol = s.nonvol := (quiet_sendVerb ..).nonvol
@[simp] theorem forward_nonvol (s : State) (p : Fin 64) (verb : Nat) (x : Sentence) (target : Word) (subunit : Nat) (client : Bool) :
    (s.forward p verb x target subunit client).1.nonvol = s.nonvol := (quiet_forward ..).nonvol
@[simp] theorem runForward_nonvol (s : State) (v : Verb) (p : Fin 64) (x : Sentence) :
    (s.runForward v p x).nonvol = s.nonvol := (quiet_runForward ..).nonvol
@[simp] theorem passOnSentence_nonvol (s : State) (verb : Nat) (x : Sentence) :
    (s.passOnSentence verb x).nonvol = s.nonvol := (quiet_passOnSentence ..).nonvol
@[simp] theorem runSentence_nonvol {s : State} {v : Verb} {body : Sentence → State → State × Answer} {x : Sentence}
    (h : ∀ u, (body x u).1.nonvol = u.nonvol) : (s.runSentence v body x).nonvol = s.nonvol := ran_nonvol (ran_runSentence s v body x) h

/-! ### Device -/

@[simp] theorem nopBody_nonvol (x : Sentence) (s : State) : (nopBody x s).1.nonvol = s.nonvol := by rfl
@[simp] theorem getVersionBody_nonvol (x : Sentence) (s : State) :
    (getVersionBody x s).1.nonvol = s.nonvol := by unfold getVersionBody; split <;> simp
@[simp] theorem getCapsBody_nonvol (x : Sentence) (s : State) : (getCapsBody x s).1.nonvol = s.nonvol := by unfold getCapsBody; split <;> simp
@[simp] theorem getVerbCountersBody_nonvol (x : Sentence) (s : State) :
    (getVerbCountersBody x s).1.nonvol = s.nonvol := by unfold getVerbCountersBody; split <;> simp
@[simp] theorem setTransportBody_nonvol (x : Sentence) (s : State) : (setTransportBody x s).1.nonvol = s.nonvol := by rfl
@[simp] theorem setOidBody_nonvol (x : Sentence) (s : State) : (setOidBody x s).1.nonvol = s.nonvol := by
  unfold setOidBody
  (repeat' split) <;> simp
@[simp] theorem stageBody_nonvol (x : Sentence) (s : State) : (stageBody x s).1.nonvol = s.nonvol := by
  unfold stageBody
  dsimp only
  split <;> simp
@[simp] theorem commitBody_nonvol (x : Sentence) (s : State) : (commitBody x s).1.nonvol = s.nonvol := by
  simp [commitBody]
  split <;> simp
@[simp] theorem endChanges_nonvol (s : State) (st : Nat) (cs : List (Nat × Sentence)) :
    (s.endChanges st cs).nonvol = s.nonvol := by simp [State.endChanges]
@[simp] theorem discardBody_nonvol (x : Sentence) (s : State) : (discardBody x s).1.nonvol = s.nonvol := by
  unfold discardBody
  dsimp only
  split <;> simp
@[simp] theorem getStagedBody_nonvol (x : Sentence) (s : State) : (getStagedBody x s).1.nonvol = s.nonvol := by unfold getStagedBody; split <;> simp

/-! ### Transport -/

@[simp] theorem noteLink_nonvol (s : State) (w : Part) (t : Ticket) (l : Option LinkId) :
    (s.noteLink w t l).nonvol = s.nonvol := by unfold State.noteLink; split <;> simp
@[simp] theorem receive_nonvol (s : State) (w : Part) (req : Requester) (h : Bytes) (params : Option Bytes) (buf : Option ResultBuffer)
    (link : (Option LinkId)) : (s.receive w req h params buf link).nonvol = s.nonvol := by
  simp [State.receive]
  split <;> simp
@[simp] theorem takeQpEntry_nonvol (s : State) (n : Fin 64) (e : HostEntry) (len : Nat) :
    (s.takeQpEntry n e len).nonvol = s.nonvol := by simp [State.takeQpEntry]
@[simp] theorem fetchQp_nonvol (s : State) (n : Fin 64) (e : HostEntry) : (s.fetchQp n e).nonvol = s.nonvol := by simp [State.fetchQp]
@[simp] theorem fetchEth_nonvol (s : State) : (s.fetchEth).nonvol = s.nonvol := by unfold State.fetchEth; split <;> simp
@[simp] theorem qpError_nonvol (s : State) (n : Fin 64) (kind : Nat) : (s.qpError n kind).nonvol = s.nonvol := by simp [State.qpError]
@[simp] theorem landed_nonvol (s : State) (n : Fin 64) (entry : Bytes) : (s.landed n entry).nonvol = s.nonvol := by
  unfold State.landed
  dsimp only
  (repeat' split) <;> simp
@[simp] theorem releaseHeld_nonvol (s : State) (n : Fin 64) (a2 : Nat) : (State.releaseHeld s n a2).nonvol = s.nonvol := by
  induction a2 generalizing s with
  | zero => rfl
  | succ f ih =>
    rw [State.releaseHeld]
    split
    · rfl
    · simp [ih]
@[simp] theorem mailboxGo_nonvol (s : State) (p : Fin 64) (len : Nat) : (s.mailboxGo p len).nonvol = s.nonvol := by simp [State.mailboxGo]
@[simp] theorem takeOriginatedReply_nonvol (s : State) (p : Fin 64) (reply : Bytes) :
    (s.takeOriginatedReply p reply).nonvol = s.nonvol := by simp [State.takeOriginatedReply]
@[simp] theorem dropForward_nonvol (s : State) (p : Fin 64) (ftag : Nat) : (s.dropForward p ftag).nonvol = s.nonvol := by rfl
@[simp] theorem gathered_nonvol (s : State) (g : Gather) (p st : Nat) : (s.gathered g p st).nonvol = s.nonvol := by
  simp [State.gathered]
  split <;> simp
@[simp] theorem answerForward_nonvol (s : State) (p : Fin 64) (w : Forwarded) (st : Nat) (results : Bytes) (cstamp : Nat) :
    (s.answerForward p w st results cstamp).nonvol = s.nonvol := by
  unfold State.answerForward
  dsimp only
  split <;> simp
@[simp] theorem setDie_nonvol (s : State) (p : Nat) (d : Die) : (s.setDie p d).nonvol = s.nonvol := by rfl
@[simp] theorem noteChange_nonvol (s : State) (p : Fin 64) (verb cs : Nat) : (s.noteChange p verb cs).nonvol = s.nonvol := by simp [State.noteChange]
@[simp] theorem learn_nonvol (s : State) (p : Fin 64) (w : Forwarded) (st : Nat) (results : Bytes) (cs : Nat) :
    (s.learn p w st results cs).nonvol = s.nonvol := by simp [State.learn]
@[simp] theorem markAnswered_nonvol (s : State) (p : Fin 64) (ftag : Nat) : (s.markAnswered p ftag).nonvol = s.nonvol := by rfl
@[simp] theorem takeForwardedReply_nonvol (s : State) (p : Fin 64) (reply : Bytes) : (s.takeForwardedReply p reply).nonvol = s.nonvol := by
  unfold State.takeForwardedReply
  dsimp only
  (repeat' split) <;> simp

/-! ### Collection -/

@[simp] theorem issueScan_nonvol (s : State) (p : Fin 64) : (s.issueScan p).nonvol = s.nonvol := by
  unfold State.issueScan
  dsimp only
  split <;> simp
@[simp] theorem endScan_nonvol (s : State) (p : Fin 64) (st : Nat) (fail : Option Nat) : (s.endScan p st fail).nonvol = s.nonvol := by
  unfold State.endScan
  dsimp only
  split <;> simp
theorem forwardFold_nonvol (verb : Nat) (x : Sentence) (ps : List (Fin 64)) (a : State × List (Nat × Nat)) :
    (ps.foldl (fun (a : State × List (Nat × Nat)) p =>
      let f := a.1.forward p verb x (BitVec.ofNat 32 (Tbl.get 0 p.val a.1.verbs.knownOid))
      (f.1, a.2 ++ [(p.val, f.2)])) a).1.nonvol = a.1.nonvol := by
  induction ps generalizing a with
  | nil => rfl
  | cons p ps ih => rw [List.foldl_cons, ih]; simp
@[simp] theorem forwardAll_nonvol (s : State) (verb : Nat) (x : Sentence) (ps : List (Fin 64)) (results : Bytes) :
    (State.forwardAll s verb x ps results).1.nonvol = s.nonvol := by
  simp [State.forwardAll, forwardFold_nonvol]
@[simp] theorem configAll_nonvol (s : State) (verb : Nat) (x : Sentence) (set : optParam (List (Nat × Sentence)) [(verb, x)]) :
    (s.configAll verb x set).1.nonvol = s.nonvol := by simp [State.configAll]
@[simp] theorem configBody_nonvol (verb : Nat) (x : Sentence) (s : State) : (configBody verb x s).1.nonvol = s.nonvol := by
  unfold configBody
  (repeat' split) <;> simp
@[simp] theorem readCountersBody_nonvol (x : Sentence) (s : State) :
    (readCountersBody x s).1.nonvol = s.nonvol := by unfold readCountersBody; split <;> simp
@[simp] theorem freezeCountersBody_nonvol (x : Sentence) (s : State) :
    (freezeCountersBody x s).1.nonvol = s.nonvol := by unfold freezeCountersBody; split <;> simp
@[simp] theorem readSensorsBody_nonvol (x : Sentence) (s : State) :
    (readSensorsBody x s).1.nonvol = s.nonvol := by unfold readSensorsBody; split <;> simp
@[simp] theorem readEventRingBody_nonvol (x : Sentence) (s : State) :
    (readEventRingBody x s).1.nonvol = s.nonvol := by unfold readEventRingBody; split <;> simp
@[simp] theorem readHangBody_nonvol (x : Sentence) (s : State) : (readHangBody x s).1.nonvol = s.nonvol := by unfold readHangBody; split <;> simp
@[simp] theorem setCheckValueBody_nonvol (x : Sentence) (s : State) :
    (setCheckValueBody x s).1.nonvol = s.nonvol := by unfold setCheckValueBody; split <;> simp
@[simp] theorem scanStartBody_nonvol (x : Sentence) (s : State) : (scanStartBody x s).1.nonvol = s.nonvol := by unfold scanStartBody; split <;> simp
@[simp] theorem scanAbortBody_nonvol (x : Sentence) (s : State) : (scanAbortBody x s).1.nonvol = s.nonvol := by unfold scanAbortBody; split <;> simp
@[simp] theorem scanBody_nonvol (x : Sentence) (s : State) : (scanBody x s).1.nonvol = s.nonvol := by simp [scanBody]
@[simp] theorem formRow_nonvol {s t : State} {x : Sentence} {here : Bool} (h : t.nonvol = s.nonvol) : (s.formRow x here t).nonvol = s.nonvol := by
  simp [State.formRow, h]

/-! ### Integration -/

@[simp] theorem resetDtc_nonvol (s : State) (p : Fin 64) (ties : DtcTies) : (s.resetDtc p ties).nonvol = s.nonvol := by rfl
@[simp] theorem trbWrite_nonvol (s : State) (p : Fin 64) (o : Nat) (v : Word) : (s.trbWrite p o v).nonvol = s.nonvol := by simp [State.trbWrite]

/-! ### Trace -/

@[simp] theorem setTraceUnit_nonvol (s : State) (w : Part) (u : TraceUnit) :
    (s.setTraceUnit w u).nonvol = s.nonvol := by unfold State.setTraceUnit; split <;> simp
@[simp] theorem endFlushes_nonvol (s : State) (w : Part) : (s.endFlushes w).nonvol = s.nonvol := by simp [State.endFlushes]
@[simp] theorem setSink_nonvol (s : State) (i : Nat) (k : Sink) : (s.setSink i k).nonvol = s.nonvol := by rfl
@[simp] theorem ringWrite_nonvol (s : State) (i : Nat) (bytes : Bytes) : (s.ringWrite i bytes).nonvol = s.nonvol := by simp [State.ringWrite]
@[simp] theorem sinkWrite_nonvol (s : State) (i : Nat) (clauses : Bytes) : (s.sinkWrite i clauses).1.nonvol = s.nonvol := by simp [State.sinkWrite]
@[simp] theorem takeTrace_nonvol (s : State) (p : Fin 64) (body : Bytes) : (s.takeTrace p body).nonvol = s.nonvol := by simp [State.takeTrace]
@[simp] theorem drainHub_nonvol (s : State) : (State.drainHub s).nonvol = s.nonvol := by
  unfold State.drainHub
  dsimp only
  split
  · split <;> simp
  · split
    · rfl
    · split
      · simp
      · split
        · rw [endFlushes_nonvol, nonvol_mk, flash_fuses_eq_nonvol, sinkWrite_nonvol]
        · rfl
@[simp] theorem setTraceSourceBody_nonvol (x : Sentence) (s : State) : (setTraceSourceBody x s).1.nonvol = s.nonvol := by simp [setTraceSourceBody]
/-- SET_TRACE_SINK with a size begins the stream with an entry written to the ring (R228). -/
theorem setTraceSinkBody_starts (x : Sentence) (s : State) (h : ¬ x.f 8 4 = 0) :
    ∃ t : State, t.nonvol = s.nonvol ∧ setTraceSinkBody x s = ((t.sinkWrite x.subunit.toNat []).1, .final St.ok) := by
  rw [setTraceSinkBody, if_neg h]
  refine ⟨_, ?_, rfl⟩
  rw [nonvol_ite, nonvol_mk, flash_fuses_eq_nonvol, setSink_nonvol, ite_self]

theorem fst_mk_nonvol (t : State) (a : Answer) : (t, a).1.nonvol = t.nonvol := rfl

@[simp] theorem setTraceSinkBody_nonvol (x : Sentence) (s : State) : (setTraceSinkBody x s).1.nonvol = s.nonvol := by
  by_cases h : x.f 8 4 = 0
  · rw [setTraceSinkBody, if_pos h, fst_mk_nonvol, setSink_nonvol]
  · obtain ⟨t, ht, e⟩ := setTraceSinkBody_starts x s h
    rw [e, fst_mk_nonvol, sinkWrite_nonvol, ht]
@[simp] theorem traceFlushBody_nonvol (x : Sentence) (s : State) : (traceFlushBody x s).1.nonvol = s.nonvol := by simp [traceFlushBody]
@[simp] theorem getTraceStatusBody_nonvol (x : Sentence) (s : State) : (getTraceStatusBody x s).1.nonvol = s.nonvol := by simp [getTraceStatusBody]

/-! ### LinkBase -/

@[simp] theorem onEnd_nonvol (s : State) (side : Side) (p : Fin 64) (l : LinkId) (f : LinkEnd → LinkEnd) :
    (s.onEnd side p l f).nonvol = s.nonvol := by unfold State.onEnd; split <;> simp
@[simp] theorem sendCtrl_nonvol (s : State) (side : Side) (p : Fin 64) (l : LinkId) (op lane : Nat) (seq : Word) (flags : Nat) :
    (s.sendCtrl side p l op lane seq flags).nonvol = s.nonvol := by unfold State.sendCtrl; split <;> simp
@[simp] theorem sendTraining_nonvol (s : State) (side : Side) (p : Fin 64) (l : LinkId) (lanes : List Nat) :
    (s.sendTraining side p l lanes).nonvol = s.nonvol := by simp [State.sendTraining]
@[simp] theorem sendFrame_nonvol (s : State) (side : Side) (p : Fin 64) (l : LinkId) (frame : Bytes) :
    (s.sendFrame side p l frame).nonvol = s.nonvol := by
  unfold State.sendFrame
  dsimp only
  split <;> simp
@[simp] theorem sendCounted_nonvol (s : State) (side : Side) (p : Fin 64) (l : LinkId) (payload : Bytes) :
    (s.sendCounted side p l payload).nonvol = s.nonvol := by simp [State.sendCounted]
@[simp] theorem leaveService_nonvol (s : State) (side : Side) (p : Fin 64) (l : LinkId) :
    (s.leaveService side p l).nonvol = s.nonvol := by unfold State.leaveService; split <;> simp
@[simp] theorem endSwap_nonvol (s : State) (side : Side) (p : Fin 64) (l : LinkId) (abandoned : Nat) :
    (s.endSwap side p l abandoned).nonvol = s.nonvol := by
  unfold State.endSwap
  dsimp only
  split <;> simp
@[simp] theorem retrain_nonvol (s : State) (side : Side) (p : Fin 64) (l : LinkId) (cause : Nat) (tell : Bool) :
    (s.retrain side p l cause tell).nonvol = s.nonvol := by simp [State.retrain]
@[simp] theorem framesBegin_nonvol (s : State) (side : Side) (p : Fin 64) (l : LinkId) :
    (s.framesBegin side p l).nonvol = s.nonvol := by unfold State.framesBegin; split <;> simp
@[simp] theorem enterService_nonvol (s : State) (side : Side) (p : Fin 64) (l : LinkId) : (s.enterService side p l).nonvol = s.nonvol := by
  unfold State.enterService
  dsimp only
  (repeat' split) <;> simp
@[simp] theorem endHold_nonvol (s : State) (side : Side) (p : Fin 64) (l : LinkId) :
    (s.endHold side p l).nonvol = s.nonvol := by unfold State.endHold; split <;> simp
@[simp] theorem startSwap_nonvol (s : State) (side : Side) (p : Fin 64) (l : LinkId) (lane : Nat) (t : Option Ticket) :
    (s.startSwap side p l lane t).nonvol = s.nonvol := by simp [State.startSwap]
@[simp] theorem linkMargin_nonvol (s : State) (side : Side) (p : Fin 64) (l : LinkId) (lane : Nat) (margin : Byte) :
    (s.linkMargin side p l lane margin).nonvol = s.nonvol := by simp [State.linkMargin]
@[simp] theorem linkSwapReq_nonvol (s : State) (side : Side) (p : Fin 64) (l : LinkId) (lane : Nat) :
    (s.linkSwapReq side p l lane).nonvol = s.nonvol := by simp [State.linkSwapReq]
@[simp] theorem linkSwapMirror_nonvol (s : State) (side : Side) (p : Fin 64) (l : LinkId) (lane : Nat) (matched : Bool) :
    (s.linkSwapMirror side p l lane matched).nonvol = s.nonvol := by
  simp [State.linkSwapMirror]
  split <;> simp
@[simp] theorem linkSwapDone_nonvol (s : State) (side : Side) (p : Fin 64) (l : LinkId) (lane : Option Nat) :
    (s.linkSwapDone side p l lane).nonvol = s.nonvol := by simp [State.linkSwapDone]
@[simp] theorem linkSwapTimeout_nonvol (s : State) (side : Side) (p : Fin 64) (l : LinkId) :
    (s.linkSwapTimeout side p l).nonvol = s.nonvol := by unfold State.linkSwapTimeout; split <;> simp

/-! ### Time -/

@[simp] theorem getTimeBody_nonvol (x : Sentence) (s : State) : (getTimeBody x s).1.nonvol = s.nonvol := by unfold getTimeBody; split <;> simp
@[simp] theorem setIncrementBody_nonvol (x : Sentence) (s : State) :
    (setIncrementBody x s).1.nonvol = s.nonvol := by unfold setIncrementBody; split <;> simp
@[simp] theorem phaseAdd_nonvol (s : State) (d : Fin 2) (p : Int) : (s.phaseAdd d p).nonvol = s.nonvol := by simp [State.phaseAdd]
@[simp] theorem phaseAddBody_nonvol (x : Sentence) (s : State) : (phaseAddBody x s).1.nonvol = s.nonvol := by unfold phaseAddBody; split <;> simp
@[simp] theorem setTimeBody_nonvol (x : Sentence) (s : State) : (setTimeBody x s).1.nonvol = s.nonvol := by unfold setTimeBody; split <;> simp
@[simp] theorem setDomainStateBody_nonvol (x : Sentence) (s : State) : (setDomainStateBody x s).1.nonvol = s.nonvol := by simp [setDomainStateBody]
@[simp] theorem setSelectionBody_nonvol (x : Sentence) (s : State) : (setSelectionBody x s).1.nonvol = s.nonvol := by rfl
@[simp] theorem getSelectionBody_nonvol (x : Sentence) (s : State) : (getSelectionBody x s).1.nonvol = s.nonvol := by rfl
@[simp] theorem setAsymmetryBody_nonvol (x : Sentence) (s : State) :
    (setAsymmetryBody x s).1.nonvol = s.nonvol := by unfold setAsymmetryBody; split <;> simp
@[simp] theorem drivePin_nonvol (s : State) (part : Part) (i : Nat) (k k1 : Trigger) :
    (s.drivePin part i k k1).nonvol = s.nonvol := by simp [State.drivePin]
@[simp] theorem setTriggerBody_nonvol (x : Sentence) (s : State) : (setTriggerBody x s).1.nonvol = s.nonvol := by
  unfold setTriggerBody
  dsimp only
  (repeat' split) <;> simp
@[simp] theorem getTriggerBody_nonvol (x : Sentence) (s : State) :
    (getTriggerBody x s).1.nonvol = s.nonvol := by unfold getTriggerBody; split <;> simp
@[simp] theorem setCaptureBody_nonvol (x : Sentence) (s : State) :
    (setCaptureBody x s).1.nonvol = s.nonvol := by unfold setCaptureBody; split <;> simp
@[simp] theorem readCapturesBody_nonvol (x : Sentence) (s : State) :
    (readCapturesBody x s).1.nonvol = s.nonvol := by unfold readCapturesBody; split <;> simp
@[simp] theorem setFreqSourceBody_nonvol (x : Sentence) (s : State) : (setFreqSourceBody x s).1.nonvol = s.nonvol := by rfl
@[simp] theorem setPtpPortBody_nonvol (x : Sentence) (s : State) : (setPtpPortBody x s).1.nonvol = s.nonvol := by rfl
@[simp] theorem getPtpPortBody_nonvol (x : Sentence) (s : State) : (getPtpPortBody x s).1.nonvol = s.nonvol := by rfl
@[simp] theorem startTime_nonvol (s : State) : (s.startTime).nonvol = s.nonvol := by simp [State.startTime]
@[simp] theorem switchTo_nonvol (s : State) (d : Fin 2) : (s.switchTo d).nonvol = s.nonvol := by rfl
@[simp] theorem enterHold_nonvol (s : State) : (s.enterHold).nonvol = s.nonvol := by rfl
@[simp] theorem transitionRecord_nonvol (s t : State) : (s.transitionRecord t).nonvol = t.nonvol := by simp [State.transitionRecord]
@[simp] theorem wtrClock_nonvol (s : State) : (s.wtrClock).nonvol = s.nonvol := by simp [State.wtrClock]
@[simp] theorem evaluate_nonvol (s : State) : (s.evaluate).nonvol = s.nonvol := by
  unfold State.evaluate
  dsimp only
  (repeat' split) <;> simp
@[simp] theorem selectionEvaluation_nonvol (s : State) : (selectionEvaluation s).nonvol = s.nonvol := by simp [selectionEvaluation]
@[simp] theorem unqualify_nonvol (s : State) (d : Fin 2) (cause : Nat) : (s.unqualify d cause).nonvol = s.nonvol := by simp [State.unqualify]
@[simp] theorem sendPtp_nonvol (s : State) (port : Nat) (p : PtpPort) (kind : PtpSend) (dom : Nat) (tx : Int) :
    (s.sendPtp port p kind dom tx).nonvol = s.nonvol := by unfold State.sendPtp; split <;> simp
@[simp] theorem emitEdges_nonvol (s : State) (part : Part) (i : Nat) (k : Trigger) (dly flags : Nat) (cs : List (Nat × Bool)) :
    (s.emitEdges part i k dly flags cs).nonvol = s.nonvol := by simp [State.emitEdges]

/-! ### Link -/

@[simp] theorem sendUpstream_nonvol (s : State) (p : Fin 64) (l : LinkId) : (s.sendUpstream p l).nonvol = s.nonvol := by simp [State.sendUpstream]
@[simp] theorem sendJournalled_nonvol (s : State) (p : Fin 64) (l : LinkId) (f : JFrame) (replay : Bool) :
    (s.sendJournalled p l f replay).nonvol = s.nonvol := by simp [State.sendJournalled]
@[simp] theorem sendDownstream_nonvol (s : State) (p : Fin 64) (lead : Bytes) :
    (s.sendDownstream p lead).nonvol = s.nonvol := by simp [State.sendDownstream]
@[simp] theorem sendFirst_nonvol (s : State) (side : Side) (p : Fin 64) (l : LinkId) :
    (s.sendFirst side p l).nonvol = s.nonvol := by unfold State.sendFirst; split <;> simp
@[simp] theorem resume_nonvol (s : State) (p : Fin 64) (l : LinkId) (seq : Word) : (s.resume p l seq).nonvol = s.nonvol := by simp [State.resume]
@[simp] theorem endForwarded_nonvol (s : State) (p : Fin 64) (l : LinkId) : (s.endForwarded p l).nonvol = s.nonvol := by simp [State.endForwarded]
@[simp] theorem linkStart_nonvol (s : State) (p : Fin 64) (l : LinkId) (seq : Word) (reset : Bool) :
    (s.start_ p l seq reset).nonvol = s.nonvol := by cases reset <;> simp [State.start_]
@[simp] theorem takeBeacon_nonvol (s : State) (p : Fin 64) (l : LinkId) (data : Bytes) :
    (s.takeBeacon p l data).nonvol = s.nonvol := by simp [State.takeBeacon]
@[simp] theorem takeEcho_nonvol (s : State) (p : Fin 64) (data : Bytes) : (s.takeEcho p data).nonvol = s.nonvol := by
  unfold State.takeEcho
  dsimp only
  split <;> simp
@[simp] theorem takeCtrl_nonvol (s : State) (side : Side) (p : Fin 64) (data : Bytes) : (s.takeCtrl side p data).nonvol = s.nonvol := by
  simp [State.takeCtrl]
  split <;> simp
@[simp] theorem takeVerb_nonvol (s : State) (side : Side) (p : Fin 64) (l : LinkId) (r : Bytes) :
    (s.takeVerb side p l r).nonvol = s.nonvol := by unfold State.takeVerb; split <;> simp
@[simp] theorem discardSegment_nonvol (s : State) (side : Side) (p : Fin 64) (l : LinkId) (seg : Nat × Nat × Bytes) :
    (s.discardSegment side p l seg).nonvol = s.nonvol := by unfold State.discardSegment; split <;> simp
@[simp] theorem takeSegment_nonvol (s : State) (side : Side) (p : Fin 64) (l : LinkId) (seg : Nat × Nat × Bytes) :
    (s.takeSegment side p l seg).nonvol = s.nonvol := by
  unfold State.takeSegment
  dsimp only
  (repeat' split) <;> simp
@[simp] theorem frameFailed_nonvol (s : State) (side : Side) (p : Fin 64) (l : LinkId) (kind : Nat) :
    (s.frameFailed side p l kind).nonvol = s.nonvol := by unfold State.frameFailed; split <;> simp
@[simp] theorem getLinkStatusBody_nonvol (x : Sentence) (s : State) : (getLinkStatusBody x s).1.nonvol = s.nonvol := by simp [getLinkStatusBody]
@[simp] theorem setLimit_nonvol (s : State) (x : Sentence) : (s.setLimit x).nonvol = s.nonvol := by simp [State.setLimit]
@[simp] theorem linkRetrainBody_nonvol (x : Sentence) (s : State) : (linkRetrainBody x s).1.nonvol = s.nonvol := by simp [linkRetrainBody]
@[simp] theorem linkTestBody_nonvol (mode : Nat) (x : Sentence) (s : State) : (linkTestBody mode x s).1.nonvol = s.nonvol := by simp [linkTestBody]
@[simp] theorem linkTakeOutBody_nonvol (x : Sentence) (s : State) : (linkTakeOutBody x s).1.nonvol = s.nonvol := by simp [linkTakeOutBody]
@[simp] theorem linkReturnBody_nonvol (x : Sentence) (s : State) : (linkReturnBody x s).1.nonvol = s.nonvol := by simp [linkReturnBody]
@[simp] theorem linkModeBody_nonvol (x : Sentence) (s : State) : (linkModeBody x s).1.nonvol = s.nonvol := by
  simp [linkModeBody]
  split <;> simp
@[simp] theorem laneSwapRetireBody_nonvol (x : Sentence) (s : State) : (laneSwapRetireBody x s).1.nonvol = s.nonvol := by simp [laneSwapRetireBody]
@[simp] theorem laneSwapSetBody_nonvol (x : Sentence) (s : State) : (laneSwapSetBody x s).1.nonvol = s.nonvol := by simp [laneSwapSetBody]
@[simp] theorem laneSwapBody_nonvol (x : Sentence) (s : State) : (laneSwapBody x s).1.nonvol = s.nonvol := by simp [laneSwapBody]
@[simp] theorem setCompressionBody_nonvol (x : Sentence) (s : State) :
    (setCompressionBody x s).1.nonvol = s.nonvol := by unfold setCompressionBody; split <;> simp
@[simp] theorem getJournalBody_nonvol (x : Sentence) (s : State) : (getJournalBody x s).1.nonvol = s.nonvol := by
  simp [getJournalBody]
  split <;> simp
@[simp] theorem linkModeRow_nonvol (s : State) (x : Sentence) (here : Bool) : (State.linkModeRow s x here).nonvol = s.nonvol := by
  unfold State.linkModeRow
  exact formRow_nonvol (runSentence_nonvol (by simp))

/-! ### Sync -/

@[simp] theorem syncFault_nonvol (s : State) (o kind agent n ctx : Nat) :
    (s.syncFault o kind agent n ctx).nonvol = s.nonvol := by simp [State.syncFault]
@[simp] theorem endWaiter_nonvol (s : State) (w : Waiter) (count reason : Nat) :
    (s.endWaiter w count reason).nonvol = s.nonvol := by simp [State.endWaiter]
@[simp] theorem serve_nonvol (s : State) (o : Nat) (a2 : Nat) : (State.serve s o a2).nonvol = s.nonvol := by
  induction a2 generalizing s with
  | zero => rfl
  | succ f ih =>
    rw [State.serve]
    split
    · rfl
    · simp [ih]
@[simp] theorem notify_nonvol (s : State) (o before : Nat) : (s.notify o before).nonvol = s.nonvol := by simp [State.notify]
@[simp] theorem post_nonvol (s : State) (o n : Nat) (agent : Nat × Word) (ctx : Nat) :
    (s.post o n agent ctx).1.nonvol = s.nonvol := by simp [State.post]
@[simp] theorem syncInitBody_nonvol (x : Sentence) (s : State) : (syncInitBody x s).1.nonvol = s.nonvol := by simp [syncInitBody]
@[simp] theorem syncPostBody_nonvol (x : Sentence) (s : State) : (syncPostBody x s).1.nonvol = s.nonvol := by simp [syncPostBody]
@[simp] theorem syncPostOrderedBody_nonvol (x : Sentence) (s : State) : (syncPostOrderedBody x s).1.nonvol = s.nonvol := by rfl
@[simp] theorem syncPostAnyBody_nonvol (x : Sentence) (s : State) : (syncPostAnyBody x s).1.nonvol = s.nonvol := by simp [syncPostAnyBody]
@[simp] theorem syncWaitBody_nonvol (x : Sentence) (s : State) : (syncWaitBody x s).1.nonvol = s.nonvol := by simp [syncWaitBody]
@[simp] theorem syncReadBody_nonvol (x : Sentence) (s : State) : (syncReadBody x s).1.nonvol = s.nonvol := by rfl
@[simp] theorem dropOrdered_nonvol (s : State) (q : OrderedPost) : (s.dropOrdered q).nonvol = s.nonvol := by rfl
@[simp] theorem doorbell_nonvol (s : State) (i n seq : Nat) : (s.doorbell i n seq).nonvol = s.nonvol := by simp [State.doorbell]
@[simp] theorem setPath_nonvol (s : State) (p : PairPath) (k : PathState) :
    (s.setPath p k).nonvol = s.nonvol := by unfold State.setPath; split <;> simp
@[simp] theorem sendNotice_nonvol (s : State) (op : Nat) : (s.sendNotice op).nonvol = s.nonvol := by rfl
@[simp] theorem getHangBody_nonvol (x : Sentence) (s : State) : (getHangBody x s).1.nonvol = s.nonvol := by simp [getHangBody]
@[simp] theorem forceFailoverBody_nonvol (x : Sentence) (s : State) : (forceFailoverBody x s).1.nonvol = s.nonvol := by simp [forceFailoverBody]
@[simp] theorem resetDtcBody_nonvol (x : Sentence) (s : State) : (resetDtcBody x s).1.nonvol = s.nonvol := by unfold resetDtcBody; split <;> simp
@[simp] theorem getPairStatusBody_nonvol (x : Sentence) (s : State) : (getPairStatusBody x s).1.nonvol = s.nonvol := by rfl

/-! ### Network -/

@[simp] theorem setPolicer_nonvol (s : State) (c : Nat) (p : Policer) : (s.setPolicer c p).nonvol = s.nonvol := by rfl
@[simp] theorem meter_nonvol (s : State) (c : Nat) (preYellow : Bool) : (s.meter c preYellow).1.nonvol = s.nonvol := by simp [State.meter]
@[simp] theorem sendPortControl_nonvol (s : State) (n op lane : Nat) :
    (s.sendPortControl n op lane).nonvol = s.nonvol := by unfold State.sendPortControl; split <;> simp
@[simp] theorem portSwapDone_nonvol (s : State) (n x : Nat) : (s.portSwapDone n x).nonvol = s.nonvol := by simp [State.portSwapDone]
@[simp] theorem portMargin_nonvol (s : State) (n lane : Nat) (margin : Byte) :
    (s.portMargin n lane margin).nonvol = s.nonvol := by simp [State.portMargin]
@[simp] theorem portSwapReq_nonvol (s : State) (n lane : Nat) : (s.portSwapReq n lane).nonvol = s.nonvol := by simp [State.portSwapReq]
@[simp] theorem portSwapMirror_nonvol (s : State) (n lane : Nat) (matched : Bool) : (s.portSwapMirror n lane matched).nonvol = s.nonvol := by
  unfold State.portSwapMirror
  dsimp only
  (repeat' split) <;> simp
@[simp] theorem portSwapEnd_nonvol (s : State) (n : Nat) (lane : Option Nat) : (s.portSwapEnd n lane).nonvol = s.nonvol := by
  unfold State.portSwapEnd
  dsimp only
  split <;> simp
@[simp] theorem portSwapExpiry_nonvol (s : State) (n : Nat) : (s.portSwapExpiry n).nonvol = s.nonvol := by
  unfold State.portSwapExpiry
  dsimp only
  split <;> simp
@[simp] theorem portControl_nonvol (s : State) (n op lane : Nat) :
    (s.portControl n op lane).nonvol = s.nonvol := by unfold State.portControl; split <;> simp
@[simp] theorem rerouteZero_nonvol (s : State) (n : Nat) : (s.rerouteZero n).nonvol = s.nonvol := by simp [State.rerouteZero]
@[simp] theorem retrainPort_nonvol (s : State) (n : Nat) (atLimit : Bool) : (s.retrainPort n atLimit).nonvol = s.nonvol := by simp [State.retrainPort]
@[simp] theorem routeSetBody_nonvol (x : Sentence) (s : State) : (routeSetBody x s).1.nonvol = s.nonvol := by simp [routeSetBody]
@[simp] theorem routeGetBody_nonvol (x : Sentence) (s : State) : (routeGetBody x s).1.nonvol = s.nonvol := by simp [routeGetBody]
@[simp] theorem policerSetBody_nonvol (x : Sentence) (s : State) : (policerSetBody x s).1.nonvol = s.nonvol := by rfl
@[simp] theorem queueSetBody_nonvol (x : Sentence) (s : State) : (queueSetBody x s).1.nonvol = s.nonvol := by simp [queueSetBody]
@[simp] theorem shaperSetBody_nonvol (x : Sentence) (s : State) : (shaperSetBody x s).1.nonvol = s.nonvol := by simp [shaperSetBody]
@[simp] theorem gateListSetBody_nonvol (x : Sentence) (s : State) : (gateListSetBody x s).1.nonvol = s.nonvol := by simp [gateListSetBody]
@[simp] theorem gateListGetBody_nonvol (x : Sentence) (s : State) : (gateListGetBody x s).1.nonvol = s.nonvol := by
  simp [gateListGetBody]
  split <;> simp
@[simp] theorem getPortStatusBody_nonvol (x : Sentence) (s : State) : (getPortStatusBody x s).1.nonvol = s.nonvol := by simp [getPortStatusBody]

/-! ### Front -/

@[simp] theorem setHalf_nonvol (s : State) (h : Nat) (v : Half) : (s.setHalf h v).nonvol = s.nonvol := by simp [State.setHalf]
@[simp] theorem readyDie_nonvol (s : State) (p : Nat) (w : TickWait) : (s.readyDie p w).nonvol = s.nonvol := by simp [State.readyDie]
@[simp] theorem startTick_nonvol (s : State) (p : Nat) (w : TickWait) : (s.startTick p w).nonvol = s.nonvol := by simp [State.startTick]
@[simp] theorem takeCounterEpoch_nonvol (s : State) (p : Fin 64) (b : Bytes) : (s.takeCounterEpoch p b).nonvol = s.nonvol := by
  unfold State.takeCounterEpoch
  dsimp only
  (repeat' split) <;> simp
@[simp] theorem takeBody_nonvol (s : State) (p : Fin 64) (cls : Nat) (b : Bytes) :
    (s.takeBody p cls b).nonvol = s.nonvol := by unfold State.takeBody; split <;> simp

/-! ### Groups -/

@[simp] theorem setGroup_nonvol (s : State) (i : Nat) (g : Machine.Group) : (s.setGroup i g).nonvol = s.nonvol := by rfl
@[simp] theorem applyGroup_nonvol (s : State) (i : Nat) : (s.applyGroup i).nonvol = s.nonvol := by rfl
@[simp] theorem verdictTo_nonvol (s : State) (at_ : Nat) (r : Bytes) (i : Nat) : (s.verdictTo at_ r i).nonvol = s.nonvol := by simp [State.verdictTo]
@[simp] theorem toGroups_nonvol (s : State) (at_ : Nat) (r : Bytes) : (s.toGroups at_ r).nonvol = s.nonvol := by simp [State.toGroups]

/-! ### Models -/

@[simp] theorem chunkDone_nonvol (s : State) (x : Sentence) (results : Bytes) :
    (s.chunkDone x results).1.nonvol = s.nonvol := by simp [State.chunkDone]
@[simp] theorem discardLoad_nonvol (s : State) (k : Nat) : (s.discardLoad k).nonvol = s.nonvol := by rfl
@[simp] theorem loadModelBody_nonvol (x : Sentence) (s : State) : (loadModelBody x s).1.nonvol = s.nonvol := by
  unfold loadModelBody
  dsimp only
  (repeat' split) <;> simp
@[simp] theorem mapChunkBody_nonvol (apply : Bool) (x : Sentence) (s : State) : (mapChunkBody apply x s).1.nonvol = s.nonvol := by
  simp [mapChunkBody]
  split <;> simp
@[simp] theorem setFeatureMapBody_nonvol (x : Sentence) (s : State) : (setFeatureMapBody x s).1.nonvol = s.nonvol := by simp [setFeatureMapBody]
@[simp] theorem settleMap_nonvol (s : State) (k : Nat) : (s.settleMap k).nonvol = s.nonvol := by
  unfold State.settleMap
  dsimp only
  split <;> simp
@[simp] theorem beginPlace_nonvol (s : State) (x : Sentence) (staged : Bool) : (s.beginPlace x staged).1.nonvol = s.nonvol := by
  simp [State.beginPlace]
  split <;> simp
@[simp] theorem placeModelBody_nonvol (x : Sentence) (s : State) : (placeModelBody x s).1.nonvol = s.nonvol := by simp [placeModelBody]
@[simp] theorem sweepModel_nonvol (s : State) (k : Nat) : (State.sweepModel s k).nonvol = s.nonvol := by
  unfold State.sweepModel
  dsimp only
  cases (s.model k).place <;> simp
@[simp] theorem applyPlace_nonvol (s : State) (k : Nat) : (s.applyPlace k).nonvol = s.nonvol := by
  unfold State.applyPlace
  dsimp only
  (repeat' split) <;> simp
@[simp] theorem stagePlace_nonvol (s : State) (x : Sentence) : (s.stagePlace x).nonvol = s.nonvol := by unfold State.stagePlace; split <;> simp
@[simp] theorem placeApplyBody_nonvol (x : Sentence) (s : State) : (placeApplyBody x s).1.nonvol = s.nonvol := by
  unfold placeApplyBody
  dsimp only
  split <;> simp
@[simp] theorem unloadModelBody_nonvol (x : Sentence) (s : State) : (unloadModelBody x s).1.nonvol = s.nonvol := by simp [unloadModelBody]
@[simp] theorem unload_nonvol (s : State) (k : Nat) : (s.unload k).nonvol = s.nonvol := by
  simp [State.unload]
  split <;> simp
@[simp] theorem unloadApplyBody_nonvol (x : Sentence) (s : State) : (unloadApplyBody x s).1.nonvol = s.nonvol := by simp [unloadApplyBody]
@[simp] theorem setSeq_nonvol (s : State) (i : Nat) (e : SeqEntry) : (s.setSeq i e).nonvol = s.nonvol := by rfl
@[simp] theorem openSequenceBody_nonvol (x : Sentence) (s : State) : (openSequenceBody x s).1.nonvol = s.nonvol := by
  unfold openSequenceBody
  (repeat' split) <;> simp
@[simp] theorem closeSeq_nonvol (s : State) (i : Nat) (e : SeqEntry) : (s.closeSeq i e).nonvol = s.nonvol := by rfl
@[simp] theorem settleSeq_nonvol (s : State) (i : Nat) : (s.settleSeq i).nonvol = s.nonvol := by
  unfold State.settleSeq
  dsimp only
  split <;> simp
@[simp] theorem closeSequenceBody_nonvol (x : Sentence) (s : State) :
    (closeSequenceBody x s).1.nonvol = s.nonvol := by unfold closeSequenceBody; split <;> simp
@[simp] theorem getJobsBody_nonvol (x : Sentence) (s : State) : (getJobsBody x s).1.nonvol = s.nonvol := by rfl
@[simp] theorem getModelStatusBody_nonvol (x : Sentence) (s : State) : (getModelStatusBody x s).1.nonvol = s.nonvol := by rfl

/-! ### Serve -/

@[simp] theorem enginePost_nonvol (s : State) (agent : Nat) (oid : Option Word) :
    (s.enginePost agent oid).nonvol = s.nonvol := by simp [State.enginePost]
@[simp] theorem verdict_nonvol (s : State) (port at_ : Nat) (rec_ : Bytes) : (s.verdict port at_ rec_).nonvol = s.nonvol := by simp [State.verdict]
@[simp] theorem sendResponse_nonvol (s : State) (req : Requester) (port tenant : Nat) (buf : Option ResultBuffer) (bytes : Bytes) :
    (s.sendResponse req port tenant buf bytes).nonvol = s.nonvol := by unfold State.sendResponse; split <;> simp
@[simp] theorem dropRequest_nonvol (s : State) (req : Requester) :
    (s.dropRequest req).nonvol = s.nonvol := by unfold State.dropRequest; split <;> simp
@[simp] theorem refuseRequest_nonvol (s : State) (q : RequestIn) (st : Nat) (results : Bytes) :
    (s.refuseRequest q st results).nonvol = s.nonvol := by simp [State.refuseRequest]
@[simp] theorem acceptRequest_nonvol (s : State) (q : RequestIn) : (State.acceptRequest s q).nonvol = s.nonvol := by
  unfold State.acceptRequest
  dsimp only
  split
  · rw [refuseRequest_nonvol]
  · rw [setHalf_nonvol]
    split
    · rw [setSeq_nonvol, nonvol_mk, flash_fuses_eq_nonvol, mirror_nonvol]
    · rw [nonvol_mk, flash_fuses_eq_nonvol, mirror_nonvol]
@[simp] theorem takeRequest_nonvol (s : State) (q : RequestIn) : (s.takeRequest q).nonvol = s.nonvol := by
  simp [State.takeRequest]
  (repeat' split) <;> simp
@[simp] theorem handResponse_nonvol (s : State) (i : Nat) : (s.handResponse i).nonvol = s.nonvol := by
  unfold State.handResponse
  (repeat' split) <;> simp
@[simp] theorem respond_nonvol (s : State) (i st : Nat) (results : Bytes) :
    (s.respond i st results).nonvol = s.nonvol := by unfold State.respond; split <;> simp
@[simp] theorem intoCrossing_nonvol (s : State) (h c work : Nat) : (s.intoCrossing h c work).nonvol = s.nonvol := by rfl
@[simp] theorem crossOver_nonvol (s : State) (k n : Nat) : (s.crossOver k n).nonvol = s.nonvol := by rfl
@[simp] theorem addWork_nonvol (s : State) (j : VecJob) (v : Vec) (p : Placement) (r : Nat) :
    (State.addWork s j v p r).nonvol = s.nonvol := nonvol_foldl (fun _ _ => intoCrossing_nonvol ..) _ _
@[simp] theorem failScoring_nonvol (s : State) (src : WorkSrc) (k tick epoch flags st feature : Nat) :
    (s.failScoring src k tick epoch flags st feature).nonvol = s.nonvol := by unfold State.failScoring; split <;> simp
@[simp] theorem assignWork_nonvol (s : State) (j : VecJob) (v : Vec) : (s.assignWork j v).nonvol = s.nonvol := by
  unfold State.assignWork
  (repeat' split) <;> simp
@[simp] theorem retryHeld_nonvol (s : State) : (s.retryHeld).nonvol = s.nonvol := by simp [State.retryHeld]
@[simp] theorem deliverDue_nonvol (s : State) : (s.deliverDue).nonvol = s.nonvol := by simp [State.deliverDue]
@[simp] theorem dropWork_nonvol (s : State) (id : Nat) (keepRunning : Bool) : (s.dropWork id keepRunning).nonvol = s.nonvol := by rfl
@[simp] theorem yieldLend_nonvol (s : State) : (s.yieldLend).nonvol = s.nonvol := by simp [State.yieldLend]
@[simp] theorem updWork_nonvol (s : State) (id : Nat) (f : Work → Work) : (s.updWork id f).nonvol = s.nonvol := by rfl
@[simp] theorem scored_nonvol (s : State) (w : Work) (block : Bytes) : (s.scored w block).nonvol = s.nonvol := by
  unfold State.scored
  (repeat' split) <;> simp
@[simp] theorem finishWork_nonvol (s : State) (w : Work) (last : Nat) : (s.finishWork w last).nonvol = s.nonvol := by simp [State.finishWork]
@[simp] theorem replicaOut_nonvol (s : State) (k t : Nat) : (s.replicaOut k t).nonvol = s.nonvol := by
  unfold State.replicaOut
  dsimp only
  (repeat' split) <;> simp

/-! ### Engines -/

@[simp] theorem countEngines_nonvol (s : State) (draw : Nat) : (s.countEngines draw).nonvol = s.nonvol := by rfl

/-! ### Clock -/

@[simp] theorem tick_nonvol (s : State) : (s.tick).nonvol = s.nonvol := by simp [State.tick]

/-! ### Power -/

@[simp] theorem switchOn_nonvol (s : State) (n : Nat) : (s.switchOn n).nonvol = s.nonvol := by simp [State.switchOn]
@[simp] theorem switchOff_nonvol (s : State) (n : Nat) : (s.switchOff n).nonvol = s.nonvol := by rfl
@[simp] theorem clusterOff_nonvol (s : State) (c : Nat) : (s.clusterOff c).nonvol = s.nonvol := by rfl
@[simp] theorem clusterOn_nonvol (s : State) (c : Nat) : (s.clusterOn c).nonvol = s.nonvol := by simp [State.clusterOn]
@[simp] theorem replicaBack_nonvol (s : State) (k : Nat) : (s.replicaBack k).nonvol = s.nonvol := by
  unfold State.replicaBack
  dsimp only
  split <;> simp

/-! ### Ageing -/

@[simp] theorem setMark_nonvol (s : State) (w : Nat) (m : FuseMark) : (s.setMark w m).nonvol = s.nonvol := by rfl
@[simp] theorem rereadWord_nonvol (n : Nat) (s : State) (w : Nat) : (State.rereadWord n s w).nonvol = s.nonvol := by
  unfold State.rereadWord
  dsimp only
  split <;> simp
@[simp] theorem rereadFuses_nonvol (s : State) : (s.rereadFuses).nonvol = s.nonvol := by simp [State.rereadFuses]
@[simp] theorem getFuseStatusBody_nonvol (x : Sentence) (s : State) : (getFuseStatusBody x s).1.nonvol = s.nonvol := by rfl
@[simp] theorem setIsland_nonvol (s : State) (i : Nat) (v : Island) : (s.setIsland i v).nonvol = s.nonvol := by rfl
@[simp] theorem logMargin_nonvol (s : State) (i kind old new : Nat) (g : Option Int) :
    (s.logMargin i kind old new g).nonvol = s.nonvol := by simp [State.logMargin]
@[simp] theorem startPlan_nonvol (s : State) (apply : Bool) (t : Option Ticket) : (s.startPlan apply t).nonvol = s.nonvol := by simp [State.startPlan]
@[simp] theorem logChange_nonvol (s : State) (c : PlanChange) : (s.logChange c).nonvol = s.nonvol := by simp [State.logChange]
@[simp] theorem endPlan_nonvol (s : State) (r : PlanRun) (results : Bytes) :
    (s.endPlan r results).nonvol = s.nonvol := by unfold State.endPlan; split <;> simp
@[simp] theorem applyRail_nonvol (plan : List PlanChange) (acked : List (Nat × Bool)) (s : State) (rail : Nat) :
    (State.applyRail plan acked s rail).nonvol = s.nonvol := by simp [State.applyRail]
@[simp] theorem runMarginPlanBody_nonvol (x : Sentence) (s : State) : (runMarginPlanBody x s).1.nonvol = s.nonvol := by simp [runMarginPlanBody]
@[simp] theorem channelWeek_nonvol (s : State) (p ch : Nat) : (s.channelWeek p ch).nonvol = s.nonvol := by simp [State.channelWeek]
@[simp] theorem takeMargin_nonvol (s : State) (r : MarginReading) : (s.takeMargin r).nonvol = s.nonvol := by simp [State.takeMargin]
@[simp] theorem getMarginsBody_nonvol (x : Sentence) (s : State) : (getMarginsBody x s).1.nonvol = s.nonvol := by rfl
@[simp] theorem readAgeingBody_nonvol (x : Sentence) (s : State) :
    (readAgeingBody x s).1.nonvol = s.nonvol := by unfold readAgeingBody; split <;> simp

/-! ### Bar -/

@[simp] theorem raiseVectors_nonvol (s : State) (new : BitVec 5) : (s.raiseVectors new).nonvol = s.nonvol := by simp [State.raiseVectors]
@[simp] theorem writeBase_nonvol (s : State) (n : Fin 64) (f : Qp → Qp) : (s.writeBase n f).nonvol = s.nonvol := by simp [State.writeBase]
@[simp] theorem writeQp_nonvol (s : State) (n : Fin 64) (o : Nat) (v : Word) :
    (s.writeQp n o v).nonvol = s.nonvol := by unfold State.writeQp; split <;> simp
@[simp] theorem writeVector_nonvol (s : State) (n o : Nat) (v : Word) :
    (s.writeVector n o v).nonvol = s.nonvol := by unfold State.writeVector; split <;> simp

/-! ### Reduction -/

@[simp] theorem sendRed_nonvol (s : State) (i : Nat) (g : Machine.Group) (c : Close) (dir pass node : Nat) (f : Fold) (reach maxLevel : Nat) (body :
    Bytes) (oids : List Word) (peer : Nat) : (s.sendRed i g c dir pass node f reach maxLevel body oids peer).nonvol = s.nonvol := by simp [State.sendRed]
@[simp] theorem baselineUpdate_nonvol (s : State) (i : Nat) (c : Close) : (s.baselineUpdate i c).nonvol = s.nonvol := by simp [State.baselineUpdate]
@[simp] theorem closeComplete_nonvol (s : State) (i : Nat) (c : Close) (root : Bool) :
    (s.closeComplete i c root).nonvol = s.nonvol := by simp [State.closeComplete]
@[simp] theorem sendDown_nonvol (s : State) (i : Nat) (c : Close) (pass : Nat) : (s.sendDown i c pass).nonvol = s.nonvol := by simp [State.sendDown]
@[simp] theorem sendReport_nonvol (s : State) (i : Nat) (c : Close) : (s.sendReport i c).nonvol = s.nonvol := by simp [State.sendReport]
@[simp] theorem takeSummary_nonvol (s : State) (i : Nat) (c : Close) (root : Bool) :
    (s.takeSummary i c root).nonvol = s.nonvol := by simp [State.takeSummary]
@[simp] theorem takeFinal_nonvol (s : State) (i : Nat) (c : Close) (root : Bool) :
    (s.takeFinal i c root).nonvol = s.nonvol := by simp [State.takeFinal]
@[simp] theorem rootFold_nonvol (s : State) (i : Nat) (c : Close) (pass : Nat) (f : Fold) :
    (s.rootFold i c pass f).nonvol = s.nonvol := by simp [State.rootFold]
@[simp] theorem passOn_nonvol (s : State) (i : Nat) (c : Close) (pass level : Nat) (f : Fold) : (s.passOn i c pass level f).nonvol = s.nonvol := by
  unfold State.passOn
  dsimp only
  (repeat' split) <;> simp
theorem foldOnce_nonvol {s : State} {i : Nat} {c : Close} {pass level : Nat} {r : State × Close × Fold} (h : s.foldOnce i c pass level = some r) :
    r.1.nonvol = s.nonvol := by
  unfold State.foldOnce at h
  dsimp only at h
  split at h
  · cases h
  · split at h
    · cases h
    · cases h
      simp

@[simp] theorem carry_nonvol (n : Nat) (s : State) (i : Nat) (c : Close) (pass level : Nat) (f : Fold) :
    (State.carry n s i c pass level f).nonvol = s.nonvol := by
  induction n generalizing s c level f with
  | zero => exact passOn_nonvol ..
  | succ n ih =>
    rw [State.carry]
    split
    · split
      · split
        · rename_i r h
          rw [ih, foldOnce_nonvol h]
        · rfl
      · rfl
    · exact passOn_nonvol ..
@[simp] theorem nodeFold_nonvol (s : State) (i : Nat) (c : Close) (pass : Nat) (level : Nat) : (State.nodeFold s i c pass level).nonvol = s.nonvol := by
  unfold State.nodeFold
  split
  · rename_i r h
    rw [carry_nonvol, foldOnce_nonvol h]
  · rfl
@[simp] theorem takeUp_nonvol (s : State) (i : Nat) (c : Close) (h body : Bytes) : (s.takeUp i c h body).nonvol = s.nonvol := by simp [State.takeUp]
@[simp] theorem takeDown_nonvol (s : State) (i : Nat) (c : Close) (h body : Bytes) :
    (s.takeDown i c h body).nonvol = s.nonvol := by simp [State.takeDown]
@[simp] theorem takeReduction_nonvol (s : State) (source : Word) (frame : Bytes) : (State.takeReduction s source frame).nonvol = s.nonvol := by
  unfold State.takeReduction
  dsimp only
  split
  · rfl
  · refine nonvol_of_ite (setGroup_nonvol ..) ?_
    split
    · exact nonvol_of_ite (setGroup_nonvol ..) (setGroup_nonvol ..)
    · refine nonvol_of_ite (setGroup_nonvol ..) ?_
      split
      · exact setGroup_nonvol ..
      · rw [nonvol_ite, nonvol_ite, takeUp_nonvol, takeDown_nonvol, setGroup_nonvol, ite_self, ite_self]
@[simp] theorem openClose_nonvol (s : State) (t index : Nat) (early : Bool) (i : Nat) :
    (s.openClose t index early i).nonvol = s.nonvol := by simp [State.openClose]
@[simp] theorem openCloses_nonvol (s : State) (t index : Nat) (early : Bool) :
    (s.openCloses t index early).nonvol = s.nonvol := by simp [State.openCloses]
@[simp] theorem applyChange_nonvol (s : State) (i t : Nat) (p : GroupPending) : (s.applyChange i t p).nonvol = s.nonvol := by
  unfold State.applyChange
  (repeat' split) <;> simp
@[simp] theorem applyChanges_nonvol (s : State) (i : Nat) (fence : Bool) : (State.applyChanges s i fence).nonvol = s.nonvol := by
  refine nonvol_foldl (fun t p => ?_) _ _
  split
  · rfl
  · split <;> simp
@[simp] theorem groupJoinBody_nonvol (x : Sentence) (s : State) : (groupJoinBody x s).1.nonvol = s.nonvol := by simp [groupJoinBody]
@[simp] theorem groupLeaveBody_nonvol (x : Sentence) (s : State) : (groupLeaveBody x s).1.nonvol = s.nonvol := by simp [groupLeaveBody]
@[simp] theorem groupFenceBody_nonvol (x : Sentence) (s : State) : (groupFenceBody x s).1.nonvol = s.nonvol := by simp [groupFenceBody]
@[simp] theorem groupSetBody_nonvol (x : Sentence) (s : State) : (groupSetBody x s).1.nonvol = s.nonvol := by simp [groupSetBody]
@[simp] theorem groupStatusBody_nonvol (x : Sentence) (s : State) : (groupStatusBody x s).1.nonvol = s.nonvol := by simp [groupStatusBody]
@[simp] theorem readStragglersBody_nonvol (x : Sentence) (s : State) : (readStragglersBody x s).1.nonvol = s.nonvol := by
  unfold readStragglersBody
  dsimp only
  (repeat' split) <;> simp
@[simp] theorem setBaselineBody_nonvol (x : Sentence) (s : State) : (setBaselineBody x s).1.nonvol = s.nonvol := by simp [setBaselineBody]

/-! ### Reliability -/

@[simp] theorem report_nonvol (s : State) (f : Finding) : (s.report f).nonvol = s.nonvol := by cases f <;> simp [State.report]
@[simp] theorem readSilentErrorsBody_nonvol (x : Sentence) (s : State) : (readSilentErrorsBody x s).1.nonvol = s.nonvol := by rfl
@[simp] theorem replicaDiffers_nonvol (s : State) (k r : Nat) (p : Placement) (fs : List SlotFault) :
    (s.replicaDiffers k r p fs).nonvol = s.nonvol := by unfold State.replicaDiffers; split <;> simp
@[simp] theorem runTestOn_nonvol (s : State) (c : Nat) (t : Bytes) : (s.runTestOn c t).nonvol = s.nonvol := by simp [State.runTestOn]
@[simp] theorem endScreen_nonvol (s : State) (r : ScreenRun) (clusters : List Nat) :
    (s.endScreen r clusters).nonvol = s.nonvol := by simp [State.endScreen]
@[simp] theorem runScreenPackBody_nonvol (x : Sentence) (s : State) : (runScreenPackBody x s).1.nonvol = s.nonvol := by
  simp [runScreenPackBody]
  split <;> simp
@[simp] theorem pinBehaviourBody_nonvol (x : Sentence) (s : State) : (pinBehaviourBody x s).1.nonvol = s.nonvol := by
  unfold pinBehaviourBody
  dsimp only
  split
  · simp
  · split
    · simp
    · split
      · rfl
      · exact nonvol_foldl (fun _ _ => by rfl) _ _

/-! ### Profile -/

@[simp] theorem getProfileBody_nonvol (x : Sentence) (s : State) : (getProfileBody x s).1.nonvol = s.nonvol := by rfl
@[simp] theorem setProfileBody_nonvol (x : Sentence) (s : State) :
    (setProfileBody x s).1.nonvol = s.nonvol := by unfold setProfileBody; split <;> simp
@[simp] theorem noteSuspended_nonvol (s : State) : (s.noteSuspended).nonvol = s.nonvol := by rfl
@[simp] theorem enforce_nonvol (s : State) (p : Profile) (cause : Nat) : (s.enforce p cause).nonvol = s.nonvol := by simp [State.enforce]
@[simp] theorem enterThermal_nonvol (s : State) : (s.enterThermal).nonvol = s.nonvol := by simp [State.enterThermal]
@[simp] theorem getEpochBody_nonvol (x : Sentence) (s : State) : (getEpochBody x s).1.nonvol = s.nonvol := by rfl
@[simp] theorem setEpochBody_nonvol (x : Sentence) (s : State) : (setEpochBody x s).1.nonvol = s.nonvol := by simp [setEpochBody]
@[simp] theorem tickFreeze_nonvol (s : State) (t : Nat) : (s.tickFreeze t).nonvol = s.nonvol := by simp [State.tickFreeze]
@[simp] theorem waitTick_nonvol (s : State) (w : TickWait) (p : Nat) : (s.waitTick w p).nonvol = s.nonvol := by simp [State.waitTick]

/-! ### Observability -/

@[simp] theorem holdFreeze_nonvol (s : State) (cause : BitVec 2) (severity : Nat) (seq : Word) :
    (s.holdFreeze cause severity seq).nonvol = s.nonvol := by rfl
@[simp] theorem triggerFreeze_nonvol (s : State) (r : Record) : (s.triggerFreeze r).nonvol = s.nonvol := by simp [State.triggerFreeze]
@[simp] theorem accept_nonvol (s : State) (raw : RawRecord) : (s.accept raw).nonvol = s.nonvol := by simp [State.accept]
@[simp] theorem acceptFrom_nonvol (s : State) (src : Nat) (a2 : Nat) : (State.acceptFrom s src a2).nonvol = s.nonvol := by
  induction a2 generalizing s with
  | zero => rfl
  | succ f ih =>
    rw [State.acceptFrom]
    split
    · rfl
    · simp [ih]
@[simp] theorem readRecordsBody_nonvol (x : Sentence) (s : State) : (readRecordsBody x s).1.nonvol = s.nonvol := by rfl
@[simp] theorem readSelfCountersBody_nonvol (x : Sentence) (s : State) :
    (readSelfCountersBody x s).1.nonvol = s.nonvol := by simp [readSelfCountersBody]
@[simp] theorem freezeBody_nonvol (x : Sentence) (s : State) : (freezeBody x s).1.nonvol = s.nonvol := by simp [freezeBody]
@[simp] theorem checkValueBody_nonvol (x : Sentence) (s : State) : (checkValueBody x s).1.nonvol = s.nonvol := by simp [checkValueBody]
@[simp] theorem compressBody_nonvol (x : Sentence) (s : State) : (compressBody_ x s).1.nonvol = s.nonvol := by simp [compressBody_]
@[simp] theorem writeOutput_nonvol (s : State) (space a : Nat) (b : Bytes) :
    (s.writeOutput space a b).nonvol = s.nonvol := by simp [State.writeOutput]

/-! ### Security -/

@[simp] theorem identitySign_nonvol (s : State) (data : Bytes) : (s.identitySign data).2.nonvol = s.nonvol := by rfl
@[simp] theorem getAttestationBody_nonvol (x : Sentence) (s : State) : (getAttestationBody x s).1.nonvol = s.nonvol := by rfl
@[simp] theorem keyReleaseBeginBody_nonvol (x : Sentence) (s : State) : (keyReleaseBeginBody x s).1.nonvol = s.nonvol := by simp [keyReleaseBeginBody]
@[simp] theorem setKeySlot_nonvol (s : State) (c : Nat) (k : KeySlot) : (s.setKeySlot c k).nonvol = s.nonvol := by rfl
@[simp] theorem installKey_nonvol (s : State) (c : Nat) (id : Word) (key : Bytes) :
    (s.installKey c id key).nonvol = s.nonvol := by simp [State.installKey]
@[simp] theorem keyInstallBody_nonvol (x : Sentence) (s : State) : (keyInstallBody x s).1.nonvol = s.nonvol := by
  unfold keyInstallBody
  dsimp only
  (repeat' split) <;> simp
@[simp] theorem keyRevokeBody_nonvol (x : Sentence) (s : State) : (keyRevokeBody x s).1.nonvol = s.nonvol := by simp [keyRevokeBody]
@[simp] theorem endRevoke_nonvol (s : State) (c : Nat) : (s.endRevoke c).nonvol = s.nonvol := by
  unfold State.endRevoke
  dsimp only
  split <;> simp
@[simp] theorem revokeSeq_nonvol (s : State) (i : Nat) : (s.revokeSeq i).nonvol = s.nonvol := by simp [State.revokeSeq]
@[simp] theorem endDebug_nonvol (s : State) : (s.endDebug).nonvol = s.nonvol := by simp [State.endDebug]
@[simp] theorem debugAuthoriseBody_nonvol (x : Sentence) (s : State) : (debugAuthoriseBody x s).1.nonvol = s.nonvol := by simp [debugAuthoriseBody]
@[simp] theorem getAccessMapBody_nonvol (x : Sentence) (s : State) : (getAccessMapBody x s).1.nonvol = s.nonvol := by simp [getAccessMapBody]

/-! ### Flash -/

@[simp] theorem setMspi_nonvol (s : State) (m : Mspi) : (s.setMspi m).nonvol = s.nonvol := by rfl
@[simp] theorem mspiResult_nonvol (s : State) (r : Nat) : (s.mspiResult r).nonvol = s.nonvol := by unfold State.mspiResult; split <;> simp
@[simp] theorem mspiWrite_nonvol (s : State) (a : Nat) (v : Word) : (s.mspiWrite a v).nonvol = s.nonvol := by
  simp [State.mspiWrite]
  split <;> simp
@[simp] theorem mspiWrites_nonvol (s : State) (a1 : Nat) (a2 : List Word) : (State.mspiWrites s a1 a2).nonvol = s.nonvol := by
  induction a2 generalizing s a1 with
  | nil => rfl
  | cons v vs ih => simp [State.mspiWrites, ih]
@[simp] theorem spiCount_nonvol (s : State) (f : Mspi → Mspi) : (s.spiCount f).nonvol = s.nonvol := by rfl

/-! ### Boot -/

@[simp] theorem bootStatus_nonvol (s : State) (f : DevState → DevState) : (s.bootStatus f).nonvol = s.nonvol := by simp [State.bootStatus]
@[simp] theorem enterStage_nonvol (s : State) (n : Nat) : (s.enterStage n).nonvol = s.nonvol := by simp [State.enterStage]
@[simp] theorem bootFail_nonvol (s : State) (fault : Nat) (tried : Bytes) : (s.bootFail fault tried).nonvol = s.nonvol := by simp [State.bootFail]
@[simp] theorem latchFuses_nonvol (s : State) (reads : List (Nat × FuseCopies)) : (State.latchFuses s reads).nonvol = s.nonvol := by
  unfold State.latchFuses
  dsimp only
  split
  · simp
  · rw [enterStage_nonvol, nonvol_foldl (fun t r => ?_)]
    · rfl
    · split
      · rfl
      · simp
@[simp] theorem readConfig_nonvol (s : State) : (s.readConfig).nonvol = s.nonvol := by cases s <;> simp [State.readConfig]
@[simp] theorem restoreMargins_nonvol (s : State) : (State.restoreMargins s).nonvol = s.nonvol := by
  unfold State.restoreMargins
  dsimp only
  rw [nonvol_foldl (fun t i => by simp), nonvol_foldl (fun t r => ?_), nonvol_foldl (fun t i => by simp)]
  split
  · rfl
  · rfl
@[simp] theorem beginStage3_fuses (s : State) : s.beginStage3.rel.fuses = s.rel.fuses := by
  unfold State.beginStage3
  dsimp only
  split <;> exact congrArg Prod.snd ((enterStage_nonvol _ _).trans ((switchOn_nonvol _ _).trans (restoreMargins_nonvol _)))
@[simp] theorem firmwareImage_nonvol (s : State) : (s.firmwareImage).nonvol = s.nonvol := by unfold State.firmwareImage; split <;> simp
@[simp] theorem lockMap_nonvol (s : State) (rs : List MapRequester) (ws : List MapWindow) (version : Word) (isDefault : Bool) :
    (s.lockMap rs ws version isDefault).nonvol = s.nonvol := by rfl
@[simp] theorem writeMap_nonvol (s : State) : (s.writeMap).nonvol = s.nonvol := by
  unfold State.writeMap
  dsimp only
  split <;> simp
@[simp] theorem hbmTrained_nonvol (s : State) (ok : Bool) : (s.hbmTrained ok).nonvol = s.nonvol := by simp [State.hbmTrained]
@[simp] theorem bootPorts_nonvol (s : State) : (s.bootPorts).nonvol = s.nonvol := by cases s <;> simp [State.bootPorts]
@[simp] theorem copyPack_nonvol (s : State) (b : Bytes) : (s.copyPack b).nonvol = s.nonvol := by simp [State.copyPack]
@[simp] theorem rebuildReports_nonvol (s : State) : (s.rebuildReports).nonvol = s.nonvol := by rfl
@[simp] theorem selfTested_nonvol (s : State) (ok : Bool) : (s.selfTested ok).nonvol = s.nonvol := by simp [State.selfTested]
@[simp] theorem wholeChipReset_nonvol (s : State) : (State.wholeChipReset s).nonvol = s.nonvol := by
  unfold State.wholeChipReset
  rw [enterStage_nonvol, emit_nonvol]
  rfl
@[simp] theorem lost_nonvol (s : State) : (s.lost).nonvol = s.nonvol := by rfl

/-! ### VerbTable -/

theorem verbTable_nonvol : ∀ r ∈ verbTable, ∀ x s, (r.body x s).1.nonvol = s.nonvol := by
  simp only [verbTable, rows0, rows1, rows2, rows3, rows4, rows5, rows6, rows7, rows8, rows9, rowsA, rowsB, rowsC, rowsF]
  simp
@[simp] theorem bodyOf_nonvol (code : Nat) (a1 : Sentence) (a2 : State) : (bodyOf code a1 a2).1.nonvol = a2.nonvol := by
  unfold bodyOf
  cases h : rowOf code with
  | some r => exact verbTable_nonvol r (List.mem_of_find?_eq_some h) _ _
  | none => rfl

/-! ### Staging -/

@[simp] theorem noteConfig_nonvol (s : State) (code : Nat) (x : Sentence) : (s.noteConfig code x).nonvol = s.nonvol := by simp [State.noteConfig]
@[simp] theorem stagedBody_nonvol (set : List (Nat × Sentence)) (code : Nat) (x : Sentence) (s : State) :
    (stagedBody set code x s).1.nonvol = s.nonvol := by
  simp [stagedBody]
  split <;> simp
@[simp] theorem stampGather_nonvol (s : State) (k : Ticket) (cs : Nat) : (s.stampGather k cs).nonvol = s.nonvol := by rfl
@[simp] theorem applyStaged_nonvol (set : List (Nat × Sentence)) (t : Nat) (s : State) (c : Nat × Sentence) :
    (State.applyStaged set t s c).nonvol = s.nonvol := by
  unfold State.applyStaged
  dsimp only
  split <;> simp
@[simp] theorem refuseStaged_nonvol (s : State) (c : (Nat × Sentence) × Nat) : (s.refuseStaged c).nonvol = s.nonvol := by simp [State.refuseStaged]
@[simp] theorem refuseSet_nonvol (s : State) (c : CommitWait) (sts : List Nat) : (s.refuseSet c sts).nonvol = s.nonvol := by simp [State.refuseSet]

/-! ### Mirror -/

@[simp] theorem silently_nonvol (s : State) (code : Nat) (x : Sentence) : (s.silently code x).1.nonvol = s.nonvol := by simp [State.silently]
@[simp] theorem setAccepted_nonvol (s : State) (l : List Mirrored) : (s.setAccepted l).nonvol = s.nonvol := by rfl
@[simp] theorem onAccepted_nonvol (s : State) (req : Requester) (tag : Word) (f : Mirrored → Mirrored) :
    (s.onAccepted req tag f).nonvol = s.nonvol := by rfl
@[simp] theorem applyRequest_nonvol (s : State) (b : Bytes) : (s.applyRequest b).nonvol = s.nonvol := by simp [State.applyRequest]
@[simp] theorem applyCompletion_nonvol (s : State) (b : Bytes) : (s.applyCompletion b).nonvol = s.nonvol := by
  unfold State.applyCompletion
  dsimp only
  split <;> simp
@[simp] theorem applySentence_nonvol (s : State) (b : Bytes) : (s.applySentence b).nonvol = s.nonvol := by simp [State.applySentence]
@[simp] theorem applyCarried_nonvol (s : State) (req : Requester) (tag : Word) (b : Bytes) : (s.applyCarried req tag b).nonvol = s.nonvol := by
  unfold State.applyCarried
  dsimp only
  (repeat' split) <;> simp
@[simp] theorem applyEffect_nonvol (s : State) (b : Bytes) : (s.applyEffect b).nonvol = s.nonvol := by simp [State.applyEffect]
@[simp] theorem applyTag_nonvol (s : State) (b : Bytes) : (s.applyTag b).nonvol = s.nonvol := by
  unfold State.applyTag
  dsimp only
  split <;> simp
@[simp] theorem applySync_nonvol (s : State) (b : Bytes) : (s.applySync b).nonvol = s.nonvol := by
  simp [State.applySync]
  split <;> simp
@[simp] theorem applySet_nonvol (s : State) (b : Bytes) : (s.applySet b).nonvol = s.nonvol := by
  unfold State.applySet
  dsimp only
  (repeat' split) <;> simp
@[simp] theorem applySeq_nonvol (s : State) (b : Bytes) : (s.applySeq b).nonvol = s.nonvol := by rfl
@[simp] theorem applyWaiter_nonvol (s : State) (b : Bytes) : (s.applyWaiter b).nonvol = s.nonvol := by rfl
@[simp] theorem applyModel_nonvol (s : State) (b : Bytes) : (s.applyModel b).nonvol = s.nonvol := by simp [State.applyModel]
@[simp] theorem applyGroupItem_nonvol (s : State) (b : Bytes) : (s.applyGroupItem b).nonvol = s.nonvol := by simp [State.applyGroupItem]
@[simp] theorem applyClose_nonvol (s : State) (b : Bytes) : (s.applyClose b).nonvol = s.nonvol := by rfl
@[simp] theorem applyNode_nonvol (s : State) (b : Bytes) : (s.applyNode b).nonvol = s.nonvol := by
  unfold State.applyNode
  dsimp only
  split <;> simp
@[simp] theorem applyArrived_nonvol (s : State) (b : Bytes) : (s.applyArrived b).nonvol = s.nonvol := by
  unfold State.applyArrived
  dsimp only
  split <;> simp
@[simp] theorem applyFtag_nonvol (s : State) (b : Bytes) : (s.applyFtag b).nonvol = s.nonvol := by rfl
@[simp] theorem noteFtag_nonvol (s : State) (b : Bytes) : (s.noteFtag b).nonvol = s.nonvol := by
  simp [State.noteFtag]
  split <;> simp
@[simp] theorem applyKey_nonvol (s : State) (b : Bytes) : (s.applyKey b).nonvol = s.nonvol := by simp [State.applyKey]
@[simp] theorem applyItem_nonvol (s : State) (typ : Nat) (b : Bytes) :
    (s.applyItem typ b).nonvol = s.nonvol := by unfold State.applyItem; split <;> simp
@[simp] theorem clearLive_nonvol (s : State) : (s.clearLive).nonvol = s.nonvol := by rfl
@[simp] theorem applySection_nonvol (s : State) (n : Nat) (b : Bytes) : (s.applySection n b).nonvol = s.nonvol := by simp [State.applySection]
@[simp] theorem acknowledge_nonvol (s : State) : (s.acknowledge).nonvol = s.nonvol := by rfl
@[simp] theorem commitCopy_nonvol (s : State) (c : Nat) (digests : List (Nat × BitVec 64)) :
    (s.commitCopy c digests).nonvol = s.nonvol := by unfold State.commitCopy; split <;> simp
@[simp] theorem takeSection_nonvol (s : State) (b : Bytes) : (s.takeSection b).nonvol = s.nonvol := by unfold State.takeSection; split <;> simp
@[simp] theorem takeCopyEntry_nonvol (s : State) (b : Bytes) : (s.takeCopyEntry b).nonvol = s.nonvol := by simp [State.takeCopyEntry]
@[simp] theorem takeEntry_nonvol (s : State) (e : Bytes) : (s.takeEntry e).nonvol = s.nonvol := by
  unfold State.takeEntry
  dsimp only
  (repeat' split) <;> simp
@[simp] theorem letGo_nonvol (s : State) (w : Withheld) : (s.letGo w).nonvol = s.nonvol := by unfold State.letGo; split <;> simp
@[simp] theorem release_nonvol (s : State) (m : Nat) : (s.release m).nonvol = s.nonvol := by simp [State.release]
@[simp] theorem sendSection_nonvol (s : State) (n : Nat) : (s.sendSection n).nonvol = s.nonvol := by simp [State.sendSection]

/-! ### Pair -/

@[simp] theorem linkBack_nonvol (s : State) : (s.linkBack).nonvol = s.nonvol := by simp [State.linkBack]
@[simp] theorem hear_nonvol (s : State) (p : PairPath) (b : Bytes) : (s.hear p b).nonvol = s.nonvol := by simp [State.hear]
@[simp] theorem becomeActive_nonvol (s : State) : (s.becomeActive).nonvol = s.nonvol := by simp [State.becomeActive]
@[simp] theorem becomeStandby_nonvol (s : State) (term : Word) : (s.becomeStandby term).nonvol = s.nonvol := by simp [State.becomeStandby]
@[simp] theorem stepDown_nonvol (s : State) (term : Word) : (s.stepDown term).nonvol = s.nonvol := by simp [State.stepDown]
@[simp] theorem takeClaim_nonvol (s : State) (p : PairPath) (b : Bytes) : (s.takeClaim p b).nonvol = s.nonvol := by simp [State.takeClaim]
@[simp] theorem phaseLock_nonvol (s : State) (b : Bytes) : (s.phaseLock b).nonvol = s.nonvol := by simp [State.phaseLock]
@[simp] theorem takeSelection_nonvol (s : State) (b : Bytes) : (s.takeSelection b).nonvol = s.nonvol := by simp [State.takeSelection]
@[simp] theorem takeProfile_nonvol (s : State) (b : Bytes) : (s.takeProfile b).nonvol = s.nonvol := by unfold State.takeProfile; split <;> simp
@[simp] theorem follow_nonvol (s : State) (p : PairPath) (b : Bytes) : (s.follow p b).nonvol = s.nonvol := by simp [State.follow]
@[simp] theorem takeHeartbeat_nonvol (s : State) (p : PairPath) (b : Bytes) : (s.takeHeartbeat p b).nonvol = s.nonvol := by simp [State.takeHeartbeat]
@[simp] theorem takeTakeover_nonvol (s : State) (p : PairPath) (b : Bytes) : (s.takeTakeover p b).nonvol = s.nonvol := by simp [State.takeTakeover]
@[simp] theorem adoptTag_nonvol (s : State) (verb : Nat) (x : Sentence) (phase : Phase) : (s.adoptTag verb x phase).nonvol = s.nonvol := by rfl
@[simp] theorem replayRequests_nonvol (s : State) : (s.replayRequests).nonvol = s.nonvol := by simp [State.replayRequests]
@[simp] theorem finishAccepted_nonvol (s : State) (m : Mirrored) : (s.finishAccepted m).nonvol = s.nonvol := by
  unfold State.finishAccepted
  dsimp only
  (repeat' split) <;> simp
@[simp] theorem adoptStaged_nonvol (s : State) : (s.adoptStaged).nonvol = s.nonvol := by simp [State.adoptStaged]
@[simp] theorem resendClose_nonvol (s : State) (i : Nat) (c : Close) : (s.resendClose i c).nonvol = s.nonvol := by
  simp [State.resendClose]
  split <;> simp
@[simp] theorem resendReduction_nonvol (s : State) : (s.resendReduction).nonvol = s.nonvol := by simp [State.resendReduction]
@[simp] theorem refreshDomains_nonvol (s : State) : (s.refreshDomains).nonvol = s.nonvol := by rfl
@[simp] theorem takeover_nonvol (s : State) (cause : Nat) : (s.takeover cause).nonvol = s.nonvol := by simp [State.takeover]
@[simp] theorem takeRelinquish_nonvol (s : State) (p : PairPath) (b : Bytes) :
    (s.takeRelinquish p b).nonvol = s.nonvol := by simp [State.takeRelinquish]

/-! ### Fabric -/

@[simp] theorem fetchRequest_nonvol (s : State) (n : Fin 64) (e : HostEntry) : (s.fetchRequest n e).nonvol = s.nonvol := by simp [State.fetchRequest]
@[simp] theorem discardFrame_nonvol (s : State) (port : Nat) : (s.discardFrame port).nonvol = s.nonvol := by rfl
@[simp] theorem sendOnward_nonvol (s : State) (src : Word) (kind etherType n : Nat) (os : List Onward) :
    (s.sendOnward src kind etherType n os).nonvol = s.nonvol := by
  induction n generalizing s os with
  | zero => rfl
  | succ n ih =>
    cases os with
    | nil => rfl
    | cons o os => rw [State.sendOnward, ih, enqueue_nonvol]
@[simp] theorem takeNotice_nonvol (s : State) (p : PairPath) (b : Bytes) :
    (s.takeNotice p b).nonvol = s.nonvol := by unfold State.takeNotice; split <;> simp
theorem pass_nonvol (r : Routed) (port : Nat) (o : Option Onward) : (r.pass port o).1.nonvol = r.1.nonvol := by
  cases o <;> simp [Routed.pass]

theorem routeSentence_nonvol (port : Nat) (src : Word) (r : Routed) (b : Bytes) : (routeSentence port src r b).1.nonvol = r.1.nonvol := by
  unfold routeSentence
  dsimp only
  split
  · simp
  · split <;> simp [pass_nonvol]

theorem routeReply_nonvol (port : Nat) (src : Word) (r : Routed) (b : Bytes) : (routeReply port src r b).1.nonvol = r.1.nonvol := by
  unfold routeReply
  dsimp only
  split
  · simp
  · split <;> simp [pass_nonvol]

theorem routeRequest_nonvol (port : Fin 17) (src : Word) (f : Frame) (r : Routed) (b : Bytes) :
    (routeRequest port src f r b).1.nonvol = r.1.nonvol := by
  unfold routeRequest
  dsimp only
  split
  · simp
  · split <;> simp [pass_nonvol]

theorem routeResponse_nonvol (port : Nat) (f : Frame) (r : Routed) (b : Bytes) : (routeResponse port f r b).1.nonvol = r.1.nonvol := by
  unfold routeResponse
  dsimp only
  split <;> simp [pass_nonvol]

theorem routed_nonvol {f : Routed → Bytes → Routed} (h : ∀ r b, (f r b).1.nonvol = r.1.nonvol) (is : List Bytes) (r : Routed) :
    (is.foldl f r).1.nonvol = r.1.nonvol := by
  induction is generalizing r with
  | nil => rfl
  | cons b is ih => rw [List.foldl_cons, ih, h]

@[simp] theorem takeItems_nonvol (s : State) (port : Fin 17) (f : Frame) (kind : Nat) (is : List Bytes) :
    (State.takeItems s port f kind is).nonvol = s.nonvol := by
  unfold State.takeItems
  dsimp only
  split
  · simp
  · simp
  · simp
  · rw [sendOnward_nonvol]
    refine routed_nonvol (fun r b => ?_) _ _
    split
    · exact routeSentence_nonvol ..
    · exact routeReply_nonvol ..
    · exact routeRequest_nonvol ..
    · exact routeResponse_nonvol ..

/-! ## Commands -/

/-- Where an outcome is a next state, that state has the flash and the fuses of s. -/
def KeepsNonvol (s : State) (o : Host.Outcome State Fault Refusal) : Prop := ∀ t, o = .next t → t.nonvol = s.nonvol

theorem keepsNonvol_finish {s t : State} (h : t.nonvol = s.nonvol) : KeepsNonvol s (finish s t) := by
  rintro _ ⟨⟩
  exact h

/-! ### Device -/

@[simp] theorem execNop_nonvol (x : Sentence) (s : State) : KeepsNonvol s (execNop x s) := keepsNonvol_finish (by simp)
@[simp] theorem execGetVersion_nonvol (x : Sentence) (s : State) : KeepsNonvol s (execGetVersion x s) := keepsNonvol_finish (by simp)
@[simp] theorem execGetCaps_nonvol (x : Sentence) (s : State) : KeepsNonvol s (execGetCaps x s) := keepsNonvol_finish (by simp)
@[simp] theorem execGetVerbCounters_nonvol (x : Sentence) (s : State) : KeepsNonvol s (execGetVerbCounters x s) := keepsNonvol_finish (by simp)
@[simp] theorem execSetTransport_nonvol (x : Sentence) (s : State) : KeepsNonvol s (execSetTransport x s) := keepsNonvol_finish (by simp)
@[simp] theorem execSetOid_nonvol (x : Sentence) (s : State) : KeepsNonvol s (execSetOid x s) := keepsNonvol_finish (by simp)
@[simp] theorem execStage_nonvol (x : Sentence) (s : State) : KeepsNonvol s (execStage x s) := keepsNonvol_finish (by simp)
@[simp] theorem execCommit_nonvol (x : Sentence) (s : State) : KeepsNonvol s (execCommit x s) := keepsNonvol_finish (by simp)
@[simp] theorem execDiscard_nonvol (x : Sentence) (s : State) : KeepsNonvol s (execDiscard x s) := keepsNonvol_finish (by simp)
@[simp] theorem execGetStaged_nonvol (x : Sentence) (s : State) : KeepsNonvol s (execGetStaged x s) := keepsNonvol_finish (by simp)
@[simp] theorem execStageExpiry_nonvol (r : Requester) (s : State) : KeepsNonvol s (execStageExpiry r s) := by
  refine keepsNonvol_finish ?_
  dsimp only
  split <;> simp

/-! ### Transport -/

@[simp] theorem execQpEnable_nonvol (n : Fin 64) (msiEn : Bool) (s : State) : KeepsNonvol s (execQpEnable n msiEn s) := keepsNonvol_finish (by simp)
@[simp] theorem execQpDisable_nonvol (n : Fin 64) (msiEn : Bool) (s : State) : KeepsNonvol s (execQpDisable n msiEn s) := keepsNonvol_finish (by simp)
@[simp] theorem execQpSqTailDoorbell_nonvol (n : Fin 64) (v : Word) (s : State) : KeepsNonvol s (execQpSqTailDoorbell n v s) := keepsNonvol_finish
    (by simp)
@[simp] theorem execQpCqHeadDoorbell_nonvol (n : Fin 64) (v : Word) (s : State) : KeepsNonvol s (execQpCqHeadDoorbell n v s) := keepsNonvol_finish
    (by simp)
@[simp] theorem execSubmissionReadFail_nonvol (n : Fin 64) (s : State) : KeepsNonvol s (execSubmissionReadFail n s) := keepsNonvol_finish (by simp)
@[simp] theorem execMailboxGo_nonvol (p : Fin 64) (len : BitVec 9) (s : State) : KeepsNonvol s (execMailboxGo p len s) := keepsNonvol_finish (by simp)
@[simp] theorem execDtcOriginatedReply_nonvol (p : Fin 64) (_l : LinkId) (reply : Bytes) (s : State) : KeepsNonvol s (execDtcOriginatedReply p _l
    reply s) := keepsNonvol_finish (by simp)
@[simp] theorem execForwardedReplyReceive_nonvol (p : Fin 64) (_l : LinkId) (reply : Bytes) (s : State) : KeepsNonvol s (execForwardedReplyReceive p
    _l reply s) := keepsNonvol_finish (by simp)
@[simp] theorem execForwardResendTimeout_nonvol (p : Fin 64) (ftag : Word) (s : State) : KeepsNonvol s (execForwardResendTimeout p ftag s) := by
  refine keepsNonvol_finish ?_
  dsimp only
  split <;> simp
@[simp] theorem execForwardLinkTimeout_nonvol (p : Fin 64) (ftag : Word) (s : State) : KeepsNonvol s (execForwardLinkTimeout p ftag s) := by
  refine keepsNonvol_finish ?_
  split <;> simp

/-! ### Collection -/

@[simp] theorem execTapCodeInvalid_nonvol (p g line : Fin 64) (code : BitVec 3) (s : State) : KeepsNonvol s (execTapCodeInvalid p g line code s) :=
    keepsNonvol_finish (by simp)
@[simp] theorem execTapGroupClockEdge_nonvol (p g : Fin 64) (codes : List (BitVec 3)) (s : State) : KeepsNonvol s (execTapGroupClockEdge p g codes s)
    := keepsNonvol_finish (by simp)
@[simp] theorem execTapAliveChange_nonvol (p g : Fin 64) (alive : Bool) (s : State) : KeepsNonvol s (execTapAliveChange p g alive s) :=
    keepsNonvol_finish (by simp)
@[simp] theorem execSensorSample_nonvol (p chan : Fin 64) (word : BitVec 20) (fromRpd : Bool) (s : State) : KeepsNonvol s (execSensorSample p chan
    word fromRpd s) := keepsNonvol_finish (by simp)
@[simp] theorem execSensorStale_nonvol (p chan : Fin 64) (s : State) : KeepsNonvol s (execSensorStale p chan s) := keepsNonvol_finish (by simp)
@[simp] theorem execQueueStateUpdate_nonvol (p : Fin 64) (q : Fin 256) (st : QueueState) (s : State) : KeepsNonvol s (execQueueStateUpdate p q st s)
    := keepsNonvol_finish (by simp)
@[simp] theorem execHangEvaluation_nonvol (p : Fin 64) (s : State) : KeepsNonvol s (execHangEvaluation p s) := keepsNonvol_finish (by simp)
@[simp] theorem execHostEvent_nonvol (p unit : Fin 64) (code data : BitVec 16) (s : State) : KeepsNonvol s (execHostEvent p unit code data s) :=
    keepsNonvol_finish (by simp)
@[simp] theorem execEventRingAgeCheck_nonvol (p : Fin 64) (s : State) : KeepsNonvol s (execEventRingAgeCheck p s) := keepsNonvol_finish (by simp)
@[simp] theorem execSramEccError_nonvol (p : Fin 64) (hit : EccHit) (s : State) : KeepsNonvol s (execSramEccError p hit s) := keepsNonvol_finish (by
    simp)
@[simp] theorem execHmResponseBeat_nonvol (p : Fin 64) (data : Bytes) (last err : Bool) (s : State) : KeepsNonvol s (execHmResponseBeat p data last
    err s) := by
  refine keepsNonvol_finish ?_
  dsimp only
  (repeat' split) <;> simp
@[simp] theorem execHmResponseTimeout_nonvol (p : Fin 64) (s : State) : KeepsNonvol s (execHmResponseTimeout p s) := by
  refine keepsNonvol_finish ?_
  dsimp only
  split <;> simp
@[simp] theorem execCaptureEdge_nonvol (part : Part) (i : Fin 16) (rising : Bool) (phase : Fin 8) (s : State) : KeepsNonvol s
    (execCaptureEdge part i rising phase s) := by
  refine keepsNonvol_finish ?_
  split <;> simp
@[simp] theorem execSetCounterSet_nonvol (x : Sentence) (s : State) : KeepsNonvol s (execSetCounterSet x s) := keepsNonvol_finish (by simp)
@[simp] theorem execReadCounters_nonvol (x : Sentence) (s : State) : KeepsNonvol s (execReadCounters x s) := keepsNonvol_finish (by simp)
@[simp] theorem execFreezeCounters_nonvol (x : Sentence) (s : State) : KeepsNonvol s (execFreezeCounters x s) := keepsNonvol_finish (by simp)
@[simp] theorem execSetReduction_nonvol (x : Sentence) (s : State) : KeepsNonvol s (execSetReduction x s) := keepsNonvol_finish (by simp)
@[simp] theorem execSetHistogram_nonvol (x : Sentence) (s : State) : KeepsNonvol s (execSetHistogram x s) := keepsNonvol_finish (by simp)
@[simp] theorem execReadSensors_nonvol (x : Sentence) (s : State) : KeepsNonvol s (execReadSensors x s) := keepsNonvol_finish (by simp)
@[simp] theorem execReadEventRing_nonvol (x : Sentence) (s : State) : KeepsNonvol s (execReadEventRing x s) := keepsNonvol_finish (by simp)
@[simp] theorem execReadHang_nonvol (x : Sentence) (s : State) : KeepsNonvol s (execReadHang x s) := keepsNonvol_finish (by simp)
@[simp] theorem execSetCheckValue_nonvol (x : Sentence) (s : State) : KeepsNonvol s (execSetCheckValue x s) := keepsNonvol_finish (by simp)
@[simp] theorem execScanStart_nonvol (x : Sentence) (s : State) : KeepsNonvol s (execScanStart x s) := keepsNonvol_finish (by simp)
@[simp] theorem execScanAbort_nonvol (x : Sentence) (s : State) : KeepsNonvol s (execScanAbort x s) := keepsNonvol_finish (by simp)

/-! ### Integration -/

@[simp] theorem execDtcColdReset_nonvol (p : Fin 64) (ties : DtcTies) (s : State) : KeepsNonvol s (execDtcColdReset p ties s) := keepsNonvol_finish
    (by simp)
@[simp] theorem execDtcReset_nonvol (p : Fin 64) (ties : DtcTies) (s : State) : KeepsNonvol s (execDtcReset p ties s) := keepsNonvol_finish (by simp)
@[simp] theorem execAdpResetGo_nonvol (p : Fin 64) (ties : DtcTies) (s : State) : KeepsNonvol s (execAdpResetGo p ties s) := keepsNonvol_finish (by
    simp)
@[simp] theorem execDtcReady_nonvol (p : Fin 64) (s : State) : KeepsNonvol s (execDtcReady p s) := keepsNonvol_finish (by simp)
@[simp] theorem execTrbUnmappedRead_nonvol (p : Fin 64) (off : BitVec 16) (s : State) : KeepsNonvol s (execTrbUnmappedRead p off s) := by
  refine keepsNonvol_finish ?_
  simp
  split <;> simp
@[simp] theorem execTrbRegisterWrite_nonvol (p : Fin 64) (off : BitVec 16) (enables : BitVec 4) (v : Word) (s : State) : KeepsNonvol s
    (execTrbRegisterWrite p off enables v s) := keepsNonvol_finish (by simp)

/-! ### Trace -/

@[simp] theorem execTraceSourceCycle_nonvol (part : Part) (src : Fin 68) (cy : TraceCycle) (s : State) : KeepsNonvol s
    (execTraceSourceCycle part src cy s) := keepsNonvol_finish (by simp)
@[simp] theorem execTraceMergerTurn_nonvol (part : Part) (s : State) : KeepsNonvol s (execTraceMergerTurn part s) := keepsNonvol_finish (by
    simp)
@[simp] theorem execMergeFillThreshold_nonvol (part : Part) (s : State) : KeepsNonvol s (execMergeFillThreshold part s) :=
    keepsNonvol_finish (by simp)
@[simp] theorem execTraceRecordTimeout_nonvol (p : Fin 64) (s : State) : KeepsNonvol s (execTraceRecordTimeout p s) := keepsNonvol_finish (by simp)
@[simp] theorem execTraceRecordReceive_nonvol (p : Fin 64) (body : Bytes) (s : State) : KeepsNonvol s (execTraceRecordReceive p body s) :=
    keepsNonvol_finish (by simp)
@[simp] theorem execSinkRingPoll_nonvol (stream : Fin 65) (readOffset : BitVec 64) (s : State) : KeepsNonvol s (execSinkRingPoll stream readOffset s)
    := keepsNonvol_finish (by simp)
@[simp] theorem execSetTraceSource_nonvol (x : Sentence) (s : State) : KeepsNonvol s (execSetTraceSource x s) := keepsNonvol_finish (by simp)
@[simp] theorem execSetTraceSink_nonvol (x : Sentence) (s : State) : KeepsNonvol s (execSetTraceSink x s) := keepsNonvol_finish (by simp)
@[simp] theorem execTraceFlush_nonvol (x : Sentence) (s : State) : KeepsNonvol s (execTraceFlush x s) := keepsNonvol_finish (by simp)
@[simp] theorem execGetTraceStatus_nonvol (x : Sentence) (s : State) : KeepsNonvol s (execGetTraceStatus x s) := keepsNonvol_finish (by simp)

/-! ### LinkBase -/

@[simp] theorem execTrainingBlockReceive_nonvol (q : PortEnd) (l : LinkId) (lane : Fin 3) (word0 word1 : Word) (rest : Bytes) (s : State) :
    KeepsNonvol s (execTrainingBlockReceive q l lane word0 word1 rest s) := keepsNonvol_finish (by simp)
@[simp] theorem execLaneLockChange_nonvol (q : PortEnd) (lane : Fin 6) (lock : Bool) (txlat rxlat : BitVec 16) (s : State) : KeepsNonvol s
    (execLaneLockChange q lane lock txlat rxlat s) := keepsNonvol_finish (by simp)
@[simp] theorem execLinkEnterService_nonvol (side : Side) (p : Fin 64) (l : LinkId) (s : State) : KeepsNonvol s (execLinkEnterService side p l s) :=
    keepsNonvol_finish (by simp)
@[simp] theorem execLinkLeaveService_nonvol (side : Side) (p : Fin 64) (l : LinkId) (s : State) : KeepsNonvol s (execLinkLeaveService side p l s) :=
    keepsNonvol_finish (by simp)
@[simp] theorem execLinkHoldExpiry_nonvol (side : Side) (p : Fin 64) (l : LinkId) (s : State) : KeepsNonvol s (execLinkHoldExpiry side p l s) :=
    keepsNonvol_finish (by simp)
@[simp] theorem execFcrcWindowEnd_nonvol (side : Side) (p : Fin 64) (l : LinkId) (s : State) : KeepsNonvol s (execFcrcWindowEnd side p l s) :=
    keepsNonvol_finish (by simp)
@[simp] theorem execLinkCtrlRetrainReceive_nonvol (side : Side) (p : Fin 64) (l : LinkId) (s : State) : KeepsNonvol s (execLinkCtrlRetrainReceive
    side p l s) := keepsNonvol_finish (by simp)

/-! ### Time -/

@[simp] theorem execGetTime_nonvol (x : Sentence) (s : State) : KeepsNonvol s (execGetTime x s) := keepsNonvol_finish (by simp)
@[simp] theorem execSetIncrement_nonvol (x : Sentence) (s : State) : KeepsNonvol s (execSetIncrement x s) := keepsNonvol_finish (by simp)
@[simp] theorem execPhaseAdd_nonvol (x : Sentence) (s : State) : KeepsNonvol s (execPhaseAdd x s) := keepsNonvol_finish (by simp)
@[simp] theorem execSetTime_nonvol (x : Sentence) (s : State) : KeepsNonvol s (execSetTime x s) := keepsNonvol_finish (by simp)
@[simp] theorem execSetDomainState_nonvol (x : Sentence) (s : State) : KeepsNonvol s (execSetDomainState x s) := keepsNonvol_finish (by simp)
@[simp] theorem execSetSelection_nonvol (x : Sentence) (s : State) : KeepsNonvol s (execSetSelection x s) := keepsNonvol_finish (by simp)
@[simp] theorem execGetSelection_nonvol (x : Sentence) (s : State) : KeepsNonvol s (execGetSelection x s) := keepsNonvol_finish (by simp)
@[simp] theorem execSetAsymmetry_nonvol (x : Sentence) (s : State) : KeepsNonvol s (execSetAsymmetry x s) := keepsNonvol_finish (by simp)
@[simp] theorem execSetTrigger_nonvol (x : Sentence) (s : State) : KeepsNonvol s (execSetTrigger x s) := keepsNonvol_finish (by simp)
@[simp] theorem execGetTrigger_nonvol (x : Sentence) (s : State) : KeepsNonvol s (execGetTrigger x s) := keepsNonvol_finish (by simp)
@[simp] theorem execSetCapture_nonvol (x : Sentence) (s : State) : KeepsNonvol s (execSetCapture x s) := keepsNonvol_finish (by simp)
@[simp] theorem execReadCaptures_nonvol (x : Sentence) (s : State) : KeepsNonvol s (execReadCaptures x s) := keepsNonvol_finish (by simp)
@[simp] theorem execSetFreqSource_nonvol (x : Sentence) (s : State) : KeepsNonvol s (execSetFreqSource x s) := keepsNonvol_finish (by simp)
@[simp] theorem execSetPtpPort_nonvol (x : Sentence) (s : State) : KeepsNonvol s (execSetPtpPort x s) := keepsNonvol_finish (by simp)
@[simp] theorem execGetPtpPort_nonvol (x : Sentence) (s : State) : KeepsNonvol s (execGetPtpPort x s) := keepsNonvol_finish (by simp)
@[simp] theorem execSelectionEvaluation_nonvol (s : State) : KeepsNonvol s (execSelectionEvaluation s) := keepsNonvol_finish (by simp)
@[simp] theorem execWaitToRestoreExpiry_nonvol (s : State) : KeepsNonvol s (execWaitToRestoreExpiry s) := by
  refine keepsNonvol_finish ?_
  split <;> simp
@[simp] theorem execResidualReachesZero_nonvol (part : Part) (s : State) : KeepsNonvol s (execResidualReachesZero part s) := by
  refine keepsNonvol_finish ?_
  split <;> simp
@[simp] theorem execDomainWatchdogExpiry_nonvol (d : Fin 2) (s : State) : KeepsNonvol s (execDomainWatchdogExpiry d s) := keepsNonvol_finish (by simp)
@[simp] theorem execPpsSilenceTimeout_nonvol (d : Fin 2) (s : State) : KeepsNonvol s (execPpsSilenceTimeout d s) := by
  refine keepsNonvol_finish ?_
  dsimp only
  split <;> simp
@[simp] theorem execPpsPulse_nonvol (i : Fin 2) (phase : Fin 8) (s : State) : KeepsNonvol s (execPpsPulse i phase s) := keepsNonvol_finish (by simp)
@[simp] theorem execTodMessage_nonvol (i : Fin 2) (msg : Bytes) (s : State) : KeepsNonvol s (execTodMessage i msg s) := keepsNonvol_finish (by simp)
@[simp] theorem execPtpMessageReceive_nonvol (port : Fin 17) (m : PtpMessage) (s : State) : KeepsNonvol s (execPtpMessageReceive port m s) := by
  refine keepsNonvol_finish ?_
  dsimp only
  (repeat' split) <;> simp
@[simp] theorem execPtpMessageSend_nonvol (port : Fin 17) (kind : PtpSend) (s : State) : KeepsNonvol s (execPtpMessageSend port kind s) :=
    keepsNonvol_finish (by simp)
@[simp] theorem execEsmcReceive_nonvol (port : Fin 16) (ql : Byte) (s : State) : KeepsNonvol s (execEsmcReceive port ql s) := keepsNonvol_finish (by
    simp)
@[simp] theorem execEsmcSend_nonvol (port : Fin 16) (s : State) : KeepsNonvol s (execEsmcSend port s) := keepsNonvol_finish (by simp)
@[simp] theorem execFreqReferenceChange_nonvol (cand : Byte) (los : Bool) (s : State) : KeepsNonvol s (execFreqReferenceChange cand los s) :=
    keepsNonvol_finish (by simp)
@[simp] theorem execTriggerEdge_nonvol (part : Part) (i : Fin 16) (s : State) : KeepsNonvol s (execTriggerEdge part i s) := by
  refine keepsNonvol_finish ?_
  split <;> simp
@[simp] theorem execTimeW0Read_nonvol (part : Part) (s : State) : KeepsNonvol s (execTimeW0Read part s) := by
  refine keepsNonvol_finish ?_
  split <;> simp

/-! ### Link -/

@[simp] theorem execJournalFrameBuild_nonvol (p : Fin 64) (s : State) : KeepsNonvol s (execJournalFrameBuild p s) := keepsNonvol_finish (by simp)
@[simp] theorem execLinkSlot_nonvol (side : Side) (p : Fin 64) (l : LinkId) (s : State) : KeepsNonvol s (execLinkSlot side p l s) := by
  refine keepsNonvol_finish ?_
  dsimp only
  (repeat' split) <;> simp
@[simp] theorem execTimeEchoSend_nonvol (p : Fin 64) (l : LinkId) (s : State) : KeepsNonvol s (execTimeEchoSend p l s) := keepsNonvol_finish (by simp)
@[simp] theorem execAckReceive_nonvol (p : Fin 64) (l : LinkId) (nextSeq : Word) (missing : List Word) (s : State) : KeepsNonvol s (execAckReceive p
    l nextSeq missing s) := keepsNonvol_finish (by simp)
@[simp] theorem execJournalResendTimeout_nonvol (p : Fin 64) (l : LinkId) (s : State) : KeepsNonvol s (execJournalResendTimeout p l s) := by
  refine keepsNonvol_finish ?_
  dsimp only
  split <;> simp
@[simp] theorem execLinkCtrlResume_nonvol (p : Fin 64) (l : LinkId) (seq : Word) (s : State) : KeepsNonvol s (execLinkCtrlResume p l seq s) :=
    keepsNonvol_finish (by simp)
@[simp] theorem execLinkCtrlStart_nonvol (p : Fin 64) (l : LinkId) (seq : Word) (reset : Bool) (s : State) : KeepsNonvol s (execLinkCtrlStart p l seq
    reset s) := keepsNonvol_finish (by simp)
@[simp] theorem execBeaconSend_nonvol (p : Fin 64) (s : State) : KeepsNonvol s (execBeaconSend p s) := keepsNonvol_finish (by simp)
@[simp] theorem execBeaconReceive_nonvol (p : Fin 64) (l : LinkId) (data : Bytes) (s : State) : KeepsNonvol s (execBeaconReceive p l data s) :=
    keepsNonvol_finish (by simp)
@[simp] theorem execDtcEpochTick_nonvol (p : Fin 64) (s : State) : KeepsNonvol s (execDtcEpochTick p s) := keepsNonvol_finish (by simp)
@[simp] theorem execCollectionConfigActivation_nonvol (p : Fin 64) (s : State) : KeepsNonvol s (execCollectionConfigActivation p s) :=
    keepsNonvol_finish (by simp)
@[simp] theorem execTimeEchoReceive_nonvol (p : Fin 64) (data : Bytes) (s : State) : KeepsNonvol s (execTimeEchoReceive p data s) :=
    keepsNonvol_finish (by simp)
@[simp] theorem execDtcDiscipline_nonvol (p : Fin 64) (s : State) : KeepsNonvol s (execDtcDiscipline p s) := keepsNonvol_finish (by simp)
@[simp] theorem execDtcHoldoverEntry_nonvol (p : Fin 64) (s : State) : KeepsNonvol s (execDtcHoldoverEntry p s) := keepsNonvol_finish (by simp)
@[simp] theorem execLinkFrameReceive_nonvol (side : Side) (p : Fin 64) (l : LinkId) (frame : Bytes) (s : State) : KeepsNonvol s (execLinkFrameReceive
    side p l frame s) := by
  refine keepsNonvol_finish ?_
  simp
  split <;> simp
@[simp] theorem execGetLinkStatus_nonvol (x : Sentence) (s : State) : KeepsNonvol s (execGetLinkStatus x s) := keepsNonvol_finish (by simp)
@[simp] theorem execLinkRetrain_nonvol (x : Sentence) (s : State) : KeepsNonvol s (execLinkRetrain x s) := keepsNonvol_finish (by simp)
@[simp] theorem execLinkPrbs31Test_nonvol (x : Sentence) (s : State) : KeepsNonvol s (execLinkPrbs31Test x s) := keepsNonvol_finish (by simp)
@[simp] theorem execLinkLoopbackTest_nonvol (x : Sentence) (s : State) : KeepsNonvol s (execLinkLoopbackTest x s) := keepsNonvol_finish (by simp)
@[simp] theorem execLinkTakeOutOfService_nonvol (x : Sentence) (s : State) : KeepsNonvol s (execLinkTakeOutOfService x s) := keepsNonvol_finish (by
    simp)
@[simp] theorem execLinkReturnToService_nonvol (x : Sentence) (s : State) : KeepsNonvol s (execLinkReturnToService x s) := keepsNonvol_finish (by
    simp)
@[simp] theorem execLaneSwapRetire_nonvol (x : Sentence) (s : State) : KeepsNonvol s (execLaneSwapRetire x s) := keepsNonvol_finish (by simp)
@[simp] theorem execLaneSwapSetAutomatic_nonvol (x : Sentence) (s : State) : KeepsNonvol s (execLaneSwapSetAutomatic x s) := keepsNonvol_finish (by
    simp)
@[simp] theorem execSetCompression_nonvol (x : Sentence) (s : State) : KeepsNonvol s (execSetCompression x s) := keepsNonvol_finish (by simp)
@[simp] theorem execGetJournal_nonvol (x : Sentence) (s : State) : KeepsNonvol s (execGetJournal x s) := keepsNonvol_finish (by simp)

/-! ### Sync -/

@[simp] theorem execSyncInit_nonvol (x : Sentence) (s : State) : KeepsNonvol s (execSyncInit x s) := keepsNonvol_finish (by simp)
@[simp] theorem execSyncPost_nonvol (x : Sentence) (s : State) : KeepsNonvol s (execSyncPost x s) := keepsNonvol_finish (by simp)
@[simp] theorem execSyncPostOrdered_nonvol (x : Sentence) (s : State) : KeepsNonvol s (execSyncPostOrdered x s) := keepsNonvol_finish (by simp)
@[simp] theorem execSyncWait_nonvol (x : Sentence) (s : State) : KeepsNonvol s (execSyncWait x s) := keepsNonvol_finish (by simp)
@[simp] theorem execSyncRead_nonvol (x : Sentence) (s : State) : KeepsNonvol s (execSyncRead x s) := keepsNonvol_finish (by simp)
@[simp] theorem execWaitTimeout_nonvol (o : BitVec 15) (r : Requester) (tag : Word) (s : State) : KeepsNonvol s (execWaitTimeout o r tag s) := by
  refine keepsNonvol_finish ?_
  dsimp only
  split <;> simp
@[simp] theorem execOrderedPostApply_nonvol (r : Requester) (tag : Word) (s : State) : KeepsNonvol s (execOrderedPostApply r tag s) := by
  refine keepsNonvol_finish ?_
  dsimp only
  (repeat' split) <;> simp
@[simp] theorem execOrderedPostTimeout_nonvol (r : Requester) (tag : Word) (s : State) : KeepsNonvol s (execOrderedPostTimeout r tag s) := by
  refine keepsNonvol_finish ?_
  split <;> simp
@[simp] theorem execSyncDoorbell_nonvol (o : BitVec 15) (v : Word) (s : State) : KeepsNonvol s (execSyncDoorbell o v s) := keepsNonvol_finish (by
    simp)
@[simp] theorem execDeadlockScan_nonvol (s : State) : KeepsNonvol s (execDeadlockScan s) := by
  refine keepsNonvol_finish ?_
  dsimp only
  (repeat' split) <;> simp
@[simp] theorem execGetHang_nonvol (x : Sentence) (s : State) : KeepsNonvol s (execGetHang x s) := keepsNonvol_finish (by simp)
@[simp] theorem execForceFailover_nonvol (x : Sentence) (s : State) : KeepsNonvol s (execForceFailover x s) := keepsNonvol_finish (by simp)
@[simp] theorem execResetDtc_nonvol (x : Sentence) (s : State) : KeepsNonvol s (execResetDtc x s) := keepsNonvol_finish (by simp)
@[simp] theorem execGetPairStatus_nonvol (x : Sentence) (s : State) : KeepsNonvol s (execGetPairStatus x s) := keepsNonvol_finish (by simp)

/-! ### Network -/

@[simp] theorem execGateListActivation_nonvol (port : Fin 16) (s : State) : KeepsNonvol s (execGateListActivation port s) := by
  refine keepsNonvol_finish ?_
  dsimp only
  split <;> simp
@[simp] theorem execGateEntryBoundary_nonvol (port : Fin 16) (s : State) : KeepsNonvol s (execGateEntryBoundary port s) := by
  refine keepsNonvol_finish ?_
  dsimp only
  split <;> simp
@[simp] theorem execEgressSelect_nonvol (port : Fin 17) (s : State) : KeepsNonvol s (execEgressSelect port s) := by
  refine keepsNonvol_finish ?_
  dsimp only
  (repeat' split) <;> simp
@[simp] theorem execBucketRefill_nonvol (s : State) : KeepsNonvol s (execBucketRefill s) := keepsNonvol_finish (by simp)
@[simp] theorem execPolicerMemoryError_nonvol (addr : Word) (s : State) : KeepsNonvol s (execPolicerMemoryError addr s) := keepsNonvol_finish (by
    simp)
@[simp] theorem execPolicerRewriteComplete_nonvol (s : State) : KeepsNonvol s (execPolicerRewriteComplete s) := keepsNonvol_finish (by simp)
@[simp] theorem execLaneMarginAlarm_nonvol (w : LanePlace) (lane : Fin 5) (margin : Byte) (s : State) : KeepsNonvol s (execLaneMarginAlarm w lane
    margin s) := by
  refine keepsNonvol_finish ?_
  split <;> simp
@[simp] theorem execSwapReqReceive_nonvol (w : LanePlace) (lane : Fin 5) (s : State) : KeepsNonvol s (execSwapReqReceive w lane s) := by
  refine keepsNonvol_finish ?_
  split <;> simp
@[simp] theorem execSwapMirrorReceive_nonvol (w : LanePlace) (lane : Fin 5) (matched : Bool) (s : State) : KeepsNonvol s (execSwapMirrorReceive w
    lane matched s) := by
  refine keepsNonvol_finish ?_
  split <;> simp
@[simp] theorem execSwapDoneReceive_nonvol (w : LanePlace) (lane : Option (Fin 5)) (s : State) : KeepsNonvol s (execSwapDoneReceive w lane s) := by
  refine keepsNonvol_finish ?_
  split <;> simp
@[simp] theorem execSwapTimeout_nonvol (w : LanePlace) (s : State) : KeepsNonvol s (execSwapTimeout w s) := by
  refine keepsNonvol_finish ?_
  split <;> simp
@[simp] theorem execPortSwapTimeout_nonvol (port : Fin 16) (s : State) : KeepsNonvol s (execPortSwapTimeout port s) := keepsNonvol_finish (by simp)
@[simp] theorem execPortHelloSend_nonvol (port : Fin 16) (s : State) : KeepsNonvol s (execPortHelloSend port s) := keepsNonvol_finish (by simp)
@[simp] theorem execPortControlReceive_nonvol (port : Fin 16) (op lane : Byte) (s : State) : KeepsNonvol s (execPortControlReceive port op lane s) :=
    keepsNonvol_finish (by simp)
@[simp] theorem execSpareFallbackTimeout_nonvol (port : Fin 16) (s : State) : KeepsNonvol s (execSpareFallbackTimeout port s) := keepsNonvol_finish
    (by simp)
@[simp] theorem execPortRetrain_nonvol (port : Fin 16) (cause : PortCause) (s : State) : KeepsNonvol s (execPortRetrain port cause s) :=
    keepsNonvol_finish (by simp)
@[simp] theorem execFecWindowEnd_nonvol (port : Fin 16) (uncorrectable : Nat) (s : State) : KeepsNonvol s (execFecWindowEnd port uncorrectable s) :=
    keepsNonvol_finish (by simp)
@[simp] theorem execPortOutageTimeout_nonvol (port : Fin 16) (s : State) : KeepsNonvol s (execPortOutageTimeout port s) := keepsNonvol_finish (by
    simp)
@[simp] theorem execPortInService_nonvol (port : Fin 16) (s : State) : KeepsNonvol s (execPortInService port s) := keepsNonvol_finish (by simp)
@[simp] theorem execRouteSet_nonvol (x : Sentence) (s : State) : KeepsNonvol s (execRouteSet x s) := keepsNonvol_finish (by simp)
@[simp] theorem execRouteGet_nonvol (x : Sentence) (s : State) : KeepsNonvol s (execRouteGet x s) := keepsNonvol_finish (by simp)
@[simp] theorem execPolicerSet_nonvol (x : Sentence) (s : State) : KeepsNonvol s (execPolicerSet x s) := keepsNonvol_finish (by simp)
@[simp] theorem execQueueSet_nonvol (x : Sentence) (s : State) : KeepsNonvol s (execQueueSet x s) := keepsNonvol_finish (by simp)
@[simp] theorem execShaperSet_nonvol (x : Sentence) (s : State) : KeepsNonvol s (execShaperSet x s) := keepsNonvol_finish (by simp)
@[simp] theorem execGateListSet_nonvol (x : Sentence) (s : State) : KeepsNonvol s (execGateListSet x s) := keepsNonvol_finish (by simp)
@[simp] theorem execGateListGet_nonvol (x : Sentence) (s : State) : KeepsNonvol s (execGateListGet x s) := keepsNonvol_finish (by simp)
@[simp] theorem execGetPortStatus_nonvol (x : Sentence) (s : State) : KeepsNonvol s (execGetPortStatus x s) := keepsNonvol_finish (by simp)

/-! ### Front -/

@[simp] theorem execVectorStart_nonvol (half : Fin 2) (s : State) : KeepsNonvol s (execVectorStart half s) := by
  refine keepsNonvol_finish ?_
  simp
  split <;> simp
@[simp] theorem execBodyIngest_nonvol (p : Fin 64) (s : State) : KeepsNonvol s (execBodyIngest p s) := by
  refine keepsNonvol_finish ?_
  dsimp only
  (repeat' split) <;> simp
@[simp] theorem execFeatureCutoff_nonvol (p : Fin 64) (s : State) : KeepsNonvol s (execFeatureCutoff p s) := by
  refine keepsNonvol_finish ?_
  split <;> simp

/-! ### Models -/

@[simp] theorem execLoadTimeout_nonvol (k : ModelKey) (s : State) : KeepsNonvol s (execLoadTimeout k s) := by
  refine keepsNonvol_finish ?_
  dsimp only
  (repeat' split) <;> simp
@[simp] theorem execFeatureMapEffective_nonvol (k : ModelKey) (s : State) : KeepsNonvol s (execFeatureMapEffective k s) := keepsNonvol_finish (by
    simp)
@[simp] theorem execPlaceCopyComplete_nonvol (k : ModelKey) (s : State) : KeepsNonvol s (execPlaceCopyComplete k s) := by
  refine keepsNonvol_finish ?_
  dsimp only
  split <;> simp
@[simp] theorem execPlacementEffective_nonvol (k : ModelKey) (s : State) : KeepsNonvol s (execPlacementEffective k s) := by
  refine keepsNonvol_finish ?_
  dsimp only
  (repeat' split) <;> simp
@[simp] theorem execUnloadEffective_nonvol (k : ModelKey) (s : State) : KeepsNonvol s (execUnloadEffective k s) := by
  refine keepsNonvol_finish ?_
  dsimp only
  split <;> simp
@[simp] theorem execLoadModel_nonvol (x : Sentence) (s : State) : KeepsNonvol s (execLoadModel x s) := keepsNonvol_finish (by simp)
@[simp] theorem execUnloadModel_nonvol (x : Sentence) (s : State) : KeepsNonvol s (execUnloadModel x s) := keepsNonvol_finish (by simp)
@[simp] theorem execPlaceModel_nonvol (x : Sentence) (s : State) : KeepsNonvol s (execPlaceModel x s) := keepsNonvol_finish (by simp)
@[simp] theorem execSetFeatureMap_nonvol (x : Sentence) (s : State) : KeepsNonvol s (execSetFeatureMap x s) := keepsNonvol_finish (by simp)
@[simp] theorem execOpenSequence_nonvol (x : Sentence) (s : State) : KeepsNonvol s (execOpenSequence x s) := keepsNonvol_finish (by simp)
@[simp] theorem execCloseSequence_nonvol (x : Sentence) (s : State) : KeepsNonvol s (execCloseSequence x s) := keepsNonvol_finish (by simp)
@[simp] theorem execGetJobs_nonvol (x : Sentence) (s : State) : KeepsNonvol s (execGetJobs x s) := keepsNonvol_finish (by simp)
@[simp] theorem execGetModelStatus_nonvol (x : Sentence) (s : State) : KeepsNonvol s (execGetModelStatus x s) := keepsNonvol_finish (by simp)

/-! ### Serve -/

@[simp] theorem execRequestReceive_nonvol (q : RequestIn) (s : State) : KeepsNonvol s (execRequestReceive q s) := by
  refine keepsNonvol_finish ?_
  simp
  split <;> simp
@[simp] theorem execResponseStoreExpiry_nonvol (s : State) : KeepsNonvol s (execResponseStoreExpiry s) := keepsNonvol_finish (by simp)
@[simp] theorem execVectorComplete_nonvol (half : Fin 2) (s : State) : KeepsNonvol s (execVectorComplete half s) := by
  refine keepsNonvol_finish ?_
  dsimp only
  (repeat' split) <;> simp
@[simp] theorem execWorkDispatch_nonvol (c : Fin 64) (s : State) : KeepsNonvol s (execWorkDispatch c s) := by
  refine keepsNonvol_finish ?_
  dsimp only
  (repeat' split) <;> simp
@[simp] theorem execDescriptorComplete_nonvol (t : Fin 4096) (s : State) : KeepsNonvol s (execDescriptorComplete t s) := by
  refine keepsNonvol_finish ?_
  dsimp only
  (repeat' split) <;> simp
@[simp] theorem execSequenceStep_nonvol (idx : Fin 65536) (s : State) : KeepsNonvol s (execSequenceStep idx s) := by
  refine keepsNonvol_finish ?_
  dsimp only
  (repeat' split) <;> simp
@[simp] theorem execStreamPassStart_nonvol (key : ModelKey) (s : State) : KeepsNonvol s (execStreamPassStart key s) := by
  refine keepsNonvol_finish ?_
  dsimp only
  split <;> simp
@[simp] theorem execStreamChunkLoaded_nonvol (key : ModelKey) (s : State) : KeepsNonvol s (execStreamChunkLoaded key s) := by
  refine keepsNonvol_finish ?_
  dsimp only
  split <;> simp
@[simp] theorem execTartletEccError_nonvol (t : Fin 4096) (region : MemRegion) (addr : Nat) (s : State) : KeepsNonvol s (execTartletEccError t region
    addr s) := by
  refine keepsNonvol_finish ?_
  dsimp only
  (repeat' split) <;> simp

/-! ### Power -/

@[simp] theorem execClusterReloadComplete_nonvol (c : Fin 64) (s : State) : KeepsNonvol s (execClusterReloadComplete c s) := keepsNonvol_finish (by
    simp)
@[simp] theorem execSlotReloadComplete_nonvol (t : Fin 4096) (bank : Fin 4) (slot : Fin 25) (s : State) : KeepsNonvol s (execSlotReloadComplete t
    bank slot s) := by
  refine keepsNonvol_finish ?_
  dsimp only
  split <;> simp
@[simp] theorem execClusterPowerUp_nonvol (s : State) : KeepsNonvol s (execClusterPowerUp s) := keepsNonvol_finish (by simp)

/-! ### Ageing -/

@[simp] theorem execAgeingSample_nonvol (samples : List IslandSample) (s : State) : KeepsNonvol s (execAgeingSample samples s) := by
  refine keepsNonvol_finish (nonvol_of_ite rfl (nonvol_foldl (fun t i => ?_) _ _))
  split <;> simp
@[simp] theorem execMarginPlanScheduled_nonvol (s : State) : KeepsNonvol s (execMarginPlanScheduled s) := keepsNonvol_finish (by simp)
@[simp] theorem execMarginPlanComplete_nonvol (s : State) : KeepsNonvol s (execMarginPlanComplete s) := by
  refine keepsNonvol_finish ?_
  (repeat' split) <;> simp
@[simp] theorem execMarginPlanApply_nonvol (acked : List (Nat × Bool)) (s : State) : KeepsNonvol s (execMarginPlanApply acked s) := by
  refine keepsNonvol_finish ?_
  (repeat' split) <;> simp
@[simp] theorem execFstepDecrease_nonvol (s : State) : KeepsNonvol s (execFstepDecrease s) := by
  refine keepsNonvol_finish ?_
  (repeat' split) <;> simp
@[simp] theorem execAgeingWeek_nonvol (s : State) : KeepsNonvol s (execAgeingWeek s) := by
  refine keepsNonvol_finish ?_
  dsimp only
  have series : ((List.range 97).foldl (fun t i =>
      { t with rel := { t.rel with series := Tbl.set {} i ((t.series i).push (t.island i).vstep) t.rel.series } }) s).nonvol = s.nonvol :=
    nonvol_foldl (fun _ _ => by rfl) _ _
  rw [nonvol_ite, raise_nonvol, ite_self, nonvol_mk, flash_fuses_eq_nonvol, nonvol_foldl (fun t e => nonvol_foldl (fun u c => channelWeek_nonvol ..) _ _),
    series]
@[simp] theorem execMarginRefresh_nonvol (readings : List MarginReading) (s : State) : KeepsNonvol s (execMarginRefresh readings s) :=
    keepsNonvol_finish (by simp)
@[simp] theorem execReadAgeing_nonvol (x : Sentence) (s : State) : KeepsNonvol s (execReadAgeing x s) := keepsNonvol_finish (by simp)
@[simp] theorem execRunMarginPlan_nonvol (x : Sentence) (s : State) : KeepsNonvol s (execRunMarginPlan x s) := keepsNonvol_finish (by simp)
@[simp] theorem execSetMarginSchedule_nonvol (x : Sentence) (s : State) : KeepsNonvol s (execSetMarginSchedule x s) := keepsNonvol_finish (by simp)
@[simp] theorem execGetMargins_nonvol (x : Sentence) (s : State) : KeepsNonvol s (execGetMargins x s) := keepsNonvol_finish (by simp)
@[simp] theorem execGetFuseStatus_nonvol (x : Sentence) (s : State) : KeepsNonvol s (execGetFuseStatus x s) := keepsNonvol_finish (by simp)

/-! ### Bar -/

@[simp] theorem execBarRegisterWrite_nonvol (reg : BarReg) (v : Word) (s : State) : KeepsNonvol s (execBarRegisterWrite reg v s) :=
    keepsNonvol_finish (by simp)

/-! ### Reduction -/

@[simp] theorem execNodeFold_nonvol (g : BitVec 24) (close : BitVec 64) (pass : Fin 3) (level : Fin 5) (s : State) : KeepsNonvol s (execNodeFold g
    close pass level s) := by
  refine keepsNonvol_finish ?_
  split <;> simp
@[simp] theorem execLocalContributionCutoff_nonvol (grp : BitVec 24) (s : State) : KeepsNonvol s (execLocalContributionCutoff grp s) := by
  refine keepsNonvol_finish ?_
  dsimp only
  split <;> simp
@[simp] theorem execStragglerCutoff_nonvol (grp : BitVec 24) (close : BitVec 64) (s : State) : KeepsNonvol s (execStragglerCutoff grp close s) := by
  refine keepsNonvol_finish ?_
  dsimp only
  split <;> simp
@[simp] theorem execCloseAbandon_nonvol (grp : BitVec 24) (close : BitVec 64) (s : State) : KeepsNonvol s (execCloseAbandon grp close s) := by
  refine keepsNonvol_finish ?_
  dsimp only
  split <;> simp
@[simp] theorem execReductionFrameReceive_nonvol (source : Word) (frame : Bytes) (s : State) : KeepsNonvol s (execReductionFrameReceive source frame
    s) := keepsNonvol_finish (by simp)
@[simp] theorem execGroupFenceTick_nonvol (g : BitVec 24) (s : State) : KeepsNonvol s (execGroupFenceTick g s) := keepsNonvol_finish (by simp)
@[simp] theorem execGroupChangeEffective_nonvol (g : BitVec 24) (s : State) : KeepsNonvol s (execGroupChangeEffective g s) := keepsNonvol_finish (by
    simp)
@[simp] theorem execGroupJoin_nonvol (x : Sentence) (s : State) : KeepsNonvol s (execGroupJoin x s) := keepsNonvol_finish (by simp)
@[simp] theorem execGroupLeave_nonvol (x : Sentence) (s : State) : KeepsNonvol s (execGroupLeave x s) := keepsNonvol_finish (by simp)
@[simp] theorem execGroupFence_nonvol (x : Sentence) (s : State) : KeepsNonvol s (execGroupFence x s) := keepsNonvol_finish (by simp)
@[simp] theorem execGroupSet_nonvol (x : Sentence) (s : State) : KeepsNonvol s (execGroupSet x s) := keepsNonvol_finish (by simp)
@[simp] theorem execGroupStatus_nonvol (x : Sentence) (s : State) : KeepsNonvol s (execGroupStatus x s) := keepsNonvol_finish (by simp)
@[simp] theorem execReadStragglers_nonvol (x : Sentence) (s : State) : KeepsNonvol s (execReadStragglers x s) := keepsNonvol_finish (by simp)
@[simp] theorem execSetBaseline_nonvol (x : Sentence) (s : State) : KeepsNonvol s (execSetBaseline x s) := keepsNonvol_finish (by simp)

/-! ### Reliability -/

@[simp] theorem execReplicaDigestScan_nonvol (m : ModelKey) (s : State) : KeepsNonvol s (execReplicaDigestScan m s) := by
  refine keepsNonvol_finish ?_
  dsimp only
  split <;> simp
@[simp] theorem execReplicaDigestComplete_nonvol (m : ModelKey) (found : List SlotFault) (s : State) : KeepsNonvol s (execReplicaDigestComplete m
    found s) := by
  refine keepsNonvol_finish ?_
  dsimp only
  split <;> simp
@[simp] theorem execScreenTestOutcome_nonvol (o : ScreenOutcome) (s : State) : KeepsNonvol s (execScreenTestOutcome o s) := by
  refine keepsNonvol_finish ?_
  (repeat' split) <;> simp
@[simp] theorem execPinEffective_nonvol (part : Part) (s : State) : KeepsNonvol s (execPinEffective part s) := by
  refine keepsNonvol_finish ?_
  dsimp only
  (repeat' split) <;> simp
@[simp] theorem execReadSilentErrors_nonvol (x : Sentence) (s : State) : KeepsNonvol s (execReadSilentErrors x s) := keepsNonvol_finish (by simp)
@[simp] theorem execRunScreenPack_nonvol (x : Sentence) (s : State) : KeepsNonvol s (execRunScreenPack x s) := keepsNonvol_finish (by simp)
@[simp] theorem execListScreenPacks_nonvol (x : Sentence) (s : State) : KeepsNonvol s (execListScreenPacks x s) := keepsNonvol_finish (by simp)
@[simp] theorem execPinBehaviour_nonvol (x : Sentence) (s : State) : KeepsNonvol s (execPinBehaviour x s) := keepsNonvol_finish (by simp)

/-! ### Profile -/

@[simp] theorem execThermalHoldEntry_nonvol (s : State) : KeepsNonvol s (execThermalHoldEntry s) := by
  refine keepsNonvol_finish ?_
  split <;> simp
@[simp] theorem execThermalHoldReturn_nonvol (s : State) : KeepsNonvol s (execThermalHoldReturn s) := by
  refine keepsNonvol_finish ?_
  split <;> simp
@[simp] theorem execThermalCrossing_nonvol (island : Fin 97) (tj : BitVec 16) (s : State) : KeepsNonvol s (execThermalCrossing island tj s) :=
    keepsNonvol_finish (by simp)
@[simp] theorem execProfileChangeEffective_nonvol (s : State) : KeepsNonvol s (execProfileChangeEffective s) := by
  refine keepsNonvol_finish ?_
  (repeat' split) <;> simp
@[simp] theorem execLendClustersOff_nonvol (s : State) : KeepsNonvol s (execLendClustersOff s) := keepsNonvol_finish (by simp)
@[simp] theorem execPowerWindow_nonvol (avg : BitVec 16) (s : State) : KeepsNonvol s (execPowerWindow avg s) := keepsNonvol_finish (by simp)
@[simp] theorem execEpochTick_nonvol (s : State) : KeepsNonvol s (execEpochTick s) := keepsNonvol_finish (by simp)
@[simp] theorem execEpochChangeActivation_nonvol (s : State) : KeepsNonvol s (execEpochChangeActivation s) := by
  refine keepsNonvol_finish ?_
  split <;> simp
@[simp] theorem execGetProfile_nonvol (x : Sentence) (s : State) : KeepsNonvol s (execGetProfile x s) := keepsNonvol_finish (by simp)
@[simp] theorem execSetProfile_nonvol (x : Sentence) (s : State) : KeepsNonvol s (execSetProfile x s) := keepsNonvol_finish (by simp)
@[simp] theorem execGetEpoch_nonvol (x : Sentence) (s : State) : KeepsNonvol s (execGetEpoch x s) := keepsNonvol_finish (by simp)
@[simp] theorem execSetEpoch_nonvol (x : Sentence) (s : State) : KeepsNonvol s (execSetEpoch x s) := keepsNonvol_finish (by simp)

/-! ### Observability -/

@[simp] theorem execRecordAccept_nonvol (s : State) : KeepsNonvol s (execRecordAccept s) := by
  refine keepsNonvol_finish ?_
  (repeat' split) <;> simp
@[simp] theorem execPersistenceWrite_nonvol (n : Nat) (s : State) : KeepsNonvol s (execPersistenceWrite n s) := keepsNonvol_finish (by simp)
@[simp] theorem execRecCursorWrite_nonvol (v : Word) (s : State) : KeepsNonvol s (execRecCursorWrite v s) := keepsNonvol_finish (by simp)
@[simp] theorem execScRelease_nonvol (v : Word) (s : State) : KeepsNonvol s (execScRelease v s) := keepsNonvol_finish (by simp)
@[simp] theorem execSelfCounterBankWritten_nonvol (bank : Fin 2) (s : State) : KeepsNonvol s (execSelfCounterBankWritten bank s) :=
    keepsNonvol_finish (by simp)
@[simp] theorem execCheckValueScanComplete_nonvol (unit : Fin 6) (data : Bytes) (failAddr : Option (BitVec 64)) (s : State) : KeepsNonvol s
    (execCheckValueScanComplete unit data failAddr s) := by
  refine keepsNonvol_finish ?_
  (repeat' split) <;> simp
@[simp] theorem execCompressionEngineComplete_nonvol (engine : Fin 4) (source : Bytes) (s : State) : KeepsNonvol s (execCompressionEngineComplete
    engine source s) := by
  refine keepsNonvol_finish ?_
  split <;> simp
@[simp] theorem execReadSelfCounters_nonvol (x : Sentence) (s : State) : KeepsNonvol s (execReadSelfCounters x s) := keepsNonvol_finish (by simp)
@[simp] theorem execFreeze_nonvol (x : Sentence) (s : State) : KeepsNonvol s (execFreeze x s) := keepsNonvol_finish (by simp)
@[simp] theorem execReadRecords_nonvol (x : Sentence) (s : State) : KeepsNonvol s (execReadRecords x s) := keepsNonvol_finish (by simp)
@[simp] theorem execCheckValue_nonvol (x : Sentence) (s : State) : KeepsNonvol s (execCheckValue x s) := keepsNonvol_finish (by simp)
@[simp] theorem execCompress_nonvol (x : Sentence) (s : State) : KeepsNonvol s (execCompress x s) := keepsNonvol_finish (by simp)
@[simp] theorem execDecompress_nonvol (x : Sentence) (s : State) : KeepsNonvol s (execDecompress x s) := keepsNonvol_finish (by simp)

/-! ### Security -/

@[simp] theorem execReleaseExpiry_nonvol (id : Word) (s : State) : KeepsNonvol s (execReleaseExpiry id s) := keepsNonvol_finish (by simp)
@[simp] theorem execKeyRevokeEffective_nonvol (slot : BitVec 10) (s : State) : KeepsNonvol s (execKeyRevokeEffective slot s) := by
  refine keepsNonvol_finish ?_
  simp
  split <;> simp
@[simp] theorem execStorePageZeroingComplete_nonvol (ctx : BitVec 10) (s : State) : KeepsNonvol s (execStorePageZeroingComplete ctx s) :=
    keepsNonvol_finish (by simp)
@[simp] theorem execDebugAuthExpiry_nonvol (s : State) : KeepsNonvol s (execDebugAuthExpiry s) := by
  refine keepsNonvol_finish ?_
  split <;> simp
@[simp] theorem execGetAttestation_nonvol (x : Sentence) (s : State) : KeepsNonvol s (execGetAttestation x s) := keepsNonvol_finish (by simp)
@[simp] theorem execKeyReleaseBegin_nonvol (x : Sentence) (s : State) : KeepsNonvol s (execKeyReleaseBegin x s) := keepsNonvol_finish (by simp)
@[simp] theorem execKeyInstall_nonvol (x : Sentence) (s : State) : KeepsNonvol s (execKeyInstall x s) := keepsNonvol_finish (by simp)
@[simp] theorem execKeyRevoke_nonvol (x : Sentence) (s : State) : KeepsNonvol s (execKeyRevoke x s) := keepsNonvol_finish (by simp)
@[simp] theorem execDebugAuthorise_nonvol (x : Sentence) (s : State) : KeepsNonvol s (execDebugAuthorise x s) := keepsNonvol_finish (by simp)
@[simp] theorem execGetAccessMap_nonvol (x : Sentence) (s : State) : KeepsNonvol s (execGetAccessMap x s) := keepsNonvol_finish (by simp)

/-! ### Flash -/

@[simp] theorem execFlashRead_nonvol (s : State) : KeepsNonvol s (execFlashRead s) := keepsNonvol_finish (by simp)
@[simp] theorem execMspiCommandDone_nonvol (s : State) : KeepsNonvol s (execMspiCommandDone s) := by
  refine keepsNonvol_finish ?_
  dsimp only
  split <;> simp
@[simp] theorem execMspiTransaction_nonvol (t : SpiTransaction) (s : State) : KeepsNonvol s (execMspiTransaction t s) := by
  refine keepsNonvol_finish ?_
  simp
  split <;> simp
@[simp] theorem execTapInstructionUpdate_nonvol (ir : TapInstruction) (s : State) : KeepsNonvol s (execTapInstructionUpdate ir s) :=
    keepsNonvol_finish (by simp)
@[simp] theorem execPciePerstRelease_nonvol (s : State) : KeepsNonvol s (execPciePerstRelease s) := keepsNonvol_finish (by simp)

/-! ### Boot -/

@[simp] theorem execPorRelease_nonvol (straps : Straps) (s : State) : KeepsNonvol s (execPorRelease straps s) := keepsNonvol_finish (by simp)
@[simp] theorem execPorNAssert_nonvol (s : State) : KeepsNonvol s (execPorNAssert s) := keepsNonvol_finish (by rfl)
@[simp] theorem execThermalTrip_nonvol (island : Fin 97) (s : State) : KeepsNonvol s (execThermalTrip island s) := by
  refine keepsNonvol_finish (nonvol_of_ite rfl ?_)
  rw [emit_nonvol, bootStatus_nonvol]
  change State.nonvol (if _ then _ else _) = _
  rw [nonvol_ite, emit_nonvol, ite_self]
@[simp] theorem execThermtripRelease_nonvol (s : State) : KeepsNonvol s (execThermtripRelease s) := by
  refine keepsNonvol_finish ?_
  split <;> simp
@[simp] theorem execTripRailRestore_nonvol (s : State) : KeepsNonvol s (execTripRailRestore s) := keepsNonvol_finish (by simp)

/-! ### Staging -/

@[simp] theorem execStagedSetPrepared_nonvol (r : Requester) (s : State) : KeepsNonvol s (execStagedSetPrepared r s) := by
  refine keepsNonvol_finish ?_
  dsimp only
  split <;> simp
@[simp] theorem execStagedSetApply_nonvol (r : Requester) (s : State) : KeepsNonvol s (execStagedSetApply r s) := by
  refine keepsNonvol_finish ?_
  dsimp only
  (repeat' split) <;> simp

/-! ### Mirror -/

@[simp] theorem execMirrorEntryReceive_nonvol (entry : Bytes) (s : State) : KeepsNonvol s (execMirrorEntryReceive entry s) := keepsNonvol_finish (by
    simp)
@[simp] theorem execCheckpointCommitReceive_nonvol (c : Word) (digests : List (Nat × BitVec 64)) (s : State) : KeepsNonvol s
    (execCheckpointCommitReceive c digests s) := keepsNonvol_finish (by simp)
@[simp] theorem execMirrorAckReceive_nonvol (mseq : BitVec 64) (s : State) : KeepsNonvol s (execMirrorAckReceive mseq s) := by
  refine keepsNonvol_finish ?_
  simp
  split <;> simp
@[simp] theorem execMirrorGapTimeout_nonvol (s : State) : KeepsNonvol s (execMirrorGapTimeout s) := keepsNonvol_finish (by simp)
@[simp] theorem execCheckpointStart_nonvol (s : State) : KeepsNonvol s (execCheckpointStart s) := keepsNonvol_finish (by simp)
@[simp] theorem execCheckpointAbort_nonvol (s : State) : KeepsNonvol s (execCheckpointAbort s) := by
  refine keepsNonvol_finish ?_
  split <;> simp

/-! ### Pair -/

@[simp] theorem execClaimSend_nonvol (s : State) : KeepsNonvol s (execClaimSend s) := keepsNonvol_finish (by simp)
@[simp] theorem execClaimReceive_nonvol (p : PairPath) (b : Bytes) (s : State) : KeepsNonvol s (execClaimReceive p b s) := keepsNonvol_finish (by
    simp)
@[simp] theorem execClaimTimeout_nonvol (s : State) : KeepsNonvol s (execClaimTimeout s) := by
  refine keepsNonvol_finish ?_
  split <;> simp
@[simp] theorem execHeartbeatSend_nonvol (s : State) : KeepsNonvol s (execHeartbeatSend s) := keepsNonvol_finish (by simp)
@[simp] theorem execHeartbeatReceive_nonvol (p : PairPath) (b : Bytes) (s : State) : KeepsNonvol s (execHeartbeatReceive p b s) := keepsNonvol_finish
    (by simp)
@[simp] theorem execTakeoverNoticeReceive_nonvol (p : PairPath) (b : Bytes) (s : State) : KeepsNonvol s (execTakeoverNoticeReceive p b s) :=
    keepsNonvol_finish (by simp)
@[simp] theorem execRelinquishReceive_nonvol (p : PairPath) (b : Bytes) (s : State) : KeepsNonvol s (execRelinquishReceive p b s) :=
    keepsNonvol_finish (by simp)
@[simp] theorem execActiveLost_nonvol (s : State) : KeepsNonvol s (execActiveLost s) := keepsNonvol_finish (by simp)
@[simp] theorem execHangHandlingEntry_nonvol (c : HangCause) (unit_ : Word) (s : State) : KeepsNonvol s (execHangHandlingEntry c unit_ s) :=
    keepsNonvol_finish (by simp)
@[simp] theorem execLastWordsComplete_nonvol (partnerCopy : Bool) (s : State) : KeepsNonvol s (execLastWordsComplete partnerCopy s) :=
    keepsNonvol_finish (by simp)

/-! ### Fabric -/

@[simp] theorem execSentenceFetch_nonvol (e : HostEntry) (s : State) : KeepsNonvol s (execSentenceFetch e s) := by
  refine keepsNonvol_finish ?_
  simp
  split <;> simp
@[simp] theorem execFabricFrameReceive_nonvol (port : Fin 17) (f : Frame) (s : State) : KeepsNonvol s (execFabricFrameReceive port f s) := by
  refine keepsNonvol_finish ?_
  simp
  split <;> simp

/-- The commands that may program or erase the flash or blow fuses. -/
def writesNonvol : Instr → Bool
  | .flashProgram _ | .flashErase _ | .fuseOwner .. | .fuseDebugDisable .. | .readmission | .bootStageComplete _ => true
  | _ => false

/-- Every other command keeps both. -/
theorem exec_nonvol {c : Instr} (s : State) (h : writesNonvol c = false) : KeepsNonvol s (exec c s) := by
  cases c <;> simp_all only [exec, writesNonvol, Bool.true_eq_false]
  all_goals simp

end Sys2Proof.Machine
end

section
/-! The commands that write flash and fuses: the flash stays canonical, fuse bits are only set, and nothing else writes either (R524 to R526, R535, R540). -/

namespace Sys2Proof.Machine
open Sys2Proof

/-! ## The flash stays in canonical form (R524 to R526, R604) -/

theorem flashPut_wf {f : Tbl Byte} {a : Nat} {bs : Bytes} (h : Memory.wf f = true) : Memory.wf (flashPut f a bs) = true := by
  unfold flashPut
  generalize bs.zipIdx = l
  induction l generalizing f with
  | nil => exact h
  | cons e l ih => exact ih (Tbl.wf_set h)

theorem flashWipe_wf {f : Tbl Byte} {a : Nat} (h : Memory.wf f = true) : Memory.wf (flashWipe f a) = true := Tbl.wf_filter h

/-- An append to a journal leaves the flash canonical, whether or not a slot was free. -/
theorem jAppend_wf {f g : Tbl Byte} {base : Nat} {e : Bytes} (h : Memory.wf f = true) (hg : jAppend f base e = some g) : Memory.wf g = true := by
  obtain ⟨i, -, rfl⟩ := Option.map_eq_some_iff.mp hg
  exact flashPut_wf h

theorem jAppend_getD_wf {f : Tbl Byte} {base : Nat} {e : Bytes} (h : Memory.wf f = true) : Memory.wf ((jAppend f base e).getD f) = true := by
  cases hg : jAppend f base e with
  | none => exact h
  | some g => exact jAppend_wf h hg

theorem jCarry_wf {f : Tbl Byte} {base : Nat} {gen : Word} (h : Memory.wf f = true) : Memory.wf (jCarry f base gen) = true := by
  unfold jCarry
  dsimp only
  generalize (jEntries f base).filter (fun e => e.1 = 3) = l
  have start : Memory.wf (flashPut (flashWipe f (otherJournal base)) (otherJournal base) (jHeader (gen + 1).toNat)) = true := flashPut_wf (flashWipe_wf h)
  revert start
  generalize flashPut (flashWipe f (otherJournal base)) (otherJournal base) (jHeader (gen + 1).toNat) = g
  intro start
  induction l generalizing g with
  | nil => exact start
  | cons e l ih => exact ih _ (jAppend_getD_wf start)

theorem jWrite_wf {f : Tbl Byte} {base : Nat} {e : Bytes} (h : Memory.wf f = true) : Memory.wf (jWrite f base e) = true := by
  unfold jWrite
  split
  · rename_i g hg
    exact jAppend_wf h hg
  · exact jAppend_getD_wf (jCarry_wf (flashPut_wf h))

theorem jFormat_wf {f : Tbl Byte} (h : Memory.wf f = true) : Memory.wf (jFormat f) = true := flashPut_wf (flashWipe_wf (flashWipe_wf h))

theorem jStart_wf {f : Tbl Byte} {a : Nat} (h : Memory.wf f = true) : Memory.wf (jStart f a).1 = true := by
  refine jWrite_wf ?_
  unfold jReady
  split
  · exact h
  · exact jFormat_wf h

theorem jFinish_wf {f : Tbl Byte} {a n : Nat} (h : Memory.wf f = true) : Memory.wf (jFinish f a n) = true := jWrite_wf (flashWipe_wf h)

theorem journalledErase_wf {f : Tbl Byte} {a : Nat} (h : Memory.wf f = true) : Memory.wf (journalledErase f a) = true := jFinish_wf (jStart_wf h)

theorem finishAll_wf {f : Tbl Byte} (es : List (Nat × Nat × Nat)) (h : Memory.wf f = true) :
    Memory.wf (es.foldl (fun t e => jFinish t e.2.1 e.2.2) f) = true := by
  induction es generalizing f with
  | nil => exact h
  | cons e es ih => exact ih (jFinish_wf h)

theorem recoverJournal_wf {f : Tbl Byte} (h : Memory.wf f = true) : Memory.wf (recoverJournal f) = true := by
  unfold recoverJournal
  split
  · exact jFormat_wf h
  · refine finishAll_wf _ ?_
    split
    · exact jCarry_wf h
    · exact h

/-! ## Fuse bits are only set (R535) -/

/-- Every fuse bit of f is set in g. -/
def FusesGrow (f g : Tbl Word) : Prop := ∀ w b : Nat, (Tbl.get 0 w f).getLsbD b = true → (Tbl.get 0 w g).getLsbD b = true

theorem FusesGrow.refl (f : Tbl Word) : FusesGrow f f := fun _ _ h => h

theorem FusesGrow.of_eq {f g : Tbl Word} (h : g = f) : FusesGrow f g := h ▸ .refl f

theorem FusesGrow.trans {f g h : Tbl Word} (a : FusesGrow f g) (b : FusesGrow g h) : FusesGrow f h := fun w i k => b w i (a w i k)

/-- An erased entry of a table in any order uncovers another entry, or leaves the read as it was. -/
theorem find_erase {α : Type} {k i : Nat} {t : Tbl α} {v : α} (ne : i ≠ k) (h : t.find? i = some v) : (t.erase k).find? i = some v := by
  induction t with
  | nil => exact h
  | cons e t ih =>
    rw [Tbl.find?] at h
    rw [Tbl.erase]
    split at h
    · rename_i here
      rw [if_neg (by omega)]
      split
      · rw [Tbl.find?, if_pos here, h]
      · rw [Tbl.find?, if_pos here, h]
    · split at h
      · cases h
      · split
        · exact h
        · split
          · rename_i h1 h2 _ _
            rw [Tbl.find?, if_neg h1, if_neg h2, h]
          · rename_i h1 h2 _ _
            rw [Tbl.find?, if_neg h1, if_neg h2, ih h]

/-- A table in any order reads elsewhere what it read before an insertion. -/
theorem find_insert_ne_any {α : Type} {k i : Nat} {v : α} (ne : i ≠ k) (t : Tbl α) : (t.insert k v).find? i = t.find? i := by
  induction t with
  | nil => simp only [Tbl.insert, Tbl.find?, if_neg (Ne.symm ne), ite_self]
  | cons e t ih =>
    rw [Tbl.insert]
    split
    · rename_i here
      rw [Tbl.find?, Tbl.find?, if_neg (Ne.symm ne), here, if_neg (Ne.symm ne)]
    · split
      · rw [Tbl.find?, if_neg (Ne.symm ne)]
        split
        · rw [Tbl.find?, if_neg (by omega), if_pos (by omega)]
        · rfl
      · rw [Tbl.find?, Tbl.find?, ih]

/-- Setting bits of one word clears no bit, whatever the order of the table. -/
theorem fusesGrow_set (f : Tbl Word) (k : Nat) (v : Word) : FusesGrow f (Tbl.set 0 k (Tbl.get 0 k f ||| v) f) := by
  intro w b h
  unfold Tbl.set
  by_cases at_k : w = k
  · subst at_k
    split
    · rename_i zero
      have none_set : (Tbl.get 0 w f ||| v).getLsbD b = true := by rw [BitVec.getLsbD_or, h, Bool.true_or]
      rw [zero] at none_set
      simp at none_set
    · rw [Tbl.get, Tbl.find_insert_eq, Option.getD_some, BitVec.getLsbD_or, h, Bool.true_or]
  · split
    · cases found : f.find? w with
      | none =>
        rw [Tbl.get, found, Option.getD_none] at h
        simp at h
      | some u =>
        rw [Tbl.get, found] at h
        rw [Tbl.get, find_erase at_k found]
        exact h
    · rw [Tbl.get, find_insert_ne_any at_k]
      exact h

theorem blow_grows (s : State) (w : Nat) (vs : List Word) : FusesGrow s.rel.fuses (s.blow w vs).rel.fuses := by
  unfold State.blow
  dsimp only
  generalize s.rel.fuses = f
  generalize vs.zipIdx = l
  induction l generalizing f with
  | nil => exact .refl f
  | cons e l ih => exact (fusesGrow_set f _ _).trans (ih _)

/-! ## The commands that program, erase or blow -/

@[simp] theorem blow_flash (s : State) (w : Nat) (vs : List Word) : (s.blow w vs).phys.flash = s.phys.flash := rfl

@[simp] theorem scramble_fuses (s : State) (a n : Nat) : (s.scramble a n).rel.fuses = s.rel.fuses := rfl

theorem scramble_wf {s : State} {a n : Nat} (h : Memory.wf s.phys.flash = true) : Memory.wf (s.scramble a n).phys.flash = true := flashPut_wf h

@[simp] theorem mspiResult_flash (s : State) (r : Nat) : (s.mspiResult r).phys.flash = s.phys.flash := (nonvol_eq_iff.mp (mspiResult_nonvol s r)).1

@[simp] theorem mspiResult_fuses (s : State) (r : Nat) : (s.mspiResult r).rel.fuses = s.rel.fuses := (nonvol_eq_iff.mp (mspiResult_nonvol s r)).2

@[simp] theorem bootStatus_flash (s : State) (f : DevState → DevState) : (s.bootStatus f).phys.flash = s.phys.flash :=
  (nonvol_eq_iff.mp (bootStatus_nonvol s f)).1

@[simp] theorem bootStatus_fuses (s : State) (f : DevState → DevState) : (s.bootStatus f).rel.fuses = s.rel.fuses :=
  (nonvol_eq_iff.mp (bootStatus_nonvol s f)).2

theorem setService_flash (s : State) : s.setService.phys.flash = s.phys.flash := by
  unfold State.setService
  split
  · rfl
  · exact bootStatus_flash s _

theorem setService_grows (s : State) : FusesGrow s.rel.fuses s.setService.rel.fuses := by
  unfold State.setService
  split
  · exact .refl _
  · refine FusesGrow.trans ?_ (blow_grows _ _ _)
    rw [bootStatus_fuses]
    exact .refl _

theorem fuseOwner_flash {s t : State} {vqps ok : Bool} (h : execFuseOwner vqps ok s = .next t) : t.phys.flash = s.phys.flash := by
  obtain ⟨⟩ := h
  dsimp only
  (repeat' split) <;> simp

theorem fuseOwner_grows {s t : State} {vqps ok : Bool} (h : execFuseOwner vqps ok s = .next t) : FusesGrow s.rel.fuses t.rel.fuses := by
  obtain ⟨⟩ := h
  dsimp only
  split
  · exact .refl _
  · split
    · rw [mspiResult_fuses]
      exact .refl _
    · split <;> rw [mspiResult_fuses]
      · exact (blow_grows _ _ _).trans (blow_grows _ _ _)
      · exact blow_grows _ _ _

theorem fuseDebugDisable_flash {s t : State} {vqps ok : Bool} (h : execFuseDebugDisable vqps ok s = .next t) : t.phys.flash = s.phys.flash := by
  obtain ⟨⟩ := h
  dsimp only
  (repeat' split) <;> simp

theorem fuseDebugDisable_grows {s t : State} {vqps ok : Bool} (h : execFuseDebugDisable vqps ok s = .next t) : FusesGrow s.rel.fuses t.rel.fuses := by
  obtain ⟨⟩ := h
  dsimp only
  split
  · exact .refl _
  · split <;> rw [mspiResult_fuses]
    · exact .refl _
    · exact blow_grows _ _ _

theorem flashProgram_fuses {s t : State} {ok : Bool} (h : execFlashProgram ok s = .next t) : t.rel.fuses = s.rel.fuses := by
  obtain ⟨⟩ := h
  dsimp only
  (repeat' split) <;> simp

theorem flashProgram_wf {s t : State} {ok : Bool} (w : Memory.wf s.phys.flash = true) (h : execFlashProgram ok s = .next t) :
    Memory.wf t.phys.flash = true := by
  obtain ⟨⟩ := h
  dsimp only
  (repeat' split) <;> simp [w, scramble_wf w, flashPut_wf w]

theorem flashErase_fuses {s t : State} {ok : Bool} (h : execFlashErase ok s = .next t) : t.rel.fuses = s.rel.fuses := by
  obtain ⟨⟩ := h
  dsimp only
  (repeat' split) <;> simp

theorem flashErase_wf {s t : State} {ok : Bool} (w : Memory.wf s.phys.flash = true) (h : execFlashErase ok s = .next t) :
    Memory.wf t.phys.flash = true := by
  obtain ⟨⟩ := h
  have begun : Memory.wf ({ s with phys := { s.phys with flash := (jStart s.phys.flash (s.phys.mspi.addr / 4096 * 4096)).1 } } : State).phys.flash = true :=
    jStart_wf w
  dsimp only
  (repeat' split) <;> simp [w, journalledErase_wf w, scramble_wf begun]

/-! ## Boot stages -/

theorem beginStage3_wf {s : State} (w : Memory.wf s.phys.flash = true) : Memory.wf s.beginStage3.phys.flash = true := by
  have h : s.beginStage3.phys.flash = recoverJournal s.phys.flash := by
    unfold State.beginStage3
    dsimp only
    split <;> exact congrArg Prod.fst ((enterStage_nonvol _ _).trans ((switchOn_nonvol _ _).trans (restoreMargins_nonvol _)))
  rw [h]
  exact recoverJournal_wf w

theorem stage1Image_wf {s : State} (w : Memory.wf s.phys.flash = true) : Memory.wf s.stage1Image.phys.flash = true := by
  unfold State.stage1Image
  split
  · rw [(nonvol_eq_iff.mp (bootFail_nonvol ..)).1]
    exact w
  · exact beginStage3_wf w

theorem stage1Image_fuses (s : State) : s.stage1Image.rel.fuses = s.rel.fuses := by
  unfold State.stage1Image
  split
  · exact (nonvol_eq_iff.mp (bootFail_nonvol ..)).2
  · exact beginStage3_fuses _

/-- A stage keeps flash and fuses, recovers the erase journal (R526), or is the step into service (R540). -/
theorem stageEnds_cases (s : State) (r : StageResult) :
    (s.stageEnds r).nonvol = s.nonvol ∨ s.stageEnds r = s.stage1Image ∨ (r = .done ∧ s.stageEnds r = s.setService) := by
  unfold State.stageEnds
  split
  case h_4 => exact .inr (.inl rfl)
  case h_11 =>
    split
    · exact .inr (.inr ⟨rfl, rfl⟩)
    · exact .inl rfl
  all_goals
    left
    simp

/-- What the end of a stage can do, in the words of the command. -/
theorem bootStageComplete_cases {s t : State} {r : StageResult} (h : execBootStageComplete r s = .next t) :
    (t.phys.flash = s.phys.flash ∧ t.rel.fuses = s.rel.fuses ∨ t.phys.flash = s.stage1Image.phys.flash ∧ t.rel.fuses = s.rel.fuses) ∨
      r = .done ∧ t.phys = s.setService.phys ∧ t.rel = s.setService.rel ∧ t.dev = s.setService.dev := by
  obtain ⟨⟩ := h
  dsimp only
  split
  · exact .inl (.inl ⟨rfl, rfl⟩)
  · obtain h | h | ⟨hr, h⟩ := stageEnds_cases s r
    · exact .inl (.inl (nonvol_eq_iff.mp h))
    · rw [h]
      exact .inl (.inr ⟨rfl, stage1Image_fuses s⟩)
    · rw [h]
      exact .inr ⟨hr, rfl, rfl, rfl⟩

/-! ## The step into service shows -/

theorem service_ite {c : Prop} [Decidable c] {a b : State} : (if c then a else b).dev.service = if c then a.dev.service else b.dev.service :=
  apply_ite (fun s : State => s.dev.service) _ _ _

@[simp] theorem setVector_service (s : State) (n : Nat) (e : MsixEntry) : (s.setVector n e).dev.service = s.dev.service := by rfl
@[simp] theorem signal_service (s : State) (n : Nat) : (s.signal n).dev.service = s.dev.service := by simp [State.signal, service_ite]
@[simp] theorem irq_service (s : State) (bit : Nat) : (s.irq bit).dev.service = s.dev.service := by simp [State.irq, service_ite]
@[simp] theorem enqueueRecord_service (s : State) (r : RawRecord) :
    (s.enqueueRecord r).dev.service = s.dev.service := by simp [State.enqueueRecord, service_ite]
@[simp] theorem raise_service (s : State) (source code severity : Nat) (data : Bytes) (ctx : Nat) (oid : Option Word) :
    (s.raise source code severity data ctx oid).dev.service = s.dev.service := by simp [State.raise, service_ite]
@[simp] theorem mirror_service (s : State) (typ : Nat) (body : Bytes) :
    (s.mirror typ body).dev.service = s.dev.service := by simp [State.mirror, service_ite]
@[simp] theorem setTags_service (s : State) (w : Part) (ts : List TagEntry) : (s.setTags w ts).dev.service = s.dev.service := by cases w <;> rfl
@[simp] theorem setStaging_service (s : State) (r : Requester) (v : Staging) : (s.setStaging r v).dev.service = s.dev.service := by rfl
@[simp] theorem bumpCounter_service (s : State) (w : Part) (req : Requester) (f : VerbCounters → VerbCounters) :
    (s.bumpCounter w req f).dev.service = s.dev.service := by unfold State.bumpCounter; split <;> simp
@[simp] theorem toPartner_service (s : State) (f : QFrame) : (s.toPartner f).dev.service = s.dev.service := by simp [State.toPartner, service_ite]
@[simp] theorem enqueue_service (s : State) (port cls : Nat) (f : QFrame) :
    (s.enqueue port cls f).dev.service = s.dev.service := by simp [State.enqueue, service_ite]
@[simp] theorem sendTo_service (s : State) (o : Word) (cls etherType : Nat) (body : Bytes) :
    (s.sendTo o cls etherType body).1.dev.service = s.dev.service := by unfold State.sendTo; split <;> simp
@[simp] theorem countNoRoute_service (s : State) (port : Nat) : (s.countNoRoute port).dev.service = s.dev.service := by rfl
@[simp] theorem sendOr_service (s : State) (port : Nat) (o : Word) (cls etherType : Nat) (body : Bytes) :
    (s.sendOr port o cls etherType body).dev.service = s.dev.service := by simp [State.sendOr, service_ite]
@[simp] theorem setQp_service (s : State) (n : Fin 64) (q : Qp) : (s.setQp n q).dev.service = s.dev.service := by rfl
@[simp] theorem complete_service (s : State) (n : Fin 64) (addr : Nat) (results entry : Bytes) :
    (s.complete n addr results entry).dev.service = s.dev.service := by simp [State.complete, service_ite]
@[simp] theorem offer_service (s : State) (n : Fin 64) (addr : Nat) (results entry : Bytes) :
    (s.offer n addr results entry).dev.service = s.dev.service := by simp [State.offer, service_ite]
@[simp] theorem transmit_service (s : State) (req : Requester) (buf : Option ResultBuffer) (src : Word) (bytes : Bytes) :
    (s.transmit req buf src bytes).dev.service = s.dev.service := by
  unfold State.transmit
  (repeat' split) <;> simp
@[simp] theorem onDtc_service (s : State) (p : Fin 64) (f : Dtc → Dtc) : (s.onDtc p f).dev.service = s.dev.service := by rfl
@[simp] theorem transmitDtc_service (s : State) (p : Fin 64) (req : Requester) (bytes : Bytes) :
    (s.transmitDtc p req bytes).dev.service = s.dev.service := by rfl
@[simp] theorem deliver_service (s : State) (x : Sentence) (buf : Option ResultBuffer) (bytes : Bytes) :
    (s.deliver x buf bytes).dev.service = s.dev.service := by unfold State.deliver; split <;> simp
@[simp] theorem quickReply_service (s : State) (x : Sentence) (buf : Option ResultBuffer) (st : Nat) (results : Bytes) (cstamp : Nat) :
    (s.quickReply x buf st results cstamp).dev.service = s.dev.service := by
  unfold State.quickReply
  dsimp only
  (repeat' split) <;> simp
@[simp] theorem settle_service (s : State) (w : Part) (t : Ticket) (st : Nat) :
    (s.settle w t st).dev.service = s.dev.service := by simp [State.settle, service_ite]
@[simp] theorem sendStored_service (s : State) (w : Part) (t : Ticket) : (s.sendStored w t).dev.service = s.dev.service := by
  unfold State.sendStored
  (repeat' split) <;> simp
@[simp] theorem hwFaultRecord_service (s : State) (x : Sentence) (verb : Nat) :
    (s.hwFaultRecord x verb).dev.service = s.dev.service := by simp [State.hwFaultRecord, service_ite]
@[simp] theorem finalAt_service (s : State) (w : Part) (t : Ticket) (st : Nat) (results : Bytes) (cstamp : Nat) :
    (s.finalAt w t st results cstamp).dev.service = s.dev.service := by
  unfold State.finalAt
  dsimp only
  split <;> simp [service_ite]
@[simp] theorem final_service (s : State) (w : Part) (t : Ticket) (st : Nat) (results : Bytes) :
    (s.final w t st results).dev.service = s.dev.service := by simp [State.final, service_ite]
@[simp] theorem endWaiter_service (s : State) (w : Waiter) (count reason : Nat) :
    (s.endWaiter w count reason).dev.service = s.dev.service := by simp [State.endWaiter, service_ite]
@[simp] theorem setObject_service (s : State) (i : Nat) (o : SyncObject) : (s.setObject i o).dev.service = s.dev.service := by rfl
@[simp] theorem serve_service (s : State) (o n : Nat) : (s.serve o n).dev.service = s.dev.service := by
  induction n generalizing s with
  | zero => rfl
  | succ f ih =>
    rw [State.serve]
    split
    · rfl
    · simp [ih, service_ite]
@[simp] theorem notify_service (s : State) (o before : Nat) : (s.notify o before).dev.service = s.dev.service := by simp [State.notify, service_ite]
@[simp] theorem syncFault_service (s : State) (o kind agent n ctx : Nat) :
    (s.syncFault o kind agent n ctx).dev.service = s.dev.service := by simp [State.syncFault, service_ite]
@[simp] theorem post_service (s : State) (o n : Nat) (agent : Nat × Word) (ctx : Nat) : (s.post o n agent ctx).1.dev.service = s.dev.service := by
  unfold State.post
  dsimp only
  (repeat' split) <;> simp
@[simp] theorem enginePost_service (s : State) (agent : Nat) (oid : Option Word) : (s.enginePost agent oid).dev.service = s.dev.service := by
  unfold State.enginePost
  generalize s.sync.objects = objects
  induction objects generalizing s with
  | nil => rfl
  | cons e es ih =>
    rw [List.foldl_cons, ih, service_ite, post_service, ite_self]

/-- A step into service that leaves SERVICE as it was found it set, and blows nothing. -/
theorem setService_fuses {s : State} (h : s.setService.dev.service = s.dev.service) : s.setService.rel.fuses = s.rel.fuses := by
  unfold State.setService at h ⊢
  split
  · rfl
  · rename_i off
    rw [if_neg off] at h
    have on : (s.bootStatus fun d => { d with service := true }).advanceRollback.dev.service = true := irq_service _ 0
    exact absurd (h.symm.trans on) off

/-- What readmission does: nothing, or a step into service and the posts of the engine that answers for it. -/
theorem readmission_cases {s t : State} (h : execReadmission s = .next t) : t.nonvol = s.nonvol ∨
    ∃ u : State, u.nonvol = s.nonvol ∧ u.dev = s.dev ∧ t.nonvol = u.setService.nonvol ∧ t.dev.service = u.setService.dev.service := by
  obtain ⟨⟩ := h
  dsimp only
  split
  · exact .inl rfl
  · split
    · exact .inr ⟨{ s with pair := { s.pair with mirrored := true, recovering := false, readmitDue := none } }, rfl, rfl, enginePost_nonvol .., enginePost_service ..⟩
    · exact .inl rfl

theorem readmission_flash {s t : State} (h : execReadmission s = .next t) : t.phys.flash = s.phys.flash := by
  obtain keep | ⟨u, hu, -, ht, -⟩ := readmission_cases h
  · exact (nonvol_eq_iff.mp keep).1
  · rw [(nonvol_eq_iff.mp ht).1, setService_flash, (nonvol_eq_iff.mp hu).1]

theorem readmission_grows {s t : State} (h : execReadmission s = .next t) : FusesGrow s.rel.fuses t.rel.fuses := by
  obtain keep | ⟨u, hu, -, ht, -⟩ := readmission_cases h
  · exact FusesGrow.of_eq (nonvol_eq_iff.mp keep).2
  · rw [(nonvol_eq_iff.mp ht).2, ← (nonvol_eq_iff.mp hu).2]
    exact setService_grows u

theorem readmission_fuses {s t : State} (h : execReadmission s = .next t) (same : t.dev.service = s.dev.service) : t.rel.fuses = s.rel.fuses := by
  obtain keep | ⟨u, hu, dev, ht, service⟩ := readmission_cases h
  · exact (nonvol_eq_iff.mp keep).2
  · rw [(nonvol_eq_iff.mp ht).2, setService_fuses (by rw [← service, same, dev]), (nonvol_eq_iff.mp hu).2]

/-- Settles O6: every other command keeps the flash, and those that may blow fuses write none of its bytes. -/
theorem onlyFlashRowsWriteTheFlash : Obligations.OnlyFlashRowsWriteTheFlash := by
  intro c s t h noProgram noErase noStage a
  suffices same : t.phys.flash = s.phys.flash by rw [same]
  cases writes : writesNonvol c with
  | false => exact (nonvol_eq_iff.mp (exec_nonvol s writes t h)).1
  | true =>
    cases c
    case flashProgram ok => exact absurd rfl (noProgram ok)
    case flashErase ok => exact absurd rfl (noErase ok)
    case bootStageComplete r => exact absurd rfl (noStage r)
    case fuseOwner => exact fuseOwner_flash h
    case fuseDebugDisable => exact fuseDebugDisable_flash h
    case readmission => exact readmission_flash h
    all_goals cases writes

/-- Settles O8: the end of stage 9 and readmission blow fuses only where they bring SERVICE. -/
theorem onlyFuseRowsAndServiceBlowFuses : Obligations.OnlyFuseRowsAndServiceBlowFuses := by
  intro c s t h noOwner noDisable noService
  cases writes : writesNonvol c with
  | false => exact (nonvol_eq_iff.mp (exec_nonvol s writes t h)).2
  | true =>
    cases c
    case flashProgram => exact flashProgram_fuses h
    case flashErase => exact flashErase_fuses h
    case fuseOwner v ok => exact absurd rfl (noOwner v ok)
    case fuseDebugDisable v ok => exact absurd rfl (noDisable v ok)
    case readmission => exact readmission_fuses h (noService (.inl rfl))
    case bootStageComplete r =>
      obtain (⟨_, same⟩ | ⟨_, same⟩) | ⟨rfl, _, rel, dev⟩ := bootStageComplete_cases h
      · exact same
      · exact same
      · rw [rel, setService_fuses (dev ▸ noService (.inr rfl))]
    all_goals cases writes

/-- A command keeps the flash canonical. -/
theorem exec_wf {c : Instr} {s t : State} (w : Memory.wf s.phys.flash = true) (h : exec c s = .next t) : Memory.wf t.phys.flash = true := by
  cases writes : writesNonvol c with
  | false => rwa [(nonvol_eq_iff.mp (exec_nonvol s writes t h)).1]
  | true =>
    cases c
    case flashProgram => exact flashProgram_wf w h
    case flashErase => exact flashErase_wf w h
    case fuseOwner => rwa [fuseOwner_flash h]
    case fuseDebugDisable => rwa [fuseDebugDisable_flash h]
    case readmission => rwa [readmission_flash h]
    case bootStageComplete r =>
      obtain (⟨same, _⟩ | ⟨recovered, _⟩) | ⟨_, phys, _⟩ := bootStageComplete_cases h
      · rwa [same]
      · rw [recovered]
        exact stage1Image_wf w
      · rwa [phys, setService_flash]
    all_goals cases writes

/-- A command clears no fuse bit. -/
theorem exec_grows {c : Instr} {s t : State} (h : exec c s = .next t) : FusesGrow s.rel.fuses t.rel.fuses := by
  cases writes : writesNonvol c with
  | false => exact .of_eq (nonvol_eq_iff.mp (exec_nonvol s writes t h)).2
  | true =>
    cases c
    case flashProgram => exact .of_eq (flashProgram_fuses h)
    case flashErase => exact .of_eq (flashErase_fuses h)
    case fuseOwner => exact fuseOwner_grows h
    case fuseDebugDisable => exact fuseDebugDisable_grows h
    case readmission => exact readmission_grows h
    case bootStageComplete r =>
      obtain (⟨_, same⟩ | ⟨_, same⟩) | ⟨_, _, rel, _⟩ := bootStageComplete_cases h
      · exact .of_eq same
      · exact .of_eq same
      · rw [rel]
        exact setService_grows s
    all_goals cases writes

/-- Settles O5: a step is a cycle, which keeps the flash, or a command of the queue. -/
theorem flashStaysCanonical : Obligations.FlashStaysCanonical := by
  intro s t w h
  cases queue : s.pending with
  | nil =>
    rw [step_idle queue] at h
    obtain ⟨⟩ := h
    rwa [(nonvol_eq_iff.mp (tick_nonvol s)).1]
  | cons c rest => exact exec_wf (s := { s with pending := rest }) w (step_front queue ▸ h)

/-- Settles O7: a step is a cycle, which keeps the fuses, or a command of the queue. -/
theorem fuseBitsNeverClear : Obligations.FuseBitsNeverClear := by
  intro s t h
  cases queue : s.pending with
  | nil =>
    rw [step_idle queue] at h
    obtain ⟨⟩ := h
    exact FusesGrow.of_eq (nonvol_eq_iff.mp (tick_nonvol s)).2
  | cons c rest => exact exec_grows (s := { s with pending := rest }) (step_front queue ▸ h)

end Sys2Proof.Machine
end

section
/-! Steps and the queue; sentences at admission: refused, repeated, denied, carried, staged, withheld (R102 to R112, R489, R490). -/

namespace Sys2Proof.Machine
open Sys2Proof

/-! ## What leaves every open set as it is (R110) -/

theorem staging_ite {c : Prop} [Decidable c] {a b : State} : (if c then a else b).verbs.staging = if c then a.verbs.staging else b.verbs.staging :=
  apply_ite (fun s : State => s.verbs.staging) _ _ _

@[simp] theorem emit_staging (s : State) (c : Chan) (b : Bytes) : (s.emit c b).verbs.staging = s.verbs.staging := by rfl
@[simp] theorem setVector_staging (s : State) (n : Nat) (e : MsixEntry) : (s.setVector n e).verbs.staging = s.verbs.staging := by rfl
@[simp] theorem signal_staging (s : State) (n : Nat) : (s.signal n).verbs.staging = s.verbs.staging := by simp [State.signal, staging_ite]
@[simp] theorem irq_staging (s : State) (bit : Nat) : (s.irq bit).verbs.staging = s.verbs.staging := by simp [State.irq, staging_ite]
@[simp] theorem enqueueRecord_staging (s : State) (r : RawRecord) :
    (s.enqueueRecord r).verbs.staging = s.verbs.staging := by simp [State.enqueueRecord, staging_ite]
@[simp] theorem raise_staging (s : State) (source code severity : Nat) (data : Bytes) (ctx : Nat) (oid : Option Word) :
    (s.raise source code severity data ctx oid).verbs.staging = s.verbs.staging := by simp [State.raise, staging_ite]
@[simp] theorem mirror_staging (s : State) (typ : Nat) (body : Bytes) :
    (s.mirror typ body).verbs.staging = s.verbs.staging := by simp [State.mirror, staging_ite]
@[simp] theorem setTags_staging (s : State) (w : Part) (ts : List TagEntry) :
    (s.setTags w ts).verbs.staging = s.verbs.staging := by unfold State.setTags; split <;> simp
@[simp] theorem bumpCounter_staging (s : State) (w : Part) (req : Requester) (f : VerbCounters → VerbCounters) :
    (s.bumpCounter w req f).verbs.staging = s.verbs.staging := by unfold State.bumpCounter; split <;> simp
@[simp] theorem toPartner_staging (s : State) (f : QFrame) : (s.toPartner f).verbs.staging = s.verbs.staging := by simp [State.toPartner, staging_ite]
@[simp] theorem enqueue_staging (s : State) (port cls : Nat) (f : QFrame) :
    (s.enqueue port cls f).verbs.staging = s.verbs.staging := by simp [State.enqueue, staging_ite]
@[simp] theorem sendTo_staging (s : State) (o : Word) (cls etherType : Nat) (body : Bytes) :
    (s.sendTo o cls etherType body).1.verbs.staging = s.verbs.staging := by unfold State.sendTo; split <;> simp
@[simp] theorem countNoRoute_staging (s : State) (port : Nat) : (s.countNoRoute port).verbs.staging = s.verbs.staging := by rfl
@[simp] theorem sendOr_staging (s : State) (port : Nat) (o : Word) (cls etherType : Nat) (body : Bytes) :
    (s.sendOr port o cls etherType body).verbs.staging = s.verbs.staging := by simp [State.sendOr, staging_ite]
@[simp] theorem setQp_staging (s : State) (n : Fin 64) (q : Qp) : (s.setQp n q).verbs.staging = s.verbs.staging := by rfl
@[simp] theorem complete_staging (s : State) (n : Fin 64) (addr : Nat) (results entry : Bytes) :
    (s.complete n addr results entry).verbs.staging = s.verbs.staging := by simp [State.complete, staging_ite]
@[simp] theorem offer_staging (s : State) (n : Fin 64) (addr : Nat) (results entry : Bytes) :
    (s.offer n addr results entry).verbs.staging = s.verbs.staging := by simp [State.offer, staging_ite]
@[simp] theorem onDtc_staging (s : State) (p : Fin 64) (f : Dtc → Dtc) : (s.onDtc p f).verbs.staging = s.verbs.staging := by rfl
@[simp] theorem transmit_staging (s : State) (req : Requester) (buf : Option ResultBuffer) (src : Word) (bytes : Bytes) :
    (s.transmit req buf src bytes).verbs.staging = s.verbs.staging := by
  unfold State.transmit
  (repeat' split) <;> simp
@[simp] theorem transmitDtc_staging (s : State) (p : Fin 64) (req : Requester) (bytes : Bytes) :
    (s.transmitDtc p req bytes).verbs.staging = s.verbs.staging := by rfl
@[simp] theorem deliver_staging (s : State) (x : Sentence) (buf : Option ResultBuffer) (bytes : Bytes) :
    (s.deliver x buf bytes).verbs.staging = s.verbs.staging := by unfold State.deliver; split <;> simp
@[simp] theorem quickReply_staging (s : State) (x : Sentence) (buf : Option ResultBuffer) (st : Nat) (results : Bytes) (cstamp : Nat) :
    (s.quickReply x buf st results cstamp).verbs.staging = s.verbs.staging := by
  unfold State.quickReply
  (repeat' split) <;> simp
@[simp] theorem settle_staging (s : State) (w : Part) (t : Ticket) (st : Nat) :
    (s.settle w t st).verbs.staging = s.verbs.staging := by simp [State.settle, staging_ite]
@[simp] theorem sendStored_staging (s : State) (w : Part) (t : Ticket) : (s.sendStored w t).verbs.staging = s.verbs.staging := by
  unfold State.sendStored
  (repeat' split) <;> simp
@[simp] theorem hwFaultRecord_staging (s : State) (x : Sentence) (verb : Nat) :
    (s.hwFaultRecord x verb).verbs.staging = s.verbs.staging := by simp [State.hwFaultRecord, staging_ite]
@[simp] theorem finalAt_staging (s : State) (w : Part) (t : Ticket) (st : Nat) (results : Bytes) (cstamp : Nat) :
    (s.finalAt w t st results cstamp).verbs.staging = s.verbs.staging := by
  unfold State.finalAt
  dsimp only
  split <;> simp [staging_ite]
@[simp] theorem final_staging (s : State) (w : Part) (t : Ticket) (st : Nat) (results : Bytes) :
    (s.final w t st results).verbs.staging = s.verbs.staging := by simp [State.final, staging_ite]
@[simp] theorem acceptedAt_staging (s : State) (x : Sentence) (buf : Option ResultBuffer) (c : Nat) :
    (s.acceptedAt x buf c).verbs.staging = s.verbs.staging := by
  unfold State.acceptedAt
  (repeat' split) <;> simp
@[simp] theorem acceptedReply_staging (s : State) (x : Sentence) (buf : Option ResultBuffer) :
    (s.acceptedReply x buf).verbs.staging = s.verbs.staging := by simp [State.acceptedReply, staging_ite]

/-! ## Rows (R102) -/

/-- A sentence of another row's form changes nothing. -/
theorem exec_row_foreign {i : Instr} {r : VerbCommand} {s : State} (h : verbRow i = some r) (ho : r.own s = false) : exec i s = .next s := by
  cases i
  all_goals
    cases h
    try cases ho
  all_goals
    dsimp only at ho
    simp only [exec, execScanStart, execScanAbort, execLinkRetrain, execLinkPrbs31Test, execLinkLoopbackTest, execLinkTakeOutOfService,
      execLinkReturnToService, execLaneSwapRetire, execLaneSwapSetAutomatic, State.linkModeRow, execRunMarginPlan, execSetMarginSchedule,
      execRunScreenPack, execListScreenPacks, execCompress, execDecompress, execSyncPost, execSyncPostOrdered, State.formRow, ho, Bool.false_eq_true, if_false]
    rfl

/-- A row whose sentence leaves its requester's staging as it was is its meaning. -/
theorem exec_row_unstaged {i : Instr} {r : VerbCommand} {s : State} (h : verbRow i = some r) (ho : r.own s = true)
    (same : (s.runSentence r.verb r.body r.x).verbs.staging = s.verbs.staging) : exec i s = finish s (s.runSentence r.verb r.body r.x) :=
  exec_row_same h ho (by rw [State.stagingOf, same, State.stagingOf])

/-- A sentence that runs stages no placement: PLACE_MODEL runs at the aggregator alone, where a staged sentence joins its set (R110). -/
theorem runs_notPlace {i : Instr} {r : VerbCommand} {s : State} (h : verbRow i = some r) (hr : s.runs r.verb r.x = true) (hs : r.x.staged = true)
    (x : Sentence) : i ≠ .placeModel x := by
  rintro rfl
  cases h
  obtain acc | acc := Bool.or_eq_true_iff.mp hr
  · obtain ⟨-, -, -, unstaged, -⟩ := accepts_iff.mp acc
    exact absurd (hs.symm.trans unstaged) (by decide)
  · unfold State.acceptsDtc at acc
    split at acc
    · cases acc
    · simp [vPlaceModel] at acc

/-- What takes a sentence keeps its requester's set. -/
theorem taken_staging {s : State} {v : Verb} {x : Sentence} (h : s.admits v x = true) : (s.taken v x).verbs.staging = s.verbs.staging := by
  obtain e | ⟨ts, e⟩ := taken_eq h <;> rw [e]
  exact setTags_staging s _ ts

/-- A sentence that is not taken in: the row is what step 7 makes of it. -/
theorem runSentence_turned {s t : State} {v : Verb} {x : Sentence} (body : Sentence → State → State × Answer)
    (ready : match x.part with | .agg => s.dev.fwReady = true | .dtc p => (s.dtc p).ready = true) (fresh : s.isAdmitted v.code x = false)
    (h : s.takeIn v.code x none = (t, false)) : s.runSentence v body x = t := by
  unfold State.runSentence
  cases part : x.part <;> rw [part] at ready <;>
    simp only [part, ready, fresh, h, Bool.false_eq_true, if_false, Bool.not_true, Bool.not_false, Bool.true_or, if_true]

/-- The same for its command, where its set is left open as it was. -/
theorem exec_turned {i : Instr} {r : VerbCommand} {s t : State} (h : verbRow i = some r) (ho : r.own s = true)
    (ready : match r.x.part with | .agg => s.dev.fwReady = true | .dtc p => (s.dtc p).ready = true) (fresh : s.isAdmitted r.verb.code r.x = false)
    (turned : s.takeIn r.verb.code r.x none = (t, false)) (same : (t.stagingOf r.x.req).opened = (s.stagingOf r.x.req).opened) :
    exec i s = .next { t with pending := s.pending } := by
  have run := runSentence_turned r.body ready fresh turned
  rw [exec_row_same h ho (by rw [run, same]), run]
  rfl

/-! ## Steps and the queue -/

/-- Settles O1: by definition of the step. -/
theorem stepRunsTheFrontCommand : Obligations.StepRunsTheFrontCommand := fun _ _ _ => step_front rfl

/-- Settles O3: every command ends by `finish`, which gives the queue back. -/
theorem everyCommandCompletesAndKeepsTheQueue : Obligations.EveryCommandCompletesAndKeepsTheQueue := by
  intro c s
  cases c <;> exact ⟨_, rfl, rfl⟩

/-- As many steps as the queue holds commands end with an empty queue. -/
theorem run_queue (s : State) : ∃ u, core.run s.pending.length s = .next u ∧ u.pending = [] := by
  generalize queue : s.pending = q
  induction q generalizing s with
  | nil => exact ⟨s, rfl, queue⟩
  | cons c rest ih =>
    obtain ⟨t, run, keep⟩ := everyCommandCompletesAndKeepsTheQueue c { s with pending := rest }
    obtain ⟨u, later, empty⟩ := ih t keep
    refine ⟨u, ?_, empty⟩
    have first : core.step s = .next t := (step_front queue).trans run
    simp only [List.length_cons, Host.Core.run, first, later]

/-- Settles O4: the front command leaves the queue's rest, which is worked off in turn. -/
theorem queueIsWorkedOffInOrder : Obligations.QueueIsWorkedOffInOrder := by
  intro c rest s
  obtain ⟨t, run, keep⟩ := everyCommandCompletesAndKeepsTheQueue c { s with pending := rest }
  obtain ⟨u, later, empty⟩ := run_queue t
  rw [keep] at later
  refine ⟨t, u, run, ?_, later, empty⟩
  have first : core.step { s with pending := c :: rest } = .next t := (step_front (s := { s with pending := c :: rest }) rfl).trans run
  simp only [Host.Core.run, first, later]

/-! ## Admission -/

/-- Settles O9: a row of another form changes nothing, and one of its own form takes no sentence before its part is ready. -/
theorem noSentenceRunsBeforeItsPartIsReady : Obligations.NoSentenceRunsBeforeItsPartIsReady := by
  intro i r s h early
  cases own : r.own s with
  | false => exact exec_row_foreign h own
  | true =>
    have run : s.runSentence r.verb r.body r.x = s := by
      obtain ⟨agg, off⟩ | ⟨p, dtc, off⟩ := early
      · exact runSentence_early r.body agg off
      · exact runSentence_earlyDtc r.body dtc off
    rw [exec_row_unstaged h own (by rw [run]), run]
    rfl

/-- Settles O10. -/
theorem everySentenceThatPassesRuns : Obligations.EverySentenceThatPassesRuns := by
  intro i r s h own runs
  rw [exec_row h own (runs_notPlace h runs), finish_runs r.body runs]

/-- Settles O11: a tag of the window is answered from the window at step 7. -/
theorem repeatedTagIsNeverExecuted : Obligations.RepeatedTagIsNeverExecuted := by
  intro i r s e h own agg dtc fresh found
  have unexpired : (r.x.part == .agg && (s.stagingOf r.x.req).expired) = false := by
    cases part : r.x.part with
    | agg => rw [(agg part).2, Bool.and_false]
    | dtc p => rfl
  refine exec_turned h own ?_ fresh (t := State.quickReply _ _ _ _ _ _) ?_ ?_
  · cases part : r.x.part with
    | agg => exact (agg part).1
    | dtc p => exact dtc p part
  · unfold State.takeIn
    simp only [unexpired, Bool.false_eq_true, if_false, found]
    cases e.reply <;> cases e.inFlight <;> rfl
  · rw [State.stagingOf, quickReply_staging, setTags_staging, State.stagingOf]

/-- Settles O13: at a bound step 7 answers ST_BUSY; the window is the aged one, with room made. -/
theorem inFlightBoundsRefuseWithBusy : Obligations.InFlightBoundsRefuseWithBusy := by
  intro i r s h own fresh
  refine ⟨fun agg ready unexpired new => ?_, fun p dtc ready new => ?_⟩ <;> intro ts full
  · refine exec_turned h own (by rw [agg]; exact ready) fresh ?_ ?_
    · have bound : inFlightFull .agg r.x.req ts = true := by simpa [inFlightFull] using full
      unfold State.takeIn
      simp only [agg, unexpired, Bool.and_false, Bool.false_eq_true, if_false, State.nowOf, State.tagsOf, new]
      rw [if_pos (Bool.or_eq_true_iff.mpr (.inl bound))]
      rfl
    · rw [State.stagingOf, quickReply_staging, setTags_staging, State.stagingOf]
  · refine exec_turned h own (by rw [dtc]; exact ready) fresh ?_ ?_
    · have bound : inFlightFull (.dtc p) r.x.req ts = true := by simpa [inFlightFull] using full
      have notAgg : (Part.dtc p == Part.agg) = false := rfl
      unfold State.takeIn
      simp only [dtc, notAgg, Bool.false_and, Bool.false_eq_true, if_false, State.nowOf, State.tagsOf, new]
      rw [if_pos (Bool.or_eq_true_iff.mpr (.inl bound))]
      rfl
    · rw [State.stagingOf, quickReply_staging, setTags_staging, State.stagingOf]

/-! ## Sentences past step 7 -/

/-- A sentence for the aggregator itself, past step 7, goes through the steps from 8 on. -/
theorem runSentence_own {s : State} {v : Verb} {x : Sentence} (body : Sentence → State → State × Answer) (agg : x.part = .agg)
    (ready : s.dev.fwReady = true) (admitted : s.admits v x = true) (own : (s.taken v x).isOwn x.target = true) :
    s.runSentence v body x = (s.taken v x).runOwn v body x := by
  have e : s.runSentence v body x = (s.taken v x).runAgg v body x := by
    simp only [State.runSentence, agg, ready, taken_pair admitted, admits_turn admitted, Bool.not_true, Bool.or_self, Bool.false_eq_true, if_false]
  rw [e, State.runAgg, if_pos (by rw [own, Bool.or_true])]

/-- A row whose sentence, past step 7, ends in a state with the same open sets. -/
theorem exec_row_final {i : Instr} {r : VerbCommand} {s t : State} (h : verbRow i = some r) (own : r.own s = true)
    (admitted : s.admits r.verb r.x = true) (run : s.runSentence r.verb r.body r.x = t) (same : t.verbs.staging = (s.taken r.verb r.x).verbs.staging) :
    exec i s = .next { t with pending := s.pending } := by
  rw [exec_row_unstaged h own (by rw [run, same, taken_staging admitted]), run]
  rfl

theorem quiet_with_pending {s t : State} (h : Quiet s t) : Quiet s { t with pending := s.pending } :=
  ⟨rfl, h.free, h.time, h.sys, h.sec, h.phys, h.hbm, h.data, h.rel, h.sync, h.hub, h.sinks⟩

/-- Settles O14: each refusal of steps 8 to 11 is the one that `runOwn` comes to first. -/
theorem refusedSentencesHaveNoEffect : Obligations.RefusedSentencesHaveNoEffect := by
  intro i r s h own agg ready admitted isOwn st why
  have run : s.runSentence r.verb r.body r.x = (s.taken r.verb r.x).final .agg r.x.ticket st := by
    rw [runSentence_own r.body agg ready admitted isOwn, State.runOwn]
    obtain ⟨unknown, rfl⟩ | ⟨here, low, rfl⟩ | ⟨here, level, form, rfl⟩ | ⟨here, level, form, long, rfl⟩ | ⟨here, level, form, fits, short, rfl⟩ := why
    · simp only [unknown, Bool.not_false, if_true]
    · simp only [here, low, Bool.not_true, Bool.false_eq_true, if_false, if_true]
    · simp only [here, form, if_neg (Nat.not_lt.mpr level), Bool.not_true, Bool.not_false, Bool.false_eq_true, if_false, if_true]
    · simp only [here, form, long, if_neg (Nat.not_lt.mpr level), Bool.not_true, Bool.false_eq_true, if_false, if_true]
    · have bad : (decide (r.x.plen < r.verb.minLen) || !r.verb.check .agg r.x) = true := by
        obtain short | check := short
        · rw [decide_eq_true short, Bool.true_or]
        · rw [check, Bool.not_false, Bool.or_true]
      simp only [here, form, bad, if_neg (Nat.not_lt.mpr level), if_neg (Nat.not_lt.mpr fits), Bool.not_true, Bool.false_eq_true, if_false, if_true]
  exact ⟨exec_row_final h own admitted run (final_staging ..), quiet_with_pending ((quiet_taken ..).trans (quiet_final ..))⟩

/-- Settles O15: step 12 counts the violation and answers with zeros. -/
theorem deniedSentencesAreSilent : Obligations.DeniedSentencesAreSilent := by
  intro i r s why h own reaches denied unstaged t u
  have run : s.runSentence r.verb r.body r.x = u := by
    simp only [runSentence_reaches r.body reaches, denied, State.silent, unstaged, Bool.false_and, Bool.false_eq_true, if_false]
    rfl
  refine ⟨?_, quiet_with_pending ?_⟩
  · rw [exec_row h own (fun staged => absurd (staged.symm.trans unstaged) (by decide)), run]
    rfl
  · exact (quiet_taken ..).trans ((quiet_violation ..).trans ((Quiet.ite (quiet_acceptedReply ..) (.refl _)).trans (quiet_final ..)))

/-- Settles O16: the two answers of step 13 at a standby. -/
theorem standbyRefusesOrCarries : Obligations.StandbyRefusesOrCarries := by
  intro i r s h own reaches denied standby t
  have admitted := (reaches_iff.mp reaches).2.2.1
  refine ⟨fun refuse => ⟨exec_row_final h own admitted ?_ (final_staging ..), quiet_with_pending ((quiet_taken ..).trans (quiet_final ..))⟩,
    fun client carry => ⟨updTag (t.tagsOf .agg) r.x.req r.x.tag fun e => { e with phase := .running },
      exec_row_final h own admitted ?_ ((emit_staging ..).trans (setTags_staging t .agg _))⟩⟩
  · simp only [runSentence_reaches r.body reaches, denied, standby, refuse, beq_self_eq_true, Bool.and_self, if_true]
    rfl
  · have other : (Standby.carry == Standby.refuse) = false := rfl
    simp only [runSentence_reaches r.body reaches, denied, standby, carry, other, bne_iff_ne.mpr client, beq_self_eq_true, Bool.and_false, Bool.and_self,
      Bool.false_eq_true, if_true, if_false]
    rfl

/-! ## Staged sentences (R110) -/

/-- A set that is not empty of news reads back as it was stored. -/
theorem stagingOf_setStaging {s : State} {r : Requester} {g : Staging} (h : g ≠ {}) : (s.setStaging r g).stagingOf r = g := by
  unfold State.stagingOf State.setStaging
  dsimp only
  rw [Tbl.set, if_neg h, Tbl.get, Tbl.find_insert_eq, Option.getD_some]

/-- What joining does to the requester's open set, by whether one is open and has room. -/
theorem joinSet_opened (s : State) (v : Verb) (x : Sentence) : match (s.stagingOf x.req).opened with
    | none => ((s.joinSet v x false).stagingOf x.req).opened = some ⟨s.verbs.setNumber, [(v.code, x)], s.now⟩
    | some g =>
      if 64 ≤ g.changes.length then s.joinSet v x false = s.final .agg x.ticket St.busy
      else ((s.joinSet v x false).stagingOf x.req).opened = some { g with changes := g.changes ++ [(v.code, x)], last := s.now } := by
  have stored (g : StageSet) {t : State} {typ : Nat} {b : Bytes} {buf : Option ResultBuffer}
      (same : t.verbs.staging = (s.setStaging x.req { s.stagingOf x.req with opened := some g }).verbs.staging) :
      (((t.mirror typ b).acceptedReply x buf).stagingOf x.req).opened = some g := by
    rw [State.stagingOf, acceptedReply_staging, mirror_staging, same]
    exact congrArg Staging.opened (stagingOf_setStaging (by simp))
  cases open_ : (s.stagingOf x.req).opened with
  | none =>
    unfold State.joinSet
    simp only [open_]
    exact stored _ rfl
  | some g =>
    unfold State.joinSet
    simp only [open_]
    split
    · rfl
    · exact stored _ rfl

/-- A queue that is as it was need not be put back. -/
theorem with_pending_eq {s t : State} (h : t.pending = s.pending) : { t with pending := s.pending } = t := by
  rw [← h]

/-- Settles O17: joining changes the open set, so that a staged PLACE_MODEL that joins starts its copy; a full set stays as it is. -/
theorem stagedSentencesJoinTheirSet : Obligations.StagedSentencesJoinTheirSet := by
  intro i r s h own reaches denied standby staged t
  have admitted := (reaches_iff.mp reaches).2.2.1
  have run : s.runSentence r.verb r.body r.x = t.joinSet r.verb r.x false := by
    simp only [runSentence_reaches r.body reaches, denied, standby, staged, Bool.false_and, Bool.false_eq_true, if_false, if_true]
    rfl
  have sets : t.verbs.staging = s.verbs.staging := taken_staging admitted
  have sameSet : t.stagingOf r.x.req = s.stagingOf r.x.req := by rw [State.stagingOf, sets, State.stagingOf]
  have numbers : t.verbs.setNumber = s.verbs.setNumber ∧ t.now = s.now := by
    obtain e | ⟨ts, e⟩ := taken_eq admitted
    · exact ⟨congrArg (·.verbs.setNumber) e, congrArg State.now e⟩
    · refine ⟨(congrArg (·.verbs.setNumber) e).trans ?_, (congrArg State.now e).trans ?_⟩ <;> cases r.x.part <;> rfl
  have joined := joinSet_opened t r.verb r.x
  rw [sameSet, numbers.1, numbers.2] at joined
  have quiet : Quiet s (t.joinSet r.verb r.x false) := (quiet_taken ..).trans (quiet_joinSet ..)
  have place (x : Sentence) (hi : i = .placeModel x) (new : ((t.joinSet r.verb r.x false).stagingOf r.x.req).opened ≠ (s.stagingOf r.x.req).opened) :
      exec i s = .next { (t.joinSet r.verb r.x false).stagePlace x with pending := s.pending } := by
    subst hi
    rw [exec_row_joined h own, run]
    have code : (r.verb.code == 0x0502) = true ∧ r.x = x := by
      cases h
      exact ⟨rfl, rfl⟩
    simp only [code.1, staged, bne_iff_ne.mpr new, Bool.and_self, if_true, finish_eq]
    rw [code.2]
  refine ⟨t.joinSet r.verb r.x false, quiet, fun notPlace => ?_, ?_⟩
  · rw [exec_row h own fun _ => notPlace, run, finish_eq, with_pending_eq quiet.pending]
  cases open_ : (s.stagingOf r.x.req).opened with
  | none =>
    rw [open_] at joined place
    exact ⟨joined, fun x hi => place x hi (by rw [joined]; exact nofun)⟩
  | some g =>
    rw [open_] at joined place
    dsimp only at joined ⊢
    split
    · rename_i full
      rw [if_pos full] at joined
      have keeps : (t.joinSet r.verb r.x false).verbs.staging = t.verbs.staging := by rw [joined, final_staging]
      refine ⟨?_, ?_, ?_⟩
      · rw [State.stagingOf, keeps, sets]
        exact open_
      · rw [← joined, with_pending_eq quiet.pending]
      · rw [exec_row_final h own admitted run keeps, with_pending_eq quiet.pending]
    · rename_i room
      rw [if_neg room] at joined
      refine ⟨joined, fun x hi => place x hi ?_⟩
      rw [joined]
      intro e
      have len := congrArg (fun o => (o.map fun g : StageSet => g.changes.length).getD 0) e
      simp at len

/-! ## Mirroring (R489, R490) -/

@[simp] theorem mirror_withheld (s : State) (typ : Nat) (b : Bytes) : (s.mirror typ b).pair.withheld = s.pair.withheld := by
  unfold State.mirror
  split <;> rfl

/-- Settles O18: by the two branches of `start` at an active that mirrors. -/
theorem mirroringWithholdsEffects : Obligations.MirroringWithholdsEffects := by
  intro i r s h own reaches denied unstaged mirrors t
  have admitted := (reaches_iff.mp reaches).2.2.1
  have active : (s.taken r.verb r.x).pair.standby = false := by
    simp only [State.mirrors, State.active, Bool.and_eq_true, Bool.not_eq_true'] at mirrors
    exact mirrors.1.2
  have row := exec_row h own fun staged => absurd (staged.symm.trans unstaged) (by decide)
  have run : s.runSentence r.verb r.body r.x = (s.taken r.verb r.x).start r.verb r.body r.x := by
    simp only [runSentence_reaches r.body reaches, denied, active, unstaged, Bool.false_and, Bool.false_eq_true, if_false]
  have same : (s.taken r.verb r.x).pair = s.pair := by
    obtain e | ⟨ts, e⟩ := taken_eq admitted <;> rw [e]
    exact State.setTags_pair ..
  rw [State.start, if_pos mirrors] at run
  split
  · rename_i hold
    rw [if_pos hold] at run
    refine ⟨_, row.trans (congrArg (finish s) run), quiet_with_pending ((quiet_taken s r.verb r.x).trans ?_), ?_⟩
    · exact (((quiet_mirror ..).trans (quiet_mirror ..)).trans (quiet_setTags ..)).trans (quiet_pair ..)
    · simp only [State.setTags_pair, mirror_withheld, same]
      rfl
  · rename_i now
    rw [if_neg now] at run
    rw [row, run]
    rfl

/-- Settles O19. -/
theorem takingAndAnsweringTouchNoResource : Obligations.TakingAndAnsweringTouchNoResource :=
  fun s v x a => ⟨quiet_taken s v x, quiet_giveAnswer s x a, fun runs => taken_eq (runs_admits runs)⟩

/-! ## The first sentence after an expiry (R112) -/

/-- A staged PLACE_MODEL of model 0 of tenant 0, with an empty mask, from queue pair 0. -/
def stagedPlace : Sentence := ⟨.agg, .qp 0, 4, 1, 16, 0, 0, []⟩

/-- A state whose staging table lists queue pair 0 twice: first as expired, then with a set that holds `stagedPlace`. -/
def expiredTwice : State :=
  { dev := { fwReady := true }
    verbs := { staging := [(0, { expired := true }), (0, { opened := some ⟨0, [(0x0502, stagedPlace)], 0⟩ })] }
    data := { models := [(0, { st := 2 })] } }

/-- Whether model 0 of tenant 0 is PLACING after an outcome. -/
def placing : Host.Outcome State Fault Refusal → Bool
  | .next t => (t.model 0).st == 3
  | _ => false

/-- Refutes O12: where the staging table is not canonical, forgetting the expiry uncovers the second entry of the requester, so that its set is no longer
open as it was, and the staged PLACE_MODEL, turned away with ST_STAGE_EXPIRED, starts the copy that this set holds. -/
theorem not_firstSentenceAfterExpiryIsTurnedAway : ¬ Obligations.FirstSentenceAfterExpiryIsTurnedAway := by
  intro h
  have turned := h (.placeModel stagedPlace) _ expiredTwice rfl rfl rfl rfl (by decide +kernel) (by decide +kernel)
  have starts : placing (exec (.placeModel stagedPlace) expiredTwice) = true := by decide +kernel
  rw [turned] at starts
  exact absurd starts (by decide +kernel)

/-! ## An empty queue (log entry 3) -/

/-- What draining the trace hub leaves alone. -/
def State.still (s : State) : List Instr × Nat × AggTime × SysState × SecState × PhysState × HbmState × DataPlane × RelState × SyncState :=
  (s.pending, s.free, s.time, s.sys, s.sec, s.phys, s.hbm, s.data, s.rel, s.sync)

theorem Quiet.still {s t : State} (h : Quiet s t) : t.still = s.still := by
  rw [State.still, h.pending, h.free, h.time, h.sys, h.sec, h.phys, h.hbm, h.data, h.rel, h.sync, State.still]

theorem setSink_still (s : State) (i : Nat) (k : Sink) : (s.setSink i k).still = s.still := rfl

theorem ringWrite_still (s : State) (i : Nat) (b : Bytes) : (s.ringWrite i b).still = s.still := by
  unfold State.ringWrite
  dsimp only
  rw [setSink_still, (quiet_emit ..).still, (Quiet.ite (.refl _) (quiet_emit ..)).still, (quiet_emit ..).still]

theorem sinkWrite_still (s : State) (i : Nat) (b : Bytes) : (s.sinkWrite i b).1.still = s.still := by
  simp only [State.sinkWrite, fst_ite]
  split
  · rw [ringWrite_still, setSink_still]
  · rfl

theorem hub_still (s : State) (u : TraceUnit) : ({ s with hub := u } : State).still = s.still := rfl

theorem endFlushes_still (s : State) (w : Part) : (s.endFlushes w).still = s.still := by
  unfold State.endFlushes
  refine (Quiet.foldl (fun _ _ => quiet_final ..) _ _).still.trans ?_
  split
  · rfl
  · cases w <;> rfl

theorem drainHub_still (s : State) : s.drainHub.still = s.still := by
  unfold State.drainHub
  dsimp only
  split
  · split <;> rfl
  · split
    · rfl
    · split
      · rfl
      · split
        · rw [endFlushes_still, hub_still, sinkWrite_still]
        · rfl

/-- With nothing to drain the hub's credit is all that may change. -/
theorem drainHub_idle {s : State} (h : s.hub.buffer = []) : ∃ u, s.drainHub = { s with hub := u } := by
  unfold State.drainHub
  simp only [h]
  split
  · exact ⟨s.hub, rfl⟩
  · exact ⟨_, rfl⟩

theorem deliverDue_idle {s : State} (h : ∀ e ∈ s.data.crossings, ∀ q ∈ e.2, s.now < q.due) : s.deliverDue = s := by
  unfold State.deliverDue
  rw [if_neg]
  simp only [List.any_eq_true, decide_eq_true_eq, not_exists, not_and, Nat.not_le]
  exact h

/-- A cycle advances the aggregator's clock by what service time advances, or before it is valid by 1 ns (R616). -/
theorem cycle_clock (t : AggTime) : t.cycle.clock = t.clock + if t.sel.valid then t.cycle.sel.svc - t.sel.svc else unit := rfl

/-- Settles O2: the cycle's fields, kept by the hub's turn. -/
theorem emptyQueueIsOneClockCycle : Obligations.EmptyQueueIsOneClockCycle := by
  intro s empty
  let cycled : State := { s with
    free := s.free + 65
    time := if s.phys.porLow then s.time else s.time.cycle
    dtcs := (s.dtcs.map fun (e : Nat × Dtc) => (e.1, e.2.clockCycle (s.free + e.1))).filter fun (e : Nat × Dtc) => decide (e.2 ≠ ({ } : Dtc)) }
  let counted := cycled.countEngines (s.free + 64)
  have run : step s = .next counted.drainHub.deliverDue := step_idle empty
  have still := drainHub_still counted
  simp only [State.still, Prod.mk.injEq] at still
  obtain ⟨pending, free, time, sys, sec, phys, hbm, data, rel, sync⟩ := still
  refine ⟨counted.drainHub, run, pending.trans empty, free, time, ?_, sys, sec, phys, hbm, data, rel, sync, fun idle => ?_, fun due => ?_⟩
  · rw [time]
    change (if s.phys.porLow then s.time else s.time.cycle).clock = _ + if s.phys.porLow then 0 else if s.time.sel.valid then
      (if s.phys.porLow then s.time else s.time.cycle).sel.svc - _ else unit
    split
    · rfl
    · exact cycle_clock s.time
  · obtain ⟨u, e⟩ := drainHub_idle (s := counted) idle
    rw [e]
    exact ⟨rfl, rfl, rfl, rfl, rfl, rfl, rfl, rfl⟩
  · rw [run, deliverDue_idle (by rw [data]; exact due)]

end Sys2Proof.Machine
end

section
/-! The verbs of classes 0x00 and 0x01 (R54 to R91, R125, R133, R136). -/

namespace Sys2Proof.Machine
open Sys2Proof Sys2Proof.Proofs

/-! ## Rows whose body says what the claim says -/

/-- A row does what its body does, where the guard keeps the sentence to the row's own form. -/
theorem does_own {c : Sentence → Instr} {v : Verb} {body f : Sentence → State → State × Answer} {g : Sentence → State → Prop}
    {own : Sentence → State → Bool} (row : ∀ x, verbRow (c x) = some { verb := v, x := x, body := body, own := own x })
    (mine : ∀ s x, g x (s.taken v x) → own x s = true) (h : ∀ x t, g x t → body x t = f x t) : Does c v g f :=
  does_of body (fun s x runs guard => exec_row (row x) (mine s x guard) fun staged => runs_notPlace (row x) runs staged) h

/-- A row that takes sentences of every form does what its body does. -/
theorem does_row {c : Sentence → Instr} {v : Verb} {body f : Sentence → State → State × Answer} {g : Sentence → State → Prop}
    (row : ∀ x, verbRow (c x) = some { verb := v, x := x, body := body }) (h : ∀ x t, g x t → body x t = f x t) : Does c v g f :=
  does_own row (fun _ _ _ => rfl) h

/-- A row that takes sentences of every form shows what its body shows. -/
theorem shows_row {c : Sentence → Instr} {v : Verb} {body : Sentence → State → State × Answer} {g : Sentence → State → Prop} {k : Nat}
    {n : Sentence → State → Nat} (row : ∀ x, verbRow (c x) = some { verb := v, x := x, body := body })
    (h : ∀ x t, g x t → ∃ r : Bytes, r.length = n x t ∧ body x t = ({ t with free := t.free + k }, .final St.ok r)) : Shows c v g k n :=
  shows_of body (fun _ x runs _ => exec_row (row x) rfl fun staged => runs_notPlace (row x) runs staged) h

/-! ## Class 0x00 (R125, R133, R136) -/

/-- The port that SUBUNIT p + 1 names. -/
theorem subunit_port {n : Nat} {p : Fin 64} (h : n = p.val + 1) (b : 1 ≤ n ∧ n ≤ 64) : (⟨n - 1, by omega⟩ : Fin 64) = p :=
  Fin.ext (by dsimp only; omega)

/-- Settles O21: each body, read at the part of its clause. -/
theorem basicVerbsDoWhatTheySay : Obligations.BasicVerbsDoWhatTheySay := by
  refine ⟨does_row (fun _ => rfl) fun x t _ => ?_, does_row (fun _ => rfl) fun x t agg => ?_,
    fun p => does_row (fun _ => rfl) fun x t dtc => ?_, does_row (fun _ => rfl) fun x t agg => ?_,
    fun p => does_row (fun _ => rfl) fun x t dtc => ?_, does_row (fun _ => rfl) fun x t _ => ?_,
    does_row (fun _ => rfl) fun x t ⟨agg, own⟩ => ?_, fun p => does_row (fun _ => rfl) fun x t ⟨agg, port⟩ => ?_,
    fun p => does_row (fun _ => rfl) fun x t dtc => ?_⟩
  · rfl
  · simp only [getVersionBody, agg, versionRegister]
  · simp only [getVersionBody, dtc, versionRegister]
  · simp only [getVerbCountersBody, agg]
  · simp only [getVerbCountersBody, dtc]
  · simp only [setTransportBody, EtherSetting.write]
  · have none_named : ¬ (1 ≤ x.subunit.toNat ∧ x.subunit.toNat ≤ 64) := by simp [own]
    simp only [setOidBody, agg, dif_neg none_named]
  · have named : 1 ≤ x.subunit.toNat ∧ x.subunit.toNat ≤ 64 := by omega
    have index : x.subunit.toNat - 1 = p.val := by omega
    simp only [setOidBody, agg, dif_pos named, subunit_port port named, index]
  · simp only [setOidBody, dtc]

/-! ## The timebase verbs (R54 to R90) -/

/-- Settles O22: each body at the aggregator. -/
theorem timebaseVerbsActOnTheirDomain : Obligations.TimebaseVerbsActOnTheirDomain := by
  refine ⟨does_row (fun _ => rfl) fun x t agg => ?_, does_row (fun _ => rfl) fun x t agg => ?_,
    does_row (fun _ => rfl) fun x t agg => ?_, does_row (fun _ => rfl) fun x t ⟨agg, free⟩ => ?_,
    does_row (fun _ => rfl) fun x t ⟨agg, followed⟩ => ?_, does_row (fun _ => rfl) fun x t once => ?_,
    does_row (fun _ => rfl) fun x t twice => ?_, does_row (fun _ => rfl) fun x t _ => ?_,
    does_row (fun _ => rfl) fun x t _ => ?_⟩
  · simp only [getTimeBody, agg]
  · simp only [setIncrementBody, agg]
  · simp only [phaseAddBody, agg]
  · simp only [setTimeBody, agg, free, Bool.false_eq_true, if_false]
  · simp only [setTimeBody, agg, followed, if_true]
  · simp only [setDomainStateBody, once, Bool.false_eq_true, if_false, Bool.or_eq_true, bne_iff_ne, beq_iff_eq, ne_eq]
  · simp only [setDomainStateBody, twice, if_true]
  · rfl
  · rfl

/-- Settles O23: each body at a DTC, by whether the sentence may write the copy. -/
theorem dtcTimeIsWrittenFromTheFollowedLink : Obligations.DtcTimeIsWrittenFromTheFollowedLink := by
  intro p
  refine ⟨does_row (fun _ => rfl) fun x t dtc => ?_, does_row (fun _ => rfl) fun x t ⟨dtc, allowed⟩ => ?_,
    does_row (fun _ => rfl) fun x t ⟨dtc, foreign⟩ => ?_, does_row (fun _ => rfl) fun x t ⟨dtc, allowed⟩ => ?_,
    does_row (fun _ => rfl) fun x t ⟨dtc, foreign⟩ => ?_, does_row (fun _ => rfl) fun x t ⟨dtc, allowed, invalid⟩ => ?_,
    does_row (fun _ => rfl) fun x t ⟨dtc, refused⟩ => ?_⟩
  · simp only [getTimeBody, dtc]
  · simp only [setIncrementBody, dtc, allowed, Bool.not_true, Bool.false_eq_true, if_false]
  · simp only [setIncrementBody, dtc, foreign, Bool.not_false, if_true]
  · simp only [phaseAddBody, dtc, allowed, Bool.not_true, Bool.false_eq_true, if_false]
    rfl
  · simp only [phaseAddBody, dtc, foreign, Bool.not_false, if_true]
  · have may : ((x.req != .mailbox && !fromFollowed t p x) || (t.dtc p).time.valid) = false := by
      obtain mailbox | followed := allowed
      · simp [mailbox, invalid]
      · simp [followed, invalid]
    simp only [setTimeBody, dtc, may, Bool.false_eq_true, if_false]
  · have mayNot : ((x.req != .mailbox && !fromFollowed t p x) || (t.dtc p).time.valid) = true := by
      obtain ⟨client, foreign⟩ | valid := refused
      · simp [client, foreign]
      · simp [valid]
    simp only [setTimeBody, dtc, mayNot, if_true]

/-! ## The stamping verbs (R75, R76, R83 to R87, R91) -/

/-- Settles O24: each body, at the part of its clause. -/
theorem stampingVerbsActOnTheirInput : Obligations.StampingVerbsActOnTheirInput := by
  refine ⟨does_row (fun _ => rfl) fun x t agg => ?_, does_row (fun _ => rfl) fun x t ⟨agg, bad⟩ => ?_,
    fun r => does_row (fun _ => rfl) fun x t ⟨agg, taken⟩ => ?_, does_row (fun _ => rfl) fun x t agg => ?_,
    does_row (fun _ => rfl) fun x t agg => ?_, does_row (fun _ => rfl) fun x t agg => ?_, fun p => ⟨?_, ?_, fun r => ?_, ?_, ?_, ?_⟩,
    does_row (fun _ => rfl) fun x t _ => ?_, does_row (fun _ => rfl) fun x t _ => ?_, does_row (fun _ => rfl) fun x t _ => ?_⟩
  · simp only [setAsymmetryBody, agg]
  · simp only [setTriggerBody, agg, bad]
  · simp only [setTriggerBody, agg, taken]
  · simp only [getTriggerBody, agg]
  · simp only [setCaptureBody, agg]
  · simp only [readCapturesBody, agg]
  · exact does_row (fun _ => rfl) fun x t dtc => by simp only [setAsymmetryBody, dtc]
  · exact does_row (fun _ => rfl) fun x t ⟨dtc, bad⟩ => by simp only [setTriggerBody, dtc, bad]
  · exact does_row (fun _ => rfl) fun x t ⟨dtc, taken⟩ => by simp only [setTriggerBody, dtc, taken]
  · exact does_row (fun _ => rfl) fun x t dtc => by simp only [getTriggerBody, dtc]
  · exact does_row (fun _ => rfl) fun x t dtc => by simp only [setCaptureBody, dtc]
  · exact does_row (fun _ => rfl) fun x t dtc => by simp only [readCapturesBody, dtc]
  · rfl
  · rfl
  · rfl

end Sys2Proof.Machine
end

section
/-! Collection, check-value and trace verbs -/

namespace Sys2Proof.Machine
open Sys2Proof Sys2Proof.Proofs

/-! ## Collection settings (R180 to R189) -/

/-- An activation stamp that a setting may carry at a part whose time is `now` and whose epoch is `epoch`: none, or a coming tick far enough away. -/
def actTaken (act : Stamp) (valid : Bool) (epoch now : Nat) : Prop :=
  act = Stamp.zero ∨ (valid = true ∧ ¬ (ofStamp act % (epoch * unit) ≠ 0 ∨ ofStamp act < now + twoUs))

theorem actTaken_valid {act : Stamp} {valid : Bool} {epoch now : Nat} (h : actTaken act valid epoch now) : (act != Stamp.zero && !valid) = false := by
  obtain none | ⟨valid, -⟩ := h
  · simp [none]
  · simp [valid]

theorem actTaken_far {act : Stamp} {valid : Bool} {epoch now : Nat} (h : actTaken act valid epoch now) :
    (act != Stamp.zero && (ofStamp act % (epoch * unit) != 0 || decide (ofStamp act < now + twoUs))) = false := by
  obtain none | ⟨-, far⟩ := h
  · simp [none]
  · simp only [not_or, Classical.not_not] at far
    simp [far]

theorem actNear {act : Stamp} {epoch now : Nat} (set : act ≠ Stamp.zero) (near : ofStamp act % (epoch * unit) ≠ 0 ∨ ofStamp act < now + twoUs) :
    (act != Stamp.zero && (ofStamp act % (epoch * unit) != 0 || decide (ofStamp act < now + twoUs))) = true := by
  simpa [set] using near

/-- Settles O25: the checks of a setting in their order, at a DTC and at the aggregator. -/
theorem collectionSettingsWaitForTheirTick : Obligations.CollectionSettingsWaitForTheirTick := by
  intro cv listed
  have row : ∀ x, verbRow (cv.1 x) = some { verb := cv.2, x := x, body := configBody cv.2.code } := by
    simp only [List.mem_cons, List.not_mem_nil, or_false] at listed
    obtain rfl | rfl | rfl := listed <;> exact fun _ => rfl
  refine ⟨fun p => ⟨?_, ?_, ?_, ?_⟩, ?_, ?_, ?_, ?_⟩
  · refine does_row row fun x t ⟨dtc, act, fits⟩ => ?_
    simp only [configBody, dtc, Dtc.configure, actTaken_valid act, actTaken_far act, fits, Bool.false_eq_true, if_false] <;> rfl
  · refine does_row row fun x t ⟨dtc, set, invalid⟩ => ?_
    simp [configBody, dtc, Dtc.configure, set, invalid]
  · refine does_row row fun x t ⟨dtc, set, valid, near⟩ => ?_
    simp only [configBody, dtc, Dtc.configure, actNear set near, valid, Bool.not_true, Bool.and_false, Bool.false_eq_true, if_false, if_true]
  · refine does_row row fun x t ⟨dtc, act, overload⟩ => ?_
    simp only [configBody, dtc, Dtc.configure, actTaken_valid act, actTaken_far act, overload, Bool.false_eq_true, if_false, if_true]
  · refine does_row row fun x t ⟨agg, set, invalid⟩ => ?_
    simp [configBody, agg, State.configAll, set, invalid]
  · refine does_row row fun x t ⟨agg, set, valid, near⟩ => ?_
    simp only [configBody, agg, State.configAll, actNear set near, valid, Bool.not_true, Bool.and_false, Bool.false_eq_true, if_false, if_true]
  · refine does_row row fun x t ⟨agg, act, refused⟩ => ?_
    simp only [configBody, agg, State.configAll, actTaken_valid act, actTaken_far act, refused, Bool.false_eq_true, if_false, if_true]
  · refine does_row row fun x t ⟨agg, act, fits⟩ => ?_
    simp only [configBody, agg, State.configAll, actTaken_valid act, actTaken_far act, fits, Bool.false_eq_true, if_false]

/-! ## Reading verbs of a DTC (R171 to R205) -/

/-- A freeze that a second one may join is pending. -/
theorem joins_pending {d : Dtc} {kind : Nat} (h : d.joins kind = true) : d.cnt.snapshotPending = true := by
  simp only [Dtc.joins, Bool.and_eq_true] at h
  exact h.1.1.1

/-- Settles O26: each body at a DTC. -/
theorem dtcReadsReturnTheirBanks : Obligations.DtcReadsReturnTheirBanks := by
  intro p
  refine ⟨does_row (fun _ => rfl) fun x t ⟨dtc, live⟩ => ?_, does_row (fun _ => rfl) fun x t ⟨dtc, frozen⟩ => ?_,
    does_row (fun _ => rfl) fun x t ⟨dtc, pending, alone⟩ => ?_, does_row (fun _ => rfl) fun x t ⟨dtc, joins⟩ => ?_,
    does_row (fun _ => rfl) fun x t ⟨dtc, idle⟩ => ?_, does_row (fun _ => rfl) fun x t dtc => ?_,
    does_row (fun _ => rfl) fun x t dtc => ?_, does_row (fun _ => rfl) fun x t dtc => ?_⟩
  · simp only [readCountersBody, dtc, live, if_true]
  · simp only [readCountersBody, dtc, frozen, if_false]
  · simp only [freezeCountersBody, dtc, pending, alone, Bool.not_false, Bool.and_self, if_true]
  · simp only [freezeCountersBody, dtc, joins, joins_pending joins, Bool.not_true, Bool.and_false, Bool.false_eq_true, if_false, if_true]
    rfl
  · have alone : (t.dtc p).joins 1 = false := by
      rw [← Bool.not_eq_true]
      exact fun joins => absurd ((joins_pending joins).symm.trans idle) (by decide)
    simp only [freezeCountersBody, dtc, idle, alone, Bool.false_and, Bool.false_eq_true, if_false]
  · simp only [readSensorsBody, dtc]
  · simp only [readEventRingBody, dtc]
  · simp only [readHangBody, dtc]

/-! ## Check-value scans (R153, R202 to R204) -/

/-- Settles O27: each body at a DTC, by whether a scan runs. -/
theorem dtcScansRunOneAtATime : Obligations.DtcScansRunOneAtATime := by
  intro p
  have start (x : Sentence) (h : x.b 0 = 0) : (x.b 0 != 1 || x.params.isEmpty) = true := by simp [h]
  have abort (x : Sentence) (h : x.b 0 = 1) : (x.b 0 == 1 || x.params.isEmpty) = true := by simp [h]
  refine ⟨does_row (fun _ => rfl) fun x t ⟨dtc, idle⟩ => ?_, does_row (fun _ => rfl) fun x t ⟨dtc, busy⟩ => ?_,
    does_own (fun _ => rfl) (fun _ x g => start x g.1) fun x t ⟨op, dtc, busy⟩ => ?_,
    does_own (fun _ => rfl) (fun _ x g => start x g.1) fun x t ⟨op, dtc, idle, zero⟩ => ?_,
    does_own (fun _ => rfl) (fun _ x g => start x g.1) fun x t ⟨op, dtc, idle, some_⟩ => ?_,
    does_own (fun _ => rfl) (fun _ x g => abort x g.1) fun x t ⟨op, dtc, busy⟩ => ?_,
    does_own (fun _ => rfl) (fun _ x g => abort x g.1) fun x t ⟨op, dtc, idle⟩ => ?_⟩
  · simp only [setCheckValueBody, dtc, idle, Option.isSome_none, Bool.false_eq_true, if_false]
  · simp only [setCheckValueBody, dtc, Option.isSome_iff_ne_none.mpr busy, if_true]
  · simp only [scanBody, op, scanStartBody, dtc, Option.isSome_iff_ne_none.mpr busy, if_true]
  · simp only [scanBody, op, scanStartBody, dtc, idle, zero, Option.isSome_none, Bool.false_eq_true, if_false, if_true]
  · simp only [scanBody, op, scanStartBody, dtc, idle, some_, Option.isSome_none, Bool.false_eq_true, if_false, if_true]
  · have running : (t.dtc p).scan.isNone = false :=
      Option.isNone_eq_false_iff.mpr (Option.isSome_iff_ne_none.mpr busy)
    simp only [scanBody, op, scanAbortBody, dtc, running, Nat.one_ne_zero, Bool.false_eq_true, if_false]
  · simp only [scanBody, op, scanAbortBody, dtc, idle, Option.isNone_none, Nat.one_ne_zero, if_false, if_true]

/-! ## Trace (R217 to R234) -/

/-- Settles O28: each body; a source is changed where the trace hub may be traced, and a flush marks the sources that trace. -/
theorem traceVerbsSetSourcesAndSinks : Obligations.TraceVerbsSetSourcesAndSinks := by
  refine ⟨does_row (fun _ => rfl) fun x t ⟨agg, on, barred⟩ => ?_, does_row (fun _ => rfl) fun x t ⟨on, allowed⟩ => ?_,
    does_row (fun _ => rfl) fun x t off => ?_, does_row (fun _ => rfl) fun x t stop => ?_, does_row (fun _ => rfl) fun x t size => ?_,
    ⟨does_row (fun _ => rfl) fun x t idle => ?_, does_row (fun _ => rfl) fun x t some_ => ?_⟩, does_row (fun _ => rfl) fun x t ⟨agg, own⟩ => ?_,
    does_row (fun _ => rfl) fun x t ⟨agg, other⟩ => ?_, fun p => does_row (fun _ => rfl) fun x t dtc => ?_⟩
  · simp only [setTraceSourceBody, agg, on, barred, decide_true, beq_self_eq_true, Bool.not_false, Bool.and_self, if_true]
  · have open_ : (x.part == .agg && !t.hubTraceAllowed) = false := by
      cases part : x.part with
      | agg => rw [allowed part]; rfl
      | dtc p => rfl
    simp only [setTraceSourceBody, on, Bool.and_assoc, open_, decide_true, Bool.and_false, Bool.false_eq_true, if_false, if_true]
  · have disabled : decide (x.b 1 % 2 = 1) = false := by simp [off]
    simp only [setTraceSourceBody, disabled, Bool.false_and, Bool.false_eq_true, if_false, if_neg (show ¬ x.b 1 % 2 = 1 by omega)]
  · rw [setTraceSinkBody, if_pos stop]
  · rw [setTraceSinkBody, if_neg size]
  · dsimp only at idle
    simp only [traceFlushBody, idle, List.foldl_nil, List.isEmpty_nil, if_true]
  · dsimp only at some_
    simp only [traceFlushBody, List.isEmpty_eq_false_iff.mpr some_, Bool.false_eq_true, if_false]
  · simp only [getTraceStatusBody, agg, own, beq_self_eq_true, if_true]
    rfl
  · simp only [getTraceStatusBody, agg, other, beq_self_eq_true, if_true, if_false]
  · simp only [getTraceStatusBody, dtc]
    rfl

end Sys2Proof.Machine
end

section
/-! Link verbs, models and placements -/

namespace Sys2Proof.Machine
open Sys2Proof Sys2Proof.Proofs

/-! ## Link modes (R263, R272) -/

/-- A DTC's own end does not lie in a port group of the aggregator. -/
theorem endOff_of_dtc {x : Sentence} {p : Fin 64} (s : State) (h : x.part = .dtc p) : s.endOff (endOf x) = false := by
  simp only [endOf, h, State.endOff]
  rfl

/-- The modes of LINK_RETRAIN: the row that carries each is its mode byte's. -/
theorem does_linkMode {c : Sentence → Instr} {mode : Nat} {f : Sentence → State → State × Answer} {g : Sentence → State → Prop}
    (listed : (c, mode) ∈ [(Instr.linkRetrain, 0), (Instr.linkPrbs31Test, 1), (Instr.linkLoopbackTest, 2), (Instr.linkTakeOutOfService, 3),
      (Instr.linkReturnToService, 4)]) (h : ∀ x t, x.b 1 = mode → g x t → linkModeBody x t = f x t) :
    Does c vLinkRetrain (fun x t => x.b 1 = mode ∧ g x t) f := by
  simp only [List.mem_cons, List.not_mem_nil, Prod.mk.injEq, or_false] at listed
  obtain ⟨rfl, rfl⟩ | ⟨rfl, rfl⟩ | ⟨rfl, rfl⟩ | ⟨rfl, rfl⟩ | ⟨rfl, rfl⟩ := listed <;>
    exact does_own (fun _ => rfl) (fun _ x g => by simp [g.1]) fun x t g => h x t g.1 g.2

/-- The two test modes are modes of LINK_RETRAIN. -/
theorem linkTest_listed {cm : (Sentence → Instr) × Nat} (listed : cm ∈ [(Instr.linkPrbs31Test, 1), (Instr.linkLoopbackTest, 2)]) :
    cm ∈ [(Instr.linkRetrain, 0), (Instr.linkPrbs31Test, 1), (Instr.linkLoopbackTest, 2), (Instr.linkTakeOutOfService, 3),
      (Instr.linkReturnToService, 4)] :=
  List.mem_cons_of_mem _ (List.mem_append_left [(Instr.linkTakeOutOfService, 3), (Instr.linkReturnToService, 4)] listed)

/-- Settles O29: each mode's body. -/
theorem linkModesMoveTheLink : Obligations.LinkModesMoveTheLink := by
  refine ⟨fun cm listed => does_linkMode listed fun x t mode off => ?_, does_linkMode (by simp) fun x t mode ⟨on, down⟩ => ?_,
    does_linkMode (by simp) fun x t mode ⟨on, up⟩ => ?_, fun cm listed => ⟨?_, ?_⟩, does_linkMode (by simp) fun x t mode on => ?_,
    does_linkMode (by simp) fun x t mode on => ?_⟩
  · simp only [linkModeBody, off, if_true]
  · simp only [linkModeBody, on, mode, linkRetrainBody, down, Bool.not_false, Bool.false_eq_true, if_false, if_true]
  · simp only [linkModeBody, on, mode, linkRetrainBody, up, Bool.not_true, Bool.false_eq_true, if_false]
  · refine does_linkMode (linkTest_listed listed) fun x t mode ⟨on, lives⟩ => ?_
    simp only [List.mem_cons, List.not_mem_nil, or_false] at listed
    obtain rfl | rfl := listed <;> simp only [linkModeBody, on, mode, linkTestBody, lives, Bool.false_eq_true, if_false, if_true]
  · refine does_linkMode (linkTest_listed listed) fun x t mode ⟨on, lives⟩ => ?_
    simp only [List.mem_cons, List.not_mem_nil, or_false] at listed
    obtain rfl | rfl := listed <;> simp only [linkModeBody, on, mode, linkTestBody, lives, Bool.false_eq_true, if_false]
  · simp only [linkModeBody, on, mode, linkTakeOutBody, Bool.false_eq_true, if_false]
    cases (t.linkEnd (endOf x).1 (endOf x).2.1 (endOf x).2.2).st <;> rfl
  · simp only [linkModeBody, on, mode, linkReturnBody, Bool.false_eq_true, if_false]

/-! ## The other link verbs (R240, R264, R272, R273) -/

/-- LANE_SWAP, action 0. -/
theorem does_laneRetire {f : Sentence → State → State × Answer} {g : Sentence → State → Prop}
    (h : ∀ x t, x.b 1 = 0 → g x t → laneSwapBody x t = f x t) : Does .laneSwapRetire vLaneSwap (fun x t => x.b 1 = 0 ∧ g x t) f :=
  does_own (fun _ => rfl) (fun _ x g => by simp [g.1]) fun x t g => h x t g.1 g.2

/-- LANE_SWAP, action 1. -/
theorem does_laneSet {f : Sentence → State → State × Answer} {g : Sentence → State → Prop}
    (h : ∀ x t, x.b 1 = 1 → g x t → laneSwapBody x t = f x t) : Does .laneSwapSetAutomatic vLaneSwap (fun x t => x.b 1 = 1 ∧ g x t) f :=
  does_own (fun _ => rfl) (fun _ x g => by simp [g.1]) fun x t g => h x t g.1 g.2

/-- Settles O30: each body, at an end that is not switched off. -/
theorem linkVerbsActOnTheirEnd : Obligations.LinkVerbsActOnTheirEnd := by
  refine ⟨does_laneRetire fun x t op off => ?_, does_laneSet fun x t op off => ?_, does_row (fun _ => rfl) fun x t off => ?_,
    does_row (fun _ => rfl) fun x t off => ?_, does_laneRetire fun x t op out => ?_, does_laneRetire fun x t op ⟨on, active, idle, other⟩ => ?_,
    does_laneRetire fun x t op ⟨on, active, idle, spare⟩ => ?_, does_laneSet fun x t op down => ?_, does_laneSet fun x t op ⟨on, up⟩ => ?_,
    does_row (fun _ => rfl) fun x t agg => ?_,
    fun p => ⟨does_row (fun _ => rfl) fun x t ⟨dtc, low, trace⟩ => ?_, does_row (fun _ => rfl) fun x t ⟨dtc, may⟩ => ?_,
      does_row (fun _ => rfl) fun x t dtc => ?_, does_row (fun _ => rfl) fun x t dtc => ?_⟩,
    does_row (fun _ => rfl) fun x t ⟨agg, on⟩ => ?_, does_row (fun _ => rfl) fun x t ⟨agg, on⟩ => ?_⟩
  · simp only [laneSwapBody, off, if_true]
  · simp only [laneSwapBody, off, if_true]
  · simp only [getLinkStatusBody, off, if_true]
  · simp only [getJournalBody, off, if_true]
  · have refused : (!(t.linkEnd (endOf x).1 (endOf x).2.1 (endOf x).2.2).active ||
        (t.linkEnd (endOf x).1 (endOf x).2.1 (endOf x).2.2).rxSwap != .none) = true := by
      obtain down | busy := out
      · simp [down]
      · simp [busy]
    simp only [laneSwapBody, op, laneSwapRetireBody, refused, if_true, ite_self]
  · simp only [laneSwapBody, on, op, laneSwapRetireBody, active, idle, other, bne_self_eq_false, Bool.not_true, Bool.or_self, Bool.false_eq_true,
      if_false, if_true]
    rfl
  · simp only [laneSwapBody, on, op, laneSwapRetireBody, active, idle, spare, bne_self_eq_false, Bool.not_true, Bool.or_self, Bool.false_eq_true,
      if_false, if_true]
    cases Config.retireSpareRefused <;> rfl
  · simp only [laneSwapBody, op, laneSwapSetBody, down, beq_self_eq_true, Nat.one_ne_zero, if_false, if_true, ite_self]
  · simp only [laneSwapBody, on, op, laneSwapSetBody, beq_false_of_ne up, Nat.one_ne_zero, Bool.false_eq_true, if_false]
  · simp only [setCompressionBody, agg]
  · simp only [setCompressionBody, dtc, low, trace, decide_true, Bool.and_self, if_true]
  · have taken : (decide (t.level (.dtc p) < 3) && (BitVec.ofNat 5 (x.f 2 2)).getLsbD 4) = false := by
      obtain high | none := may
      · rw [decide_eq_false (Nat.not_lt.mpr high), Bool.false_and]
      · rw [none, Bool.and_false]
    simp only [setCompressionBody, dtc, taken, Bool.false_eq_true, if_false]
  · rw [getLinkStatusBody, endOff_of_dtc t dtc]
    simp only [endOf, dtc]
    rfl
  · rw [getJournalBody, endOff_of_dtc t dtc]
    simp only [endOf, dtc]
    rfl
  · rw [getLinkStatusBody, on]
    simp only [endOf, agg]
    rfl
  · rw [getJournalBody, on]
    simp only [endOf, agg]
    rfl

/-! ## Loading models (R374, R375, R382) -/

/-- A load that outgrows the store or its context's quota. -/
def overfull (u : State) (c quota : Nat) : Bool := storePages < u.pagesUsed || quota < u.pagesOf c

/-- What is received of a sealed image does not match its slot. -/
def sealBroken (t : State) (x : Sentence) (l : LoadState) : Bool :=
  isSealed l.received && 64 ≤ l.received.length && !t.sealMatches x.tenant.toNat (x.f 0 2) l.received

theorem overfull_iff {u : State} {c quota : Nat} : overfull u c quota = true ↔ ¬ (u.pagesUsed ≤ 35776 ∧ u.pagesOf c ≤ quota) := by
  simp only [overfull, Bool.or_eq_true, decide_eq_true_eq, Classical.not_and_iff_not_or_not, Nat.not_le]
  rfl

theorem sealBroken_iff {t : State} {x : Sentence} {l : LoadState} : sealBroken t x l = true ↔
    ¬ (isSealed l.received = true → 64 ≤ l.received.length → t.sealMatches x.tenant.toNat (x.f 0 2) l.received = true) := by
  simp only [sealBroken, Bool.and_eq_true, decide_eq_true_eq, Bool.not_eq_true', Classical.not_imp, Bool.not_eq_true, and_assoc]

/-- A chunk that starts an absent model, with room in the list of models, or that continues a load. -/
def chunkTaken (x : Sentence) (t : State) (l : LoadState) : Prop :=
  nextLoad t.now (t.model (xModel x)).load x = some l ∧
    (chFirst x = true ∧ t.model (xModel x) = {} ∧ t.data.models.length < 4096 ∨ chFirst x = false ∧ (t.model (xModel x)).st = 1)

/-- The checks that follow for such a chunk, in their order. -/
theorem loadModelBody_taken {x : Sentence} {t : State} {l : LoadState} (h : chunkTaken x t l) :
    loadModelBody x t =
      let u := t.setModel (xModel x) { t.model (xModel x) with st := 1, load := some l }
      let v := u.storeImage (xModel x) (t.chunkPlain x.tenant.toNat x l).1 (t.chunkPlain x.tenant.toNat x l).2
      if overfull u x.tenant.toNat (t.pageQuota x.tenant.toNat) then (u.discardLoad (xModel x), .final St.busy)
      else if sealBroken t x l then (u.discardLoad (xModel x), .final St.state)
      else if !chLast x then v.chunkDone x
      else match t.openImage x.tenant.toNat l.received with
        | none => (v.discardLoad (xModel x), .final St.param)
        | some image =>
          if !modelValid image x.tenant.toNat || (t.level .agg < 3 && usesLevel3 image) then (v.discardLoad (xModel x), .final St.param)
          else
            let loaded : Model := { st := 2, image := image, at_ := (v.model (xModel x)).at_ }
            (v.setModel (xModel x) loaded).chunkDone x (be 8 (crc64 image) ++ be 8 (loaded.pages * 2097152)) := by
  obtain ⟨next, may⟩ := h
  have goes : ((chFirst x && !(t.model (xModel x) == {})) || (!chFirst x && (t.model (xModel x)).st != 1)) = false := by
    obtain ⟨first, absent, -⟩ | ⟨later, loading⟩ := may
    · simp [first, absent]
    · simp [later, loading]
  have fits : (chFirst x && decide (4096 ≤ t.data.models.length)) = false := by
    obtain ⟨-, -, fits⟩ | ⟨later, -⟩ := may
    · simp [fits]
    · simp [later]
  simp only [loadModelBody, goes, next, fits, Bool.false_eq_true, if_false]
  rfl

/-- The clauses of O31 on LOAD_MODEL that refuse a chunk at its start. -/
theorem loadModel_refused {x : Sentence} {t : State}
    (h : chFirst x = true ∧ t.model (xModel x) ≠ {} ∨
      chFirst x = false ∧ ((t.model (xModel x)).st ≠ 1 ∨ nextLoad t.now (t.model (xModel x)).load x = none)) :
    loadModelBody x t = (t, .final St.state) := by
  obtain ⟨first, present⟩ | ⟨later, other | stale⟩ := h
  · simp [loadModelBody, first, present]
  · simp [loadModelBody, later, other]
  · simp only [loadModelBody, stale, ite_self]

/-! ## Feature maps -/

/-- A feature map that outgrows its bounds (R382). -/
def mapOverfull (x : Sentence) (t : State) (l : LoadState) : Bool :=
  8388608 < (t.setModel (xModel x) { t.model (xModel x) with mapLoad := some l }).mapBytes (xModel x) + l.stored ||
    ((t.model (xModel x)).map.isEmpty && 4096 ≤ t.mapCount)

/-- A model that takes no chunk of a feature map. -/
def mapShut (x : Sentence) (t : State) : Bool :=
  ((t.model (xModel x)).st != 2 && (t.model (xModel x)).st != 4 && !((t.model (xModel x)).st == 3 && (t.model (xModel x)).place.isSome)) ||
    (chFirst x && (t.model (xModel x)).mapLoad.isSome)

theorem mapShut_iff {x : Sentence} {t : State} : mapShut x t = true ↔
    ¬ (((t.model (xModel x)).st = 2 ∨ (t.model (xModel x)).st = 4 ∨ (t.model (xModel x)).st = 3 ∧ (t.model (xModel x)).place.isSome = true) ∧
      (chFirst x = true → (t.model (xModel x)).mapLoad = none)) := by
  have nothing : ((t.model (xModel x)).mapLoad = none) ↔ (t.model (xModel x)).mapLoad.isSome = false := by
    rw [Option.isSome_eq_false_iff, Option.isNone_iff_eq_none]
  simp only [mapShut, nothing, Bool.or_eq_true, Bool.and_eq_true, bne_iff_ne, Bool.not_eq_true', Bool.and_eq_false_iff, beq_eq_false_iff_ne, ne_eq,
    Classical.not_and_iff_not_or_not, not_or, Classical.not_imp, Bool.not_eq_false, Bool.not_eq_true, and_assoc]

theorem mapOverfull_iff {x : Sentence} {t : State} {l : LoadState} : mapOverfull x t l = true ↔
    ¬ ((t.setModel (xModel x) { t.model (xModel x) with mapLoad := some l }).mapBytes (xModel x) + l.stored ≤ 8388608 ∧
      ((t.model (xModel x)).map ≠ [] ∨ t.mapCount < 4096)) := by
  simp only [mapOverfull, Bool.or_eq_true, Bool.and_eq_true, decide_eq_true_eq, List.isEmpty_iff, Classical.not_and_iff_not_or_not, not_or, Nat.not_le, Nat.not_lt, Classical.not_not, ne_eq]

/-- The checks of a chunk of a feature map, in their order. -/
theorem setFeatureMapBody_eq (x : Sentence) (t : State) :
    setFeatureMapBody x t =
      if mapShut x t then (t, .final St.state)
      else match nextLoad t.now (t.model (xModel x)).mapLoad x with
        | none => (t, .final St.state)
        | some l =>
          let u := t.setModel (xModel x) { t.model (xModel x) with mapLoad := some l }
          let v := t.setModel (xModel x) { t.model (xModel x) with mapLoad := none }
          if mapOverfull x t l then (v, .final St.busy)
          else if sealBroken t x l then (v, .final St.state)
          else if !chLast x then u.chunkDone x
          else if (u.mapOf x l).1 != St.ok then (v, .final (u.mapOf x l).1)
          else (t.setModel (xModel x) { t.model (xModel x) with mapLoad := none, mapNext := some ((u.mapOf x l).2, t.now + 2000) }).chunkDone x
            (be 4 (u.mapOf x l).2.length) := by
  simp only [setFeatureMapBody, mapChunkBody, Bool.false_eq_true, if_false]
  rfl

/-- Settles O31: the checks of a chunk in their order, and the two of UNLOAD_MODEL. -/
theorem modelsAreLoadedInChunks : Obligations.ModelsAreLoadedInChunks := by
  refine ⟨⟨does_row (fun _ => rfl) fun x t refused => ?_, does_row (fun _ => rfl) fun x t ⟨first, absent, full⟩ => ?_,
      fun l => ⟨does_row (fun _ => rfl) fun x t ⟨taken, room⟩ => ?_, does_row (fun _ => rfl) fun x t ⟨taken, room, mine⟩ => ?_,
        does_row (fun _ => rfl) fun x t ⟨taken, room, mine, more⟩ => ?_, does_row (fun _ => rfl) fun x t ⟨taken, room, mine, last, image⟩ => ?_,
        fun image => ⟨does_row (fun _ => rfl) fun x t ⟨taken, room, mine, last, opened, bad⟩ => ?_,
          does_row (fun _ => rfl) fun x t ⟨taken, room, mine, last, opened, valid, level⟩ => ?_⟩⟩⟩,
    ⟨does_row (fun _ => rfl) fun x t refused => ?_, fun l => ⟨does_row (fun _ => rfl) fun x t ⟨open_, next, room⟩ => ?_,
      does_row (fun _ => rfl) fun x t ⟨open_, next, room, mine⟩ => ?_, does_row (fun _ => rfl) fun x t ⟨open_, next, room, mine, more⟩ => ?_,
      does_row (fun _ => rfl) fun x t ⟨open_, next, room, mine, last, bad⟩ => ?_,
      does_row (fun _ => rfl) fun x t ⟨open_, next, room, mine, last, suits⟩ => ?_⟩⟩,
    does_row (fun _ => rfl) fun x t gone => ?_, does_row (fun _ => rfl) fun x t ⟨present, stays⟩ => ?_⟩
  · exact loadModel_refused refused
  · simp [loadModelBody, nextLoad, first, absent, full]
  · rw [loadModelBody_taken taken]
    exact if_pos (overfull_iff.mpr room)
  · rw [loadModelBody_taken taken]
    exact (if_neg (mt overfull_iff.mp (Classical.not_not.mpr room))).trans (if_pos (sealBroken_iff.mpr mine))
  · rw [loadModelBody_taken taken]
    exact (if_neg (mt overfull_iff.mp (Classical.not_not.mpr room))).trans ((if_neg (mt sealBroken_iff.mp (Classical.not_not.mpr mine))).trans (if_pos (by simp [more])))
  · rw [loadModelBody_taken taken]
    refine (if_neg (mt overfull_iff.mp (Classical.not_not.mpr room))).trans ((if_neg (mt sealBroken_iff.mp (Classical.not_not.mpr mine))).trans ((if_neg (by simp [last])).trans ?_))
    rw [image]
  · rw [loadModelBody_taken taken]
    refine (if_neg (mt overfull_iff.mp (Classical.not_not.mpr room))).trans ((if_neg (mt sealBroken_iff.mp (Classical.not_not.mpr mine))).trans ((if_neg (by simp [last])).trans ?_))
    rw [opened]
    exact if_pos (by simpa using bad)
  · rw [loadModelBody_taken taken]
    refine (if_neg (mt overfull_iff.mp (Classical.not_not.mpr room))).trans ((if_neg (mt sealBroken_iff.mp (Classical.not_not.mpr mine))).trans ((if_neg (by simp [last])).trans ?_))
    rw [opened]
    refine if_neg ?_
    obtain high | plain := level
    · simp [valid, Nat.not_lt.mpr high]
    · simp [valid, plain]
  · rw [setFeatureMapBody_eq]
    obtain shut | stale := refused
    · exact if_pos (mapShut_iff.mpr shut)
    · simp only [stale, ite_self]
  · simp only [setFeatureMapBody_eq, next]
    exact (if_neg (mt mapShut_iff.mp (Classical.not_not.mpr open_))).trans (if_pos (mapOverfull_iff.mpr room))
  · simp only [setFeatureMapBody_eq, next]
    exact (if_neg (mt mapShut_iff.mp (Classical.not_not.mpr open_))).trans ((if_neg (mt mapOverfull_iff.mp (Classical.not_not.mpr room))).trans (if_pos (sealBroken_iff.mpr mine)))
  · simp only [setFeatureMapBody_eq, next]
    exact (if_neg (mt mapShut_iff.mp (Classical.not_not.mpr open_))).trans ((if_neg (mt mapOverfull_iff.mp (Classical.not_not.mpr room))).trans 
      ((if_neg (mt sealBroken_iff.mp (Classical.not_not.mpr mine))).trans (if_pos (by simp [more]))))
  · simp only [setFeatureMapBody_eq, next]
    exact (if_neg (mt mapShut_iff.mp (Classical.not_not.mpr open_))).trans ((if_neg (mt mapOverfull_iff.mp (Classical.not_not.mpr room))).trans ((if_neg (mt sealBroken_iff.mp (Classical.not_not.mpr mine))).trans
      ((if_neg (by simp [last])).trans (if_pos (by simpa using bad)))))
  · simp only [setFeatureMapBody_eq, next]
    exact (if_neg (mt mapShut_iff.mp (Classical.not_not.mpr open_))).trans ((if_neg (mt mapOverfull_iff.mp (Classical.not_not.mpr room))).trans ((if_neg (mt sealBroken_iff.mp (Classical.not_not.mpr mine))).trans
      ((if_neg (by simp [last])).trans (if_neg (by simp [suits])))))
  · obtain absent | unloading := gone
    · simp [unloadModelBody, absent]
    · simp [unloadModelBody, unloading]
  · simp [unloadModelBody, present, stays]

/-! ## Placing models (R375 to R382) -/

/-- A model that takes a placement. -/
def placeable (m : Model) : Prop := (m.st = 2 ∨ m.st = 4) ∧ m.next = none

theorem placeable_goes {m : Model} (h : placeable m) : ((m.st != 2 && m.st != 4) || m.next.isSome) = false := by
  obtain ⟨st | st, none⟩ := h <;> simp [st, none]

/-- A cluster stands: it is powered and not retired. -/
theorem stands_goes {t : State} {cs : List Nat} (h : ∀ c ∈ cs, t.powered c = true ∧ ∀ r ∈ t.rel.retired, r.1 ≠ c) :
    (cs.any fun c => !t.powered c) = false ∧ (cs.any fun c => t.rel.retired.any fun r => r.1 == c) = false := by
  refine ⟨List.any_eq_false.mpr fun c mem => ?_, List.any_eq_false.mpr fun c mem => ?_⟩
  · simp [(h c mem).1]
  · rw [Bool.not_eq_true, List.any_eq_false]
    exact fun r held => by simpa using (h c mem).2 r held

/-- A placement that suits a model, on clusters that stand, turns on its slots and its sequence entries. -/
theorem beginPlace_stands {x : Sentence} {t : State} (may : placeable (t.model (xModel x))) (mask : (placeOf x).mask ≠ 0)
    (suits : placeSuits (t.model (xModel x)).image (placeOf x) = true)
    (stand : ∀ c ∈ maskClusters (placeOf x).mask, t.powered c = true ∧ ∀ r ∈ t.rel.retired, r.1 ≠ c) :
    t.beginPlace x false =
      let m := t.model (xModel x)
      let held := (m.place.map (·.seqBase)).getD 0xFFFFFFFF
      match layout t.data.directory m.image (placeOf x),
        (if mdUse m.image = 1 then (if held = 0xFFFFFFFF then t.freeSeqRun else some held) else some 0xFFFFFFFF) with
      | some slots, some b =>
        let p : Placement := { placeOf x with slots := slots, seqBase := b }
        let u := t.takeSlots (xModel x) p (if p.mode = 1 then 1 else if mdKind m.image = 1 then 2 else 0)
        let v := if mdUse m.image = 1 ∧ held = 0xFFFFFFFF then
            { u with data := { u.data with seqs := (List.range 64).foldl (fun q i =>
                Tbl.set {} (b + i) { Tbl.get ({} : SeqEntry) (b + i) q with model := xModel x, port := some i } q) u.data.seqs } }
          else u
        (v.setModel (xModel x) { m with st := 3, next := some { plan := p, ticket := x.ticket, staged := false } }, St.ok)
      | _, _ => (t, St.busy) := by
  obtain ⟨powered, kept⟩ := stands_goes stand
  simp only [State.beginPlace, placeable_goes may, mask, suits, powered, kept, Bool.not_true, Bool.false_eq_true, if_false]
  by_cases use : mdUse (t.model (xModel x)).image = 1 <;>
    by_cases held : ((t.model (xModel x)).place.map (·.seqBase)).getD 0xFFFFFFFF = 0xFFFFFFFF <;>
    simp only [use, held, beq_self_eq_true, bne_self_eq_false, Bool.not_true, Bool.not_false, Bool.true_and, Bool.false_and, decide_true, decide_false,
      Bool.false_eq_true, if_false, if_true, false_and, and_self, and_false, beq_false_of_ne,
      bne_iff_ne, ne_eq, not_false_eq_true] <;>
    rfl

/-- Settles O32: the checks of PLACE_MODEL in their order, and the other bodies. -/
theorem placementAndSequencesAnswer : Obligations.PlacementAndSequencesAnswer := by
  refine ⟨⟨does_row (fun _ => rfl) fun x t ⟨_, refused⟩ => ?_, does_row (fun _ => rfl) fun x t ⟨⟨_, st, free⟩, mask⟩ => ?_,
      does_row (fun _ => rfl) fun x t ⟨⟨_, st, free⟩, mask, unfit⟩ => ?_, does_row (fun _ => rfl) fun x t ⟨⟨⟨_, st, free⟩, mask, suits⟩, c, mem, falls⟩ => ?_,
      does_row (fun _ => rfl) fun x t ⟨⟨⟨_, st, free⟩, mask, suits⟩, stand, full⟩ => ?_,
      fun slots b => does_row (fun _ => rfl) fun x t ⟨⟨⟨_, st, free⟩, mask, suits⟩, stand, slots, base⟩ => ?_⟩,
    does_row (fun _ => rfl) fun x t absent => ?_, fun i e => does_row (fun _ => rfl) fun x t ⟨named, closing⟩ => ?_,
    fun i e => does_row (fun _ => rfl) fun x t ⟨named, closing, idle⟩ => ?_, fun i e => does_row (fun _ => rfl) fun x t ⟨named, closing, busy⟩ => ?_,
    does_row (fun _ => rfl) fun x t _ => ?_, shows_row (fun _ => rfl) fun x t _ => ⟨_, ?_, rfl⟩⟩
  · have barred : (((t.model (xModel x)).st != 2 && (t.model (xModel x)).st != 4) || (t.model (xModel x)).next.isSome) = true := by
      obtain ⟨a, b⟩ | pending := refused
      · simp [a, b]
      · simp [pending]
    simp only [placeModelBody, State.beginPlace, barred, if_true]
    rfl
  · simp only [placeModelBody, State.beginPlace, placeable_goes ⟨st, free⟩, mask, Bool.false_eq_true, if_false, if_true]
  · simp only [placeModelBody, State.beginPlace, placeable_goes ⟨st, free⟩, mask, unfit, Bool.not_false, Bool.false_eq_true, if_false, if_true]
    rfl
  · simp only [placeModelBody, State.beginPlace, placeable_goes ⟨st, free⟩, mask, suits, Bool.not_true, Bool.false_eq_true, if_false]
    by_cases off : ((maskClusters (placeOf x).mask).any fun c => !t.powered c) = true
    · simp only [off, if_true]
      rfl
    · have on : t.powered c = true := by
        simpa using mt (fun o => List.any_eq_true.mpr ⟨c, mem, o⟩) off
      have retired : ((maskClusters (placeOf x).mask).any fun c => t.rel.retired.any fun r => r.1 == c) = true := by
        simp only [on, true_and, Classical.not_forall, Classical.not_not] at falls
        obtain ⟨r, held, rfl⟩ := falls
        exact List.any_eq_true.mpr ⟨_, mem, List.any_eq_true.mpr ⟨r, held, beq_self_eq_true _⟩⟩
      simp only [off, retired, if_true, if_false]
      rfl
  · have begun : t.beginPlace x false = (t, St.busy) := by
      rw [beginPlace_stands ⟨st, free⟩ mask suits stand]
      dsimp only at full ⊢
      obtain slots | base := full
      · rw [slots]
      · rw [base]
        cases layout t.data.directory (t.model (xModel x)).image (placeOf x) <;> rfl
    rw [placeModelBody, begun]
    rfl
  · have begun := beginPlace_stands ⟨st, free⟩ mask suits stand
    dsimp only at slots base begun
    rw [slots, base] at begun
    rw [placeModelBody, begun]
    rfl
  · simp only [closeSequenceBody, absent]
  · simp only [closeSequenceBody, named, Option.isSome_iff_ne_none.mpr closing, if_true]
  · simp only [closeSequenceBody, named, closing, idle, Option.isSome_none, List.isEmpty_nil, Bool.false_eq_true, if_false, if_true]
    rfl
  · simp only [closeSequenceBody, named, closing, List.isEmpty_eq_false_iff.mpr busy, Option.isSome_none, Bool.false_eq_true, if_false]
  · rfl
  · simp only [List.length_append, be_length, List.length_flatten, List.map_map, Function.comp_def, List.map_const', List.length_range,
      List.sum_replicate_nat]

end Sys2Proof.Machine
end

section
/-! Group, network, sync and recovery verbs -/

namespace Sys2Proof.Machine
open Sys2Proof Sys2Proof.Proofs

/-! ## Groups (R406 to R441) -/

/-- The list of groups has room for a change of the group. -/
theorem groupRoom {t : State} {i : Nat} (h : t.hasGroup i = true ∨ t.data.groups.length < 256) :
    (!t.hasGroup i && decide (256 ≤ t.data.groups.length)) = false := by
  obtain held | room := h
  · simp [held]
  · simp [room]

/-- A group that is not joined, or at this position, may be joined at it. -/
theorem groupPlace {g : Group} {n : Nat} (h : g.joined = false ∨ g.pos = n) : (g.joined && g.pos != n) = false := by
  obtain out | here := h
  · simp [out]
  · simp [here]

/-- A configuration that suits the group's own position and whose period is long enough (R407). -/
theorem configFits {x : Sentence} {t : State} :
    (((t.group (xGroup x)).joined && !gcMember x.params (t.group (xGroup x)).pos) ||
      (gcP x.params != 0 && decide (gcP x.params * t.sys.epoch < 10000))) = true ↔
    ¬ (((t.group (xGroup x)).joined = true → gcMember x.params (t.group (xGroup x)).pos = true) ∧
      (gcP x.params = 0 ∨ 10000 ≤ gcP x.params * t.sys.epoch)) := by
  simp only [Bool.or_eq_true, Bool.and_eq_true, Bool.not_eq_true', bne_iff_ne, decide_eq_true_eq, Classical.not_and_iff_not_or_not, Classical.not_imp, Bool.not_eq_true,
    not_or, Nat.not_le, ne_eq]

/-- A configuration whose models are telemetry models. -/
theorem configModels {x : Sentence} {t : State} :
    (!t.telemetryModel (gcSource x.params) || (gcCause x.params != 0 && !t.telemetryModel (gcCause x.params))) = true ↔
    ¬ (t.telemetryModel (gcSource x.params) = true ∧ (gcCause x.params = 0 ∨ t.telemetryModel (gcCause x.params) = true)) := by
  simp only [Bool.or_eq_true, Bool.and_eq_true, Bool.not_eq_true', bne_iff_ne, Classical.not_and_iff_not_or_not, not_or, Bool.not_eq_true, ne_eq]

/-- The part of a retained close that READ_STRAGGLERS names. -/
def partOf (x : Sentence) (r : Retained) : Option Bytes := if x.b 5 = 0 then some r.summary else if x.b 5 = 1 then some r.final else r.payload

theorem readStragglersBody_kept {x : Sentence} {t : State} {r : Retained}
    (h : (t.group (xGroup x)).retained.find? (fun c => c.gen == x.b 4 && c.index == x.f 8 8) = some r) :
    readStragglersBody x t = (t, match partOf x r with
      | none => .final St.state
      | some p => .final St.ok (be 8 r.index ++ be 4 p.length ++ zeros 4 ++ sub p (x.f 16 4) 4000)) := by
  simp only [readStragglersBody, h, partOf]
  obtain n | n | n : x.b 5 = 0 ∨ x.b 5 = 1 ∨ ∃ k, x.b 5 = k + 2 :=
    match x.b 5 with
    | 0 => .inl rfl
    | 1 => .inr (.inl rfl)
    | k + 2 => .inr (.inr ⟨k, rfl⟩)
  · simp only [n]; rfl
  · simp only [n]; rfl
  · obtain ⟨k, n⟩ := n
    have zero : k + 2 ≠ 0 := by omega
    have one : k + 2 ≠ 1 := by omega
    simp only [n, zero, one, if_false]
    cases r.payload <;> rfl

/-- Settles O34: the checks of each body in their order. -/
theorem groupVerbsQueueTheirChange : Obligations.GroupVerbsQueueTheirChange := by
  refine ⟨does_row (fun _ => rfl) fun x t ⟨absent, full⟩ => ?_, does_row (fun _ => rfl) fun x t ⟨room, joined, elsewhere⟩ => ?_,
    does_row (fun _ => rfl) fun x t ⟨held, place, gen, older⟩ => ?_, does_row (fun _ => rfl) fun x t ⟨room, place, fits⟩ => ?_,
    does_row (fun _ => rfl) fun x t out => ?_, does_row (fun _ => rfl) fun x t joined => ?_, does_row (fun _ => rfl) fun x t absent => ?_,
    does_row (fun _ => rfl) fun x t ⟨held, older⟩ => ?_, does_row (fun _ => rfl) fun x t ⟨held, younger, other⟩ => ?_,
    does_row (fun _ => rfl) fun x t ⟨held, younger, same, valid, coming⟩ => ?_, does_row (fun _ => rfl) fun x t ⟨held, younger, same, past⟩ => ?_,
    ⟨does_row (fun _ => rfl) fun x t ⟨absent, full⟩ => ?_, does_row (fun _ => rfl) fun x t ⟨room, bad⟩ => ?_,
      does_row (fun _ => rfl) fun x t ⟨room, fits, other⟩ => ?_, does_row (fun _ => rfl) fun x t ⟨room, fits, models⟩ => ?_⟩,
    shows_row (fun _ => rfl) fun x t held => ?_, does_row (fun _ => rfl) fun x t absent => ?_,
    ⟨does_row (fun _ => rfl) fun x t gone => ?_, fun r => ⟨does_row (fun _ => rfl) fun x t ⟨kept, none_⟩ => ?_,
      fun b => does_row (fun _ => rfl) fun x t ⟨kept, part⟩ => ?_⟩⟩,
    does_row (fun _ => rfl) fun x t other => ?_, does_row (fun _ => rfl) fun x t ⟨model, value⟩ => ?_, does_row (fun _ => rfl) fun x t ⟨model, group⟩ => ?_⟩
  · simp only [groupJoinBody, absent, full, Bool.not_false, decide_true, Bool.and_self, if_true]
  · simp only [groupJoinBody, groupRoom room, joined, bne_iff_ne.mpr elsewhere, Bool.and_self, Bool.false_eq_true, if_false, if_true]
  · simp only [groupJoinBody, groupPlace place, held, bne_iff_ne.mpr gen, older, Bool.not_true, Bool.false_and, Bool.and_self, Bool.false_eq_true, if_false,
      if_true]
  · have young : (t.hasGroup (xGroup x) && x.b 6 != 0 && genOlder (x.b 6) (t.group (xGroup x)).gen) = false := by
      obtain absent | zero | younger := fits
      · simp [absent]
      · simp [zero]
      · simp [younger]
    simp only [groupJoinBody, groupRoom room, groupPlace place, young, Bool.false_eq_true, if_false]
  · simp only [groupLeaveBody, out, Bool.not_false, if_true]
  · simp only [groupLeaveBody, joined, Bool.not_true, Bool.false_eq_true, if_false]
  · simp only [groupFenceBody, absent, Bool.not_false, if_true]
  · simp only [groupFenceBody, held, older, Bool.not_true, Bool.false_eq_true, if_false, if_true]
  · simp only [groupFenceBody, held, younger, bne_iff_ne.mpr other, Bool.not_true, Bool.false_eq_true, if_false, if_true]
  · rw [← same] at younger
    simp only [groupFenceBody, held, younger, ← same, valid, coming, bne_self_eq_false, decide_true, Bool.and_self, Bool.not_true, Bool.false_eq_true,
      if_false, if_true]
  · have now : (t.timeValid && decide (t.svc < ofStamp (stampAt x.params 8))) = false := by
      obtain invalid | past := past
      · simp [invalid]
      · simp [past]
    rw [← same] at younger
    simp only [groupFenceBody, held, younger, ← same, now, bne_self_eq_false, Bool.not_true, Bool.false_eq_true, if_false]
  · simp only [groupSetBody, absent, full, Bool.not_false, decide_true, Bool.and_self, if_true]
  · simp only [groupSetBody, groupRoom room, if_pos (configFits.mpr bad), Bool.false_eq_true, if_false]
  · simp only [groupSetBody, groupRoom room, if_neg (mt configFits.mp (Classical.not_not.mpr fits)), if_pos (configModels.mpr other), Bool.false_eq_true, if_false]
  · simp only [groupSetBody, groupRoom room, if_neg (mt configFits.mp (Classical.not_not.mpr fits)), if_neg (mt configModels.mp (Classical.not_not.mpr models)),
      Bool.false_eq_true, if_false]
  · refine ⟨?r, ?len, ?eq⟩
    case eq =>
      simp only [groupStatusBody, held, Bool.not_true, Bool.false_eq_true, if_false]
      rfl
    case len => simp only [List.length_append, be_length, zeros_length]
  · simp only [groupStatusBody, absent, Bool.not_false, if_true]
  · simp only [readStragglersBody, gone, Bool.and_eq_true]
  · rw [readStragglersBody_kept kept, show partOf x r = none from none_]
  · rw [readStragglersBody_kept kept, show partOf x r = some b from part]
  · simp only [setBaselineBody, other, Bool.not_false, if_true]
  · simp only [setBaselineBody, model, value, Bool.not_true, Bool.false_eq_true, if_false, if_true]
  · simp only [setBaselineBody, model, group, Bool.not_true, Bool.false_eq_true, if_false]

/-! ## Network tables (R449 to R468) -/

/-- GET_PORT_STATUS of a port returns 176 bytes. -/
theorem portStatus_length (p : Port) (n draw : Nat) : (portStatus p n draw).length = 176 := by
  have roles : (if n = 16 then zeros 5 else (List.range 5).map fun i => BitVec.ofNat 8 (p.roles.getD i 0)).length = 5 := by
    split
    · rw [zeros_length]
    · rw [List.length_map, List.length_range]
  have fec : (if n = 16 then zeros 12 else be 8 p.fec ++ be 2 p.window ++ be 2 p.limit).length = 12 := by
    split
    · rw [zeros_length]
    · simp only [List.length_append, be_length]
  have lane (i : Nat) : (if decide (n = 16) && i != 0 then zeros 8
      else [(p.lane i).margin] ++ be 1 p.threshold ++ be 1 (flagBit (p.lane i).lock 0 + flagBit (p.lane i).alarm 1) ++ be 1 0 ++
        (if n = 16 then zeros 4 else be 4 (Config.fecSymbols draw i).toNat)).length = 8 := by
    split
    · rw [zeros_length]
    · split <;> simp [be_length, zeros_length]
  simp only [portStatus, List.length_append, be_length, zeros_length, roles, fec, List.length_flatten, List.map_map,
    Function.comp_def, lane, List.map_const', List.length_range, List.sum_replicate_nat]

/-- Settles O35: each body, by whether its domain is on. -/
theorem networkVerbsWriteTheirTables : Obligations.NetworkVerbsWriteTheirTables := by
  refine ⟨does_row (fun _ => rfl) fun x t off => ?_, does_row (fun _ => rfl) fun x t ⟨on, table⟩ => ?_, does_row (fun _ => rfl) fun x t ⟨on, table⟩ => ?_,
    does_row (fun _ => rfl) fun x t off => ?_, does_row (fun _ => rfl) fun x t ⟨on, table⟩ => ?_, does_row (fun _ => rfl) fun x t ⟨on, table⟩ => ?_,
    does_row (fun _ => rfl) fun x t _ => ?_,
    ⟨does_row (fun _ => rfl) fun x t off => ?_, does_row (fun _ => rfl) fun x t on => ?_, does_row (fun _ => rfl) fun x t off => ?_,
      does_row (fun _ => rfl) fun x t on => ?_, does_row (fun _ => rfl) fun x t off => ?_, does_row (fun _ => rfl) fun x t ⟨on, own⟩ => ?_,
      does_row (fun _ => rfl) fun x t off => ?_, does_row (fun _ => rfl) fun x t ⟨on, empty⟩ => ?_,
      fun k => does_row (fun _ => rfl) fun x t ⟨on, list⟩ => ?_, does_row (fun _ => rfl) fun x t ⟨port, off⟩ => ?_,
      shows_row (fun _ => rfl) fun x t ⟨port, on⟩ => ?_⟩,
    does_row (fun _ => rfl) fun x t policer => ?_⟩
  · simp only [routeSetBody, off, Bool.not_false, if_true]
  · simp only [routeSetBody, on, table, Bool.not_true, Bool.false_eq_true, if_false, if_true]
  · simp only [routeSetBody, on, table, Bool.not_true, Bool.false_eq_true, if_false]
  · simp only [routeGetBody, off, Bool.not_false, if_true]
  · simp only [routeGetBody, on, table, Bool.not_true, Bool.false_eq_true, if_false, if_true]
  · simp only [routeGetBody, on, table, Bool.not_true, Bool.false_eq_true, if_false]
  · rfl
  · simp only [queueSetBody, show t.domainOn (portDomain (x.b 0)) = false from off, Bool.not_false, if_true]
  · simp only [queueSetBody, show t.domainOn (portDomain (x.b 0)) = true from on, Bool.not_true, Bool.false_eq_true, if_false]
  · simp only [shaperSetBody, show t.domainOn (portDomain (x.b 0)) = false from off, Bool.not_false, if_true]
  · simp only [shaperSetBody, show t.domainOn (portDomain (x.b 0)) = true from on, Bool.not_true, Bool.false_eq_true, if_false]
  · simp only [gateListSetBody, show t.domainOn (portDomain (x.b 0)) = false from off, Bool.not_false, if_true]
  · simp only [gateListSetBody, on, own, Bool.not_true, Bool.false_eq_true, if_false]
  · simp only [gateListGetBody, show t.domainOn (portDomain (x.b 0)) = false from off, Bool.not_false, if_true]
  · simp only [gateListGetBody, on, empty, Bool.not_true, Bool.false_eq_true, if_false]
  · simp only [gateListGetBody, on, list, Bool.not_true, Bool.false_eq_true, if_false]
  · simp only [getPortStatusBody, port, off, Bool.not_false, if_true]
  · refine ⟨portStatus (t.netPort (x.b 0)) (x.b 0) t.free, portStatus_length _ _ _, ?_⟩
    simp only [getPortStatusBody, port, on, State.draw, Bool.not_true, Bool.false_eq_true, if_false, if_true]
  · simp only [getPortStatusBody, policer, if_false]

/-! ## Sync objects (R471 to R482) -/

/-- An object takes a post of this agent. -/
theorem postRefused_iff {t : State} {o : Nat} {a : Nat × Word} : t.postRefused o a = true ↔
    ¬ ((t.object o).inited = true ∧ agentAllowed (t.object o).producer (t.object o).producerOid a = true) := by
  simp only [State.postRefused, Bool.or_eq_true, Bool.not_eq_true', Classical.not_and_iff_not_or_not, Bool.not_eq_true]

/-- The body of a plain post. -/
theorem does_syncPost {f : Sentence → State → State × Answer} {g : Sentence → State → Prop}
    (h : ∀ x t, g x t → syncPostBody x t = f x t) : Does .syncPost vSyncPost (fun x t => x.b 8 = 0 ∧ g x t) f := by
  refine does_own (fun _ => rfl) (fun _ x g => by simp [g.1]) fun x t ⟨plain, guard⟩ => ?_
  rw [syncPostAnyBody, plain]
  exact h x t guard

/-- An agent may wait at an object. -/
theorem waitRefused_iff {k : SyncObject} {a : Nat} : (!k.inited || !agentAllowed k.consumer 0 (a, 0)) = true ↔
    ¬ (k.inited = true ∧ agentAllowed k.consumer 0 (a, 0) = true) := by
  simp only [Bool.or_eq_true, Bool.not_eq_true', Classical.not_and_iff_not_or_not, Bool.not_eq_true]

/-- A wait that is first and that COUNT covers. -/
theorem waitCovered_iff {k : SyncObject} {n : Nat} : (k.waiters.isEmpty && decide (n ≤ k.count)) = true ↔ k.waiters = [] ∧ n ≤ k.count := by
  simp only [Bool.and_eq_true, List.isEmpty_iff, decide_eq_true_eq]

/-- Settles O36: each body, by whether the object takes the agent and COUNT allows the amount. -/
theorem syncVerbsActOnTheirObject : Obligations.SyncVerbsActOnTheirObject := by
  refine ⟨does_row (fun _ => rfl) fun x t _ => ?_,
    ⟨does_syncPost fun x t refused => ?_, does_syncPost fun x t ⟨takes, over_⟩ => ?_, does_syncPost fun x t ⟨takes, fits⟩ => ?_⟩,
    does_own (fun _ => rfl) (fun _ x ordered => by simp [show x.b 8 = 1 from ordered]) fun x t ordered => ?_,
    ⟨does_row (fun _ => rfl) fun x t refused => ?_, does_row (fun _ => rfl) fun x t ⟨takes, covers⟩ => ?_,
      does_row (fun _ => rfl) fun x t ⟨takes, short, waits⟩ => ?_, does_row (fun _ => rfl) fun x t ⟨takes, short, nowait⟩ => ?_⟩,
    does_row (fun _ => rfl) fun x t _ => ?_⟩
  · rfl
  · have refused := postRefused_iff.mpr refused
    simp only [syncPostBody, State.post, refused, if_true]
  · have taken : ¬ t.postRefused (x.f 0 4) (agentOf x.req) = true := mt postRefused_iff.mp (Classical.not_not.mpr takes)
    simp only [syncPostBody, State.post, if_neg taken, if_pos (show (t.object (x.f 0 4)).limit < _ from over_), postResults]
  · have taken : ¬ t.postRefused (x.f 0 4) (agentOf x.req) = true := mt postRefused_iff.mp (Classical.not_not.mpr takes)
    simp only [syncPostBody, State.post, if_neg taken, if_neg (Nat.not_lt.mpr fits), postResults]
  · rw [syncPostAnyBody, if_pos ordered]
    rfl
  · exact if_pos (waitRefused_iff.mpr refused)
  · exact (if_neg (mt waitRefused_iff.mp (Classical.not_not.mpr takes))).trans (if_pos (waitCovered_iff.mpr covers))
  · exact (if_neg (mt waitRefused_iff.mp (Classical.not_not.mpr takes))).trans ((if_neg (mt waitCovered_iff.mp short)).trans (if_neg (by omega)))
  · exact (if_neg (mt waitRefused_iff.mp (Classical.not_not.mpr takes))).trans ((if_neg (mt waitCovered_iff.mp short)).trans (if_pos nowait))
  · rfl

/-! ## Recovery (R485 to R506) -/

/-- An event goes where its command's body goes. -/
theorem goes_of {c : Instr} {s t u : State} (h : exec c s = finish s u) (e : u = t) : Goes c s t := e ▸ h

/-- What an acknowledgement of the standby lets go, where no copy is under way. -/
theorem exec_mirrorAck {s : State} {m : BitVec 64} (active : s.active = true) (copy : s.pair.copy = none) (new : s.pair.mseqAcked < m.toNat)
    (sent : m.toNat < s.pair.mseqNext) :
    exec (.mirrorAckReceive m) s = finish s (({ s with pair := { s.pair with
      mseqAcked := m.toNat, unacked := s.pair.unacked.filter fun u => m.toNat < u.1 } }).release m.toNat) := by
  have least : min m.toNat (s.pair.mseqNext - 1) = m.toNat := Nat.min_eq_left (by omega)
  have acts : (!s.active || decide (m.toNat ≤ s.pair.mseqAcked)) = false := by
    rw [active, decide_eq_false (by omega)]
    rfl
  refine congrArg (finish s) ?_
  rw [acts]
  simp only [Bool.false_eq_true, if_false, least, copy]

/-- The one entry that waits is let go when its number is acknowledged. -/
theorem release_one {s : State} {n m : Nat} {w : Withheld} (one : s.pair.withheld = [(n, w)]) (h : n ≤ m) :
    s.release m = ({ s with pair := { s.pair with withheld := [] } } : State).letGo w := by
  simp only [State.release, one, List.filter_cons, decide_eq_true h, decide_eq_false (Nat.not_lt.mpr h), List.filter_nil, if_true,
    Bool.false_eq_true, if_false, List.foldl_cons, List.foldl_nil]

theorem forceFailoverBody_can (x : Sentence) {t : State} (h : t.canFailOver = true) : forceFailoverBody x t = (t, .final St.ok) := by
  simp only [forceFailoverBody, h, Bool.not_true, Bool.false_eq_true, if_false]

/-- Settles O37: each body, and the two entries that carry a failover's effect and its reply. -/
theorem recoveryVerbsActOnThePair : Obligations.RecoveryVerbsActOnThePair := by
  refine ⟨does_row (fun _ => rfl) fun x t last => ?_,
    ⟨does_row (fun _ => rfl) fun x t ⟨some_, sel, absent⟩ => ?_, does_row (fun _ => rfl) fun x t ⟨some_, sel, present⟩ => ?_⟩,
    does_row (fun _ => rfl) fun x t cannot => ?_, fun s x reaches denied unstaged mirrors => ?_,
    fun s x m n active can one new n_le sent => ?_, fun s t e r m n active copy one new n_le sent found verb reply ok => ?_,
    fun p => ⟨does_row (fun _ => rfl) fun x t ⟨port, outA, outB⟩ => ?_, does_row (fun _ => rfl) fun x t ⟨port, up⟩ => ?_⟩,
    does_row (fun _ => rfl) fun x t _ => ?_⟩
  · have record : (x.params.isEmpty || decide (x.b 0 = 0)) = true := by
      obtain none_ | sel := last
      · simp [none_]
      · simp [sel]
    exact if_pos record
  · have own : (x.params.isEmpty || decide (x.b 0 = 0)) = false := by simp [some_, sel]
    dsimp only at absent
    simp only [getHangBody, own, absent, Bool.not_false, Bool.false_eq_true, if_false, if_true]
  · have own : (x.params.isEmpty || decide (x.b 0 = 0)) = false := by simp [some_, sel]
    dsimp only at present
    simp only [getHangBody, own, present, Bool.not_true, Bool.false_eq_true, if_false, lwBase]
    simp
  · simp only [forceFailoverBody, cannot, Bool.not_false, if_true]
  · exact mirroringWithholdsEffects (.forceFailover x) _ s rfl rfl reaches denied unstaged mirrors
  · have copy : s.pair.copy = none := by
      simp only [State.canFailOver, Bool.and_eq_true, Option.isNone_iff_eq_none] at can
      exact can.2
    refine goes_of (exec_mirrorAck active copy new sent) ((release_one (w := .effect 0x0805 x) (by exact one) n_le).trans ?_)
    simp only [State.letGo, State.execute, show bodyOf 0x0805 = forceFailoverBody from rfl]
    rw [forceFailoverBody_can x (by exact can)]
    rfl
  · refine goes_of (exec_mirrorAck active copy new sent) ((release_one (w := .reply t) (by exact one) n_le).trans ?_)
    simp only [State.letGo, State.failoverAnswered, State.sendStored, State.tagsOf, found, verb, reply, ok, Option.map_some, beq_self_eq_true,
      Bool.and_self, if_true]
  · simp only [resetDtcBody, port, p.isLt, dif_pos, Fin.eta, bne_iff_ne.mpr outA, bne_iff_ne.mpr outB, Bool.and_self, if_true]
  · have reach : ((t.dtc p).la.e.st != .inService && (t.dtc p).lb.e.st != .inService) = false := by
      obtain up | up := up <;> simp [up]
    simp only [resetDtcBody, port, p.isLt, dif_pos, Fin.eta, reach, Bool.false_eq_true, if_false]
  · rfl

end Sys2Proof.Machine
end

section
/-! Reliability, security, observability, profile and staging verbs -/

namespace Sys2Proof.Machine
open Sys2Proof Sys2Proof.Proofs

/-! ## Reliability verbs (R507 to R530) -/

/-- RUN_MARGIN_PLAN that starts a plan. -/
theorem does_marginPlan {f : Sentence → State → State × Answer} {g : Sentence → State → Prop}
    (h : ∀ x t, x.b 0 ≠ 2 → g x t → runMarginPlanBody x t = f x t) : Does .runMarginPlan vRunMarginPlan (fun x t => x.b 0 < 2 ∧ g x t) f :=
  does_own (fun _ => rfl) (fun _ x g => by simp [show x.b 0 ≠ 2 by omega]) fun x t g => h x t (by omega) g.2

/-- RUN_SCREEN_PACK that begins a run: what it does turns on a run under way and on the pack. -/
theorem does_screenRun {f : Sentence → State → State × Answer} {g : Sentence → State → Prop}
    (h : ∀ x t, x.b 2 = 0 → g x t → runScreenPackBody x t = f x t) : Does .runScreenPack vRunScreenPack (fun x t => x.b 2 = 0 ∧ g x t) f :=
  does_own (fun _ => rfl) (fun _ x g => by simp [g.1]) fun x t g => h x t g.1 g.2

/-- Settles O38: each body, by the selector or by what stands. -/
theorem reliabilityVerbsReadStartAndPin : Obligations.ReliabilityVerbsReadStartAndPin := by
  refine ⟨does_row (fun _ => rfl) fun x t sel => ?_, does_row (fun _ => rfl) fun x t sel => ?_, does_row (fun _ => rfl) fun x t sel => ?_,
    does_row (fun _ => rfl) fun x t sel => ?_, does_marginPlan fun x t plan runs => ?_, does_marginPlan fun x t plan idle => ?_,
    does_own (fun _ => rfl) (fun _ x sched => by simp [show x.b 0 = 2 from sched]) fun x t sched => ?_,
    ⟨does_row (fun _ => rfl) fun x t kind => ?_, does_row (fun _ => rfl) fun x t kind => ?_⟩,
    does_screenRun fun x t op refused => ?_,
    fun pk => ⟨does_screenRun fun x t op ⟨idle, stored, todo⟩ => ?_, does_screenRun fun x t op ⟨idle, stored, todo⟩ => ?_⟩,
    does_own (fun _ => rfl) (fun _ x list => by simp [show x.b 2 = 1 from list]) fun x t list => ?_,
    does_row (fun _ => rfl) fun x t _ => ?_, does_row (fun _ => rfl) fun x t _ => ?_,
    does_row (fun _ => rfl) fun x t ⟨agg, all, level, needs⟩ => ?_, does_row (fun _ => rfl) fun x t ⟨agg, all, may⟩ => ?_,
    fun p => ⟨does_row (fun _ => rfl) fun x t ⟨agg, port⟩ => ?_, does_row (fun _ => rfl) fun x t ⟨dtc, on, trace⟩ => ?_,
      does_row (fun _ => rfl) fun x t ⟨dtc, may⟩ => ?_⟩⟩
  · simp only [readAgeingBody, sel]
  · simp only [readAgeingBody, sel, List.isEmpty_iff]
  · simp only [readAgeingBody, sel]
  · simp only [readAgeingBody, sel]
  · simp only [runMarginPlanBody, plan, runs, if_false, if_true]
  · simp only [runMarginPlanBody, plan, idle, Option.isSome_none, Bool.false_eq_true, if_false]
  · exact if_pos sched
  · simp only [getMarginsBody, kind, if_false]
  · simp only [getMarginsBody, kind, if_true]
  · have run : x.b 2 ≠ 1 := by omega
    simp only [runScreenPackBody, run, if_false]
    obtain busy | gone := refused
    · cases screen : t.rel.screen with
      | none => simp [screen] at busy
      | some r => rfl
    · rw [gone]
      cases t.rel.screen <;> rfl
  · have run : x.b 2 ≠ 1 := by omega
    dsimp only at todo
    simp only [runScreenPackBody, run, idle, stored, List.isEmpty_eq_false_iff.mpr todo, Bool.false_eq_true, if_false]
  · have run : x.b 2 ≠ 1 := by omega
    dsimp only at todo
    simp only [runScreenPackBody, run, idle, stored, todo, List.isEmpty_nil, if_false, if_true]
  · exact if_pos list
  · simp only [readSilentErrorsBody, Bool.and_eq_true, Bool.not_eq_true', List.isEmpty_eq_false_iff]
    cases (logFrom t.rel.reports (BitVec.ofNat 32 (x.f 0 4)) (x.b 4)).getLast? <;> rfl
  · rfl
  · have none_ : ¬ (1 ≤ x.subunit.toNat ∧ x.subunit.toNat ≤ 64) := by simp [all]
    simp only [pinBehaviourBody, agg, none_, dite_false, level, needs, decide_true, Bool.and_self, if_true]
  · have none_ : ¬ (1 ≤ x.subunit.toNat ∧ x.subunit.toNat ≤ 64) := by simp [all]
    have free : (decide (x.b 0 = 2) && t.needsLevel3) = false := by
      obtain other | unused := may
      · simp [other]
      · simp [unused]
    simp only [pinBehaviourBody, agg, none_, dite_false, free, Bool.false_eq_true, if_false]
  · have one : 1 ≤ x.subunit.toNat ∧ x.subunit.toNat ≤ 64 := by omega
    simp only [pinBehaviourBody, agg, one, and_self, dite_true, subunit_port port one, show x.subunit.toNat - 1 = p.val by omega]
  · simp only [pinBehaviourBody, dtc, on, trace, Bool.and_self, if_true]
  · have plain : ((t.dtc p).compEnable && (t.dtc p).compMask.getLsbD 4) = false := by
      obtain off | off := may
      · rw [off, Bool.false_and]
      · rw [off, Bool.and_false]
    simp only [pinBehaviourBody, dtc, plain, Bool.false_eq_true, if_false]

/-! ## Security verbs (R544 to R560) -/

/-- A release that KEY_INSTALL names. -/
theorem keyInstallBody_found {x : Sentence} {t : State} {r : Release} (h : t.openReleases.find? (fun r => r.id == BitVec.ofNat 32 (x.f 0 4)) = some r) :
    keyInstallBody x t =
      let u : State := { t with sec := { t.sec with releases := t.sec.releases.filter fun q => q.id != BitVec.ofNat 32 (x.f 0 4) } }
      if r.ctx.toNat != x.f 4 2 then (u, .final St.param)
      else match Config.unwrap r.draw (be 4 t.dev.oid.toNat ++ be 4 (BitVec.ofNat 32 (x.f 0 4)).toNat ++ be 2 (x.f 4 2)) x.params with
        | none => (u, .final St.param)
        | some k => ((u.installKey (x.f 4 2) (BitVec.ofNat 32 (x.f 8 4)) (padTo 32 k)).mirror 9
            (keyEntry (x.f 4 2) (BitVec.ofNat 32 (x.f 8 4)) (padTo 32 k)), .final St.ok (be 4 (BitVec.ofNat 32 (x.f 8 4)).toNat)) := by
  simp only [keyInstallBody, h] <;> rfl

/-- KEY_RELEASE_BEGIN with room for a release. -/
theorem keyReleaseBeginBody_room {x : Sentence} {t : State} (h : (t.openReleases.filter fun r => r.ctx.toNat != x.f 0 2).length < 64) :
    keyReleaseBeginBody x t =
      let id : Word := (Config.freeWord t.free).truncate 32
      let b := be 4 t.dev.oid.toNat ++ be 4 id.toNat ++ be 2 (x.f 0 2) ++ zeros 2 ++ be 8 t.cs ++ padTo 96 (Config.publicKey t.free)
      let u : State := { t with
        free := t.free + 1
        sec := { t.sec with releases := (t.openReleases.filter fun r => r.ctx.toNat != x.f 0 2) ++
          [{ id := id, ctx := BitVec.ofNat 10 (x.f 0 2), since := t.now, draw := t.free }] } }
      ((u.identitySign b).2, .final St.ok (b ++ (u.identitySign b).1)) :=
  if_neg (Nat.not_le.mpr h)

/-- A debug authorisation that is not for the partner. -/
theorem authOwn {x : Sentence} {t : State} (h : ¬ (fld x.params 4 4 = t.pair.partnerOid.toNat ∧ fld x.params 4 4 ≠ t.dev.oid.toNat ∧ x.req ≠ .partner)) :
    (fld x.params 4 4 == t.pair.partnerOid.toNat && fld x.params 4 4 != t.dev.oid.toNat && x.req != .partner) = false := by
  rw [Bool.eq_false_iff]
  simpa only [ne_eq, Bool.and_eq_true, beq_iff_eq, bne_iff_ne, and_assoc] using h

/-- An authorisation that cannot stand now: debugging is off, time is not valid, or the window is not open. -/
theorem authShut {x : Sentence} {t : State} :
    (t.debugDisabled || !t.timeValid || decide (t.svcNs / 1000000000 < fld x.params 16 8) || decide (fld x.params 24 8 ≤ t.svcNs / 1000000000)) = true ↔
    ¬ (t.debugDisabled = false ∧ t.timeValid = true ∧ fld x.params 16 8 ≤ t.svcNs / 1000000000 ∧ t.svcNs / 1000000000 < fld x.params 24 8) := by
  simp only [Bool.or_eq_true, Bool.not_eq_true', decide_eq_true_eq, Classical.not_and_iff_not_or_not, Bool.not_eq_false, Bool.not_eq_true, Nat.not_le, Nat.not_lt, or_assoc]

/-- Settles O39: the gates of each body in their order. -/
theorem securityVerbsKeepTheirGates : Obligations.SecurityVerbsKeepTheirGates := by
  refine ⟨does_row (fun _ => rfl) fun x t _ => ?_, does_row (fun _ => rfl) fun x t full => ?_, fun s x runs room => ?_,
    does_row (fun _ => rfl) fun x t none_ => ?_, fun r => does_row (fun _ => rfl) fun x t ⟨found, other⟩ => ?_,
    fun r => does_row (fun _ => rfl) fun x t ⟨found, ctx⟩ => ?_, does_row (fun _ => rfl) fun x t idle => ?_, does_row (fun _ => rfl) fun x t held => ?_,
    ⟨does_row (fun _ => rfl) fun x t ⟨partner, own, req⟩ => ?_, does_row (fun _ => rfl) fun x t ⟨own, unset⟩ => ?_,
      does_row (fun _ => rfl) fun x t ⟨own, set, bad⟩ => ?_, does_row (fun _ => rfl) fun x t ⟨own, set, good, shut⟩ => ?_,
      does_row (fun _ => rfl) fun x t ⟨own, set, good, open_, ends⟩ => ?_, does_row (fun _ => rfl) fun x t ⟨own, set, good, open_, takes⟩ => ?_⟩,
    ⟨does_row (fun _ => rfl) fun x t beyond => ?_, does_row (fun _ => rfl) fun x t within => ?_⟩⟩
  · rfl
  · exact if_pos full
  · refine ⟨_, _, _, (does_row (f := keyReleaseBeginBody) (g := fun _ _ => True) (fun _ => rfl) (fun _ _ _ => rfl) s x runs trivial).trans
      (congrArg Host.Outcome.next (ran_congr (g := fun _ => _) (keyReleaseBeginBody_room room))), ⟨_, rfl⟩, ?_⟩
    simp only [List.append_assoc]
    rw [← List.append_assoc, ← List.append_assoc, ← List.append_assoc]
    exact List.take_left' (by simp only [List.length_append, be_length, zeros_length])
  · simp only [keyInstallBody, none_]
  · rw [keyInstallBody_found found]
    exact if_pos (bne_iff_ne.mpr other)
  · rw [keyInstallBody_found found]
    exact if_neg (by simp [ctx])
  · exact if_pos (bne_iff_ne.mpr idle)
  · exact if_neg (by simp [held])
  · exact if_pos (by simpa only [Bool.and_eq_true, beq_iff_eq, bne_iff_ne] using ⟨⟨partner, own⟩, req⟩)
  · simp only [debugAuthoriseBody, authOwn own, unset, Bool.not_false, Bool.false_eq_true, if_false, if_true]
  · simp only [debugAuthoriseBody, authOwn own, set, bad, Bool.not_false, Bool.not_true, Bool.false_eq_true, if_false, if_true]
  · simp only [debugAuthoriseBody, authOwn own, set, good, if_pos (authShut.mpr shut), Bool.not_true, Bool.false_eq_true, if_false]
  · simp only [debugAuthoriseBody, authOwn own, set, good, if_neg (mt authShut.mp (Classical.not_not.mpr open_)), ends, Bool.not_true, Bool.false_eq_true,
      if_false, if_true]
  · have scope : (BitVec.ofNat 8 (byteAt x.params 32)).getLsbD 0 = decide (byteAt x.params 32 % 2 = 1) := by
      rw [BitVec.getLsbD_ofNat, Nat.testBit_zero]
      rfl
    simp only [debugAuthoriseBody, authOwn own, set, good, if_neg (mt authShut.mp (Classical.not_not.mpr open_)), takes, scope, Bool.not_true, Bool.false_eq_true,
      if_false, decide_eq_true_eq]
  · exact if_pos beyond
  · exact if_neg (Nat.not_lt.mpr within)

/-! ## Observability verbs (R565 to R579) -/

/-- The parameters of a sentence that runs are in range. -/
theorem runs_check {s : State} {v : Verb} {x : Sentence} (h : s.runs v x = true) : v.check x.part x = true := by
  obtain acc | acc := Bool.or_eq_true_iff.mp h
  · obtain ⟨agg, -, -, -, -, -, -, -, -, check⟩ := reaches_iff.mp (accepts_iff.mp acc).1
    rw [agg, check]
  · unfold State.acceptsDtc at acc
    split at acc
    · cases acc
    · simp only [Bool.and_eq_true] at acc
      exact acc.1.2

/-- A row does what its body does to parameters in range. -/
theorem does_checked {c : Sentence → Instr} {v : Verb} {body f : Sentence → State → State × Answer} {g : Sentence → State → Prop}
    (row : ∀ x, verbRow (c x) = some { verb := v, x := x, body := body })
    (h : ∀ x t, v.check x.part x = true → g x t → body x t = f x t) : Does c v g f := fun s x runs guard =>
  does_row (g := fun y t => v.check y.part y = true ∧ g y t) row (fun y t g => h y t g.1 g.2) s x runs ⟨runs_check runs, guard⟩

/-- The banks that READ_SELF_COUNTERS names. -/
theorem readSelf_bank {x : Sentence} (h : vReadSelfCounters.check x.part x = true) : x.b 0 = 0 ∨ x.b 0 = 1 := by
  simp only [vReadSelfCounters, Bool.and_eq_true, decide_eq_true_eq] at h
  omega

/-- The bank that is read is valid. -/
theorem bankValid_iff {x : Sentence} {t : State} (h : x.b 0 = 0 ∨ x.b 0 = 1) :
    (decide (x.b 0 = 0) && !(if x.b 0 = 0 then t.obs.tick else t.obs.hold).valid || decide (x.b 0 = 1) && !t.obs.held) = true ↔
    ¬ (if x.b 0 = 0 then t.obs.tick.valid = true else t.obs.held = true) := by
  obtain h | h := h <;> simp [h]

theorem not_releasing {x : Sentence} {t : State} (h : ¬ (x.b 1 = 1 ∧ t.obs.hold.writing = true)) : (decide (x.b 1 = 1) && t.obs.hold.writing) = false := by
  rw [Bool.eq_false_iff]
  simpa only [ne_eq, Bool.and_eq_true, decide_eq_true_eq] using h

/-- The two forms of COMPRESS. -/
theorem does_compress {cf : (Sentence → Instr) × Nat} {f : Sentence → State → State × Answer} {g : Sentence → State → Prop}
    (listed : cf ∈ [(Instr.compress, 0), (Instr.decompress, 1)]) (h : ∀ x t, g x t → compressBody_ x t = f x t) :
    Does cf.1 vCompress (fun x t => x.b 1 = cf.2 ∧ g x t) f := by
  simp only [List.mem_cons, List.not_mem_nil, or_false] at listed
  obtain rfl | rfl := listed <;> exact does_own (fun _ => rfl) (fun _ x g => by simp [g.1]) fun x t g => h x t g.2

/-- Settles O40: each body, by what is busy, held or valid. -/
theorem observabilityVerbsReadAndHold : Obligations.ObservabilityVerbsReadAndHold := by
  refine ⟨⟨does_row (fun _ => rfl) fun x t ⟨release, writing⟩ => ?_, does_checked (fun _ => rfl) fun x t check ⟨free, invalid⟩ => ?_,
      does_checked (fun _ => rfl) fun x t check ⟨free, valid⟩ => ?_⟩,
    does_row (fun _ => rfl) fun x t joins => ?_, does_row (fun _ => rfl) fun x t ⟨alone, busy⟩ => ?_,
    does_row (fun _ => rfl) fun x t ⟨alone, free, written⟩ => ?_, does_row (fun _ => rfl) fun x t _ => ?_, does_row (fun _ => rfl) fun x t busy => ?_,
    does_row (fun _ => rfl) fun x t ⟨idle, zero⟩ => ?_, does_row (fun _ => rfl) fun x t ⟨idle, some_⟩ => ?_,
    fun cf listed => ⟨does_compress listed fun x t busy => ?_, does_compress listed fun x t idle => ?_⟩⟩
  · simp only [readSelfCountersBody, release, writing, decide_true, Bool.and_self, if_true]
  · exact (if_neg (by simp [not_releasing free])).trans (if_pos ((bankValid_iff (readSelf_bank check)).mpr invalid))
  · refine (if_neg (by simp [not_releasing free])).trans ((if_neg (mt (bankValid_iff (readSelf_bank check)).mp (Classical.not_not.mpr valid))).trans ?_)
    simp only
  · exact if_pos joins
  · exact (if_neg (Bool.eq_false_iff.mp alone)).trans (if_pos (by simpa using busy))
  · exact (if_neg (Bool.eq_false_iff.mp alone)).trans (if_neg (by simp [free, written]))
  · simp only [readRecordsBody]
    cases (examine _ (x.b 4) (t.obs.from (BitVec.ofNat 32 (x.f 0 4)))).2 <;> rfl
  · exact if_pos busy
  · exact (if_neg (by simp [idle])).trans (if_pos zero)
  · exact (if_neg (by simp [idle])).trans (if_neg some_)
  · exact if_pos busy
  · exact if_neg (by simp [idle])

/-! ## Profile and epoch (R32 to R42) -/

/-- A profile whose minimum epoch exceeds the epoch in force or the pending one. -/
theorem profileBarred_iff {t : State} {p : Profile} :
    (decide (t.sys.epoch < t.minEpoch p) || (t.sys.pendingEpoch.map fun e => decide (e.epoch < t.minEpoch p)).getD false) = true ↔
    ¬ (t.minEpoch p ≤ t.sys.epoch ∧ ∀ e, t.sys.pendingEpoch = some e → t.minEpoch p ≤ e.epoch) := by
  cases t.sys.pendingEpoch with
  | none => simp
  | some e => simp only [Option.map_some, Option.getD_some, Bool.or_eq_true, decide_eq_true_eq, Option.some.injEq, forall_eq', Classical.not_and_iff_not_or_not, Nat.not_le]

/-- A profile that would leave H too hot. -/
theorem profileHot_iff {t : State} {p : Profile} : (t.sys.profile == .h && p != .h && decide (800 ≤ t.hottest.2)) = true ↔
    t.sys.profile = .h ∧ p ≠ .h ∧ 800 ≤ t.hottest.2 := by
  simp only [Bool.and_eq_true, beq_iff_eq, bne_iff_ne, decide_eq_true_eq, and_assoc]

/-- An epoch out of range or a second that is not to come. -/
theorem epochBad_iff {t : State} {x : Sentence} : (!epochValid (x.f 0 4) || decide (x.f 4 8 ≤ t.svcNs / 1000000000)) = true ↔
    epochValid (x.f 0 4) = false ∨ x.f 4 8 ≤ t.svcNs / 1000000000 := by
  simp only [Bool.or_eq_true, Bool.not_eq_true', decide_eq_true_eq]

/-- Settles O41: the checks of each body in their order. -/
theorem profileAndEpochChangesArePending : Obligations.ProfileAndEpochChangesArePending := by
  refine ⟨does_row (fun _ => rfl) fun x t _ => ?_,
    fun p => ⟨does_row (fun _ => rfl) fun x t ⟨code, barred⟩ => ?_, does_row (fun _ => rfl) fun x t ⟨code, allowed, cool⟩ => ?_⟩,
    does_row (fun _ => rfl) fun x t _ => ?_, does_row (fun _ => rfl) fun x t invalid => ?_, does_row (fun _ => rfl) fun x t ⟨valid, bad⟩ => ?_,
    ⟨does_row (fun _ => rfl) fun x t ⟨⟨valid, good, ahead⟩, low⟩ => ?_, does_row (fun _ => rfl) fun x t ⟨⟨valid, good, ahead⟩, min, set⟩ => ?_⟩⟩
  · rfl
  · simp only [setProfileBody, code]
    obtain barred | hot := barred
    · exact if_pos (profileBarred_iff.mpr barred)
    · rw [if_pos (profileHot_iff.mpr hot), ite_self]
  · simp only [setProfileBody, code, if_neg (mt profileBarred_iff.mp (Classical.not_not.mpr allowed)), if_neg (mt profileHot_iff.mp cool), State.dueInstant,
      beq_iff_eq]
  · rfl
  · exact if_pos (by simp [invalid])
  · exact (if_neg (by simp [valid])).trans (if_pos (epochBad_iff.mpr bad))
  · exact (if_neg (by simp [valid])).trans ((if_neg (by simp [good, ahead])).trans (if_pos (by simpa using low)))
  · exact (if_neg (by simp [valid])).trans ((if_neg (by simp [good, ahead])).trans (if_neg (by simp [min, set])))

/-! ## Staged sets (R110 to R112) -/

/-- Settles O42: each body, by the requester's open and committed sets. -/
theorem stagedSetsOpenAndCommit : Obligations.StagedSetsOpenAndCommit := by
  refine ⟨does_row (fun _ => rfl) fun x t opened => ?_, does_row (fun _ => rfl) fun x t none_ => ?_, does_row (fun _ => rfl) fun x t busy => ?_,
    does_row (fun _ => rfl) fun x t ⟨free, none_⟩ => ?_,
    fun g => ⟨does_row (fun _ => rfl) fun x t ⟨free, opened, late⟩ => ?_, does_row (fun _ => rfl) fun x t ⟨free, opened, soon⟩ => ?_⟩,
    does_row (fun _ => rfl) fun x t none_ => ?_, fun g => does_row (fun _ => rfl) fun x t opened => ?_,
    does_row (fun _ => rfl) fun x t none_ => ?_, fun g => does_row (fun _ => rfl) fun x t opened => ?_⟩
  · obtain ⟨g, opened⟩ := Option.isSome_iff_exists.mp opened
    simp only [stageBody, opened]
  · simp only [stageBody, none_]
  · exact if_pos busy
  · simp only [commitBody, free, none_, Option.isSome_none, Bool.false_eq_true, if_false]
  · simp only [commitBody, free, opened, Option.isSome_none, Bool.false_eq_true, if_false]
    exact if_pos (by simpa using late)
  · simp only [commitBody, free, opened, Option.isSome_none, Bool.false_eq_true, if_false]
    exact if_neg (by simpa using soon)
  · simp only [discardBody, none_]
  · simp only [discardBody, opened]
  · simp only [getStagedBody, none_]
  · simp only [getStagedBody, opened]

end Sys2Proof.Machine
end

section
/-! Staged sets, forwards, host registers and queue pairs -/

namespace Sys2Proof.Machine
open Sys2Proof Sys2Proof.Proofs

/-! ## Staged sets and forwarded sentences (R112 to R118, R126, R127, R258) -/

/-- An event leaves the state where its command's body does. -/
theorem stays_of {c : Instr} {s u : State} (h : exec c s = finish s u) (e : u = s) : Stays c s := by
  subst e
  exact h

/-- A dry run refuses a change, or none. -/
theorem anyRefused {sts : List Nat} {i : Nat} (h : sts.findIdx? (· != St.ok) = some i) : sts.any (· != St.ok) = true := by
  rw [← List.findIdx?_isSome, h]
  rfl

theorem noneRefused {sts : List Nat} (h : ∀ st ∈ sts, st = St.ok) : sts.any (· != St.ok) = false := by
  simpa only [List.any_eq_false, bne_iff_ne, ne_eq, Classical.not_not] using h

/-- A refused set names its first refused change. -/
theorem refuseSet_first {s : State} {c : CommitWait} {sts : List Nat} {i : Nat} (h : sts.findIdx? (· != St.ok) = some i) :
    s.refuseSet c sts = ((c.set.changes.zip sts).foldl State.refuseStaged s).final .agg c.ticket St.state
      (commitResults Stamp.zero 0 i (sts.getD i 0)) := by
  rw [State.refuseSet, h]
  rfl

/-- The clauses of O43 on a committed set. -/
theorem committedSet_goes {s : State} {r : Requester} {c : CommitWait} (h : (s.stagingOf r).committed = some c) :
    let uncommitted := s.setStaging r { s.stagingOf r with committed := none }
    let ended (sts : List Nat) (i : Nat) : State := ((c.set.changes.zip sts).foldl State.refuseStaged uncommitted).final .agg c.ticket St.state
      (commitResults Stamp.zero 0 i (sts.getD i 0))
    (c.prepared.isSome = true → Stays (.stagedSetPrepared r) s) ∧
    (c.prepared = none →
      let sts := dryRun c.set.changes s c.set.changes
      ((∀ st ∈ sts, st = St.ok) → Goes (.stagedSetPrepared r) s (s.setStaging r { s.stagingOf r with committed := some { c with prepared := some (s.now, sts) } })) ∧
      (∀ i, sts.findIdx? (· != St.ok) = some i → Goes (.stagedSetPrepared r) s (ended sts i))) ∧
    (s.commitTick c = none → Stays (.stagedSetApply r) s) ∧
    (∀ t, s.commitTick c = some t →
      let sts := dryRun c.set.changes uncommitted c.set.changes
      (s.setBefore r t = true → Stays (.stagedSetApply r) s) ∧
      (∀ i, s.setBefore r t = false → sts.findIdx? (· != St.ok) = some i → Goes (.stagedSetApply r) s (ended sts i)) ∧
      (s.setBefore r t = false → (∀ st ∈ sts, st = St.ok) →
        Goes (.stagedSetApply r) s ((c.set.changes.foldl (State.applyStaged c.set.changes t) uncommitted).finalAt .agg c.ticket St.ok
          (commitResults (stampOf t s.svcFlags) c.set.changes.length 0xFFFF 0) (cstampOf true t)))) := by
  refine ⟨fun done => stays_of rfl ?_, fun fresh => ⟨fun ok => goes_of rfl ?_, fun i first => goes_of rfl ?_⟩, fun early => stays_of rfl ?_,
    fun t due => ⟨fun behind => stays_of rfl ?_, fun i first refused => goes_of rfl ?_, fun first ok => goes_of rfl ?_⟩⟩
  · simp only [h, done, if_true]
  · simp only [h, fresh, noneRefused ok, Option.isSome_none, Bool.false_eq_true, if_false]
  · simp only [h, fresh, anyRefused first, Option.isSome_none, Bool.false_eq_true, if_false, if_true]
    exact refuseSet_first first
  · simp only [h, early]
  · simp only [h, due, behind, if_true]
  · simp only [h, due, first, anyRefused refused, Bool.false_eq_true, if_false, if_true]
    exact refuseSet_first refused
  · simp only [h, due, first, noneRefused ok, Bool.false_eq_true, if_false]

theorem duplicate_ne_accepted : (St.duplicate == St.accepted) = false := by decide

/-- Settles O43: each event, by the set, the forward or the exchange that it finds. -/
theorem stagedSetsAndForwardsEnd : Obligations.StagedSetsAndForwardsEnd := by
  intro s
  refine ⟨fun r none_ => ⟨stays_of rfl ?_, stays_of rfl ?_⟩, fun r c committed => committedSet_goes committed, fun r none_ => stays_of rfl ?_,
    fun r g opened => ⟨fun young => stays_of rfl ?_, fun old => goes_of rfl ?_⟩,
    fun p => ⟨fun f gone => ⟨stays_of rfl ?_, stays_of rfl ?_⟩,
      fun f w found => ⟨fun open_ due => goes_of rfl ?_, fun answered => stays_of rfl ?_, fun down old => goes_of rfl ?_, fun lives => stays_of rfl ?_⟩,
      fun l b gone => goes_of rfl ?_,
      fun l b w found => ⟨fun notAccepted notDuplicate => goes_of rfl ?_, fun duplicate final => goes_of rfl ?_, fun duplicate running => goes_of rfl ?_,
        fun accepted quiet => goes_of rfl ?_, fun e accepted tag all => goes_of rfl ?_⟩⟩,
    fun p l b => ⟨fun ready busy final => goes_of rfl ?_, fun idle => stays_of rfl ?_⟩⟩
  · simp only [none_]
  · simp only [none_]
  · simp only [none_]
  · simp only [opened, if_neg (Nat.not_le.mpr young)]
  · simp only [opened, if_pos old]
  · simp only [gone]
  · simp only [gone]
  · simp only [found, open_, due, Bool.not_false, decide_true, Bool.and_self, if_true]
  · have waits : (!w.answered && decide (w.sentAt + 2 * (s.port p).delayNs + 10000 ≤ s.now)) = false := by
      obtain answered | early := answered
      · simp [answered]
      · simp [early]
    simp only [found, waits, Bool.false_eq_true, if_false]
  · simp only [found, down, old, decide_true, Bool.and_self, if_true]
  · have up : ((s.port p).e.longDown s.now && (s.dtc p).lb.e.longDown (s.dtc p).now && decide (w.since + 10000000 ≤ s.now)) = false := by
      rw [Bool.eq_false_iff]
      simpa only [ne_eq, Bool.and_eq_true, decide_eq_true_eq] using lives
    simp only [found, up, Bool.false_eq_true, if_false]
  · simp only [State.takeForwardedReply, gone]
  · simp only [State.takeForwardedReply, found, beq_false_of_ne notAccepted, beq_false_of_ne notDuplicate, Bool.false_eq_true, if_false]
  · simp only [State.takeForwardedReply, found, duplicate, beq_false_of_ne final, duplicate_ne_accepted, beq_self_eq_true, Bool.false_eq_true, if_false,
      if_true]
  · simp only [State.takeForwardedReply, found, duplicate, running, duplicate_ne_accepted, beq_self_eq_true, Bool.false_eq_true, if_false, if_true]
    rfl
  · simp only [State.takeForwardedReply, found, accepted, beq_self_eq_true, if_true]
    cases tag : findTag s.verbs.tags w.ticket.req w.ticket.tag with
    | none => rfl
    | some e => exact if_neg (Bool.eq_false_iff.mp (quiet e tag))
  · simp only [State.takeForwardedReply, found, accepted, tag, all, beq_self_eq_true, if_true]
    rfl
  · simp only [State.takeOriginatedReply, ready, busy, bne_iff_ne.mpr final, Bool.and_self, if_true]
  · have idles : ((s.dtc p).ready && (s.dtc p).mb.busy && fld b 4 2 != St.accepted) = false := by
      obtain early | free | accepted := idle
      · simp [early]
      · simp [free]
      · simp [accepted]
    simp only [State.takeOriginatedReply, idles, Bool.false_eq_true, if_false]

/-! ## Big-endian fields -/

theorem ofBe_foldl (bs : Bytes) (a : Nat) : bs.foldl (fun a b => a * 256 + b.toNat) a = a * 256 ^ bs.length + ofBe bs := by
  induction bs generalizing a with
  | nil => simp [ofBe]
  | cons b bs ih =>
    simp only [ofBe, List.foldl_cons, List.length_cons, Nat.zero_mul, Nat.zero_add]
    rw [ih, ih b.toNat, Nat.pow_succ, Nat.add_mul, Nat.mul_assoc, Nat.mul_comm 256, Nat.add_assoc]

theorem ofBe_lt (bs : Bytes) : ofBe bs < 256 ^ bs.length := by
  induction bs with
  | nil => decide
  | cons b bs ih =>
    rw [ofBe, List.foldl_cons, ofBe_foldl, List.length_cons, Nat.pow_succ, Nat.zero_mul, Nat.zero_add]
    calc b.toNat * 256 ^ bs.length + ofBe bs < b.toNat * 256 ^ bs.length + 256 ^ bs.length := Nat.add_lt_add_left ih _
      _ = (b.toNat + 1) * 256 ^ bs.length := (Nat.succ_mul ..).symm
      _ ≤ 256 * 256 ^ bs.length := Nat.mul_le_mul_right _ b.isLt
      _ = 256 ^ bs.length * 256 := Nat.mul_comm ..

theorem be_mul_add (n k r : Nat) : be n (k * 256 ^ n + r) = be n r := by
  induction n generalizing k with
  | zero => rfl
  | succ n ih =>
    have whole : k * 256 ^ (n + 1) + r = 256 ^ n * (k * 256) + r := by
      rw [Nat.pow_succ, ← Nat.mul_assoc, Nat.mul_comm k (256 ^ n), Nat.mul_assoc]
    have high : (k * 256 ^ (n + 1) + r) >>> (8 * n) = k * 256 + r >>> (8 * n) := by
      rw [whole, Nat.shiftRight_eq_div_pow, Nat.shiftRight_eq_div_pow, show 2 ^ (8 * n) = 256 ^ n from Nat.pow_mul 2 8 n,
        Nat.mul_add_div (Nat.pow_pos (by decide))]
    rw [be, be, high, whole, Nat.mul_comm (256 ^ n), ih]
    refine congrArg (· :: be n r) (BitVec.eq_of_toNat_eq ?_)
    simp only [BitVec.toNat_ofNat]
    omega

/-- The bytes of a number that bytes spell are those bytes. -/
theorem be_ofBe (bs : Bytes) : be bs.length (ofBe bs) = bs := by
  induction bs with
  | nil => rfl
  | cons b bs ih =>
    have value : ofBe (b :: bs) = b.toNat * 256 ^ bs.length + ofBe bs := by
      rw [ofBe, List.foldl_cons, ofBe_foldl, Nat.zero_mul, Nat.zero_add]
    have head : ofBe (b :: bs) >>> (8 * bs.length) = b.toNat := by
      rw [value, Nat.shiftRight_eq_div_pow, show 2 ^ (8 * bs.length) = 256 ^ bs.length from Nat.pow_mul 2 8 bs.length, Nat.mul_comm,
        Nat.mul_add_div (Nat.pow_pos (by decide)), Nat.div_eq_of_lt (ofBe_lt bs), Nat.add_zero]
    rw [List.length_cons, be, head, value, be_mul_add, ih]
    simp

/-- A field of a stamp's first word reads that word. -/
theorem be_fld (b : Bytes) {n : Nat} (h : n ≤ b.length) : be n (fld b 0 n) = b.take n := by
  have whole := be_ofBe (b.take n)
  rwa [List.length_take, Nat.min_eq_left h] at whole

/-! ## Host registers and queue pairs (R119 to R123, R288 to R296, R474, R480, R570, R577) -/

/-- A register write that a halted boot serves, or that finds no halted boot. -/
def barServed (s : State) (table : Bool) (o : Nat) : Prop := s.dev.halted = false ∨ table = false ∧ o < 0x1000

/-- An aligned write that is served goes by its register. -/
theorem barWrite_served {s : State} {table : Bool} {off : BitVec 24} {v : Word} {u : State} (aligned : off.toNat % 4 = 0) (served : barServed s table off.toNat)
    (h : (if table then (if off.toNat < 0x8000 then s.writeVector (off.toNat / 16) (off.toNat % 16) v else s)
      else if off.toNat = 0x10 then { s with dev := { s.dev with scratch := v } }
      else if off.toNat = 0x20 then
        { s with dev := { s.dev with irqStatus := s.dev.irqStatus &&& (~~~(v.extractLsb' 0 5) ||| freshBits 5 s.dev.irqAt s.now) } }
      else if off.toNat = 0x24 then
        ({ s with dev := { s.dev with irqEn := v.extractLsb' 0 5 } } : State).raiseVectors (s.dev.irqStatus &&& v.extractLsb' 0 5 &&& ~~~s.dev.irqEn)
      else if 0x10000 ≤ off.toNat && off.toNat < 0x11000 then
        s.writeQp ⟨(off.toNat - 0x10000) / 64 % 64, Nat.mod_lt _ (by decide)⟩ (off.toNat % 64) v
      else s) = u) : Goes (.barRegisterWrite ⟨table, off⟩ v) s u := by
  have passes : (off.toNat % 4 != 0 || (s.dev.halted && (table || decide (0x1000 ≤ off.toNat)))) = false := by
    obtain runs | ⟨plain, low⟩ := served
    · simp [aligned, runs]
    · simp [aligned, plain, low]
  refine goes_of rfl ?_
  simp only [passes, Bool.false_eq_true, if_false]
  exact h

/-- An unaligned write and one that a halted boot does not serve do nothing. -/
theorem barWrite_refused {s : State} {table : Bool} {off : BitVec 24} {v : Word}
    (h : (off.toNat % 4 != 0 || (s.dev.halted && (table || decide (0x1000 ≤ off.toNat)))) = true) : Stays (.barRegisterWrite ⟨table, off⟩ v) s := by
  refine stays_of rfl ?_
  simp only [h, if_true]

theorem goes_self {c : Instr} {s : State} (h : Goes c s s) : Stays c s := h

/-- The low and the high half of a vector's address. -/
theorem addrLow (a : BitVec 64) (v : Word) : BitVec.ofNat 64 (a.toNat / 2 ^ 32 * 2 ^ 32 + v.toNat) = a.extractLsb' 32 32 ++ v := by
  refine BitVec.eq_of_toNat_eq ?_
  have := a.isLt
  have := v.isLt
  rw [BitVec.toNat_append, ← Nat.shiftLeft_add_eq_or_of_lt v.isLt, BitVec.extractLsb'_toNat, BitVec.toNat_ofNat, Nat.shiftLeft_eq,
    Nat.shiftRight_eq_div_pow]
  omega

theorem addrHigh (a : BitVec 64) (v : Word) : BitVec.ofNat 64 (highHalf a.toNat v) = v ++ a.extractLsb' 0 32 := by
  refine BitVec.eq_of_toNat_eq ?_
  have := v.isLt
  have low : (a.extractLsb' 0 32).toNat = a.toNat % 2 ^ 32 := by rw [BitVec.extractLsb'_toNat, Nat.shiftRight_zero]
  rw [BitVec.toNat_append, ← Nat.shiftLeft_add_eq_or_of_lt (BitVec.isLt _), low, highHalf, BitVec.toNat_ofNat, Nat.shiftLeft_eq]
  omega

/-- The words of the MSI-X table, by their place in a vector. -/
theorem vectorWrite_goes {s : State} (runs : s.dev.halted = false) (k : Fin 2048) (o : Nat) (lt : o < 16) (aligned : o % 4 = 0) (v : Word) :
    Goes (.barRegisterWrite ⟨true, BitVec.ofNat 24 (16 * k.val + o)⟩ v) s (s.writeVector k.val o v) := by
  have at_ : (BitVec.ofNat 24 (16 * k.val + o)).toNat = 16 * k.val + o := by
    rw [BitVec.toNat_ofNat]
    omega
  refine barWrite_served (by rw [at_]; omega) (.inl runs) ?_
  rw [at_, if_pos rfl, if_pos (by omega), show (16 * k.val + o) / 16 = k.val by omega, show (16 * k.val + o) % 16 = o by omega]

/-- The words of a queue pair's block. -/
theorem qpWrite_goes {s : State} (runs : s.dev.halted = false) (n : Fin 64) (o : Nat) (lt : o < 64) (aligned : o % 4 = 0) (v : Word) :
    Goes (.barRegisterWrite ⟨false, BitVec.ofNat 24 (0x10000 + 64 * n.val + o)⟩ v) s (s.writeQp n o v) := by
  have at_ : (BitVec.ofNat 24 (0x10000 + 64 * n.val + o)).toNat = 0x10000 + 64 * n.val + o := by
    rw [BitVec.toNat_ofNat]
    omega
  refine barWrite_served (by rw [at_]; omega) (.inl runs) ?_
  have pair : (⟨(0x10000 + 64 * n.val + o - 0x10000) / 64 % 64, Nat.mod_lt _ (by decide)⟩ : Fin 64) = n := Fin.ext (by simp only; omega)
  have inside : (decide (0x10000 ≤ 0x10000 + 64 * n.val + o) && decide (0x10000 + 64 * n.val + o < 0x11000)) = true := by
    simp only [Bool.and_eq_true, decide_eq_true_eq]
    omega
  simp only [at_, Bool.false_eq_true, if_false, inside, if_true, pair, show ¬ 0x10000 + 64 * n.val + o = 0x10 by omega,
    show ¬ 0x10000 + 64 * n.val + o = 0x20 by omega, show ¬ 0x10000 + 64 * n.val + o = 0x24 by omega,
    show (0x10000 + 64 * n.val + o) % 64 = o by omega]

/-- A post by the sync doorbell at an active part, by what the object has seen. -/
theorem syncDoorbell_goes {s : State} (runs : s.dev.halted = false) {o : BitVec 15} {v : Word} (some_ : (v.extractLsb' 0 24).toNat ≠ 0)
    (active : s.active = true) :
    Goes (.syncDoorbell o v) s (s.doorbell o.toNat (v.extractLsb' 0 24).toNat (v.extractLsb' 24 8).toNat) := by
  refine goes_of rfl ?_
  have passes : (decide ((v.extractLsb' 0 24).toNat = 0) || s.dev.halted) = false := by
    rw [decide_eq_false some_, runs]
    rfl
  simp only [passes, active, Bool.false_eq_true, if_false, if_true]

/-- A post by the sync doorbell at a part that is not active waits; of 4,096 the oldest goes. -/
theorem syncDoorbell_held {s : State} (runs : s.dev.halted = false) {o : BitVec 15} {v : Word} (some_ : (v.extractLsb' 0 24).toNat ≠ 0)
    (standby : s.active = false) :
    let queue := s.sync.heldPosts ++ [⟨o.toNat, (v.extractLsb' 24 8).toNat, (v.extractLsb' 0 24).toNat⟩]
    (s.sync.heldPosts.length < 4096 → Goes (.syncDoorbell o v) s { s with sync := { s.sync with heldPosts := queue } }) ∧
    (4096 ≤ s.sync.heldPosts.length →
      Goes (.syncDoorbell o v) s { s with sync := { s.sync with heldPosts := queue.drop 1, heldDrops := satInc 32 s.sync.heldDrops } }) := by
  have passes : (decide ((v.extractLsb' 0 24).toNat = 0) || s.dev.halted) = false := by
    rw [decide_eq_false some_, runs]
    rfl
  refine ⟨fun room => goes_of rfl ?_, fun full => goes_of rfl ?_⟩
  · simp only [passes, standby, Bool.false_eq_true, if_false]
    exact if_neg (Nat.not_lt.mpr (by rw [List.length_append]; exact room))
  · simp only [passes, standby, Bool.false_eq_true, if_false]
    exact if_pos (by rw [List.length_append]; exact Nat.lt_succ_of_le full)

/-- What a running part's registers and doorbells do. -/
theorem hostRegisters_running (s : State) (n : Fin 64) (runs : s.dev.halted = false) :
    (∀ m, Goes (.qpEnable n m) s (s.setQp n { s.qp n with
      msiEn := m, enable := true, enabled := true, sqHead := 0, sqTail := 0, cqHead := 0, cqPos := 0, phase := true, stopped := false })) ∧
    (∀ m, Goes (.qpDisable n m) s (s.setQp n { s.qp n with msiEn := m, enable := false, enabled := (s.qp n).inFlight != 0 || !(s.qp n).held.isEmpty })) ∧
    (∀ v, (s.qp n).enabled = true → Goes (.qpSqTailDoorbell n v) s (s.setQp n { s.qp n with sqTail := v.toNat % 4096 })) ∧
    (∀ v, (s.qp n).enabled = true →
      let t := s.setQp n { s.qp n with cqHead := v.toNat % 4096 }
      Goes (.qpCqHeadDoorbell n v) s (t.releaseHeld n (t.qp n).held.length)) ∧
    (∀ v, (s.qp n).enabled = false →
      let t := (s.setQp n { s.qp n with err := true, errKind := 2 }).irq 4
      Goes (.qpSqTailDoorbell n v) s t ∧ Goes (.qpCqHeadDoorbell n v) s t) ∧
    (∀ v, Goes (.recCursorWrite v) s { s with obs := { s.obs with cursor := v } }) ∧
    (∀ v : Word, v.getLsbD 0 = true → s.obs.hold.writing = false →
      Goes (.scRelease v) s { s with obs := { s.obs with held := false, holdCause := 0, holdSeverity := 0, holdSeq := 0 } }) ∧
    (∀ v : Word, v.getLsbD 0 = false ∨ s.obs.hold.writing = true → Stays (.scRelease v) s) ∧
    Goes (.timeW0Read .agg) s (State.emit { s with time := { s.time with latch := s.stamp } } (.barRead 0x1020) ((stampBytes s.stamp).take 4)) := by
  refine ⟨fun m => goes_of rfl (if_neg (Bool.eq_false_iff.mp runs)), fun m => goes_of rfl (if_neg (Bool.eq_false_iff.mp runs)),
    fun v on => goes_of rfl ((if_neg (Bool.eq_false_iff.mp runs)).trans (if_pos on)),
    fun v on => goes_of rfl ((if_neg (Bool.eq_false_iff.mp runs)).trans (if_pos on)),
    fun v off => ⟨goes_of rfl ((if_neg (Bool.eq_false_iff.mp runs)).trans (if_neg (Bool.eq_false_iff.mp off))),
      goes_of rfl ((if_neg (Bool.eq_false_iff.mp runs)).trans (if_neg (Bool.eq_false_iff.mp off)))⟩,
    fun v => goes_of rfl (if_neg (Bool.eq_false_iff.mp runs)), fun v bit free => goes_of rfl (if_pos ?_), fun v kept => stays_of rfl (if_neg ?_),
    goes_of rfl ((if_neg (Bool.eq_false_iff.mp runs)).trans ?_)⟩
  · rw [bit, free, runs]
    rfl
  · obtain clear | writing := kept
    · rw [clear]
      simp
    · simp [writing]
  · rw [be_fld _ (by rw [stampBytes_length]; omega)]

/-- What the words of the MSI-X table take. -/
theorem vectorWords_running (s : State) (runs : s.dev.halted = false) (k : Fin 2048) (v : Word) :
    let e := s.vector k.val
    let a := BitVec.ofNat 24 (16 * k.val)
    Goes (.barRegisterWrite ⟨true, a⟩ v) s (s.setVector k.val { e with addr := e.addr.extractLsb' 32 32 ++ v }) ∧
    Goes (.barRegisterWrite ⟨true, (a + 4)⟩ v) s (s.setVector k.val { e with addr := v ++ e.addr.extractLsb' 0 32 }) ∧
    Goes (.barRegisterWrite ⟨true, (a + 8)⟩ v) s (s.setVector k.val { e with data := v }) ∧
    (let t := s.setVector k.val { e with control := v &&& 1, pending := e.pending && v.getLsbD 0 }
     Goes (.barRegisterWrite ⟨true, (a + 12)⟩ v) s (if e.pending = true ∧ v.getLsbD 0 = false then t.signal k.val else t)) := by
  have at_ (o : Nat) : BitVec.ofNat 24 (16 * k.val) + BitVec.ofNat 24 o = BitVec.ofNat 24 (16 * k.val + o) := (BitVec.ofNat_add ..).symm
  refine ⟨?_, ?_, ?_, ?_⟩
  · rw [← addrLow]
    exact vectorWrite_goes runs k 0 (by decide) (by decide) v
  · rw [← addrHigh, show BitVec.ofNat 24 (16 * k.val) + 4 = _ from at_ 4]
    exact vectorWrite_goes runs k 4 (by decide) (by decide) v
  · rw [show BitVec.ofNat 24 (16 * k.val) + 8 = _ from at_ 8]
    exact vectorWrite_goes runs k 8 (by decide) (by decide) v
  · have word := vectorWrite_goes runs k 12 (by decide) (by decide) v
    rw [show BitVec.ofNat 24 (16 * k.val) + 12 = _ from at_ 12]
    simp only [State.writeVector, Bool.and_eq_true, Bool.not_eq_true'] at word
    exact word

/-- What the base registers of a queue pair take. -/
theorem qpBases_running (s : State) (n : Fin 64) (runs : s.dev.halted = false) (o : Fin 4) (v : Word) :
    let q := s.qp n
    let put : Qp := match o with
      | 0 => { q with sqBase := q.sqBase / 2 ^ 32 * 2 ^ 32 + v.toNat / 4096 * 4096 }
      | 1 => { q with sqBase := v.toNat * 2 ^ 32 + q.sqBase % 2 ^ 32 }
      | 2 => { q with cqBase := q.cqBase / 2 ^ 32 * 2 ^ 32 + v.toNat / 4096 * 4096 }
      | 3 => { q with cqBase := v.toNat * 2 ^ 32 + q.cqBase % 2 ^ 32 }
    Goes (.barRegisterWrite ⟨false, (BitVec.ofNat 24 (0x10000 + 64 * n.val + 4 * o.val))⟩ v) s
      (if q.enabled = true then (s.setQp n { q with err := true, errKind := 3 }).irq 4 else s.setQp n put) := by
  have word := qpWrite_goes runs n (4 * o.val) (by omega) (by omega) v
  match o with
  | 0 | 1 | 2 | 3 => exact word

/-- What a sync doorbell does at a running part. -/
theorem syncDoorbell_running (s : State) (runs : s.dev.halted = false) (o : BitVec 15) (v : Word) :
    let number := (v.extractLsb' 24 8).toNat
    let amount := (v.extractLsb' 0 24).toNat
    let object := s.object o.toNat
    let queue := s.sync.heldPosts ++ [⟨o.toNat, number, amount⟩]
    (amount = 0 → Stays (.syncDoorbell o v) s) ∧
    (amount ≠ 0 → s.active = true → object.inited = true → object.hseq = number →
      Goes (.syncDoorbell o v) s { s with sync := { s.sync with repeats := satInc 32 s.sync.repeats } }) ∧
    (amount ≠ 0 → s.active = true → object.inited = false ∨ object.hseq ≠ number ∧ agentAllowed object.producer object.producerOid (0x41, 0) = false →
      Goes (.syncDoorbell o v) s (s.post o.toNat amount (0x41, 0) 0).1) ∧
    (amount ≠ 0 → s.active = true → object.inited = true → object.hseq ≠ number → agentAllowed object.producer object.producerOid (0x41, 0) = true →
      let t := ((s.setObject o.toNat { object with hseq := number }).post o.toNat amount (0x41, 0) 0).1
      Goes (.syncDoorbell o v) s (t.mirror 6 (be 4 o.toNat ++ (t.object o.toNat).record ++ be 1 number))) ∧
    (amount ≠ 0 → s.active = false → s.sync.heldPosts.length < 4096 → Goes (.syncDoorbell o v) s { s with sync := { s.sync with heldPosts := queue } }) ∧
    (amount ≠ 0 → s.active = false → 4096 ≤ s.sync.heldPosts.length →
      Goes (.syncDoorbell o v) s { s with sync := { s.sync with heldPosts := queue.drop 1, heldDrops := satInc 32 s.sync.heldDrops } }) := by
  refine ⟨fun zero => stays_of rfl (if_pos ?_), fun some_ active inited seen => ?_, fun some_ active refused => ?_,
    fun some_ active inited new may => ?_, fun some_ standby room => (syncDoorbell_held runs some_ standby).1 room,
    fun some_ standby full => (syncDoorbell_held runs some_ standby).2 full⟩
  · rw [decide_eq_true zero]
    rfl
  · have goes := syncDoorbell_goes (o := o) runs some_ active
    simp only [State.doorbell, inited, seen, Bool.not_true, Bool.false_eq_true, if_false, if_true] at goes
    exact goes
  · have goes := syncDoorbell_goes (o := o) runs some_ active
    obtain blank | ⟨new, barred⟩ := refused
    · simp only [State.doorbell, blank, Bool.not_false, if_true] at goes
      exact goes
    · simp only [State.doorbell, new, barred, Bool.not_false, if_true, if_false, ite_self] at goes
      exact goes
  · have goes := syncDoorbell_goes (o := o) runs some_ active
    simp only [State.doorbell] at goes
    rwa [if_neg (by simp [inited]), if_neg new, if_neg (by rw [may]; decide)] at goes

/-- A halted boot serves the device window alone. -/
theorem hostRegisters_halted (s : State) (n : Fin 64) (halted : s.dev.halted = true) (m : Bool) (v : Word) (o : BitVec 15) (off : BitVec 24)
    (table : Bool) (outside : table = true ∨ 0x1000 ≤ off.toNat) :
    Stays (.qpEnable n m) s ∧ Stays (.qpDisable n m) s ∧ Stays (.qpSqTailDoorbell n v) s ∧ Stays (.qpCqHeadDoorbell n v) s ∧
      Stays (.recCursorWrite v) s ∧ Stays (.scRelease v) s ∧ Stays (.syncDoorbell o v) s ∧ Stays (.barRegisterWrite ⟨table, off⟩ v) s := by
  refine ⟨stays_of rfl (if_pos halted), stays_of rfl (if_pos halted), stays_of rfl (if_pos halted), stays_of rfl (if_pos halted),
    stays_of rfl (if_pos halted), stays_of rfl (if_neg ?_), stays_of rfl (if_pos ?_), barWrite_refused ?_⟩
  · simp [halted]
  · rw [halted, Bool.or_true]
  · obtain table | beyond := outside
    · simp [halted, table]
    · simp [halted, beyond]

/-- What is fetched, from the firmware's readiness on: the entry of the pair whose turn it is, or a waiting Ethernet sentence. -/
theorem sentenceFetch_turn {s : State} {n : Fin 64} (e : HostEntry) (ready : s.dev.fwReady = true) (next : s.nextQp = some n) :
    let both := s.verbs.waiting ≠ []
    let t : State := if s.verbs.waiting = [] then s else { s with dev := { s.dev with ethTurn := !s.dev.ethTurn } }
    (both → s.dev.ethTurn = true → Goes (.sentenceFetch e) s t.fetchEth) ∧
    (¬ both ∨ s.dev.ethTurn = false → e.queue = n → byteAt e.header 0 ≠ 2 → Goes (.sentenceFetch e) s (t.fetchQp n e)) ∧
    (¬ both ∨ s.dev.ethTurn = false → e.queue = n → byteAt e.header 0 = 2 → Goes (.sentenceFetch e) s (t.fetchRequest n e)) ∧
    (¬ both ∨ s.dev.ethTurn = false → e.queue ≠ n → Stays (.sentenceFetch e) s) := by
  have turn (h : ¬ s.verbs.waiting ≠ [] ∨ s.dev.ethTurn = false) : (!s.verbs.waiting.isEmpty && s.dev.ethTurn) = false := by
    obtain none_ | pairs := h
    · simp [Classical.not_not.mp none_]
    · simp [pairs]
  refine ⟨fun both eth => goes_of rfl ?_, fun pairs same plain => goes_of rfl ?_, fun pairs same request => goes_of rfl ?_,
    fun pairs other => stays_of rfl ?_⟩
  · have queued : s.verbs.waiting.isEmpty = false := List.isEmpty_eq_false_iff.mpr both
    simp only [ready, next, queued, eth, both, Option.isSome_some, Bool.not_true, Bool.not_false, Bool.and_self, Bool.false_eq_true, if_false, if_true]
  · cases waiting : s.verbs.waiting with
    | nil => simp only [ready, next, waiting, same, plain, List.isEmpty_nil, Option.isSome_some, Bool.true_and, Bool.false_and, Bool.not_true, Bool.false_eq_true,
        if_false, if_true]
    | cons w ws =>
      have pairs : s.dev.ethTurn = false := pairs.resolve_left (by simp [waiting])
      simp only [ready, next, waiting, pairs, same, plain, List.isEmpty_cons, Option.isSome_some, Bool.and_self, Bool.and_false, Bool.not_true,
        Bool.not_false, Bool.false_eq_true, if_false, if_true, reduceCtorEq]
  · cases waiting : s.verbs.waiting with
    | nil => simp only [ready, next, waiting, same, request, List.isEmpty_nil, Option.isSome_some, Bool.true_and, Bool.false_and, Bool.not_true, Bool.false_eq_true,
        if_false, if_true]
    | cons w ws =>
      have pairs : s.dev.ethTurn = false := pairs.resolve_left (by simp [waiting])
      simp only [ready, next, waiting, pairs, same, request, List.isEmpty_cons, Option.isSome_some, Bool.and_self, Bool.and_false, Bool.not_true,
        Bool.not_false, Bool.false_eq_true, if_false, if_true, reduceCtorEq]
  · simp only [ready, next, turn pairs, Ne.symm other, Option.isSome_some, Bool.true_and, Bool.not_true, Bool.false_eq_true, if_false]

/-- A word of BAR0 above the device window that a running part serves. -/
theorem barWord_pair (s : State) (n : Fin 64) (runs : s.dev.halted = false) (o : Nat) (lt : o < 64) (aligned : o % 4 = 0) :
    s.barWord (0x10000 + 64 * n.val + o) = (s.qp n).word o := by
  have pair : (⟨(0x10000 + 64 * n.val + o - 0x10000) / 64 % 64, Nat.mod_lt _ (by decide)⟩ : Fin 64) = n := Fin.ext (by simp only; omega)
  have passes : ((0x10000 + 64 * n.val + o) % 4 != 0 || (s.dev.halted && decide (0x1000 ≤ 0x10000 + 64 * n.val + o))) = false := by
    rw [runs, show (0x10000 + 64 * n.val + o) % 4 = 0 by omega]
    rfl
  have inside : (decide (0x10000 ≤ 0x10000 + 64 * n.val + o) && decide (0x10000 + 64 * n.val + o < 0x11000)) = true := by
    simp only [Bool.and_eq_true, decide_eq_true_eq]
    omega
  simp only [State.barWord, passes, Bool.false_eq_true, if_false, show ¬ 0x10000 + 64 * n.val + o < 0x1000 by omega,
    show ¬ 0x10000 + 64 * n.val + o = 0x1020 by omega, show ¬ 0x10000 + 64 * n.val + o < 0x2000 by omega,
    show ¬ 0x10000 + 64 * n.val + o < 0x3000 by omega, inside, if_true, pair, show (0x10000 + 64 * n.val + o) % 64 = o by omega]

/-- A word of a queue pair's doorbell page. -/
theorem barWord_doorbell (s : State) (n : Fin 64) (runs : s.dev.halted = false) (o : Nat) (lt : o < 4096) (aligned : o % 4 = 0) :
    s.barWord (0x40000 + 4096 * n.val + o) = (s.qp n).doorbellWord o := by
  have pair : (⟨(0x40000 + 4096 * n.val + o - 0x40000) / 4096 % 64, Nat.mod_lt _ (by decide)⟩ : Fin 64) = n := Fin.ext (by simp only; omega)
  have passes : ((0x40000 + 4096 * n.val + o) % 4 != 0 || (s.dev.halted && decide (0x1000 ≤ 0x40000 + 4096 * n.val + o))) = false := by
    rw [runs, show (0x40000 + 4096 * n.val + o) % 4 = 0 by omega]
    rfl
  have above : (decide (0x10000 ≤ 0x40000 + 4096 * n.val + o) && decide (0x40000 + 4096 * n.val + o < 0x11000)) = false := by
    simp only [Bool.and_eq_false_iff, decide_eq_false_iff_not]
    omega
  have inside : (decide (0x40000 ≤ 0x40000 + 4096 * n.val + o) && decide (0x40000 + 4096 * n.val + o < 0x80000)) = true := by
    simp only [Bool.and_eq_true, decide_eq_true_eq]
    omega
  simp only [State.barWord, passes, Bool.false_eq_true, if_false, show ¬ 0x40000 + 4096 * n.val + o < 0x1000 by omega,
    show ¬ 0x40000 + 4096 * n.val + o = 0x1020 by omega, show ¬ 0x40000 + 4096 * n.val + o < 0x2000 by omega,
    show ¬ 0x40000 + 4096 * n.val + o < 0x3000 by omega, above, inside, if_true, pair, show (0x40000 + 4096 * n.val + o) % 4096 = o by omega]

/-- An unaligned or unmapped word reads zero. -/
theorem barWord_unmapped (s : State) {o : Nat} (h : o % 4 ≠ 0 ∨ 0x3000 ≤ o ∧ o < 0x10000 ∨ 0x500000 ≤ o) : s.barWord o = 0 := by
  by_cases passes : (o % 4 != 0 || (s.dev.halted && decide (0x1000 ≤ o))) = true
  · exact if_pos passes
  · have aligned : o % 4 = 0 := by
      simp only [Bool.or_eq_true, bne_iff_ne, ne_eq, not_or, Classical.not_not] at passes
      exact passes.1
    simp only [State.barWord, passes, Bool.false_eq_true, if_false, Bool.and_eq_true, decide_eq_true_eq]
    rw [if_neg (by omega), if_neg (by omega), if_neg (by omega), if_neg (by omega), if_neg (by omega), if_neg (by omega), if_neg (by omega),
      if_neg (by omega), if_neg (by omega)]

/-- A word of the device window, also while a boot is halted. -/
theorem barWord_device (s : State) {o : Nat} (aligned : o % 4 = 0) (low : o < 0x1000) : s.barWord o = s.deviceWord o := by
  have passes : (o % 4 != 0 || (s.dev.halted && decide (0x1000 ≤ o))) = false := by
    rw [aligned, decide_eq_false (by omega), Bool.and_false]
    rfl
  simp only [State.barWord, passes, low, Bool.false_eq_true, if_false, if_true]

/-- A write that finds no register does nothing, whether it is served or not. -/
theorem barWrite_unmapped {s : State} {off : BitVec 24} {v : Word} (scratch : off.toNat ≠ 0x10) (status : off.toNat ≠ 0x20) (enable : off.toNat ≠ 0x24)
    (h : ∀ n : Fin 64, 0x10000 ≤ off.toNat → off.toNat < 0x11000 → s.writeQp n (off.toNat % 64) v = s) : Stays (.barRegisterWrite ⟨false, off⟩ v) s := by
  refine stays_of rfl ?_
  dsimp only
  split
  · rfl
  · simp only [scratch, status, enable, Bool.false_eq_true, if_false]
    split
    · rename_i inside
      simp only [Bool.and_eq_true, decide_eq_true_eq] at inside
      exact h _ inside.1 inside.2
    · rfl

/-- The offsets of a queue pair's block that take no write. -/
theorem writeQp_other {s : State} {n : Fin 64} {o : Nat} {v : Word} (h : o = 0x10 ∨ 0x18 ≤ o) : s.writeQp n o v = s := by
  obtain rfl | h := h
  · rfl
  · obtain ⟨k, rfl⟩ := Nat.exists_eq_add_of_le' h
    rfl

/-- Settles O44: what a running part's registers do, what a halted one serves, and what the words read as. -/
theorem hostRegistersAndQueuePairs : Obligations.HostRegistersAndQueuePairs := by
  intro s n
  refine ⟨fun runs => ?_, fun halted => ⟨fun m v o off table outside => hostRegisters_halted s n halted m v o off table outside, goes_of rfl (if_pos halted)⟩,
    fun waits => goes_of rfl (if_pos waits), fun idle => stays_of rfl (if_neg (Bool.eq_false_iff.mp idle)), fun e early => stays_of rfl ?_,
    fun e ready none_ => goes_of rfl ?_, fun e ready next => sentenceFetch_turn e ready next, fun v => ?_, fun v => ?_, fun v => ?_,
    fun off v scratch status enable outside => ?_, fun off v above below word => ?_, fun table off v unmapped => ?_,
    fun p ready => goes_of rfl ?_, fun p early => goes_of rfl (if_neg (Bool.eq_false_iff.mp early)), fun up => goes_of rfl (if_neg (Bool.eq_false_iff.mp up)),
    fun low => stays_of rfl (if_pos low), fun o unmapped => barWord_unmapped s unmapped, ⟨?_, ?_, ?_, ?_, ?_, ?_, ?_⟩,
    fun runs => ⟨barWord_pair s n runs 0 (by decide) (by decide), barWord_pair s n runs 4 (by decide) (by decide),
      barWord_pair s n runs 8 (by decide) (by decide), barWord_pair s n runs 12 (by decide) (by decide), barWord_pair s n runs 0x10 (by decide) (by decide),
      barWord_pair s n runs 0x14 (by decide) (by decide), barWord_doorbell s n runs 0 (by decide) (by decide), ?_⟩⟩
  · obtain ⟨enable, disable, tail, head, off, cursor, release, kept, time⟩ := hostRegisters_running s n runs
    refine ⟨enable, disable, tail, head, off, cursor, release, kept, time, vectorWords_running s runs, qpBases_running s n runs, fun v => ?_,
      syncDoorbell_running s runs⟩
    have at_ : 0x10014 + 64 * n.val = 0x10000 + 64 * n.val + 0x14 := by omega
    rw [at_]
    exact qpWrite_goes runs n 0x14 (by decide) (by decide) v
  · rw [early]
    rfl
  · simp only [ready, none_, Option.isSome_none, Bool.not_true, Bool.false_eq_true, if_false]
  · exact barWrite_served (by decide) (.inr ⟨rfl, by decide⟩) rfl
  · exact barWrite_served (by decide) (.inr ⟨rfl, by decide⟩) rfl
  · exact barWrite_served (by decide) (.inr ⟨rfl, by decide⟩) rfl
  · exact barWrite_unmapped scratch status enable fun n above below => absurd outside (by omega)
  · exact barWrite_unmapped (by omega) (by omega) (by omega) fun n _ _ => writeQp_other word
  · obtain unaligned | ⟨rfl, beyond⟩ := unmapped
    · exact barWrite_refused (by simp [unaligned])
    · refine stays_of rfl ?_
      simp only [if_true, if_neg (Nat.not_lt.mpr beyond), ite_self]
  · refine (if_pos ready).trans ?_
    rw [be_fld _ (by rw [stampBytes_length]; omega)]
  · exact barWord_device s (by decide) (by decide)
  · exact barWord_device s (by decide) (by decide)
  · exact barWord_device s (by decide) (by decide)
  · exact barWord_device s (by decide) (by decide)
  · exact barWord_device s (by decide) (by decide)
  · exact barWord_device s (by decide) (by decide)
  · exact barWord_device s (by decide) (by decide)
  · have at_ : 0x40004 + 4096 * n.val = 0x40000 + 4096 * n.val + 4 := by omega
    rw [at_]
    exact barWord_doorbell s n runs 4 (by decide) (by decide)

end Sys2Proof.Machine
end

section
/-! Registers and resets of a DTC -/

namespace Sys2Proof.Machine
open Sys2Proof Sys2Proof.Proofs

/-! ## The DTC on its die (R11, R139, R161 to R171) -/

/-- A write that the die's registers take, by its register. -/
theorem trbWrite_goes {s : State} {p : Fin 64} {off : BitVec 16} {v : Word} {n : Nat} (ready : (s.dtc p).ready = true)
    (mapped : (s.dtc p).trbValue (trbOffset off) = some n) :
    Goes (.trbRegisterWrite p off 15 v) s ((s.trbWrite p (trbOffset off) v).emit (.trbWrite p false)) := by
  refine goes_of rfl ?_
  simp only [ready, mapped, bne_self_eq_false, Option.isNone_some, Bool.or_self, Bool.not_true, Bool.false_eq_true, if_false]

/-- The request buffer is mapped. -/
theorem trbValue_request (d : Dtc) {o : Nat} (low : 0x400 ≤ o) (high : o ≤ 0x51C) :
    d.trbValue o = some (leWord (fun k => (Tbl.get 0 k d.mb.req).toNat) (o - 0x400)) := by
  have inside : (decide (0x400 ≤ o) && decide (o ≤ 0x51C)) = true := by rw [decide_eq_true low, decide_eq_true high]; rfl
  have below (a b : Nat) (h : b < 0x400) : (decide (a ≤ o) && decide (o ≤ b)) = false := by
    rw [decide_eq_false (show ¬ o ≤ b by omega), Bool.and_false]
  simp only [Dtc.trbValue, inside, if_true, below 0x40 0x4C (by decide), below 0x100 0x1FC (by decide), Bool.false_eq_true, if_false]
  repeat rw [if_neg (by omega)]

theorem sub_take (b : Bytes) {off n k : Nat} (h : off + n ≤ k) : sub (b.take k) off n = sub b off n := by
  rw [sub, sub, List.drop_take, List.take_take, Nat.min_eq_left (by omega)]

theorem byteAt_take (b : Bytes) {i k : Nat} (h : i < k) : byteAt (b.take k) i = byteAt b i := by
  rw [byteAt, byteAt, List.getD_eq_getElem?_getD, List.getD_eq_getElem?_getD, List.getElem?_take_of_lt h]

/-- A write of the request buffer, and one that no register takes. -/
theorem trbWrite_request {s : State} {p : Fin 64} {o : Nat} {v : Word} (low : 0x400 ≤ o) (high : o ≤ 0x51C) :
    s.trbWrite p o v = s.setDtc p (if (s.dtc p).mb.busy = true then { s.dtc p with mb := { (s.dtc p).mb with overrun := true } }
      else { s.dtc p with mb := (s.dtc p).mb.writeReq (o - 0x400) v }) := by
  have inside : (decide (0x400 ≤ o) && decide (o ≤ 0x51C)) = true := by rw [decide_eq_true low, decide_eq_true high]; rfl
  rw [State.trbWrite, if_neg (by omega), if_neg (by omega), if_neg (by omega), if_neg (by omega), if_neg (by omega), if_neg (by omega),
    if_neg (by omega), if_pos inside]
  split <;> rfl

theorem trbWrite_other {s : State} {p : Fin 64} {o : Nat} {v : Word} (plain : o ∉ [0x10, 0x14, 0x20, 0x24, 0x50, 0x80, 0x84])
    (outside : o < 0x400 ∨ 0x51C < o) : s.trbWrite p o v = s := by
  simp only [List.mem_cons, List.not_mem_nil, or_false, not_or] at plain
  obtain ⟨reset, scratch, status, enable, delay, len, mailbox⟩ := plain
  have above : ¬ (decide (0x400 ≤ o) && decide (o ≤ 0x51C)) = true := by
    simp only [Bool.and_eq_true, decide_eq_true_eq]
    omega
  rw [State.trbWrite, if_neg reset, if_neg scratch, if_neg status, if_neg enable, if_neg delay, if_neg len, if_neg mailbox, if_neg above]

/-- A good request in the mailbox for another OID. -/
theorem mailboxUp {d : Dtc} {b : Bytes} {x : Sentence} :
    (headerGood (b.take 32) && byteAt (b.take 32) 0 == 1 && fld (b.take 32) 16 2 == (b.drop 32).length && fld (b.take 32) 18 4 == crc32c (b.drop 32) &&
      x.target != d.oid && !d.oidBad) = true ↔
    headerGood (b.take 32) = true ∧ byteAt b 0 = 1 ∧ fld b 16 2 = b.length - 32 ∧ fld b 18 4 = crc32c (b.drop 32) ∧ x.target ≠ d.oid ∧ d.oidBad = false := by
  simp only [Bool.and_eq_true, beq_iff_eq, bne_iff_ne, Bool.not_eq_true', and_assoc, byteAt_take b (show 0 < 32 by decide), fld,
    sub_take b (show 16 + 2 ≤ 32 by decide), sub_take b (show 18 + 4 ≤ 32 by decide), List.length_drop]

/-- A mailbox request of a legal length at a die that is ready and whose mailbox is free. -/
theorem mailboxGo_free {s : State} {p : Fin 64} {len : BitVec 9} (ready : (s.dtc p).ready = true) (free : (s.dtc p).mb.busy = false)
    (low : 32 ≤ len.toNat) (high : len.toNat ≤ 288) :
    let d := s.dtc p
    let b := (List.range len.toNat).map fun k => Tbl.get 0 k d.mb.req
    let x := parseSentence (.dtc p) .mailbox (b.take 32) (b.drop 32)
    let t := s.setDtc p { d with mb := { d.mb with len := len, done := false, busy := true, rsp := [], rspLen := 0 } }
    s.mailboxGo p len.toNat =
      if headerGood (b.take 32) && byteAt (b.take 32) 0 == 1 && fld (b.take 32) 16 2 == (b.drop 32).length && fld (b.take 32) 18 4 == crc32c (b.drop 32) &&
        x.target != d.oid && !d.oidBad then
        if (d.link d.followed).e.st == .inService then
          t.onDtc p fun e => e.setLink d.followed { e.link d.followed with sentences := (e.link d.followed).sentences ++ [recordBytes 0 0 b] }
        else t.quickReply x none St.state [] (s.csOf (.dtc p))
      else t.receive (.dtc p) .mailbox (b.take 32) (some (b.drop 32)) none := by
  have legal : (decide (len.toNat < 32) || decide (288 < len.toNat)) = false := by
    rw [decide_eq_false (Nat.not_lt.mpr low), decide_eq_false (Nat.not_lt.mpr high)]
    rfl
  simp only [State.mailboxGo, ready, free, legal, BitVec.ofNat_toNat, BitVec.setWidth_eq, Bool.not_true, Bool.false_eq_true, if_false]

/-- A mailbox request of another length is discarded. -/
theorem mailboxGo_discard {s : State} {p : Fin 64} {len : BitVec 9} (ready : (s.dtc p).ready = true) (free : (s.dtc p).mb.busy = false)
    (bad : len.toNat < 32 ∨ 288 < len.toNat) :
    s.mailboxGo p len.toNat = s.setDtc p (Dtc.irq { s.dtc p with
      mb := { (s.dtc p).mb with len := len, busy := false, done := true, discard := true, rsp := [], rspLen := 0 } } 0) := by
  have bad : (decide (len.toNat < 32) || decide (288 < len.toNat)) = true := by simpa using bad
  simp only [State.mailboxGo, ready, free, bad, BitVec.ofNat_toNat, BitVec.setWidth_eq, Bool.not_true, Bool.false_eq_true, if_false, if_true]
  rfl

theorem latchTime_ready (d : Dtc) (o : Nat) : (d.latchTime o).ready = d.ready := by
  unfold Dtc.latchTime
  split <;> rfl

theorem latchTime_other (d : Dtc) {o : Nat} (h : o ≠ 0x40) : d.latchTime o = d := if_neg h

/-- Settles O45: each access by whether the die is ready and by its register. -/
theorem dtcRegistersAndResets : Obligations.DtcRegistersAndResets := by
  intro s p
  refine ⟨fun early => ⟨fun off en v => goes_of rfl ?_, fun ties => goes_of rfl (if_neg (Bool.eq_false_iff.mp early)), fun len => goes_of rfl ?_,
      fun off other1 other2 => goes_of rfl ?_, goes_of rfl ?_, goes_of rfl ?_⟩,
    fun ready => ⟨fun off en v bad => goes_of rfl ?_, fun off unmapped => goes_of rfl ?_, fun off n other mapped => goes_of rfl ?_,
      fun off latch => goes_of rfl ?_, fun v => trbWrite_goes ready rfl, fun v => trbWrite_goes ready rfl, fun v => trbWrite_goes ready rfl,
      fun v => trbWrite_goes ready rfl, fun v len => ?_, fun v go => ?_, fun v => trbWrite_goes ready rfl, fun v bad => ?_, fun v key bit => ?_,
      fun off v low high => ?_, fun off v n mapped plain outside => ?_, fun ties => goes_of rfl (if_pos ready), fun len busy => goes_of rfl ?_,
      fun len free bad => goes_of rfl ?_, fun len free low high => ?_⟩,
    fun ties => goes_of rfl rfl, fun ties => goes_of rfl rfl, goes_of rfl rfl⟩
  · simp only [early, Bool.not_false, if_true]
  · simp only [State.mailboxGo, early, Bool.not_false, if_true]
  · have plain : (decide (trbOffset off = 0) || decide (trbOffset off = 12)) = false := by simp [other1, other2]
    simp only [latchTime_ready, early, plain, Bool.not_false, Bool.false_eq_true, if_false, if_true]
    rfl
  · rw [if_pos (by rw [latchTime_ready, early]; rfl)]
    rfl
  · rw [if_pos (by rw [latchTime_ready, early]; rfl)]
    rfl
  · have bad : (en != 15 || ((s.dtc p).trbValue (trbOffset off)).isNone) = true := by
      obtain part | unmapped := bad
      · rw [bne_iff_ne.mpr part, Bool.true_or]
      · rw [unmapped, Option.isNone_none, Bool.or_true]
    exact (if_neg (by simp [ready])).trans (if_pos bad)
  · have other : trbOffset off ≠ 0x40 := fun latch => by
      rw [latch] at unmapped
      exact absurd unmapped (by simp [Dtc.trbValue])
    refine (if_neg (by simp [latchTime_ready, ready])).trans ?_
    simp only [latchTime_other _ other, unmapped]
    rfl
  · refine (if_neg (by simp [latchTime_ready, ready])).trans ?_
    simp only [latchTime_other _ other, mapped]
  · refine (if_neg (by simp [latchTime_ready, ready])).trans ?_
    rw [latch]
    rfl
  · have goes := trbWrite_goes (off := 0x80) (v := v) ready rfl
    rwa [show s.trbWrite p (trbOffset 0x80) v = if v.getLsbD 31 then s.mailboxGo p (v.extractLsb' 0 9).toNat
      else s.setDtc p { s.dtc p with mb := { (s.dtc p).mb with len := v.extractLsb' 0 9 } } from rfl, if_neg (Bool.eq_false_iff.mp len)] at goes
  · have goes := trbWrite_goes (off := 0x80) (v := v) ready rfl
    rw [show s.trbWrite p (trbOffset 0x80) v = if v.getLsbD 31 then s.mailboxGo p (v.extractLsb' 0 9).toNat
      else s.setDtc p { s.dtc p with mb := { (s.dtc p).mb with len := v.extractLsb' 0 9 } } from rfl, if_pos go] at goes
    exact goes
  · have goes := trbWrite_goes (off := 0x10) (v := v) ready rfl
    have none_ : ¬ (v.extractLsb' 16 16 == 0xA5D7 && v.getLsbD 0) = true := by
      obtain key | clear := bad
      · rw [beq_false_of_ne key]
        exact Bool.false_ne_true
      · rw [clear, Bool.and_false]
        exact Bool.false_ne_true
    rwa [show s.trbWrite p (trbOffset 0x10) v = if v.extractLsb' 16 16 == 0xA5D7 && v.getLsbD 0 then s.resetDtc p (s.dtc p).ties else s from rfl,
      if_neg none_] at goes
  · have goes := trbWrite_goes (off := 0x10) (v := v) ready rfl
    rw [show s.trbWrite p (trbOffset 0x10) v = if v.extractLsb' 16 16 == 0xA5D7 && v.getLsbD 0 then s.resetDtc p (s.dtc p).ties else s from rfl,
      if_pos (by rw [key, bit]; rfl)] at goes
    exact goes
  · have goes := trbWrite_goes (v := v) ready (trbValue_request (s.dtc p) low high)
    rw [trbWrite_request low high] at goes
    exact goes
  · have goes := trbWrite_goes (v := v) ready mapped
    rwa [trbWrite_other plain outside] at goes
  · rw [State.mailboxGo, ready, busy]
    rfl
  · rw [mailboxGo_discard ready free bad]
  · refine ⟨fun up service => goes_of rfl ?_, fun up out => goes_of rfl ?_, fun other => goes_of rfl ?_⟩
    · rw [mailboxGo_free ready free low high]
      simp only [if_pos (mailboxUp.mpr up), service, beq_self_eq_true, if_true]
    · rw [mailboxGo_free ready free low high]
      simp only [if_pos (mailboxUp.mpr up), beq_false_of_ne out, Bool.false_eq_true, if_false]
    · rw [mailboxGo_free ready free low high]
      simp only [if_neg (mt mailboxUp.mp other)]

end Sys2Proof.Machine
end

section
/-! Collection events on the die -/

namespace Sys2Proof.Machine
open Sys2Proof Sys2Proof.Proofs

/-! ## Collection events on the die (R144 to R203, R246) -/

/-- An event of the die is a function of the die. -/
theorem goes_onDtc {c : Instr} {s : State} {p : Fin 64} {f : Dtc → Dtc} {e : Dtc} (h : exec c s = finish s (s.onDtc p f)) (g : f (s.dtc p) = e) :
    Goes c s (s.setDtc p e) := goes_of h (congrArg (s.setDtc p) g)

/-- A sample of a channel that is used, from the side that has it. -/
theorem sensorMine_iff {d : Dtc} {c : Nat} {rpd : Bool} :
    (!d.ties.snsUsed.getLsbD c || (decide (32 ≤ c) && d.ties.rpd != rpd) || (decide (c < 32) && rpd)) = true ↔
    ¬ (d.ties.snsUsed.getLsbD c = true ∧ (if c < 32 then rpd = false else d.ties.rpd = rpd)) := by
  by_cases low : c < 32
  · have high : ¬ 32 ≤ c := by omega
    cases d.ties.snsUsed.getLsbD c <;> simp [low, high]
  · have high : 32 ≤ c := by omega
    cases d.ties.snsUsed.getLsbD c <;> simp [low, high]

/-- The rings of a DTC without time do not age. -/
theorem rings_unaged (rings : Tbl EventRing) (f : RingEntry → Bool) :
    (rings.map fun r => (r.1, { r.2 with entries := r.2.entries.map fun e => if (false && f e) = true then { e with aged := true } else e })) = rings := by
  simp

/-- A fold keeps what each of its steps keeps. -/
theorem foldl_keeps {α β γ : Type} {f : β → α → β} {g : β → γ} (h : ∀ b a, g (f b a) = g b) (l : List α) (b : β) : g (l.foldl f b) = g b := by
  induction l generalizing b with
  | nil => rfl
  | cons a l ih => rw [List.foldl_cons, ih, h]

/-- When the die's last freeze was, and what time it is: what a change of the configuration keeps. -/
def Dtc.froze (d : Dtc) : Option Nat × Nat := (d.cnt.frozenAt, d.now)

theorem closeHistogram_froze (d : Dtc) (idx m : Nat) : (d.closeHistogram idx m).froze = d.froze := by
  simp only [Dtc.closeHistogram]
  split <;> rfl

theorem closeWindow_froze (d : Dtc) (idx : Nat) : (d.closeWindow idx).froze = d.froze := by
  simp only [Dtc.closeWindow]
  refine (foldl_keeps (g := Dtc.froze) (fun e k => ?_) _ _).trans ?_
  · split <;> rfl
  · split <;> rfl

theorem applyChange_froze (d : Dtc) (idx : Nat) (c : ConfigChange) : (d.applyChange idx c).froze = d.froze := by
  cases c with
  | set c => rfl
  | reduction r =>
    simp only [Dtc.applyChange]
    split
    · exact closeWindow_froze d idx
    · rfl
  | histogram m h =>
    simp only [Dtc.applyChange]
    generalize (if h.kind = 0 then ({} : HistConfig) else h) = new
    split
    · rfl
    · exact closeHistogram_froze d idx m

theorem activate_froze (d : Dtc) (t idx : Nat) (b : Bool) : (d.activate t idx b).froze = d.froze :=
  (foldl_keeps (f := fun (e : Dtc) (c : Option Nat × ConfigChange) => e.applyChange idx c.2) (g := Dtc.froze)
    (fun e c => applyChange_froze e idx c.2) _ _).trans rfl

/-- A tick that is not due changes nothing. -/
theorem epochTick_notDue {d : Dtc} (h : d.time.valid = false ∨ d.tickNow ≤ d.cnt.lastTick) : d.tick = d := by
  have kept : d.epochTick = d := by
    refine if_pos ?_
    obtain invalid | past := h
    · simp [invalid]
    · simp [past]
  rw [Dtc.tick, kept, if_pos rfl]

/-- The last act of an epoch's tick: the freeze bank takes the counters (R181). -/
def Dtc.tickEnd (e : Dtc) (t idx next now : Nat) (both : Bool) : Dtc :=
  let e5 := { e with
    cnt := { e.cnt with
      freeze := e.cnt.counters, freezeCs := cstampOf true t, freezeKind := 4 + (if both then e.cnt.freezeKind % 4 else 0),
      freezeSet := e.cnt.set.id, previous := e.cnt.counters, firstTick := false, newSet := false, tapErr := false,
      aliveAll := e.cnt.alive, lastTick := t, lastIdx := idx, lastEpoch := next, tickedAt := some now },
    epoch := next }
  if both then { e5 with cnt := { e5.cnt with snapshot := some (snapshotBody e5 t e5.cnt.freezeKind e5.cnt.frozenIn) } } else e5

/-- A due tick comes to that act, with a freeze of its own cycle noted as such. -/
theorem epochTick_due {d : Dtc} (ready : d.ready = true) (valid : d.time.valid = true) (due : d.cnt.lastTick < d.tickNow) :
    ∃ e idx next both, (both = true → d.cnt.frozenAt = some d.now) ∧ d.epochTick = Dtc.tickEnd e d.tickNow idx next d.now both := by
  have passes : (!d.ready || !d.time.valid || decide (d.tickNow ≤ d.cnt.lastTick)) = false := by
    rw [ready, valid, decide_eq_false (Nat.not_le.mpr due)]
    rfl
  refine ⟨_, _, _, _, fun both => ?_, (if_neg (Bool.eq_false_iff.mp passes)).trans rfl⟩
  simp only [Bool.and_eq_true, beq_iff_eq] at both
  have froze := activate_froze d d.tickNow (epochIndex d.epoch d.tickNow) true
  exact (congrArg Prod.fst froze).symm.trans (both.2.trans (congrArg (fun q => some q.2) froze))

/-- What that act leaves in the counters. -/
theorem tickEnd_cnt (e : Dtc) (t idx next now : Nat) (both : Bool) :
    (e.tickEnd t idx next now both).cnt.lastTick = t ∧ (both = false → (e.tickEnd t idx next now both).cnt.freezeKind = 4) ∧
      (e.tickEnd t idx next now both).cnt.freeze = (e.tickEnd t idx next now both).cnt.counters ∧
      (e.tickEnd t idx next now both).cnt.previous = (e.tickEnd t idx next now both).cnt.counters := by
  cases both
  · exact ⟨rfl, fun _ => rfl, rfl, rfl⟩
  · exact ⟨rfl, fun h => absurd h (by decide), rfl, rfl⟩

/-- A tick moves the counters as its epoch's tick does. -/
theorem tick_cnt (d : Dtc) : d.tick.cnt = d.epochTick.cnt := by
  simp only [Dtc.tick]
  split
  · rfl
  · split <;> rfl

/-- A due configuration change. -/
theorem configDue_iff {d : Dtc} : (d.cnt.pending.any fun e => (match e.1 with | some u => decide (u ≤ d.time.time) | none => false)) = true ↔
    ∃ e ∈ d.cnt.pending, ∃ t, e.1 = some t ∧ t ≤ d.time.time := by
  rw [List.any_eq_true]
  refine exists_congr fun e => and_congr_right fun _ => ?_
  cases e.1 <;> simp

/-- An invalid code counts as 4 and raises its error; the codes of an edge are each taken so. -/
theorem tapCode_invalid {d : Dtc} {g l code : Nat} (h : 4 < code) :
    d.tapCode g l code = (d.tapError g).addCounter (64 * g + l) 4 := by
  rw [Dtc.tapCode, if_pos h, if_neg (by omega), Nat.min_eq_right (by omega)]

theorem code_zero (c : BitVec 3) : (c.toNat = 0) = (c = 0) := propext ⟨fun h => BitVec.eq_of_toNat_eq h, fun h => by rw [h]; rfl⟩

/-- A ring of entries, and a detector with one relation, at an evaluation that is due. -/
theorem hangEvaluation_due {s : State} {p : Fin 64} (ready : (s.dtc p).ready = true) (due : (s.dtc p).hang.lastEval < (s.dtc p).now / 1000)
    (condition : hangCondition (s.dtc p).liveQueues = true) :
    let d := s.dtc p
    let rel := d.liveQueues.map fun e => (e.1, e.2.on.toNat)
    let run := if rel = d.hang.relation then d.hang.run + 1 else 1
    let seen : HangDetector := { d.hang with lastEval := d.now / 1000, relation := rel, run := run, holds := true }
    let record := hangRecord d d.liveQueues rel (d.hang.seq + 1)
    (run < 4 ∨ d.hang.raised = true → Goes (.hangEvaluation p) s (s.setDtc p { d with hang := seen })) ∧
    (4 ≤ run → d.hang.raised = false → Goes (.hangEvaluation p) s (s.setDtc p (Dtc.produce (Dtc.irq { d with
      hang := { seen with raised := true, seq := d.hang.seq + 1, record := record } } 1) 0x15 record))) := by
  have passes : (!(s.dtc p).ready || decide ((s.dtc p).now / 1000 ≤ (s.dtc p).hang.lastEval)) = false := by
    rw [ready, decide_eq_false (Nat.not_le.mpr due)]
    rfl
  refine ⟨fun few => goes_onDtc rfl ?_, fun four new => goes_onDtc rfl ?_⟩
  · simp only [passes, condition, Bool.not_true, Bool.false_eq_true, if_false, beq_iff_eq]
    refine if_neg ?_
    simp only [Bool.and_eq_true, decide_eq_true_eq, Bool.not_eq_true', not_and, Bool.not_eq_false]
    obtain few | old := few
    · exact fun four => absurd four (Nat.not_le.mpr few)
    · exact fun _ => old
  · simp only [passes, condition, Bool.not_true, Bool.false_eq_true, if_false, beq_iff_eq]
    refine if_pos ?_
    simp only [Bool.and_eq_true, decide_eq_true_eq, Bool.not_eq_true']
    exact ⟨four, new⟩

/-- A beat of the oldest host-memory request. -/
theorem hmBeat_goes {s : State} {p : Fin 64} {q : HmRequest} {qs : List HmRequest} (ready : (s.dtc p).ready = true) (held : (s.dtc p).hm = q :: qs)
    (b : Bytes) (last err : Bool) :
    let d := s.dtc p
    let put (e : Dtc) : State := s.setDtc p e
    let rest := if last = true ∨ q.got + 1 = q.beats then qs else { q with got := q.got + 1, since := d.now } :: qs
    let e : Dtc := { d with hm := rest, hmBlocked := d.hmBlocked && !rest.isEmpty }
    let addr := q.addr + 64 * q.got
    (d.hmBlocked = true → Goes (.hmResponseBeat p b last err) s ((put e).issueScan p)) ∧
    (d.hmBlocked = false → d.scan = none → Goes (.hmResponseBeat p b last err) s (put e)) ∧
    (∀ k, d.hmBlocked = false → d.scan = some k → err = true →
      Goes (.hmResponseBeat p b last err) s ((put e).endScan p St.hwFault (some addr))) ∧
    (∀ k, d.hmBlocked = false → d.scan = some k → err = false →
      let lo := max addr k.start
      let hi := min (addr + 64) (k.start + k.len)
      let k1 := { k with done := k.done + (hi - lo), reg := (sub (padTo 64 b) (lo - addr) (hi - lo)).foldl (checkByte d.check) k.reg }
      let u := put e
      let t := u.setDtc p { u.dtc p with scan := some k1 }
      Goes (.hmResponseBeat p b last err) s (if k1.done = k.len then t.endScan p St.ok none else t.issueScan p)) := by
  refine ⟨fun blocked => goes_of rfl ?_, fun free idle => goes_of rfl ?_, fun k free scan fails => goes_of rfl ?_, fun k free scan good => goes_of rfl ?_⟩
  · simp only [held, ready, blocked, Bool.not_true, Bool.false_eq_true, if_false, if_true, Bool.or_eq_true, decide_eq_true_eq]
  · simp only [held, ready, free, idle, Bool.not_true, Bool.false_eq_true, if_false, Bool.or_eq_true, decide_eq_true_eq]
  · simp only [held, ready, free, scan, fails, Bool.not_true, Bool.false_eq_true, if_false, if_true, Bool.or_eq_true, decide_eq_true_eq]
  · simp only [held, ready, free, scan, good, Bool.not_true, Bool.false_eq_true, if_false, Bool.or_eq_true, decide_eq_true_eq]

/-- A capture edge at a die that is ready. -/
theorem captureEdge_ready {s : State} {p : Fin 64} (ready : (s.dtc p).ready = true) (i : Fin 16) (rise : Bool) (ph : Fin 8) :
    let d := s.dtc p
    let put (e : Dtc) : State := s.setDtc p e
    let c := Tbl.get {} i.val d.time.cap
    let st := captureStamp d.instant ph.val d.capDly.toNat d.flags
    let e : Dtc := { d with time := { d.time with cap := Tbl.set {} i.val (c.take rise st) d.time.cap } }
    let freezes := d.cnt.set.capture = i.val ∧ (if rise = true then c.edges % 2 = 1 else 2 ≤ c.edges)
    (¬ freezes → Goes (.captureEdge (.dtc p) i rise ph) s (put e)) ∧
    (freezes → e.joins 2 = true → Goes (.captureEdge (.dtc p) i rise ph) s (put (e.joinFreeze i.val))) ∧
    (freezes → e.joins 2 = false → d.cnt.snapshotPending = true →
      Goes (.captureEdge (.dtc p) i rise ph) s (put { e with cnt := { e.cnt with ignored := satInc 16 e.cnt.ignored } })) ∧
    (freezes → e.joins 2 = false → d.cnt.snapshotPending = false →
      Goes (.captureEdge (.dtc p) i rise ph) s (put (e.freezeNow (ofStamp st) 2 i.val))) := by
  refine ⟨fun other => goes_onDtc rfl ?_, fun freezes joins => goes_onDtc rfl ?_, fun freezes alone busy => goes_onDtc rfl ?_,
    fun freezes alone free => goes_onDtc rfl ?_⟩
  · refine (if_neg (by simp [ready])).trans (if_neg ?_)
    simpa using other
  · refine (if_neg (by simp [ready])).trans ((if_pos ?_).trans (if_pos joins))
    simpa using freezes
  · refine (if_neg (by simp [ready])).trans ((if_pos ?_).trans ((if_neg (Bool.eq_false_iff.mp alone)).trans (if_pos busy)))
    simpa using freezes
  · refine (if_neg (by simp [ready])).trans ((if_pos ?_).trans ((if_neg (Bool.eq_false_iff.mp alone)).trans (if_neg (Bool.eq_false_iff.mp free))))
    simpa using freezes

/-- Settles O46: each event, by what the die holds. -/
theorem collectionEventsOnTheDie : Obligations.CollectionEventsOnTheDie := by
  intro s p ready
  refine ⟨fun g => goes_onDtc rfl rfl, fun g => goes_onDtc rfl rfl,
    ⟨fun g line c alive bad => goes_onDtc rfl ?_, fun g line c good => goes_onDtc rfl ?_, fun g cs alive short => goes_onDtc rfl ?_,
      fun g cs dead => goes_onDtc rfl ?_⟩,
    fun c w rpd => ⟨fun other => goes_onDtc rfl ?_, fun mine fault => goes_onDtc rfl ?_, fun mine good => goes_onDtc rfl ?_⟩,
    fun c => ⟨fun due => goes_onDtc rfl ?_, fun fresh => goes_onDtc rfl ?_⟩, fun q st => goes_onDtc rfl ?_,
    fun early => goes_onDtc rfl ?_, fun due none_ => goes_onDtc rfl ?_, fun due condition => hangEvaluation_due ready due condition,
    fun u c v => goes_onDtc rfl ?_, fun invalid => goes_onDtc rfl ?_, fun valid => goes_onDtc rfl ?_,
    fun none_ => ⟨fun b last err => stays_of rfl ?_, stays_of rfl ?_⟩,
    fun q qs held => ⟨fun b last err => hmBeat_goes ready held b last err, ⟨fun due => goes_of rfl ?_, fun early => stays_of rfl ?_⟩⟩,
    fun i => goes_onDtc rfl ?_, fun i => goes_onDtc rfl ?_,
    ⟨fun past => goes_onDtc rfl (epochTick_notDue past), fun valid due => ⟨goes_onDtc rfl rfl, ?_⟩⟩,
    fun i rise ph => captureEdge_ready ready i rise ph, fun i r ph low => goes_of rfl (if_neg (by omega)), fun i r ph high => stays_of rfl (if_pos high),
    ⟨fun early => goes_onDtc rfl (if_neg (mt configDue_iff.mp early)), fun due => goes_onDtc rfl (if_pos (configDue_iff.mpr due))⟩⟩
  · exact (if_pos (by simp [ready, alive, bad])).trans (tapCode_invalid bad)
  · refine if_neg ?_
    obtain dead | code := good
    · simp [dead]
    · simp [code]
  · refine (if_pos (by simp [ready, alive])).trans ?_
    rw [List.take_of_length_le short]
    refine congrArg (fun f => List.foldl f (s.dtc p) cs.zipIdx) (funext fun e => funext fun c => ?_)
    simp only [Dtc.tapCode, code_zero]
    rfl
  · exact if_neg (by simp [dead])
  · exact if_pos (by simpa [ready] using sensorMine_iff.mpr other)
  · refine (if_neg (by simpa [ready] using mt sensorMine_iff.mp (Classical.not_not.mpr mine))).trans (if_pos fault)
  · refine (if_neg (by simpa [ready] using mt sensorMine_iff.mp (Classical.not_not.mpr mine))).trans (if_neg (Bool.eq_false_iff.mp good))
  · obtain ⟨used, fresh, old⟩ := due
    exact if_pos (by simp [ready, used, fresh, old])
  · refine if_neg fun stale => fresh ?_
    simp only [Bool.and_eq_true, Bool.not_eq_true', decide_eq_true_eq] at stale
    exact ⟨stale.1.1.2, stale.1.2, stale.2⟩
  · exact if_pos ready
  · exact if_pos (by simp [early])
  · have passes : (!(s.dtc p).ready || decide ((s.dtc p).now / 1000 ≤ (s.dtc p).hang.lastEval)) = false := by
      rw [ready, decide_eq_false (Nat.not_le.mpr due)]
      rfl
    simp only [passes, none_, Bool.not_false, Bool.false_eq_true, if_false, if_true]
  · exact if_neg (by simp [ready])
  · simp only [invalid]
    rw [rings_unaged]
  · simp only [valid, Bool.true_and, decide_eq_true_eq]
  · simp only [none_]
  · simp only [none_]
  · obtain ⟨onTime, old⟩ := due
    dsimp only
    rw [held]
    refine (if_pos (by simp [ready, onTime, old])).trans ?_
    rfl
  · dsimp only
    rw [held]
    refine if_neg fun due => early ?_
    simp only [Bool.and_eq_true, Bool.not_eq_true', decide_eq_true_eq] at due
    exact ⟨due.1.2, due.2⟩
  · exact (if_neg (by simp [ready])).trans (if_pos rfl)
  · exact (if_neg (by simp [ready])).trans (if_neg Bool.false_ne_true)
  · obtain ⟨e, idx, next, both, frozen, tick⟩ := epochTick_due ready valid due
    rw [tick_cnt, tick]
    obtain ⟨lastTick, kind, bank, previous⟩ := tickEnd_cnt e (s.dtc p).tickNow idx next (s.dtc p).now both
    exact ⟨lastTick, fun other => kind (Bool.eq_false_iff.mpr (mt frozen other)), bank, previous⟩

end Sys2Proof.Machine
end

section
/-! Frames of the telemetry link and the journal -/

namespace Sys2Proof.Machine
open Sys2Proof Sys2Proof.Proofs

/-! ## The journal's frames (R248 to R252) -/

theorem release_link (d : Dtc) (l : LinkId) : d.release.link l = d.link l := by
  unfold Dtc.release
  split <;> cases l <;> rfl

/-- A frame that a link that lives has not acknowledged stays. -/
theorem release_keeps {d : Dtc} {l : LinkId} {f : JFrame} (lives : (d.link l).e.lives = true) (open_ : seqAfter (d.link l).acked f.seq = false)
    (mem : f ∈ d.journal.frames) : f ∈ d.release.journal.frames := by
  have some_ : (d.la.e.lives || d.lb.e.lives) = true := by
    cases l with
    | a => rw [show d.la.e.lives = true from lives, Bool.true_or]
    | b => rw [show d.lb.e.lives = true from lives, Bool.or_true]
  rw [Dtc.release, if_pos some_]
  refine List.mem_filter.mpr ⟨mem, ?_⟩
  cases l with
  | a =>
    simp only [show d.la.e.lives = true from lives, show seqAfter d.la.acked f.seq = false from open_, Bool.not_true, Bool.or_self, Bool.false_and,
      Bool.not_false]
  | b =>
    simp only [show d.lb.e.lives = true from lives, show seqAfter d.lb.acked f.seq = false from open_, Bool.not_true, Bool.or_self, Bool.and_false,
      Bool.not_false]

theorem setLink_link (d : Dtc) (l : LinkId) (k : DtcLink) : (d.setLink l k).link l = k := by cases l <;> rfl

theorem setLink_journal (d : Dtc) (l : LinkId) (k : DtcLink) : (d.setLink l k).journal = d.journal := by cases l <;> rfl

/-- The link after an acknowledgement that it takes. -/
theorem takeAck_link {d : Dtc} {l : LinkId} (n : Word) (m : List Word) (lives : (d.link l).e.lives = true) (running : d.journal.running = true) :
    ∃ again sentAt bad,
      let k := d.link l
      let moved := !seqAfter n d.journal.nextSeq && seqAfter n k.acked
      let k1 : DtcLink := { k with acked := if moved then n else k.acked, ackedAt := if moved then d.now else k.ackedAt, again := again, sentAt := sentAt,
                                   futureAcks := satAdd 32 k.futureAcks bad }
      d.takeAck l n m = (d.setLink l k1).release ∧ (m = [] → bad = if seqAfter n d.journal.nextSeq then 1 else 0) := by
  have passes : (!(d.link l).e.lives || !d.journal.running) = false := by
    rw [lives, running]
    rfl
  refine ⟨_, _, _, (if_neg (Bool.eq_false_iff.mp passes)).trans rfl, fun none_ => ?_⟩
  rw [none_, List.filter_nil, List.length_nil, Nat.zero_add]

/-- An acknowledgement that a link does not take. -/
theorem takeAck_idle {d : Dtc} {l : LinkId} (n : Word) (m : List Word) (h : (d.link l).e.lives = false ∨ d.journal.running = false) :
    d.takeAck l n m = d := by
  refine if_pos ?_
  obtain dead | stopped := h
  · rw [dead, Bool.not_false, Bool.true_or]
  · rw [stopped, Bool.not_false, Bool.or_true]

/-- What an acknowledgement moves, counts and keeps. -/
theorem takeAck_spec {d : Dtc} {l : LinkId} (n : Word) (m : List Word) (lives : (d.link l).e.lives = true) (running : d.journal.running = true) :
    let k := d.link l
    let to_ := ((d.takeAck l n m).link l)
    (to_.e = k.e ∧ to_.sentTo = k.sentTo) ∧
    (seqAfter n d.journal.nextSeq = false → seqAfter n k.acked = true → to_.acked = n ∧ to_.ackedAt = d.now) ∧
    (seqAfter n d.journal.nextSeq = true ∨ seqAfter n k.acked = false → to_.acked = k.acked ∧ to_.ackedAt = k.ackedAt) ∧
    (seqAfter n d.journal.nextSeq = true → m = [] → to_.futureAcks = satAdd 32 k.futureAcks 1) ∧
    (∀ f ∈ d.journal.frames, seqAfter to_.acked f.seq = false → f ∈ (d.takeAck l n m).journal.frames) := by
  obtain ⟨again, sentAt, bad, ack, none_⟩ := takeAck_link n m lives running
  rw [ack]
  simp only [release_link, setLink_link]
  refine ⟨⟨trivial, trivial⟩, fun inside new => ?_, fun still => ?_, fun beyond empty => ?_, fun f mem open_ => ?_⟩
  · simp [inside, new]
  · have unmoved : (!seqAfter n d.journal.nextSeq && seqAfter n (d.link l).acked) = false := by
      obtain beyond | old := still
      · rw [beyond, Bool.not_true, Bool.false_and]
      · rw [old, Bool.and_false]
    simp [unmoved]
  · rw [none_ empty, beyond]
    rfl
  · refine release_keeps (l := l) ?_ ?_ ?_
    · rw [setLink_link]
      exact lives
    · rw [setLink_link]
      exact open_
    · rwa [setLink_journal]

/-- An acknowledgement keeps a link's BEACON. -/
theorem takeAck_beacon (d : Dtc) (l : LinkId) (n : Word) (m : List Word) :
    ((d.takeAck l n m).link l).beacon = (d.link l).beacon ∧ ((d.takeAck l n m).link l).e = (d.link l).e := by
  by_cases idle : (d.link l).e.lives = false ∨ d.journal.running = false
  · rw [takeAck_idle n m idle]
    exact ⟨rfl, rfl⟩
  · simp only [not_or, Bool.not_eq_false] at idle
    obtain ⟨again, sentAt, bad, ack, -⟩ := takeAck_link n m idle.1 idle.2
    rw [ack, release_link, setLink_link]
    exact ⟨rfl, rfl⟩

/-- What the link of a BEACON holds after it. -/
def Dtc.beaconLink (d : Dtc) (l : LinkId) (b : Bytes) : DtcLink :=
  let k := d.link l
  { k with beacon := some ⟨byteAt b 20 == 0, BitVec.ofNat 32 (fld b 24 4), fld b 28 4, fld b 32 4, fld b 36 8, byteAt b 22, BitVec.ofNat 32 (fld b 16 4)⟩
           e := { k.e with beaconOk := true }
           echo := if byteAt b 21 % 2 = 1 then some (BitVec.ofNat 8 (byteAt b 23), lineStamp d.time.time (d.rxDelay l) d.flags false) else k.echo
           echoAt := d.now }

theorem link_choice {c : Prop} [Decidable c] {x y : Dtc} {l : LinkId} {k : DtcLink} (hx : x.link l = k) (hy : y.link l = k) :
    (if c then x else y).link l = k := by
  split <;> assumption

theorem link_epoch (d : Dtc) (l : LinkId) (e : Nat) : ({ d with epoch := e } : Dtc).link l = d.link l := by cases l <;> rfl

theorem link_time (d : Dtc) (l : LinkId) (t : DtcTime) : ({ d with time := t } : Dtc).link l = d.link l := by cases l <;> rfl

/-- A BEACON is taken into its link, its time and its epoch, and then its acknowledgement. -/
theorem takeBeacon_eq (d : Dtc) (l : LinkId) (b : Bytes) :
    ∃ e : Dtc, e.link l = d.beaconLink l b ∧ d.takeBeacon l b = e.takeAck l (BitVec.ofNat 32 (fld b 44 4)) [] := by
  refine ⟨_, ?_, rfl⟩
  have timed {c : Prop} [Decidable c] (t : DtcTime) : (if c then d.setLink l (d.beaconLink l b) else
      { d.setLink l (d.beaconLink l b) with time := t }).link l = d.beaconLink l b :=
    link_choice (setLink_link ..) ((link_time ..).trans (setLink_link ..))
  exact link_choice ((link_epoch ..).trans (timed _)) (timed _)

/-- What a BEACON leaves in its link. -/
theorem takeBeacon_beacon (d : Dtc) (l : LinkId) (b : Bytes) :
    ((d.takeBeacon l b).link l).beacon = some ⟨byteAt b 20 == 0, BitVec.ofNat 32 (fld b 24 4), fld b 28 4, fld b 32 4, fld b 36 8, byteAt b 22,
      BitVec.ofNat 32 (fld b 16 4)⟩ ∧ ((d.takeBeacon l b).link l).e.beaconOk = true := by
  obtain ⟨e, link, taken⟩ := takeBeacon_eq d l b
  obtain ⟨beacon, kept⟩ := takeAck_beacon e l (BitVec.ofNat 32 (fld b 44 4)) []
  rw [taken, beacon, kept, link]
  exact ⟨rfl, rfl⟩

theorem dropHeld_room {d : Dtc} (h : d.journal.frames.length < 512) : d.dropHeld = d := if_pos h

/-- A frame is built of what waits. -/
theorem buildFrame_built {d : Dtc} (n : Nat) (running : d.queueSnapshot.journal.running = true) (room : d.queueSnapshot.journal.frames.length < 511)
    (wants : d.queueSnapshot.wantsFrame = true) (waits : d.queueSnapshot.journal.waiting ≠ []) :
    (d.buildFrame n).journal.nextSeq = d.queueSnapshot.journal.nextSeq + 1 ∧
      ∃ b, (d.buildFrame n).journal.frames = d.queueSnapshot.journal.frames ++ [⟨d.queueSnapshot.journal.nextSeq, b⟩] := by
  have goes : (!d.queueSnapshot.journal.running || decide (512 ≤ d.queueSnapshot.journal.frames.length) || !d.queueSnapshot.wantsFrame ||
      d.queueSnapshot.journal.waiting.isEmpty) = false := by
    rw [running, decide_eq_false (by omega), wants, List.isEmpty_eq_false_iff.mpr waits]
    rfl
  simp only [Dtc.buildFrame, goes, Bool.false_eq_true, if_false]
  rw [dropHeld_room]
  · cases d.queueSnapshot.needsBase <;> exact ⟨rfl, _, rfl⟩
  · cases d.queueSnapshot.needsBase <;> exact (by simpa using Nat.add_lt_add_right room 1)

theorem buildFrame_idle {d : Dtc} (n : Nat) (h : d.queueSnapshot.journal.running = false ∨ 512 ≤ d.queueSnapshot.journal.frames.length ∨
    d.queueSnapshot.wantsFrame = false ∨ d.queueSnapshot.journal.waiting = []) : d.buildFrame n = d.queueSnapshot := by
  refine if_pos ?_
  obtain stopped | full | none_ | empty := h
  · simp [stopped]
  · simp [full]
  · simp [none_]
  · simp [empty]

/-! ## Slots and frames of the telemetry link (R237 to R263) -/

/-- A link end that sends. -/
theorem slotSends {s : State} {side : Side} {p : Fin 64} {l : LinkId} (h : s.hasEnd side p l = true ∧ (s.linkEnd side p l).st ≠ .down) :
    (!s.hasEnd side p l || (s.linkEnd side p l).st == .down) = false := by
  rw [h.1, beq_false_of_ne h.2]
  rfl

theorem slotSilent {s : State} {side : Side} {p : Fin 64} {l : LinkId} (h : ¬ (s.hasEnd side p l = true ∧ (s.linkEnd side p l).st ≠ .down)) :
    (!s.hasEnd side p l || (s.linkEnd side p l).st == .down) = true := by
  simpa [Classical.not_and_iff_not_or_not, or_comm, Classical.or_iff_not_imp_left] using h

/-- What a slot of either end sends, before and after its first frame. -/
theorem linkSlot_goes (s : State) (p : Fin 64) (l : LinkId) (side : Side) :
    let e := s.linkEnd side p l
    let sends := s.hasEnd side p l = true ∧ e.st ≠ .down
    (¬ sends → Stays (.linkSlot side p l) s) ∧
    (sends → e.framing = false → ¬ (e.st = .test ∧ e.testMode = 2) → Goes (.linkSlot side p l) s (s.sendTraining side p l [0, 1, 2])) ∧
    (sends → e.framing = false → e.st = .test → e.testMode = 2 →
      Goes (.linkSlot side p l) s ((s.sendTraining side p l [0, 1, 2]).onEnd side p l fun e => e.loopBack side)) ∧
    (sends → e.framing = true → e.firstIdle = true →
      let t := (s.onEnd side p l fun e => { e with firstIdle := false }).sendCounted side p l []
      Goes (.linkSlot side p l) s (match side with
        | .agg => t.onPort p fun a => { a with firstFrame := s.now, lastBeacon := 0, beaconTimed := false }
        | .dtc => t)) ∧
    (sends → e.framing = true → e.firstIdle = false → side = .agg → Goes (.linkSlot side p l) s (s.sendDownstream p [])) := by
  refine ⟨fun silent => stays_of rfl (if_pos (slotSilent silent)), fun sends trains plain => goes_of rfl ?_, fun sends trains test loop => goes_of rfl ?_,
    fun sends frames first => goes_of rfl ?_, fun sends frames later agg => goes_of rfl ?_⟩
  · have plain : ((s.linkEnd side p l).st == .test && decide ((s.linkEnd side p l).testMode = 2)) = false := by
      rw [Bool.eq_false_iff]
      simpa only [ne_eq, Bool.and_eq_true, beq_iff_eq, decide_eq_true_eq] using plain
    simp only [slotSends sends, trains, plain, Bool.not_false, Bool.false_eq_true, if_false, if_true]
  · simp only [slotSends sends, trains, test, loop, beq_self_eq_true, decide_true, Bool.and_self, Bool.not_false, if_true]
    exact if_neg (by simp [sends.1])
  · simp only [slotSends sends, frames, first, Bool.not_true, Bool.false_eq_true, if_false, if_true]
    cases side <;> rfl
  · subst agg
    simp only [slotSends sends, frames, later, Bool.not_true, Bool.false_eq_true, if_false]

/-- What a DTC's slot sends once its frames flow. -/
theorem linkSlot_upstream {s : State} {p : Fin 64} {l : LinkId} (ready : (s.dtc p).ready = true) (up : ((s.dtc p).link l).e.st ≠ .down)
    (frames : ((s.dtc p).link l).e.framing = true) (later : ((s.dtc p).link l).e.firstIdle = false) :
    Goes (.linkSlot .dtc p l) s
      (if !((s.dtc p).link l).e.ctrlOut.isEmpty then s.sendUpstream p l
      else if ((s.dtc p).link l).e.st != .inService then s.sendUpstream p l
      else match (s.dtc p).journal.frames.find? fun f => f.seq == ((s.dtc p).link l).sentTo with
        | some f => s.sendJournalled p l f false
        | none => match lowestAgain (s.dtc p).journal.frames ((s.dtc p).link l).again with
          | some f => s.sendJournalled p l f true
          | none => s.sendUpstream p l) := by
  refine goes_of rfl ((if_neg ?_).trans ((if_neg ?_).trans (if_neg ?_)))
  · rw [slotSends (side := .dtc) (l := l) ⟨ready, up⟩]
    exact Bool.false_ne_true
  · rw [show (s.linkEnd .dtc p l).framing = true from frames]
    exact Bool.false_ne_true
  · rw [show (s.linkEnd .dtc p l).firstIdle = false from later]
    exact Bool.false_ne_true

/-- What a DTC in service sends: the next journalled frame, the lowest asked for again, or what else it has. -/
theorem linkSlot_journal {s : State} {p : Fin 64} {l : LinkId} (ready : (s.dtc p).ready = true) :
    let d := s.dtc p
    let k := d.link l
    let serves := k.e.st = .inService ∧ k.e.framing = true ∧ k.e.firstIdle = false ∧ k.e.ctrlOut = []
    let next := d.journal.frames.find? fun f => f.seq == k.sentTo
    let again := d.journal.frames.find? fun f => k.again.contains f.seq
    let noted (f : JFrame) : DtcLink := { k with again := k.again.filter (· != f.seq), sentAt := Tbl.insert f.seq.toNat d.now k.sentAt }
    (∀ f, serves → next = some f →
      Goes (.linkSlot .dtc p l) s ((s.setDtc p (d.setLink l { noted f with sentTo := f.seq + 1 })).sendFrame .dtc p l (linkFrame 1 0 f.seq f.payload))) ∧
    (∀ f, serves → next = none → again = some f →
      let d1 := d.setLink l (noted f)
      Goes (.linkSlot .dtc p l) s ((s.setDtc p { d1 with journal := { d1.journal with resent := satInc 64 d1.journal.resent } }).sendFrame .dtc p l
        (linkFrame 1 1 f.seq f.payload))) ∧
    (serves → next = none → again = none → Goes (.linkSlot .dtc p l) s (s.sendUpstream p l)) ∧
    (k.e.st ≠ .down → k.e.framing = true → k.e.firstIdle = false → (k.e.st ≠ .inService ∨ k.e.ctrlOut ≠ []) →
      Goes (.linkSlot .dtc p l) s (s.sendUpstream p l)) := by
  have serving (h : ((s.dtc p).link l).e.st = .inService) : ((s.dtc p).link l).e.st ≠ .down := by rw [h]; decide
  refine ⟨fun f ⟨st, frames, later, ctrl⟩ next => ?_, fun f ⟨st, frames, later, ctrl⟩ none_ again => ?_,
    fun ⟨st, frames, later, ctrl⟩ none_ nothing => ?_, fun up frames later other => ?_⟩
  · have goes := linkSlot_upstream ready (serving st) frames later
    rw [ctrl, st, if_neg (by decide), if_neg (by decide), next] at goes
    exact goes
  · have goes := linkSlot_upstream ready (serving st) frames later
    rw [ctrl, st, if_neg (by decide), if_neg (by decide), none_, lowestAgain, again] at goes
    exact goes
  · have goes := linkSlot_upstream ready (serving st) frames later
    rw [ctrl, st, if_neg (by decide), if_neg (by decide), none_, lowestAgain, nothing] at goes
    exact goes
  · have goes := linkSlot_upstream ready up frames later
    obtain out | ctrl := other
    · rwa [if_pos (bne_iff_ne.mpr out), ite_self] at goes
    · rwa [if_pos (by simp [ctrl])] at goes

/-- What a received frame does, by its checks in their order and by its type. -/
theorem linkFrame_goes (s : State) (p : Fin 64) (l : LinkId) (side : Side) (b : Bytes) :
    let e := s.linkEnd side p l
    let arrives := s.hasEnd side p l = true ∧ e.framing = true ∧ b.length = 256
    let headed := arrives ∧ fld b 6 2 = hcrc16 b
    let good := headed ∧ fld b 252 4 = crc32c (b.take 252)
    let seq := BitVec.ofNat 32 (fld b 2 4)
    let ok := s.onEnd side p l fun e => { e with hcrcRun := 0 }
    let now := s.msIndex side p
    let w := min e.limit ((if e.windowIndex < now then 0 else e.window) + 1)
    let counted := s.onEnd side p l fun e => { e with fcrc := satInc 64 e.fcrc, hcrcRun := 0, window := w, windowIndex := now }
    let full := w = e.limit ∧ (e.window ≠ e.limit ∨ e.windowIndex < now)
    let missed := s.onEnd side p l fun e => { e with hcrc := satInc 64 e.hcrc, hcrcRun := (s.linkEnd side p l).hcrcRun + 1 }
    let taken := ok.onEnd side p l fun e' => { (if e.rxSeq.isSome = true ∧ e.rxSeq ≠ some seq then e'.dropOpen else e') with rxSeq := some (seq + 1) }
    let g := segments (sub b 8 244)
    let closed (t : State) : State := if g.2 then t else t.onEnd side p l fun e => { e with badSegments := satInc 64 e.badSegments }
    (¬ arrives → Stays (.linkFrameReceive side p l b) s) ∧
    (arrives → fld b 6 2 ≠ hcrc16 b → e.hcrcRun < 7 → Goes (.linkFrameReceive side p l b) s missed) ∧
    (arrives → fld b 6 2 ≠ hcrc16 b → 7 ≤ e.hcrcRun →
      Goes (.linkFrameReceive side p l b) s ((missed.onEnd side p l fun e => { e with delineation := satInc 64 e.delineation }).retrain side p l 2 true)) ∧
    (headed → byteAt b 0 = 0 ∨ 3 < byteAt b 0 →
      Goes (.linkFrameReceive side p l b) s (s.onEnd side p l fun e => { e with ftype := satInc 64 e.ftype, hcrcRun := 0 })) ∧
    (headed → 1 ≤ byteAt b 0 → byteAt b 0 ≤ 3 → fld b 252 4 ≠ crc32c (b.take 252) →
      (¬ full → Goes (.linkFrameReceive side p l b) s counted) ∧ (full → Goes (.linkFrameReceive side p l b) s (counted.retrain side p l 1 true))) ∧
    (good → byteAt b 0 = 1 → side = .dtc →
      Goes (.linkFrameReceive side p l b) s (g.1.foldl (fun t seg => t.discardSegment side p l seg) ok)) ∧
    (good → byteAt b 0 = 1 → side = .agg → Goes (.linkFrameReceive side p l b) s (ok.onPort p fun a => a.journalled s.now seq (sub b 8 244))) ∧
    (good → byteAt b 0 = 2 → Goes (.linkFrameReceive side p l b) s (closed (g.1.foldl (fun t seg => t.takeSegment side p l seg) taken))) ∧
    (good → byteAt b 0 = 3 → Goes (.linkFrameReceive side p l b) s (closed (g.1.foldl (fun t seg => t.discardSegment side p l seg) taken))) := by
  have comes (h : s.hasEnd side p l = true ∧ (s.linkEnd side p l).framing = true ∧ b.length = 256) :
      ¬ (!s.hasEnd side p l || !(s.linkEnd side p l).framing || b.length != 256) = true := by simp [h]
  have head (h : fld b 6 2 = hcrc16 b) : ¬ (fld b 6 2 != hcrc16 b) = true := by simp [h]
  have typed (low : 1 ≤ byteAt b 0) (high : byteAt b 0 ≤ 3) : ¬ (decide (byteAt b 0 = 0) || decide (3 < byteAt b 0)) = true := by
    simp only [Bool.or_eq_true, decide_eq_true_eq]
    omega
  have body (h : fld b 252 4 = crc32c (b.take 252)) : ¬ (fld b 252 4 != crc32c (b.take 252)) = true := by simp [h]
  refine ⟨fun lost => stays_of rfl (if_pos ?_), fun arrives bad few => goes_of rfl ((if_neg (comes arrives)).trans ((if_pos (bne_iff_ne.mpr bad)).trans (if_neg ?_))),
    fun arrives bad many => goes_of rfl ((if_neg (comes arrives)).trans ((if_pos (bne_iff_ne.mpr bad)).trans (if_pos ?_))),
    fun ⟨arrives, headed⟩ kind => goes_of rfl ((if_neg (comes arrives)).trans ((if_neg (head headed)).trans (if_pos ?_))),
    fun ⟨arrives, headed⟩ low high bad => ⟨fun room => goes_of rfl ((if_neg (comes arrives)).trans ((if_neg (head headed)).trans
      ((if_neg (typed low high)).trans ((if_pos (bne_iff_ne.mpr bad)).trans (if_neg ?_))))),
      fun full => goes_of rfl ((if_neg (comes arrives)).trans ((if_neg (head headed)).trans
      ((if_neg (typed low high)).trans ((if_pos (bne_iff_ne.mpr bad)).trans (if_pos ?_)))))⟩,
    fun ⟨⟨arrives, headed⟩, whole⟩ kind dtc => goes_of rfl ((if_neg (comes arrives)).trans ((if_neg (head headed)).trans
      ((if_neg (typed (by omega) (by omega))).trans ((if_neg (body whole)).trans ((if_pos kind).trans ?_))))),
    fun ⟨⟨arrives, headed⟩, whole⟩ kind agg => goes_of rfl ((if_neg (comes arrives)).trans ((if_neg (head headed)).trans
      ((if_neg (typed (by omega) (by omega))).trans ((if_neg (body whole)).trans ((if_pos kind).trans ?_))))),
    fun ⟨⟨arrives, headed⟩, whole⟩ kind => goes_of rfl ((if_neg (comes arrives)).trans ((if_neg (head headed)).trans
      ((if_neg (typed (by omega) (by omega))).trans ((if_neg (body whole)).trans ((if_neg (by omega)).trans ?_))))),
    fun ⟨⟨arrives, headed⟩, whole⟩ kind => goes_of rfl ((if_neg (comes arrives)).trans ((if_neg (head headed)).trans
      ((if_neg (typed (by omega) (by omega))).trans ((if_neg (body whole)).trans ((if_neg (by omega)).trans ?_)))))⟩
  · simpa [Classical.not_and_iff_not_or_not, or_assoc, Classical.or_iff_not_imp_left] using lost
  · omega
  · omega
  · simpa using kind
  · simpa using room
  · simpa using full
  · rw [dtc]
  · rw [agg]
  · simp only [kind, if_true]
    cases (s.linkEnd side p l).rxSeq with
    | none => rfl
    | some q => by_cases same : q = BitVec.ofNat 32 (fld b 2 4) <;> simp [same]
  · simp only [kind, show ¬ (3 : Nat) = 2 by decide, if_false]
    cases (s.linkEnd side p l).rxSeq with
    | none => rfl
    | some q => by_cases same : q = BitVec.ofNat 32 (fld b 2 4) <;> simp [same]

/-! ## Echoes, RESUME, START, BEACONs and the discipline of a DTC (R79, R80, R256 to R261) -/

/-- When a frame asks to be sent again, and which are. -/
theorem journalResendTimeout_goes {s : State} {p : Fin 64} {l : LinkId} (ready : (s.dtc p).ready = true) :
    let d := s.dtc p
    let k := d.link l
    let due := ∃ t, Tbl.find? k.acked.toNat k.sentAt = some t ∧ k.e.lives = true ∧ k.ackedAt ≤ t ∧ t + 2 * s.linkDelay p l + 4000 ≤ d.now
    (due → Goes (.journalResendTimeout p l) s (s.setDtc p (d.setLink l { k with
       again := (d.journal.frames.filter fun f => !seqAfter k.acked f.seq && seqAfter k.sentTo f.seq).map (·.seq) }))) ∧
    (¬ due → Stays (.journalResendTimeout p l) s) := by
  refine ⟨fun ⟨t, sent, lives, old, late⟩ => goes_of rfl ?_, fun none_ => stays_of rfl ?_⟩
  · simp only [sent]
    exact if_pos (by simp [ready, lives, old, late])
  · dsimp only
    split
    · rfl
    · next t sent =>
      refine if_neg fun due => none_ ⟨t, sent, ?_⟩
      simp only [Bool.and_eq_true, decide_eq_true_eq] at due
      obtain ⟨⟨⟨-, lives⟩, old⟩, late⟩ := due
      exact ⟨lives, old, late⟩

/-- A BEACON arrives once frames flow. -/
theorem beaconReceive_goes {s : State} {p : Fin 64} {l : LinkId} (ready : (s.dtc p).ready = true) (b : Bytes) :
    (((s.dtc p).link l).e.framing = false → Stays (.beaconReceive p l b) s) ∧
    (((s.dtc p).link l).e.framing = true →
      Goes (.beaconReceive p l b) s ((s.setDtc p ((s.dtc p).takeBeacon l b)).enterService .dtc p l)) :=
  ⟨fun none_ => stays_of rfl (if_neg (by simp [none_])), fun frames => goes_of rfl (if_pos (by simp [ready, frames]))⟩

/-- A time echo that is owed goes out upstream. -/
theorem timeEchoSend_goes {s : State} {p : Fin 64} {l : LinkId} (ready : (s.dtc p).ready = true) :
    let k := (s.dtc p).link l
    let echoes := k.e.framing = true ∧ k.e.firstIdle = false ∧ k.echo.isSome = true
    (echoes → Goes (.timeEchoSend p l) s (s.sendUpstream p l)) ∧ (¬ echoes → Stays (.timeEchoSend p l) s) :=
  ⟨fun ⟨frames, later, owed⟩ => goes_of rfl (if_pos (by simp [ready, frames, later, owed])),
    fun none_ => stays_of rfl (if_neg (by simpa [ready, and_assoc] using none_))⟩

/-- A DTC that hears no time record for 10 µs enters holdover. -/
theorem dtcHoldoverEntry_goes {s : State} {p : Fin 64} (ready : (s.dtc p).ready = true) :
    let d := s.dtc p
    (d.time.valid = true → d.time.hold = false → d.time.lastRecord + 10000 ≤ d.now →
      Goes (.dtcHoldoverEntry p) s (s.setDtc p (Dtc.irq { d with time := { d.time with hold := true, recordSinceHold := false } } 4))) ∧
    (d.time.valid = false ∨ d.time.hold = true ∨ d.now < d.time.lastRecord + 10000 → Goes (.dtcHoldoverEntry p) s (s.setDtc p d)) := by
  refine ⟨fun valid run silent => goes_onDtc rfl (if_pos (by simp [ready, valid, run, silent])), fun not_ => goes_onDtc rfl (if_neg ?_)⟩
  obtain unset | held | recent := not_
  · simp [unset]
  · simp [held]
  · simp [recent]

/-- A RESUME goes on where the journal stands. -/
theorem linkCtrlResume_goes {s : State} {p : Fin 64} {l : LinkId} (ready : (s.dtc p).ready = true) (seq : Word) :
    let d := s.dtc p
    let k := d.link l
    (k.e.framing = false → Stays (.linkCtrlResume p l seq) s) ∧
    (k.e.framing = true →
      let answered (e : Dtc) (from_ : Word) : State :=
        (s.setDtc p (e.onLink l fun k => { k with e := { k.e with startOk := true }, resume := some seq, resetOwed := false })).sendCtrl .dtc p l 1 0 from_
          (if k.resetOwed then 1 else 0)
      let fresh (k : DtcLink) (v : Word) : DtcLink := { k with sentTo := v, acked := v, again := [], sentAt := [], ackedAt := d.now }
      (d.journal.running = false →
        let v := if seq = 0xFFFFFFFF then 0 else seq
        Goes (.linkCtrlResume p l seq) s (answered { d with
          la := fresh d.la v, lb := fresh d.lb v
          journal := { d.journal with running := true, nextSeq := v, frames := [], baseOwed := true, waiting := d.journal.waiting.filter fun w => !w.started }
          cnt := { d.cnt with snapshotPending := d.cnt.snapshot.isSome || d.journal.waiting.any fun w => w.cls == 0x11 && !w.started } } v)) ∧
      (d.journal.running = true → (∀ f ∈ d.journal.frames, f.seq ≠ seq) →
        Goes (.linkCtrlResume p l seq) s (answered (d.setLink l (fresh k d.journal.nextSeq)) d.journal.nextSeq)) ∧
      (d.journal.running = true → (∃ f ∈ d.journal.frames, f.seq = seq) →
        Goes (.linkCtrlResume p l seq) s (answered (d.setLink l { k with
          sentTo := if seqAfter seq k.sentTo then seq else k.sentTo, acked := seq, ackedAt := d.now
          again := (d.journal.frames.filter fun f => !seqAfter seq f.seq && seqAfter k.sentTo f.seq).map (·.seq) }) seq))) := by
  refine ⟨fun none_ => stays_of rfl (if_pos (by simp [none_])), fun frames => ?_⟩
  have passes : ¬ (!(s.dtc p).ready || !((s.dtc p).link l).e.framing) = true := by simp [ready, frames]
  refine ⟨fun idle => goes_of rfl ((if_neg passes).trans ?_), fun running gone => goes_of rfl ((if_neg passes).trans ?_),
    fun running ⟨f, mem, same⟩ => goes_of rfl ((if_neg passes).trans ?_)⟩
  · simp only [idle, Bool.not_false, if_true]
  · have gone : ((s.dtc p).journal.frames.any fun f => f.seq == seq) = false :=
      List.any_eq_false.mpr fun f mem => by simpa using gone f mem
    simp only [running, gone, Bool.not_true, Bool.false_eq_true, if_false]
  · have held : ((s.dtc p).journal.frames.any fun f => f.seq == seq) = true := List.any_eq_true.mpr ⟨f, mem, by simpa using same⟩
    simp only [running, held, Bool.not_true, Bool.false_eq_true, if_false, if_true]
    cases seqAfter seq ((s.dtc p).link l).sentTo <;> rfl

/-- A window of bad CRCs ends with its millisecond. -/
theorem fcrcWindowEnd_goes (s : State) (p : Fin 64) (l : LinkId) (side : Side) :
    let ends := s.hasEnd side p l = true ∧ (s.linkEnd side p l).windowIndex < s.msIndex side p
    (ends → Goes (.fcrcWindowEnd side p l) s (s.onEnd side p l fun e => { e with window := 0, windowIndex := s.msIndex side p })) ∧
    (¬ ends → Stays (.fcrcWindowEnd side p l) s) :=
  ⟨fun ⟨has, past⟩ => goes_of rfl (if_pos (by simp [has, past])), fun none_ => stays_of rfl (if_neg (by simpa using none_))⟩

/-- A BEACON goes out once in its interval, each eighth with an exchange. -/
theorem beaconSend_goes (s : State) (p : Fin 64) :
    let a := s.port p
    let i := (if s.timeValid then s.svcNs else s.now - a.firstFrame) / 2000
    let due := a.e.framing = true ∧ a.e.firstIdle = false ∧ (i ≠ a.lastBeacon ∨ a.beaconTimed ≠ s.timeValid)
    let t1 := lineStamp s.svc (((Tbl.get {} (32 + p.val) s.time.asym).at s.now).toNat % 65536) s.svcFlags true
    let rest (echo : Nat) (x : Byte) : Bytes := be 4 s.dev.oid.toNat ++ be 1 (if s.active then 0 else 1) ++ be 1 echo ++
      be 1 (profileFloor s.sys.profile) ++ [x] ++ be 4 s.pair.term.toNat ++ be 4 s.sys.epoch ++ be 4 ((s.sys.pendingEpoch.map (·.epoch)).getD 0) ++
      be 8 ((s.sys.pendingEpoch.map (·.second)).getD 0) ++ be 4 a.next.toNat ++ zeros 4
    (¬ due → Stays (.beaconSend p) s) ∧
    (due → s.timeValid = false → Goes (.beaconSend p) s ((s.setPort p { a with lastBeacon := i, beaconTimed := false }).sendDownstream p
      (control 0x03 (zeros 16 ++ rest 0 a.exchange)))) ∧
    (due → s.timeValid = true → a.beacons % 8 ≠ 0 → Goes (.beaconSend p) s ((s.setPort p { a with
      lastBeacon := i, beaconTimed := true, beacons := a.beacons + 1 }).sendDownstream p (control 0x03 (stampBytes t1 ++ rest 0 a.exchange)))) ∧
    (due → s.timeValid = true → a.beacons % 8 = 0 → Goes (.beaconSend p) s ((s.setPort p { a with
      lastBeacon := i, beaconTimed := true, beacons := a.beacons + 1, exchange := a.exchange + 1, t1s := ((a.exchange + 1, t1) :: a.t1s).take 8 }).sendDownstream p
      (control 0x03 (stampBytes t1 ++ rest 1 (a.exchange + 1))))) := by
  have passes (due : (s.port p).e.framing = true ∧ (s.port p).e.firstIdle = false ∧
      ((if s.timeValid then s.svcNs else s.now - (s.port p).firstFrame) / 2000 ≠ (s.port p).lastBeacon ∨ (s.port p).beaconTimed ≠ s.timeValid)) :
      ¬ (!(s.port p).e.framing || (s.port p).e.firstIdle ||
        ((if s.timeValid then s.svcNs else s.now - (s.port p).firstFrame) / 2000 == (s.port p).lastBeacon && (s.port p).beaconTimed == s.timeValid)) = true := by
    obtain ⟨frames, later, moved⟩ := due
    simp only [frames, later, Bool.not_true, Bool.false_or, Bool.and_eq_true, beq_iff_eq, Classical.not_and_iff_not_or_not]
    exact moved
  refine ⟨fun none_ => stays_of rfl (if_pos ?_), fun due untimed => goes_of rfl ((if_neg (passes due)).trans ?_),
    fun due timed plain => goes_of rfl ((if_neg (passes due)).trans ?_), fun due timed eighth => goes_of rfl ((if_neg (passes due)).trans ?_)⟩
  · simp only [Classical.not_and_iff_not_or_not, not_or, Bool.not_eq_true, Bool.not_eq_false, Classical.not_not] at none_
    simpa [or_assoc] using none_
  · simp only [untimed, Bool.false_and, Bool.false_eq_true, if_false, List.append_assoc]
  · simp only [timed, plain, decide_false, Bool.and_false, Bool.false_eq_true, if_false, if_true, List.append_assoc]
  · simp only [timed, eighth, decide_true, Bool.and_true, if_true, List.append_assoc]

/-- A time echo of an exchange that is open gives delay and offset. -/
theorem timeEchoReceive_goes (s : State) (p : Fin 64) :
    (∀ b, ((s.port p).t1s.find? fun e => e.1 == BitVec.ofNat 8 (byteAt b 0)) = none → Stays (.timeEchoReceive p b) s) ∧
    (∀ b e, ((s.port p).t1s.find? fun e => e.1 == BitVec.ofNat 8 (byteAt b 0)) = some e →
      let rx := ((Tbl.get {} (32 + p.val) s.time.asym).at s.now).toNat / 65536
      let t4 : Int := stampFrac (lineStamp s.svc rx s.svcFlags false)
      let d : Int := ((t4 - stampFrac e.2) - (stampFrac (stampAt b 20) - stampFrac (stampAt b 4))).tdiv 2
      Goes (.timeEchoReceive p b) s (s.setPort p { s.port p with
        delay := d, measured := true, offset := (stampFrac (stampAt b 4) - stampFrac e.2 : Int) - d, offsets := (s.port p).offsets + 1
        t1s := (s.port p).t1s.filter fun e => e.1 != BitVec.ofNat 8 (byteAt b 0) })) := by
  refine ⟨fun b none_ => stays_of (u := s.takeEcho p b) rfl ?_, fun b e open_ => goes_of (u := s.takeEcho p b) rfl ?_⟩
  · rw [State.takeEcho]
    dsimp only
    rw [none_]
  · rw [State.takeEcho]
    dsimp only
    rw [open_]

/-- A new offset is sent to the DTC as two sentences of discipline. -/
theorem dtcDiscipline_goes (s : State) (p : Fin 64) :
    let due := (s.port p).e.st = .inService ∧ (s.port p).measured = true ∧ (s.port p).offsets ≠ (s.port p).disciplined
    (¬ due → Stays (.dtcDiscipline p) s) ∧
    (due →
      let own (t : State) (flags : Byte) (body : Bytes) : Sentence :=
        ⟨.agg, .mailbox, flags, BitVec.ofNat 32 (Tbl.get 1 p.val t.verbs.nextFtag), 0, 0, 0, be 1 2 ++ zeros 7 ++ body⟩
      let target := BitVec.ofNat 32 (Tbl.get 0 p.val s.verbs.knownOid)
      let s0 := { s with free := s.free + 1 }
      let s1 := (s0.forward p 0x0101 (own s0 0x0B (be 8 (Config.servoIncrement s.free).toNat)) target).1
      let s2 := (s1.forward p 0x0102 (own s1 0x09 (be 8 (ofSigned 64 (-(s.port p).offset)))) target).1
      Goes (.dtcDiscipline p) s (s2.onPort p fun b => { b with disciplined := b.offsets })) := by
  refine ⟨fun none_ => stays_of rfl (if_pos ?_), fun ⟨up, measured, new⟩ => goes_of rfl (if_neg ?_)⟩
  · refine Classical.byContradiction fun all => ?_
    refine none_ ?_
    simpa [and_assoc] using all
  · simp [up, measured, new]

/-- Settles O47: each frame of the link and each event of the journal by its own lemma. -/
theorem linkFramesAndTheJournal : Obligations.LinkFramesAndTheJournal := by
  unfold Obligations.LinkFramesAndTheJournal
  intro s p l
  refine ⟨linkSlot_goes s p l, fun ready => ?_, fun seq b => goes_of rfl rfl, fun seq b => goes_of rfl rfl, linkFrame_goes s p l,
    fcrcWindowEnd_goes s p l, beaconSend_goes s p, (timeEchoReceive_goes s p).1, (timeEchoReceive_goes s p).2, dtcDiscipline_goes s p⟩
  obtain ⟨next, again, other, ctrl⟩ := linkSlot_journal (l := l) ready
  obtain ⟨holdover, none_⟩ := dtcHoldoverEntry_goes ready
  exact ⟨next, again, other, ctrl, goes_of rfl (if_pos ready),
    fun n running room wants waits => buildFrame_built n running room wants waits, fun n idle => buildFrame_idle n idle,
    fun n m => goes_of rfl (if_pos ready), fun n m idle => takeAck_idle n m idle, fun n m lives running => takeAck_spec n m lives running,
    journalResendTimeout_goes ready, fun b => (beaconReceive_goes ready b).1, fun b => (beaconReceive_goes ready b).2,
    fun b => takeBeacon_beacon (s.dtc p) l b, timeEchoSend_goes ready, holdover, none_, fun seq => (linkCtrlResume_goes ready seq).1,
    fun seq => (linkCtrlResume_goes ready seq).2⟩

end Sys2Proof.Machine
end

section
/-! Lanes, swaps and link states -/

namespace Sys2Proof.Machine
open Sys2Proof Sys2Proof.Proofs

/-! ## Reading back an end that was written -/

/-- What is not the default is read back from any table. -/
theorem get_set_new {α : Type} [DecidableEq α] {d v : α} (k : Nat) (t : Tbl α) (h : v ≠ d) : Tbl.get d k (Tbl.set d k v t) = v := by
  rw [Tbl.set, if_neg h, Tbl.get, Tbl.find_insert_eq]
  rfl

/-- A link end that is not down is read back as it was written. -/
theorem linkEnd_onEnd {s : State} {side : Side} {p : Fin 64} {l : LinkId} {f : LinkEnd → LinkEnd} (up : (f (s.linkEnd side p l)).st ≠ .down) :
    (s.onEnd side p l f).linkEnd side p l = f (s.linkEnd side p l) := by
  cases side with
  | agg =>
    refine congrArg AggPort.e (get_set_new _ _ fun same => up ?_)
    exact congrArg (fun a : AggPort => a.e.st) same
  | dtc =>
    have back : (s.onEnd .dtc p l f).dtc p = (s.dtc p).onLink l fun k => { k with e := f k.e } := by
      refine get_set_new _ _ fun same => up ?_
      have links : ((s.dtc p).onLink l fun k => { k with e := f k.e }).link l = ({} : Dtc).link l :=
        congrArg (fun d : Dtc => d.link l) same
      rw [Dtc.onLink, setLink_link] at links
      have down : (({} : Dtc).link l).e.st = .down := by cases l <;> rfl
      rw [← down, ← links]
      rfl
    rw [State.linkEnd, back, Dtc.onLink, setLink_link]
    rfl

/-- Two changes of an end that agree on it are one. -/
theorem onEnd_congr {s : State} {side : Side} {p : Fin 64} {l : LinkId} {f g : LinkEnd → LinkEnd} (h : f (s.linkEnd side p l) = g (s.linkEnd side p l)) :
    s.onEnd side p l f = s.onEnd side p l g := by
  cases side with
  | agg => exact congrArg (fun e => s.setPort p { s.port p with e := e }) h
  | dtc => exact congrArg (fun e => s.setDtc p ((s.dtc p).setLink l { (s.dtc p).link l with e := e })) h

/-! ## Training blocks and locks (R155, R238, R239) -/

/-- A block in another pattern breaks its lane's run. -/
theorem block_foreign {e : LinkEnd} {side : Side} {lane : Nat} {w0 w1 : Word} (h : ¬ (w0.toNat / 4 = 0x7E3C5A00 / 4 ∧ w0.toNat % 4 ≠ 3)) :
    e.block side lane w0 w1 = e.setLane lane { e.lane lane with blocks := 0 } := by
  refine if_pos ?_
  rw [Bool.or_eq_true, bne_iff_ne, decide_eq_true_eq]
  exact (Classical.not_and_iff_not_or_not.mp h).imp_right Classical.not_not.mp

/-- A training block counts its lane's run and takes its role and the far end's lanes. -/
theorem block_taken {e : LinkEnd} {side : Side} {lane : Nat} {w0 w1 : Word} (h : w0.toNat / 4 = 0x7E3C5A00 / 4 ∧ w0.toNat % 4 ≠ 3) :
    let f := e.block side lane w0 w1
    (f.lane lane).blocks = min 4 ((e.lane lane).blocks + 1) ∧ (f.lane lane).role = w0.toNat % 4 ∧ f.good = w1.extractLsb' 1 3 ∧
    f.alignedIn = (if w0.toNat % 4 ≠ 0 then e.alignedIn else if w1.getLsbD 0 = true then min 16 (e.alignedIn + 1) else 0) ∧
    (f.framing = true ↔ f.aligned = true ∧ 16 ≤ f.alignedIn ∧ ((List.range 3).filter fun i => !f.good.getLsbD i).length ≤ 1) := by
  have passes : ¬ (w0.toNat / 4 != 0x7E3C5A00 / 4 || decide (w0.toNat % 4 = 3)) = true := by simp [h.1, h.2]
  have lanes : (e.block side lane w0 w1).lane lane = { e.lane lane with
      blocks := min 4 ((e.lane lane).blocks + 1), role := w0.toNat % 4
      lock := if side == .agg then decide (4 ≤ min 4 ((e.lane lane).blocks + 1)) || (e.lane lane).lock else (e.lane lane).lock } := by
    rw [LinkEnd.block, if_neg passes]
    refine get_set_new lane e.lanes fun same => ?_
    have none_ : min 4 ((e.lane lane).blocks + 1) = 0 := congrArg Lane.blocks same
    omega
  refine ⟨by rw [lanes], by rw [lanes], ?_, ?_, ?_⟩
  · rw [LinkEnd.block, if_neg passes]
  · rw [LinkEnd.block, if_neg passes]
    simp only [bne_iff_ne, ne_eq]
    rfl
  · rw [LinkEnd.block, if_neg passes]
    simp only [Bool.and_eq_true, decide_eq_true_eq, and_assoc]
    rfl

/-- What the change of a lane's lock does. -/
theorem laneLockChange_goes (s : State) (side : Side) (p : Fin 64) (lane : Fin 6) (lock : Bool) (x y : BitVec 16) :
    let m : LinkId := if lane.val < 3 then .a else .b
    let i := lane.val % 3
    let e := s.linkEnd side p m
    let swapped := ∃ o, e.rxSwap.lane = some o ∧ o ≠ i
    let off := s.onEnd side p m fun e => e.setLane i { e.lane i with lock := false, blocks := 0 }
    (s.hasEnd side p m = false → Stays (.laneLockChange ⟨side, p⟩ lane lock x y) s) ∧
    (s.hasEnd side p m = true → Goes (.laneLockChange ⟨side, p⟩ lane true x y) s (s.onEnd side p m fun e =>
      let e1 := e.setLane i { e.lane i with lock := true, txlat := x, rxlat := y }
      { e1 with st := if e1.st = .down ∧ e1.outOfService = false then .training else e1.st })) ∧
    (s.hasEnd side p m = true → e.st = .inService → e.rxMap.isData i = true → ¬ swapped →
      Goes (.laneLockChange ⟨side, p⟩ lane false x y) s (off.retrain side p m 3 true)) ∧
    (s.hasEnd side p m = true → (e.st ≠ .inService ∨ e.rxMap.isData i = false ∨ swapped) → Goes (.laneLockChange ⟨side, p⟩ lane false x y) s off) := by
  refine ⟨fun none_ => stays_of rfl (if_pos (by simp [none_])), fun has => goes_of rfl ((if_neg (by simp [has])).trans ?_),
    fun has up data alone => goes_of rfl ((if_neg (by simp [has])).trans ?_), fun has other => goes_of rfl ((if_neg (by simp [has])).trans ?_)⟩
  · simp only [if_true, Bool.and_eq_true, beq_iff_eq, Bool.not_eq_true']
  · refine (if_neg Bool.false_ne_true).trans (if_pos ?_)
    dsimp only at alone ⊢
    cases swap : (s.linkEnd side p (if lane.val < 3 then .a else .b)).rxSwap.lane with
    | none => simp [up, data]
    | some o =>
      have same : o = lane.val % 3 := Classical.byContradiction fun ne => alone ⟨o, swap, ne⟩
      simp [up, data, same]
  · refine (if_neg Bool.false_ne_true).trans (if_neg ?_)
    dsimp only
    obtain out | spare | ⟨o, swap, ne⟩ := other
    · simp [out]
    · simp [spare]
    · simp [swap, ne]

/-! ## Swaps on a telemetry link (R264, R265) -/

/-- An end that a part does not have, or that does not run, hears nothing. -/
theorem linkEnd_missing {s : State} {side : Side} {p : Fin 64} {l : LinkId} (none_ : s.hasEnd side p l = false) :
    (∀ lane w0 w1 r, Stays (.trainingBlockReceive ⟨side, p⟩ l lane w0 w1 r) s) ∧
    (∀ lane m, Stays (.laneMarginAlarm (.dtcLink side p l) lane m) s ∧ Stays (.swapReqReceive (.dtcLink side p l) lane) s) ∧
    (∀ lane m, Stays (.swapMirrorReceive (.dtcLink side p l) lane m) s) ∧ (∀ lane, Stays (.swapDoneReceive (.dtcLink side p l) lane) s) ∧
    Stays (.swapTimeout (.dtcLink side p l)) s ∧ Stays (.linkCtrlRetrainReceive side p l) s ∧ Stays (.linkEnterService side p l) s ∧
    Stays (.linkLeaveService side p l) s ∧ Stays (.linkHoldExpiry side p l) s := by
  refine ⟨fun lane w0 w1 r => stays_of rfl (if_pos (by simp [none_])),
    fun lane m => ⟨stays_of (u := s.linkMargin side p l lane.val m) rfl (if_pos (by simp [none_])),
      stays_of (u := s.linkSwapReq side p l lane.val) rfl (if_pos (by simp [none_]))⟩,
    fun lane m => stays_of (u := s.linkSwapMirror side p l lane.val m) rfl (if_pos (by simp [none_])),
    fun lane => stays_of (u := s.linkSwapDone side p l (lane.map (·.val))) rfl (if_pos (by simp [none_])),
    stays_of (u := s.linkSwapTimeout side p l) rfl ?_, stays_of rfl (if_neg (by simp [none_])),
    stays_of (u := s.enterService side p l) rfl (if_pos (by simp [none_])), stays_of rfl (if_neg (by simp [none_])), stays_of rfl (if_neg (by simp [none_]))⟩
  rw [State.linkSwapTimeout]
  split
  · exact if_neg (by simp [none_])
  · rfl

/-- What a margin on a lane of a link does. -/
theorem linkMargin_goes {s : State} {side : Side} {p : Fin 64} {l : LinkId} (has : s.hasEnd side p l = true) (lane : Fin 5) (m : Byte) (low : lane.val < 3) :
    let e := s.linkEnd side p l
    let free (x : Nat) : Prop := e.autoSwap = true ∧ e.rxMap.isData x = true ∧ (e.lane e.rxMap.spare).alarm = false ∧ e.rxSwap = .none ∧ e.st = .inService
    let taken (x : Nat) (low : Bool) (m : Byte) : State := s.onEnd side p l fun e => e.setLane x { e.lane x with margin := m, alarm := low }
    (e.threshold ≤ m.toNat → Goes (.laneMarginAlarm (.dtcLink side p l) lane m) s (taken lane.val false m)) ∧
    (m.toNat < e.threshold → ¬ free lane.val → Goes (.laneMarginAlarm (.dtcLink side p l) lane m) s (taken lane.val true m)) ∧
    (m.toNat < e.threshold → free lane.val → Goes (.laneMarginAlarm (.dtcLink side p l) lane m) s
      (((taken lane.val true m).onEnd side p l fun e => { e with rxSwap := .asked lane.val none }).sendCtrl side p l 3 lane.val)) := by
  have passes : ¬ (!s.hasEnd side p l || decide (3 ≤ lane.val)) = true := by simp [has, low]
  refine ⟨fun high => goes_of (u := s.linkMargin side p l lane.val m) rfl ((if_neg passes).trans ?_),
    fun low busy => goes_of (u := s.linkMargin side p l lane.val m) rfl ((if_neg passes).trans ?_),
    fun low free => goes_of (u := s.linkMargin side p l lane.val m) rfl ((if_neg passes).trans ?_)⟩
  · simp only [decide_eq_false (Nat.not_lt.mpr high), Bool.false_and, Bool.false_eq_true, if_false]
  · simp only [decide_eq_true low]
    exact if_neg (by simpa [and_assoc] using busy)
  · obtain ⟨auto_, data, sound, idle, up⟩ := free
    simp only [decide_eq_true low]
    exact if_pos (by simp [auto_, data, sound, idle, up])

/-- What the transmitter does with SWAP_REQ. -/
theorem linkSwapReq_goes {s : State} {side : Side} {p : Fin 64} {l : LinkId} (has : s.hasEnd side p l = true) (lane : Fin 5) (low : lane.val < 3) :
    let e := s.linkEnd side p l
    (e.txSwap ≠ .none → Goes (.swapReqReceive (.dtcLink side p l) lane) s
      (s.onEnd side p l fun e => { e with ignoredSwaps := satInc 32 e.ignoredSwaps })) ∧
    (e.txSwap = .none → e.txMap.isData lane.val = false → Stays (.swapReqReceive (.dtcLink side p l) lane) s) ∧
    (e.txSwap = .none → e.txMap.isData lane.val = true → Goes (.swapReqReceive (.dtcLink side p l) lane) s
      ((s.onEnd side p l fun e => { e with txSwap := .mirroring lane.val (s.nowOf (sidePart side p)) none }).sendCtrl side p l 4 lane.val)) := by
  have passes : ¬ (!s.hasEnd side p l || decide (3 ≤ lane.val)) = true := by simp [has, low]
  exact ⟨fun busy => goes_of (u := s.linkSwapReq side p l lane.val) rfl ((if_neg passes).trans (if_pos (by simp [busy]))),
    fun idle spare => stays_of (u := s.linkSwapReq side p l lane.val) rfl
      ((if_neg passes).trans ((if_neg (by simp [idle])).trans (if_pos (by simp [spare])))),
    fun idle data => goes_of (u := s.linkSwapReq side p l lane.val) rfl
      ((if_neg passes).trans ((if_neg (by simp [idle])).trans (if_neg (by simp [data]))))⟩

/-- What the receiver does with SWAP_MIRROR. -/
theorem linkSwapMirror_goes {s : State} {side : Side} {p : Fin 64} {l : LinkId} (has : s.hasEnd side p l = true) (lane : Fin 5) (m : Bool) :
    let e := s.linkEnd side p l
    let on (f : LinkEnd → LinkEnd) : State := s.onEnd side p l f
    (e.rxSwap.lane ≠ some lane.val → Stays (.swapMirrorReceive (.dtcLink side p l) lane m) s) ∧
    (∀ t, e.rxSwap = .asked lane.val t → Goes (.swapMirrorReceive (.dtcLink side p l) lane false) s
      (on fun e => { e with rxSwap := .mirroring lane.val (s.nowOf (sidePart side p)) t })) ∧
    (∀ n t, e.rxSwap = .mirroring lane.val n t → Stays (.swapMirrorReceive (.dtcLink side p l) lane false) s) ∧
    (e.rxSwap.lane = some lane.val → Goes (.swapMirrorReceive (.dtcLink side p l) lane true) s
      (((on fun e => { e with rxMap := e.rxMap.retire lane.val, swaps := satInc 64 e.swaps }).endSwap side p l 0).sendCtrl side p l 5 lane.val)) := by
  have passes : ¬ (!s.hasEnd side p l) = true := by simp [has]
  refine ⟨fun other => stays_of (u := s.linkSwapMirror side p l lane.val m) rfl ((if_neg passes).trans ?_),
    fun t asked => goes_of (u := s.linkSwapMirror side p l lane.val false) rfl ((if_neg passes).trans ?_),
    fun n t mirrors => stays_of (u := s.linkSwapMirror side p l lane.val false) rfl ((if_neg passes).trans ?_),
    fun mine => goes_of (u := s.linkSwapMirror side p l lane.val true) rfl ((if_neg passes).trans ?_)⟩
  · dsimp only at other ⊢
    cases swap : (s.linkEnd side p l).rxSwap with
    | none => rfl
    | asked x t => exact if_pos (bne_iff_ne.mpr fun same => other (by rw [swap, same, Swap.lane]))
    | mirroring x n t => exact if_neg (by simp [show x ≠ lane.val from fun same => other (by rw [swap, same, Swap.lane])])
  · simp only [asked, bne_self_eq_false, Bool.false_eq_true, if_false]
  · simp only [mirrors, Bool.and_false, Bool.false_eq_true, if_false]
  · dsimp only at mine ⊢
    cases swap : (s.linkEnd side p l).rxSwap with
    | none => simp [swap, Swap.lane] at mine
    | asked x t =>
      obtain rfl : x = lane.val := by simpa [swap, Swap.lane] using mine
      exact (if_neg (by simp)).trans (if_pos rfl)
    | mirroring x n t =>
      obtain rfl : x = lane.val := by simpa [swap, Swap.lane] using mine
      exact if_pos (by simp)

/-- What the transmitter does with SWAP_DONE, of a lane or of an abandoned swap. -/
theorem linkSwapDone_goes {s : State} {side : Side} {p : Fin 64} {l : LinkId} (has : s.hasEnd side p l = true) :
    let e := s.linkEnd side p l
    let on (f : LinkEnd → LinkEnd) : State := s.onEnd side p l f
    (∀ lane : Fin 5, e.txSwap.lane = some lane.val → Goes (.swapDoneReceive (.dtcLink side p l) (some lane)) s
      (on fun e => { e with txMap := e.txMap.retire lane.val, txSwap := .none })) ∧
    (∀ lane : Fin 5, e.txSwap.lane ≠ some lane.val → Goes (.swapDoneReceive (.dtcLink side p l) (some lane)) s (on id)) ∧
    Goes (.swapDoneReceive (.dtcLink side p l) none) s (on fun e => { e with txSwap := .none }) := by
  have passes : ¬ (!s.hasEnd side p l) = true := by simp [has]
  refine ⟨fun lane mine => goes_of (u := s.linkSwapDone side p l (some lane.val)) rfl ((if_neg passes).trans (onEnd_congr ?_)),
    fun lane other => goes_of (u := s.linkSwapDone side p l (some lane.val)) rfl ((if_neg passes).trans (onEnd_congr ?_)),
    goes_of (u := s.linkSwapDone side p l none) rfl ((if_neg passes).trans (onEnd_congr ?_))⟩
  · simp only [mine, if_true]
  · cases swap : (s.linkEnd side p l).txSwap.lane with
    | none => rfl
    | some x =>
      have ne : some lane.val ≠ some x := fun same => other (swap.trans same.symm)
      simp only [ne, if_false]
      rfl
  · cases swap : (s.linkEnd side p l).txSwap with
    | none => simp only [Swap.lane, ← swap]
    | asked x t => rfl
    | mirroring x n t => rfl

/-- A swap whose words do not match in 10 µs is abandoned. -/
theorem linkSwapTimeout_goes {s : State} {side : Side} {p : Fin 64} {l : LinkId} (has : s.hasEnd side p l = true) :
    let late := ∃ x n t, (s.linkEnd side p l).rxSwap = .mirroring x n t ∧ n + 10000 ≤ s.nowOf (sidePart side p)
    (late → Goes (.swapTimeout (.dtcLink side p l)) s ((s.endSwap side p l 1).sendCtrl side p l 5 255)) ∧
    (¬ late → Stays (.swapTimeout (.dtcLink side p l)) s) := by
  refine ⟨fun ⟨x, n, t, mirrors, late⟩ => goes_of (u := s.linkSwapTimeout side p l) rfl ?_,
    fun early => stays_of (u := s.linkSwapTimeout side p l) rfl ?_⟩
  · rw [State.linkSwapTimeout, mirrors]
    exact if_pos (by simp [has, late])
  · rw [State.linkSwapTimeout]
    split
    · next x n t mirrors => exact if_neg fun due => early ⟨x, n, t, mirrors, by simpa [has] using due⟩
    · rfl

/-! ## Training, retrains and service of a telemetry link (R239, R246, R253, R263) -/

/-- What a training block does at an end that runs. -/
theorem trainingBlock_goes {s : State} {side : Side} {p : Fin 64} {l : LinkId} (has : s.hasEnd side p l = true) (lane : Fin 3) (w0 w1 : Word) (r : Bytes) :
    let e := s.linkEnd side p l
    let c : Instr := .trainingBlockReceive ⟨side, p⟩ l lane w0 w1 r
    let t := if e.framing = true ∧ e.st = .inService then s.retrain side p l 4 false else s
    let u := t.onEnd side p l fun e => let b := e.block side lane.val w0 w1
      { b with st := if b.st = .down then .training else b.st }
    (e.outOfService = true → Stays c s) ∧
    (e.outOfService = false → e.st = .test → e.testMode ≠ 1 → Stays c s) ∧
    (e.outOfService = false → e.st = .test → e.testMode = 1 → Goes c s (s.onEnd side p l fun e =>
      let k := e.lane lane.val
      let q := prbsCheck k.prbsRx (wordsOf r)
      e.setLane lane.val { k with prbsRx := q.1, prbsErrors := satAdd 32 k.prbsErrors q.2 })) ∧
    (e.outOfService = false → e.st ≠ .test → Goes c s
      (if (u.linkEnd side p l).framing = true ∧ (t.linkEnd side p l).framing = false then u.framesBegin side p l else u)) := by
  refine ⟨fun out => stays_of rfl (if_pos (by simp [out])),
    fun in_ test other => stays_of rfl ((if_neg (by simp [has, in_])).trans ((if_pos (by simp [test])).trans (if_neg other))),
    fun in_ test prbs => goes_of rfl ((if_neg (by simp [has, in_])).trans ((if_pos (by simp [test])).trans (if_pos prbs))),
    fun in_ run => goes_of rfl ((if_neg (by simp [has, in_])).trans ((if_neg (by simp [run])).trans ?_))⟩
  simp only [Bool.and_eq_true, beq_iff_eq, Bool.not_eq_true']

/-- What a retrain without a frame to tell the far end, of a link without a swap, leaves. -/
theorem retrain_spec {s : State} {side : Side} {p : Fin 64} {l : LinkId} :
    let e := s.linkEnd side p l
    let now := s.nowOf (sidePart side p)
    let on (f : LinkEnd → LinkEnd) : State := s.onEnd side p l f
    (e.st = .down ∨ e.st = .test → s.retrain side p l 5 false = s) ∧
    (e.st ≠ .down → e.st ≠ .test → e.rxSwap = .none →
      let bad (i : Nat) : Prop := (e.lane i).lock = false ∨ (e.lane i).alarm = true
      let t := (on fun f => { f with rxSwap := .none }).onEnd side p l fun f => { f with
        framing := false, firstIdle := false, aligned := false, alignedIn := 0, startOk := false
        retrains := satInc 64 f.retrains, txSwap := .none, rxSeq := none, hcrcRun := 0
        st := if f.st = .inService then .held else f.st, heldSince := if e.st = .inService then now else f.heldSince
        lanes := f.lanes.map fun k => (k.1, { k.2 with blocks := 0 })
        rxMap := if bad f.rxMap.even ∧ ¬ bad f.rxMap.odd then f.rxMap.retire f.rxMap.even
          else if bad f.rxMap.odd ∧ ¬ bad f.rxMap.even then f.rxMap.retire f.rxMap.odd else f.rxMap }
      let u := if e.st = .inService then t.leaveService side p l else t
      s.retrain side p l 5 false =
        (match side with | .dtc => u | .agg => u.raise 2 0x0402 3 (be 1 p.val ++ be 1 (linkCode l) ++ [Config.causeCode 0x0402 5]))) := by
  refine ⟨fun idle => if_pos (by simpa using idle), fun up run none_ => (if_neg (by simp [up, run])).trans ?_⟩
  have same (f : LinkEnd → LinkEnd) (g : LinkEnd → LinkEnd) (h : f { s.linkEnd side p l with rxSwap := .none } = g { s.linkEnd side p l with rxSwap := .none }) :
      (s.onEnd side p l fun e => { e with rxSwap := .none }).onEnd side p l f = (s.onEnd side p l fun e => { e with rxSwap := .none }).onEnd side p l g :=
    onEnd_congr (by rw [linkEnd_onEnd (f := fun e => { e with rxSwap := .none }) up]; exact h)
  have ended : s.endSwap side p l 1 = s.onEnd side p l fun e => { e with rxSwap := .none } := by
    rw [State.endSwap, none_]
    rfl
  simp only [Bool.false_and, Bool.false_eq_true, if_false, ended, beq_iff_eq, Bool.and_eq_true, Bool.or_eq_true, Bool.not_eq_true', Bool.or_eq_false_iff,
    Bool.not_eq_false']
  cases side with
  | dtc =>
    refine congrArg (fun t => if (s.linkEnd .dtc p l).st = .inService then t.leaveService .dtc p l else t) (same _ _ ?_)
    simp only [not_or, Bool.not_eq_false, Bool.not_eq_true]
  | agg =>
    refine congrArg (fun t => (if (s.linkEnd .agg p l).st = .inService then t.leaveService .agg p l else t).raise 2 0x0402 3
      (be 1 p.val ++ be 1 (linkCode l) ++ [Config.causeCode 0x0402 5])) (same _ _ ?_)
    simp only [not_or, Bool.not_eq_false, Bool.not_eq_true]

/-- When a link enters service, and what the aggregator then sends first. -/
theorem linkEnterService_goes {s : State} {side : Side} {p : Fin 64} {l : LinkId} (has : s.hasEnd side p l = true) :
    let e := s.linkEnd side p l
    let enters := e.framing = true ∧ e.startOk = true ∧ e.st ≠ .inService ∧ e.outOfService = false
    let t := s.onEnd side p l fun e => { e with st := .inService }
    (¬ enters ∨ side = .dtc ∧ e.beaconOk = false → Stays (.linkEnterService side p l) s) ∧
    (enters → side = .dtc → e.beaconOk = true → Goes (.linkEnterService side p l) s (t.onDtc p fun d =>
       (Dtc.irq { d with journal := { d.journal with baseOwed := true } } (2 + linkCode l)).dropHeld)) ∧
    (enters → side = .agg →
      let send (u : State) (verb : Nat) (flags : Byte) (body : Bytes) (target : Nat) : State :=
        (u.forward p verb ⟨.agg, .mailbox, flags, BitVec.ofNat 32 (Tbl.get 1 p.val u.verbs.nextFtag), 0, 0, 0, body⟩ (BitVec.ofNat 32 target)).1
      let t1 := t.onPort p fun a => { a with verbOut := [] }
      let kept := Tbl.get 0 p.val s.verbs.keptOid
      let t2 := if kept = 0 then t1 else send t1 0x0005 0x0B (be 4 kept) kept
      let pin := Tbl.get 0 p.val t2.dev.dtcPins
      let target := if kept = 0 then Tbl.get 1 p.val t2.verbs.knownOid else kept
      let t3 := if pin = 0 then t2 else send t2 0x0905 0x0B (be 1 (pin - 1) ++ zeros 3) target
      Goes (.linkEnterService side p l) s ((send t3 0x0001 3 [] target).onPort p fun a => { a with verbOut := a.verbOut ++ (t.port p).verbOut })) := by
  have passes (h : (s.linkEnd side p l).framing = true ∧ (s.linkEnd side p l).startOk = true ∧ (s.linkEnd side p l).st ≠ .inService ∧
      (s.linkEnd side p l).outOfService = false) : ¬ (!s.hasEnd side p l || !(s.linkEnd side p l).framing || !(s.linkEnd side p l).startOk ||
      (s.linkEnd side p l).st == .inService || (s.linkEnd side p l).outOfService) = true := by simp [has, h]
  refine ⟨fun not_ => stays_of (u := s.enterService side p l) rfl ?_, fun enters dtc heard => goes_of (u := s.enterService side p l) rfl
    ((if_neg (passes enters)).trans ?_), fun enters agg => goes_of (u := s.enterService side p l) rfl ((if_neg (passes enters)).trans ?_)⟩
  · by_cases enters : (s.linkEnd side p l).framing = true ∧ (s.linkEnd side p l).startOk = true ∧ (s.linkEnd side p l).st ≠ .inService ∧
      (s.linkEnd side p l).outOfService = false
    · obtain out | ⟨dtc, unheard⟩ := not_
      · exact absurd enters out
      · refine (if_neg (passes enters)).trans ?_
        subst dtc
        exact if_neg (by simp [unheard])
    · refine if_pos ?_
      refine Classical.byContradiction fun all => ?_
      refine enters ?_
      simpa [has, and_assoc] using all
  · subst dtc
    exact if_pos heard
  · subst agg
    rfl

/-- When a link leaves service, and when its hold ends. -/
theorem linkLeaves_goes {s : State} {side : Side} {p : Fin 64} {l : LinkId} : s.hasEnd side p l = true →
    let e := s.linkEnd side p l
    let now := s.nowOf (sidePart side p)
    let on (f : LinkEnd → LinkEnd) : State := s.onEnd side p l f
    (e.st ≠ .inService → Stays (.linkLeaveService side p l) s) ∧
    (e.st = .inService → Goes (.linkLeaveService side p l) s ((on fun e =>
      { e with st := .held, heldSince := now, framing := false, aligned := false, alignedIn := 0, startOk := false, rxSeq := none }).leaveService side p l)) ∧
    (let ends := e.st = .held ∧ e.heldSince + 100000 ≤ now
     let t := on fun e => { e with st := .training }
     (ends → Goes (.linkHoldExpiry side p l) s (match side with | .agg => t | .dtc => t.onDtc p fun d => d.stopJournal.release)) ∧
     (¬ ends → Stays (.linkHoldExpiry side p l) s)) := by
  intro has
  refine ⟨fun out => stays_of rfl (if_neg (by simp [out])), fun in_ => goes_of rfl (if_pos (by simp [has, in_])),
    fun ⟨held, old⟩ => goes_of rfl ((if_pos (by simp [has, held, old])).trans ?_), fun not_ => stays_of rfl (if_neg (by simpa [has] using not_))⟩
  cases side <;> rfl

/-! ## Swaps on the ports and the partner link (R264, R445, R487) -/

/-- The place of a port's lanes, or of the partner link's. -/
def IsPortPlace (w : LanePlace) (n : Nat) : Prop := w = .partner ∧ n = 17 ∨ ∃ q : Fin 16, w = .fabric q ∧ n = q.val

theorem exec_portMargin {w : LanePlace} {n : Nat} (h : IsPortPlace w n) (lane : Fin 5) (m : Byte) (s : State) :
    exec (.laneMarginAlarm w lane m) s = finish s (s.portMargin n lane.val m) := by
  obtain ⟨rfl, rfl⟩ | ⟨q, rfl, rfl⟩ := h <;> rfl

theorem exec_portSwapReq {w : LanePlace} {n : Nat} (h : IsPortPlace w n) (lane : Fin 5) (s : State) :
    exec (.swapReqReceive w lane) s = finish s (s.portSwapReq n lane.val) := by
  obtain ⟨rfl, rfl⟩ | ⟨q, rfl, rfl⟩ := h <;> rfl

theorem exec_portSwapMirror {w : LanePlace} {n : Nat} (h : IsPortPlace w n) (lane : Fin 5) (m : Bool) (s : State) :
    exec (.swapMirrorReceive w lane m) s = finish s (s.portSwapMirror n lane.val m) := by
  obtain ⟨rfl, rfl⟩ | ⟨q, rfl, rfl⟩ := h <;> rfl

theorem exec_portSwapDone {w : LanePlace} {n : Nat} (h : IsPortPlace w n) (lane : Option (Fin 5)) (s : State) :
    exec (.swapDoneReceive w lane) s = finish s (s.portSwapEnd n (lane.map (·.val))) := by
  obtain ⟨rfl, rfl⟩ | ⟨q, rfl, rfl⟩ := h <;> rfl

theorem exec_portSwapTimeout {w : LanePlace} {n : Nat} (h : IsPortPlace w n) (s : State) :
    exec (.swapTimeout w) s = finish s (s.portSwapExpiry n) := by
  obtain ⟨rfl, rfl⟩ | ⟨q, rfl, rfl⟩ := h <;> rfl

/-- What a margin on a lane of a port does. -/
theorem portMargin_goes {w : LanePlace} {n : Nat} (h : IsPortPlace w n) (s : State) (lane : Fin 5) (m : Byte) :
    let q := s.netPort n
    let low := m.toNat < q.threshold
    let taken := q.setLane lane.val { q.lane lane.val with margin := m, alarm := decide (m.toNat < q.threshold) }
    let free := q.swappable n = true ∧ q.isData lane.val = true ∧ (q.lane q.spare).alarm = false ∧ q.rxSwap = .none ∧ q.st = .inService
    (¬ (low ∧ free) → Goes (.laneMarginAlarm w lane m) s (s.setNetPort n taken)) ∧
    (low → free → Goes (.laneMarginAlarm w lane m) s ((s.setNetPort n { taken with rxSwap := .asked lane.val none }).sendPortControl n 3 lane.val)) :=
  ⟨fun stays => goes_of (exec_portMargin h lane m s) (if_neg (by simpa [and_assoc] using stays)),
    fun low ⟨may, data, sound, idle, up⟩ => goes_of (exec_portMargin h lane m s) (if_pos (by simpa [may, data, sound, idle, up] using low))⟩

/-- What the messages of a swap do at a port. -/
theorem portSwap_goes {w : LanePlace} {n : Nat} (h : IsPortPlace w n) (s : State) (lane : Fin 5) :
    let q := s.netPort n
    let put (r : Port) : State := s.setNetPort n r
    (q.txSwap ≠ .none → Goes (.swapReqReceive w lane) s (put { q with ignoredSwaps := satInc 32 q.ignoredSwaps })) ∧
    (q.txSwap = .none → q.swappable n = false → Stays (.swapReqReceive w lane) s) ∧
    (q.txSwap = .none → q.swappable n = true →
      Goes (.swapReqReceive w lane) s ((put { q with txSwap := .mirroring lane.val s.now none }).sendPortControl n 4 lane.val)) ∧
    (∀ m, q.rxSwap.lane ≠ some lane.val → Stays (.swapMirrorReceive w lane m) s) ∧
    (∀ t, q.rxSwap = .asked lane.val t → Goes (.swapMirrorReceive w lane false) s (put { q with rxSwap := .mirroring lane.val s.now t })) ∧
    (∀ a t, q.rxSwap = .mirroring lane.val a t → Stays (.swapMirrorReceive w lane false) s) ∧
    (q.rxSwap.lane = some lane.val → Goes (.swapMirrorReceive w lane true) s
      ((put { q.retire lane.val with rxSwap := .none, swaps := satInc 32 q.swaps }).sendPortControl n 5 lane.val)) ∧
    (q.txSwap.lane = some lane.val → Goes (.swapDoneReceive w (some lane)) s (put { q with txSwap := .none, txRoles := retireRole q.txRoles lane.val })) ∧
    (q.txSwap.lane ≠ some lane.val → Stays (.swapDoneReceive w (some lane)) s) := by
  refine ⟨fun busy => goes_of (exec_portSwapReq h lane s) (if_pos (by simp [busy])),
    fun idle fixed => stays_of (exec_portSwapReq h lane s) ((if_neg (by simp [idle])).trans (if_pos (by simp [fixed]))),
    fun idle may => goes_of (exec_portSwapReq h lane s) ((if_neg (by simp [idle])).trans (if_neg (by simp [may]))),
    fun m other => stays_of (exec_portSwapMirror h lane m s) ?_, fun t asked => goes_of (exec_portSwapMirror h lane false s) ?_,
    fun a t mirrors => stays_of (exec_portSwapMirror h lane false s) ?_, fun mine => goes_of (exec_portSwapMirror h lane true s) ?_,
    fun mine => goes_of (exec_portSwapDone h (some lane) s) ?_, fun other => stays_of (exec_portSwapDone h (some lane) s) ?_⟩
  · rw [State.portSwapMirror]
    split
    · rfl
    · next x swap => exact if_pos (bne_iff_ne.mpr fun same => other (by rw [swap, same]))
  · simp only [State.portSwapMirror, asked, Swap.lane, bne_self_eq_false, Bool.false_eq_true, if_false]
  · simp only [State.portSwapMirror, mirrors, Swap.lane, bne_self_eq_false, Bool.false_eq_true, if_false]
  · simp only [State.portSwapMirror, mine, bne_self_eq_false, Bool.false_eq_true, if_false, if_true]
    rfl
  · simp only [State.portSwapEnd, mine, Option.map_some, if_true]
  · unfold State.portSwapEnd
    dsimp only
    split
    · next x y swap same => exact if_neg fun eq => other (by rw [swap, eq, ← same, Option.map_some])
    · next x swap none_ => exact absurd none_ (by simp)
    · rfl

/-- An abandoned swap at the transmitter of a port, and the end of one that does not match in 200 µs. -/
theorem portSwap_ends {w : LanePlace} {n : Nat} (h : IsPortPlace w n) (s : State) :
    let q := s.netPort n
    let put (r : Port) : State := s.setNetPort n r
    (q.txSwap ≠ .none → Goes (.swapDoneReceive w none) s (put { q with txSwap := .none })) ∧
    (q.txSwap = .none → Stays (.swapDoneReceive w none) s) ∧
    (let late := ∃ x a t, q.rxSwap = .mirroring x a t ∧ a + 200000 ≤ s.now
     (late → Goes (.swapTimeout w) s ((put { q with rxSwap := .none }).sendPortControl n 5 255)) ∧
     (¬ late → Stays (.swapTimeout w) s)) := by
  refine ⟨fun busy => goes_of (exec_portSwapDone h none s) ?_, fun idle => stays_of (exec_portSwapDone h none s) ?_,
    fun ⟨x, a, t, mirrors, late⟩ => goes_of (exec_portSwapTimeout h s) ?_, fun early => stays_of (exec_portSwapTimeout h s) ?_⟩
  · unfold State.portSwapEnd
    dsimp only
    cases swap : (s.netPort n).txSwap with
    | none => exact absurd swap busy
    | asked x t => simp only [Swap.lane, Option.map_none]
    | mirroring x a t => simp only [Swap.lane, Option.map_none]
  · simp only [State.portSwapEnd, idle, Swap.lane, Option.map_none]
  · simp only [State.portSwapExpiry, mirrors]
    exact if_pos late
  · rw [State.portSwapExpiry]
    split
    · next x a t mirrors => exact if_neg fun late => early ⟨x, a, t, mirrors, late⟩
    · rfl

/-- Settles O48: each event of a lane, a swap and a link's state by its own lemma. -/
theorem lanesAndLinkStates : Obligations.LanesAndLinkStates := by
  unfold Obligations.LanesAndLinkStates
  intro s side p l
  refine ⟨linkEnd_missing, fun lane lock x y => laneLockChange_goes s side p lane lock x y,
    fun e lane w0 w1 => ⟨block_foreign, block_taken⟩, fun has => ?_, fun w n place =>
      ⟨fun lane m => portMargin_goes place s lane m, fun lane => portSwap_goes place s lane, portSwap_ends place s⟩⟩
  obtain ⟨mine, other, abandoned⟩ := linkSwapDone_goes has
  obtain ⟨idle, retrains⟩ := retrain_spec (s := s) (side := side) (p := p) (l := l)
  obtain ⟨stays, leaves, ends⟩ := linkLeaves_goes has
  exact ⟨fun lane w0 w1 r => trainingBlock_goes has lane w0 w1 r,
    fun lane m high => ⟨stays_of (u := s.linkMargin side p l lane.val m) rfl (if_pos (by simp [high])),
      stays_of (u := s.linkSwapReq side p l lane.val) rfl (if_pos (by simp [high]))⟩,
    fun lane m low => linkMargin_goes has lane m low, fun lane low => linkSwapReq_goes has lane low, fun lane m => linkSwapMirror_goes has lane m,
    mine, other, abandoned, linkSwapTimeout_goes has, goes_of rfl (if_pos has), idle, retrains, linkEnterService_goes has, stays, leaves, ends⟩

end Sys2Proof.Machine
end

section
/-! Scoring -/

namespace Sys2Proof.Machine
open Sys2Proof Sys2Proof.Proofs

/-! ## From a record to its vector (R309 to R321, R374) -/

/-- What the record at the head of a port's queue does. -/
theorem bodyIngest_goes {s : State} {p : Fin 64} {cls : Nat} {w : Bytes} {at_ : Option Stamp} {rest : List (Nat × Bytes × Option Stamp)}
    (head : (s.port p).bodies = (cls, w, at_) :: rest) :
    let t := s.setPort p { s.port p with bodies := rest, instants := Tbl.set none cls at_ (s.port p).instants }
    (recordBody w = none → Goes (.bodyIngest p) s ((t.onPort p fun a => { a with rejected := satInc 64 a.rejected }).raise 2 0x0401 4
      (be 1 p.val ++ be 1 cls ++ be 4 ((s.port p).next - 1).toNat ++ [Config.causeCode 0x0401 0]))) ∧
    (∀ b, recordBody w = some b → cls ∉ [0x10, 0x11, 0x12, 0x13, 0x14, 0x15] →
      Goes (.bodyIngest p) s (t.setDie p.val { t.die p.val with faults := (b :: (t.die p.val).faults).take 16 })) ∧
    (∀ b, recordBody w = some b → Goes (.bodyIngest p) s (t.takeBody p cls b)) := by
  have opens (b : Bytes) (opened : recordBody w = some b) : Goes (.bodyIngest p) s
      ((s.setPort p { s.port p with bodies := rest, instants := Tbl.set none cls at_ (s.port p).instants }).takeBody p cls b) := by
    refine goes_of rfl ?_
    simp only [head, opened]
  refine ⟨fun shut => goes_of rfl ?_, fun b opened other => ?_, opens⟩
  · simp only [head, shut]
  · have goes := opens b opened
    unfold State.takeBody at goes
    simp only [List.mem_cons, List.not_mem_nil, or_false, not_or] at other
    obtain ⟨n0, n1, n2, n3, n4, n5⟩ := other
    simpa only [n0, n1, n2, n3, n4, n5, imp_false] using goes

/-- A half takes the next vector, ticks first. -/
theorem vectorStart_goes (s : State) (h : Fin 2) :
    let k := s.half h.val
    let run (j : VecJob) : Option (VecJob × Vec × Nat) := some (j, s.vecOf j, s.now + s.cyclesOf (82 + h.val) (vecCycles j.map))
    (k.busy.isSome = true → Stays (.vectorStart h) s) ∧
    (k.telemetry = [] → k.requests = [] → Stays (.vectorStart h) s) ∧
    (∀ j js, k.busy = none → k.telemetry = j :: js → Goes (.vectorStart h) s (s.setHalf h.val { k with telemetry := js, busy := run j })) ∧
    (∀ j js, k.busy = none → k.telemetry = [] → k.requests = j :: js →
      Goes (.vectorStart h) s (s.setHalf h.val { k with requests := js, busy := run j })) := by
  refine ⟨fun busy => stays_of rfl (if_pos busy), fun ticks asked => stays_of rfl ?_, fun j js idle ticks => goes_of rfl ((if_neg (by simp [idle])).trans ?_),
    fun j js idle ticks asked => goes_of rfl ((if_neg (by simp [idle])).trans ?_)⟩
  · simp only [ticks, asked, ite_self]
  · simp only [ticks]
  · simp only [ticks, asked]

/-- A vector goes on once it is done, unless its crossing is full. -/
theorem vectorComplete_goes {s : State} {h : Fin 2} {j : VecJob} {v : Vec} {due : Nat} (busy : (s.half h.val).busy = some (j, v, due)) :
    let full := ∃ p r, s.goesTo j = some (p, r) ∧ s.crossingHolds h.val p r = true
    let t := s.setHalf h.val { s.half h.val with busy := none }
    (s.now < due → Stays (.vectorComplete h) s) ∧
    (v.invalid = none → full → Stays (.vectorComplete h) s) ∧
    (due ≤ s.now → v.invalid = none → ¬ full → Goes (.vectorComplete h) s (t.assignWork j v)) ∧
    (∀ f, due ≤ s.now → v.invalid = some f →
      Goes (.vectorComplete h) s (t.failScoring j.src j.model j.tick j.epoch v.flags St.featureInvalid f)) := by
  have full_iff : ((s.goesTo j).map fun g => s.crossingHolds h.val g.1 g.2).getD false = true ↔
      ∃ p r, s.goesTo j = some (p, r) ∧ s.crossingHolds h.val p r = true := by
    cases s.goesTo j with
    | none => simp
    | some g => exact ⟨fun h => ⟨g.1, g.2, rfl, h⟩, fun ⟨_, _, e, h⟩ => by cases e; exact h⟩
  refine ⟨fun early => stays_of rfl ?_, fun valid full => stays_of rfl ?_, fun late valid room => goes_of rfl ?_, fun f late bad => goes_of rfl ?_⟩
  · simp only [busy, early, decide_true, Bool.true_or, if_true]
  · simp only [busy, valid, full_iff.mpr full, Option.isNone_none, Bool.and_self, Bool.or_true, if_true]
  · simp only [busy, valid, Bool.eq_false_iff.mpr fun h => room (full_iff.mp h), decide_eq_false (Nat.not_lt.mpr late), Bool.and_false, Bool.or_self,
      Bool.false_eq_true, if_false]
  · simp only [busy, bad, decide_eq_false (Nat.not_lt.mpr late), Option.isNone_some, Bool.false_and, Bool.or_self, Bool.false_eq_true, if_false]

/-! ## Works and tartlets (R340 to R359, R516) -/

/-- A cluster that is up hands the next work's descriptors to its tartlets. -/
theorem workDispatch_goes (s : State) (c : Fin 64) :
    (s.clusterUp c.val = false ∨ s.nextWork c.val = none → Stays (.workDispatch c) s) ∧
    (∀ w, s.clusterUp c.val = true → s.nextWork c.val = some w → (s.model w.model).placeFor w.gen = none → Stays (.workDispatch c) s) ∧
    (∀ w p, s.clusterUp c.val = true → s.nextWork c.val = some w → (s.model w.model).placeFor w.gen = some p →
      let mine := (p.users w.replica).filter fun t => t / 64 == c.val
      let hand (a : State) (t : Nat) : State := a.setTartlet t { a.tartlet t with queue := (a.tartlet t).queue ++
        (descriptorsFor (s.model w.model).image w.model w.id p (((p.tartlets w.replica).findIdx? (· == t)).getD 0)).map fun d => ⟨w.id, d⟩ }
      Goes (.workDispatch c) s ((mine.foldl hand s).updWork w.id fun v =>
        { v with undispatched := v.undispatched.filter (· != c.val), todo := v.todo ++ mine })) := by
  refine ⟨fun idle => stays_of rfl ?_, fun w up next lost => stays_of rfl ((if_neg (by simp [up])).trans ?_),
    fun w p up next placed => goes_of rfl ((if_neg (by simp [up])).trans ?_)⟩
  · obtain down | none_ := idle
    · exact if_pos (by simp [down])
    · simp only [none_, ite_self]
  · simp only [next, lost]
  · simp only [next, placed]

/-- A tartlet runs its next descriptor, and the last one of a work ends it. -/
theorem descriptorComplete_goes {s : State} {t : Fin 4096} {d : Descriptor} {ds : List Descriptor} (queue : (s.tartlet t.val).queue = d :: ds) :
    ((s.data.works.find? fun w => w.id == d.work) = none → Goes (.descriptorComplete t) s (s.setTartlet t.val { s.tartlet t.val with queue := ds })) ∧
    (∀ w, (s.data.works.find? fun w => w.id == d.work) = some w →
      let r := runDescriptor (s.tartlet t.val) (modelCtx w.model) (s.model w.model).image d.bytes w.vec
      let w1 : Work := { w with nonFinite := w.nonFinite || r.2, todo := if ∃ e ∈ ds, e.work = d.work then w.todo else w.todo.filter (· != t.val) }
      let u := (s.setTartlet t.val { r.1 with queue := ds }).updWork w.id fun _ => w1
      let last := w1.todo = [] ∧ w1.undispatched = [] ∧ w1.crossing = []
      (¬ last → Goes (.descriptorComplete t) s u) ∧ (last → Goes (.descriptorComplete t) s (u.finishWork w1 t.val))) := by
  have more : (ds.any fun e => e.work == d.work) = true ↔ ∃ e ∈ ds, e.work = d.work := by simp
  refine ⟨fun gone => goes_of rfl ?_, fun w found => ⟨fun goes_ => goes_of rfl ?_, fun last => goes_of rfl ?_⟩⟩
  · simp only [queue, gone]
  · simp only [queue, found, more]
    exact if_neg (by simpa [and_assoc] using goes_)
  · simp only [queue, found, more]
    exact if_pos (by simpa [and_assoc] using last)

/-! ## ECC errors of a tartlet (R353, R516) -/

/-- The scoring that an ECC error ends, if its work is still there. -/
def State.eccEnds (s : State) (work : Nat) : State :=
  match s.data.works.find? fun w => w.id == work with
  | some w => (s.dropWork w.id false).failScoring w.src w.model w.tick w.epoch w.vec.flags St.hwFault 0xFFFF
  | none => s

theorem eccEnds_none {s : State} {work : Nat} (h : ∀ w ∈ s.data.works, w.id ≠ work) : s.eccEnds work = s := by
  have none_ : (s.data.works.find? fun w => w.id == work) = none := List.find?_eq_none.mpr fun w mem => by simpa using h w mem
  rw [State.eccEnds, none_]

theorem eccEnds_some {s : State} {work : Nat} {v : Work} (h : (s.data.works.find? fun w => w.id == work) = some v) :
    s.eccEnds work = (s.dropWork v.id false).failScoring v.src v.model v.tick v.epoch v.vec.flags St.hwFault 0xFFFF := by
  rw [State.eccEnds, h]

/-- An ECC error is recorded, marks the slot of a tree array, and ends the work that was running. -/
theorem exec_tartletEccError (s : State) (t : Fin 4096) (region : MemRegion) (a : Nat) :
    let work := ((s.tartlet t.val).queue.head?.map (·.work)).getD 0
    let ctx := ((s.data.works.find? fun w => w.id == work).map fun w => modelCtx w.model).getD 0xFFFF
    let code := match region with | .treeArray _ => 0 | .scratch => 1 | .clusterCache => 2
    let at_ := match region with | .treeArray b => 32000 * b.val + a | _ => a
    let u := s.raise 5 0x0501 4 (be 2 t.val ++ be 1 code ++ be 4 at_ ++ be 4 work) ctx
    ((∀ b, region ≠ .treeArray b) → exec (.tartletEccError t region a) s = finish s (u.eccEnds work)) ∧
    (∀ b : Fin 4, region = .treeArray b →
      let slot := u.slotAt t.val b.val a
      let place := Tbl.find? (slotKey t.val b.val (if slot = 25 then 0 else slot)) u.data.directory
      let name := b.val * 32 + slot
      let marked (d : SlotDir) : State := (u.setTartlet t.val { s.tartlet t.val with
        bad := if (s.tartlet t.val).bad.contains name then (s.tartlet t.val).bad else (s.tartlet t.val).bad ++ [name] }).replicaOut d.model t.val
      let after := match place with | some d => marked d | none => u
      exec (.tartletEccError t region a) s = finish s (after.eccEnds work)) := by
  have ctx (work : Nat) : (match s.data.works.find? fun w => w.id == work with | some w => modelCtx w.model | none => 0xFFFF) =
      ((s.data.works.find? fun w => w.id == work).map fun w => modelCtx w.model).getD 0xFFFF := by
    cases s.data.works.find? fun w => w.id == work <;> rfl
  dsimp only
  rw [← ctx]
  refine ⟨fun other => ?_, fun b tree => ?_⟩
  · cases region with
    | treeArray b => exact absurd rfl (other b)
    | scratch => rfl
    | clusterCache => rfl
  · subst tree
    rfl

/-- What an ECC error does, by its place and by whether its work is still there. -/
theorem tartletEccError_goes (s : State) (t : Fin 4096) (region : MemRegion) (a : Nat) :
    let work := ((s.tartlet t.val).queue.head?.map (·.work)).getD 0
    let w := s.data.works.find? fun w => w.id == work
    let ctx := (w.map fun w => modelCtx w.model).getD 0xFFFF
    let code := match region with | .treeArray _ => 0 | .scratch => 1 | .clusterCache => 2
    let at_ := match region with | .treeArray b => 32000 * b.val + a | _ => a
    let u := s.raise 5 0x0501 4 (be 2 t.val ++ be 1 code ++ be 4 at_ ++ be 4 work) ctx
    ((∀ b, region ≠ .treeArray b) → (∀ w ∈ u.data.works, w.id ≠ work) → Goes (.tartletEccError t region a) s u) ∧
    (∀ v, (∀ b, region ≠ .treeArray b) → (u.data.works.find? fun w => w.id == work) = some v →
      Goes (.tartletEccError t region a) s ((u.dropWork v.id false).failScoring v.src v.model v.tick v.epoch v.vec.flags St.hwFault 0xFFFF)) ∧
    (∀ b : Fin 4, region = .treeArray b →
      let slot := u.slotAt t.val b.val a
      let place := Tbl.find? (slotKey t.val b.val (if slot = 25 then 0 else slot)) u.data.directory
      let name := b.val * 32 + slot
      let marked (d : SlotDir) : State := (u.setTartlet t.val { s.tartlet t.val with
        bad := if (s.tartlet t.val).bad.contains name then (s.tartlet t.val).bad else (s.tartlet t.val).bad ++ [name] }).replicaOut d.model t.val
      let after := match place with | some d => marked d | none => u
      ((∀ w ∈ after.data.works, w.id ≠ work) → Goes (.tartletEccError t region a) s after) ∧
      (∀ v, (after.data.works.find? fun w => w.id == work) = some v →
        Goes (.tartletEccError t region a) s ((after.dropWork v.id false).failScoring v.src v.model v.tick v.epoch v.vec.flags St.hwFault 0xFFFF))) := by
  obtain ⟨plain, tree⟩ := exec_tartletEccError s t region a
  exact ⟨fun other gone => goes_of (plain other) (eccEnds_none gone), fun v other found => goes_of (plain other) (eccEnds_some found),
    fun b slot => ⟨fun gone => goes_of (tree b slot) (eccEnds_none gone), fun v found => goes_of (tree b slot) (eccEnds_some found)⟩⟩

/-! ## Sequences (R396 to R402) -/

/-- A sequence steps the scoring whose turn it is. -/
theorem sequenceStep_goes (s : State) (i : Fin 65536) :
    let turn (q : Scored) : Bool := q.seq == i.val && (match q.src with
      | .die p => !s.verdictDue p q.model (q.tick * q.epoch - 1)
      | .request n => (s.seq i.val).order.head? == some n)
    (s.data.scored.find? turn = none → Stays (.sequenceStep i) s) ∧
    (∀ q, s.data.scored.find? turn = some q →
      let e := s.seq i.val
      let m := s.model q.model
      let r := seqStep m.image q.block e.state (m.baseline.at (q.tick * q.epoch * unit))
      let steps := (e.steps + 1) % 2 ^ 64
      let t : State := { s with data := { s.data with scored := s.data.scored.filter fun v => v != q } }
      let u := t.setSeq i.val { e with steps := steps, state := r.state }
      Goes (.sequenceStep i) s (match q.src with
        | .die p => (u.verdict p (q.tick * q.epoch)
            (verdictBytes q.tick (modelId q.model) St.ok 0xFFFF p 1 q.flags q.block (steps % 2 ^ 32) r.alarms r.outs)).sweepModel q.model
        | .request n => u.respond n St.ok (responseBytes (modelId q.model) q.flags q.block ++ stepBytes (steps % 2 ^ 32) r.alarms r.outs))) := by
  have joined (f : Scored → Bool) : (s.data.scored.filter fun q => q.seq == i.val).find? f = s.data.scored.find? fun q => q.seq == i.val && f q := by
    rw [List.find?_filter]
    simp only [Bool.decide_and, Bool.decide_eq_true]
  refine ⟨fun none_ => stays_of rfl ?_, fun q found => goes_of rfl ?_⟩
  · dsimp only
    rw [joined]
    split
    · rfl
    · next q found => exact absurd (none_.symm.trans found) (by simp)
  · dsimp only
    rw [joined]
    split
    · next none_ => exact absurd (none_.symm.trans found) (by simp)
    · next q' found' =>
      obtain rfl : q = q' := Option.some.inj (found.symm.trans found')
      cases q.src <;> rfl

/-! ## Passes, placements, maps and unloads (R374 to R384) -/

/-- A streamed pass loads chunk by chunk, and its last chunk finishes its works. -/
theorem streamChunkLoaded_goes (s : State) (k : ModelKey) :
    let n := keyNum k
    let m := s.model n
    (m.pass = none → Stays (.streamChunkLoaded k) s) ∧
    (∀ q, m.pass = some q →
      let works := s.data.works.filter fun w => q.works.contains w.id
      let clusters := ((works.head?.bind fun w => m.placeFor w.gen).map fun p => (p.clusters 0).length).getD 1
      (q.chunk + 1 < passChunks (mdEns m.image) clusters →
        Goes (.streamChunkLoaded k) s (s.setModel n { m with pass := some { q with chunk := q.chunk + 1 } })) ∧
      (passChunks (mdEns m.image) clusters ≤ q.chunk + 1 →
        Goes (.streamChunkLoaded k) s (works.foldl (fun t w => t.finishWork w 0) (s.setModel n { m with pass := none })))) := by
  have clusters (ws : List Work) : (match ws.head? with
        | some w => (((s.model (keyNum k)).placeFor w.gen).map fun p => (p.clusters 0).length).getD 1
        | none => 1) =
      ((ws.head?.bind fun w => (s.model (keyNum k)).placeFor w.gen).map fun p => (p.clusters 0).length).getD 1 := by
    cases ws.head? <;> rfl
  have runs (q : StreamPass) (pass : (s.model (keyNum k)).pass = some q) : exec (.streamChunkLoaded k) s = finish s
      (let works := s.data.works.filter fun w => q.works.contains w.id
       let clusters := match works.head? with
         | some w => (((s.model (keyNum k)).placeFor w.gen).map fun p => (p.clusters 0).length).getD 1
         | none => 1
       if q.chunk + 1 < passChunks (mdEns (s.model (keyNum k)).image) clusters then
         s.setModel (keyNum k) { s.model (keyNum k) with pass := some { q with chunk := q.chunk + 1 } }
       else works.foldl (fun t w => t.finishWork w 0) (s.setModel (keyNum k) { s.model (keyNum k) with pass := none })) := by
    refine congrArg (finish s) ?_
    simp only [pass] <;> rfl
  refine ⟨fun idle => stays_of rfl ?_, fun q pass => ⟨fun more => goes_of (runs q pass) ?_, fun last => goes_of (runs q pass) ?_⟩⟩
  · simp only [idle]
  · dsimp only
    rw [clusters]
    exact if_pos more
  · dsimp only
    rw [clusters]
    exact if_neg (Nat.not_lt.mpr last)

/-- A pass starts with at most four works of one placement. -/
theorem streamPassStart_goes (s : State) (k : ModelKey) :
    let n := keyNum k
    let m := s.model n
    let all := s.data.works.filter fun w => w.model == n && w.pass
    let gen := (all.head?.map (·.gen)).getD m.gen
    let ready := (all.filter fun w => w.gen == gen).take 4
    let starts := m.pass = none ∧ ready ≠ [] ∧ ∃ p, m.placeFor gen = some p ∧ p.mode = 1 ∧ s.eligible m p 0 = true
    (starts → Goes (.streamPassStart k) s (s.setModel n { m with pass := some ⟨ready.map (·.id), 0⟩ })) ∧
    (¬ starts → Stays (.streamPassStart k) s) := by
  refine ⟨fun ⟨idle, some_, p, placed, mode, may⟩ => goes_of rfl ?_, fun none_ => stays_of rfl ?_⟩
  · dsimp only at placed ⊢
    rw [placed]
    exact if_neg (by simpa [idle, mode, may] using some_)
  · dsimp only at none_ ⊢
    split
    · rfl
    · next p placed =>
      refine if_pos ?_
      refine Classical.byContradiction fun all => ?_
      refine none_ ⟨?_, ?_, p, placed, ?_⟩ <;> simp_all

/-- A copy completes once. -/
theorem placeCopyComplete_goes (s : State) (k : ModelKey) :
    let n := keyNum k
    let m := s.model n
    (∀ x, m.next = some x → x.copied = false →
      Goes (.placeCopyComplete k) s (s.setModel n { m with next := some { x with copied := true, copiedAt := s.now } })) ∧
    (m.next = none ∨ (∃ x, m.next = some x ∧ x.copied = true) → Stays (.placeCopyComplete k) s) := by
  refine ⟨fun x next new => goes_of rfl ?_, fun done => stays_of rfl ?_⟩
  · simp only [next, new, Bool.false_eq_true, if_false]
  · obtain none_ | ⟨x, next, copied⟩ := done
    · simp only [none_]
    · simp only [next, copied, if_true]

/-- A placement whose copy is done takes effect at its tick. -/
theorem placementEffective_goes (s : State) (k : ModelKey) :
    let n := keyNum k
    let m := s.model n
    (∀ x t, m.next = some x → x.staged = false → x.copied = true → s.dueTick (x.copiedAt + 2000) = some t →
      Goes (.placementEffective k) s ((s.applyPlace n).finalAt .agg x.ticket St.ok (placeResults t s.svcFlags x.plan) (cstampOf true t))) ∧
    (m.next = none ∨ (∃ x, m.next = some x ∧ (x.staged = true ∨ x.copied = false ∨ s.dueTick (x.copiedAt + 2000) = none)) →
      Stays (.placementEffective k) s) := by
  refine ⟨fun x t next free copied due => goes_of rfl ?_, fun waits => stays_of rfl ?_⟩
  · simp only [next, free, copied, due, Bool.not_true, Bool.or_self, Bool.false_eq_true, if_false]
  · obtain none_ | ⟨x, next, staged | uncopied | early⟩ := waits
    · simp only [none_]
    · simp only [next, staged, Bool.true_or, if_true]
    · simp only [next, uncopied, Bool.not_false, Bool.or_true, if_true]
    · simp only [next, early, ite_self]

/-- A model that is to be unloaded is not the empty one. -/
theorem unload_of {s : State} {n t : Nat} (marked : (s.model n).unloadAt = some t) : s.unload n =
    if (s.model n).st = 1 then s.discardLoad n
    else
      let s1 := match (s.model n).next with
        | some x => (s.dropNext n).final .agg x.ticket St.state
        | none => s
      (s1.setModel n { s1.model n with st := 5, unloadAt := none, mapLoad := none, mapNext := none }).sweepModel n := by
  refine if_neg fun empty => ?_
  rw [eq_of_beq empty] at marked
  cases marked

/-- An unload takes effect at its tick, and a model under way goes on leaving. -/
theorem unloadEffective_goes (s : State) (k : ModelKey) :
    let n := keyNum k
    let m := s.model n
    (∀ t, m.unloadAt = some t → s.dueTick (t + 2000) = none → Stays (.unloadEffective k) s) ∧
    (∀ t u, m.unloadAt = some t → s.dueTick (t + 2000) = some u → m.st = 1 →
      Goes (.unloadEffective k) s ((s.setModel n {}).zeroPages (modelCtx n) m.at_)) ∧
    (∀ t u, m.unloadAt = some t → s.dueTick (t + 2000) = some u → m.st ≠ 1 → m.next = none →
      Goes (.unloadEffective k) s ((s.setModel n { m with st := 5, unloadAt := none, mapLoad := none, mapNext := none }).sweepModel n)) ∧
    (∀ t u x, m.unloadAt = some t → s.dueTick (t + 2000) = some u → m.st ≠ 1 → m.next = some x →
      let v := (s.dropNext n).final .agg x.ticket St.state
      Goes (.unloadEffective k) s ((v.setModel n { v.model n with st := 5, unloadAt := none, mapLoad := none, mapNext := none }).sweepModel n)) ∧
    (m.unloadAt = none → m.st = 5 → Goes (.unloadEffective k) s (s.sweepModel n)) ∧
    (m.unloadAt = none → m.st ≠ 5 → Stays (.unloadEffective k) s) := by
  refine ⟨fun t marked early => stays_of rfl ?_, fun t u marked due loads => goes_of rfl ?_, fun t u marked due stands none_ => goes_of rfl ?_,
    fun t u x marked due stands next => goes_of rfl ?_, fun unmarked leaves => goes_of rfl ?_, fun unmarked stands => stays_of rfl ?_⟩
  · simp only [marked, early, Option.isSome_none, Bool.false_eq_true, if_false]
  · simp only [marked, due, Option.isSome_some, if_true, unload_of marked, loads]
    rfl
  · simp only [marked, due, Option.isSome_some, if_true, unload_of marked, stands, if_false, none_]
  · simp only [marked, due, Option.isSome_some, if_true, unload_of marked, stands, if_false, next]
  · simp only [unmarked, leaves, if_true]
  · simp only [unmarked, stands, if_false]

/-- A map takes effect at its tick. -/
theorem featureMapEffective_goes (s : State) (k : ModelKey) :
    let n := keyNum k
    let m := s.model n
    (∀ b due u, m.mapNext = some (b, due) → s.dueTick due = some u → Goes (.featureMapEffective k) s (s.setModel n { m with map := b, mapNext := none })) ∧
    (m.mapNext = none ∨ (∃ b due, m.mapNext = some (b, due) ∧ s.dueTick due = none) → Stays (.featureMapEffective k) s) := by
  refine ⟨fun b due u next at_ => goes_of (u := s.settleMap (keyNum k)) rfl ?_, fun waits => stays_of (u := s.settleMap (keyNum k)) rfl ?_⟩
  · simp only [State.settleMap, next, at_, Option.isSome_some, if_true]
  · obtain none_ | ⟨b, due, next, early⟩ := waits
    · simp only [State.settleMap, none_]
    · simp only [State.settleMap, next, early, Option.isSome_none, Bool.false_eq_true, if_false]

/-- A load without a chunk for a second ends, of an image and of a map. -/
theorem loadTimeout_goes (s : State) (k : ModelKey) :
    let n := keyNum k
    let m := s.model n
    let loadOver := m.st = 1 ∧ ∃ l, m.load = some l ∧ l.last + 1000000000 ≤ s.now
    let t := if loadOver then (s.setModel n {}).zeroPages (modelCtx n) m.at_ else s
    let mapOver := ∃ l, (t.model n).mapLoad = some l ∧ l.last + 1000000000 ≤ s.now ∧ s.stagedChunk n = false
    (mapOver → Goes (.loadTimeout k) s (t.setModel n { t.model n with mapLoad := none })) ∧
    (¬ mapOver → Goes (.loadTimeout k) s t) := by
  have images : (match (s.model (keyNum k)).load with
        | some l => if (s.model (keyNum k)).st = 1 && l.last + 1000000000 ≤ s.now then s.discardLoad (keyNum k) else s
        | none => s) =
      if (s.model (keyNum k)).st = 1 ∧ ∃ l, (s.model (keyNum k)).load = some l ∧ l.last + 1000000000 ≤ s.now
      then (s.setModel (keyNum k) {}).zeroPages (modelCtx (keyNum k)) (s.model (keyNum k)).at_ else s := by
    cases load : (s.model (keyNum k)).load with
    | none => simp
    | some l => simp [State.discardLoad]
  have runs (t : State) (h : (if (s.model (keyNum k)).st = 1 ∧ ∃ l, (s.model (keyNum k)).load = some l ∧ l.last + 1000000000 ≤ s.now
      then (s.setModel (keyNum k) {}).zeroPages (modelCtx (keyNum k)) (s.model (keyNum k)).at_ else s) = t) :
      exec (.loadTimeout k) s = finish s (match (t.model (keyNum k)).mapLoad with
        | some l => if l.last + 1000000000 ≤ s.now && !s.stagedChunk (keyNum k) then t.setModel (keyNum k) { t.model (keyNum k) with mapLoad := none } else t
        | none => t) := by
    subst h
    rw [← images]
    rfl
  refine ⟨fun ⟨l, map, old, unstaged⟩ => goes_of (runs _ rfl) ?_, fun young => goes_of (runs _ rfl) ?_⟩
  · simp only [map, old, unstaged, decide_true, Bool.not_false, Bool.and_self, if_true]
  · split
    · next l map => exact if_neg fun late => young ⟨l, map, by simpa using late⟩
    · rfl

/-! ## Replica scans (R376, R401) -/

/-- A scan of replicas begins at its interval. -/
theorem replicaDigestScan_goes (s : State) (k : ModelKey) :
    let n := keyNum k
    let m := s.model n
    let due := m.serving = true ∧ m.scanning = false ∧ ∃ p, m.place = some p ∧ p.mode = 0 ∧ m.scannedAt + p.intervalMs * 1000000 ≤ s.now
    (due → Goes (.replicaDigestScan k) s (s.setModel n { m with scanning := true, scannedAt := s.now })) ∧
    (¬ due → Stays (.replicaDigestScan k) s) := by
  refine ⟨fun ⟨serves, idle, p, place, mode, old⟩ => goes_of rfl ?_, fun none_ => stays_of rfl ?_⟩
  · dsimp only at place ⊢
    simp only [place]
    exact if_neg (by simp [serves, idle, mode, old])
  · dsimp only at none_ ⊢
    split
    · next p place =>
      refine if_pos ?_
      refine Classical.byContradiction fun all => ?_
      refine none_ ?_
      simp only [Bool.or_eq_true, Bool.not_eq_true', bne_iff_ne, decide_eq_true_eq, not_or, Nat.not_lt, Bool.not_eq_true, Bool.not_eq_false, Classical.not_not] at all
      obtain ⟨⟨⟨serves, mode⟩, idle⟩, old⟩ := all
      exact ⟨serves, idle, p, place, mode, old⟩
    · rfl

/-- The digest of a replica's slots: what a scan found in place of the slots that differ. -/
def foundDigest (refs : List (Nat × Nat × Nat × Nat)) (fs : List SlotFault) : Nat :=
  crc64 (refs.map fun q =>
    match fs.find? fun f => f.pos == q.1 && f.bank.val == q.2.1 && (f.slot == q.2.2.1 || q.2.2.1 == 25) with
    | some f => be 8 f.found.toNat
    | none => be 8 q.2.2.2).flatten

theorem foundDigest_nil (refs : List (Nat × Nat × Nat × Nat)) : foundDigest refs [] = crc64 (refs.map fun q => be 8 q.2.2.2).flatten := rfl

/-- The differences of a scan that lie in replica `r`. -/
def foundIn (refs : List (Nat × Nat × Nat × Nat)) (found : List SlotFault) (r : Nat) : List SlotFault :=
  (found.filter fun f => refs.any fun q => q.1 == f.pos && q.2.1 == f.bank.val && (q.2.2.1 == f.slot || q.2.2.1 == 25)).filter fun f => f.replica.val == r

/-- What differs in a scan is compared, and a replica without a difference keeps its digest. -/
theorem replicaDigestComplete_goes (s : State) (k : ModelKey) :
    let n := keyNum k
    let m := s.model n
    (∀ found, m.place = none ∨ m.scanning = false → Stays (.replicaDigestComplete k found) s) ∧
    (∀ p found, m.place = some p → m.scanning = true →
      let refs := references m.image p
      let at_ (f : SlotFault) (q : Nat × Nat × Nat × Nat) : Bool := q.1 == f.pos && q.2.1 == f.bank.val && (q.2.2.1 == f.slot || q.2.2.1 == 25)
      let of (r : Nat) : List SlotFault := (found.filter fun f => refs.any (at_ f)).filter fun f => f.replica.val == r
      let t := (List.range p.replicas).foldl (fun t r => t.replicaDiffers n r p (of r)) s
      ∃ digests : List Nat, digests.length = p.replicas ∧
        Goes (.replicaDigestComplete k found) s (t.setModel n { t.model n with scanning := false, lastScan := s.cs, digests := digests }) ∧
        ∀ r, r < p.replicas → of r = [] → digests[r]? = some (crc64 (refs.map fun q => be 8 q.2.2.2).flatten)) := by
  refine ⟨fun found idle => stays_of rfl ?_, fun p found place scans =>
    ⟨(List.range p.replicas).map fun r => foundDigest (references (s.model (keyNum k)).image p) (foundIn (references (s.model (keyNum k)).image p) found r),
      by rw [List.length_map, List.length_range], goes_of rfl ?_, fun r low same => ?_⟩⟩
  · dsimp only
    obtain none_ | stopped := idle
    · rw [none_]
    · split
      · exact if_pos (by simp [stopped])
      · rfl
  · dsimp only
    rw [place]
    exact if_neg (by simp [scans])
  · rw [List.getElem?_map, List.getElem?_range low, ← foundDigest_nil, ← same]
    rfl

/-! ## The steps of a request (R385 to R392) -/

/-- The requester's state as a request of it is taken: a queue pair counts it in flight. -/
theorem exec_requestReceive {q : RequestIn} {o : Word} {s n : State} (ready : s.dev.fwReady = true)
    (from_ : q.req = .eth o ∧ n = s ∨ ∃ i, q.req = .qp i ∧ n = s.setQp i { s.qp i with inFlight := (s.qp i).inFlight + 1 }) :
    exec (.requestReceive q) s = finish s (n.takeRequest q) := by
  have passes : ¬ (!s.dev.fwReady) = true := by simp [ready]
  refine congrArg (finish s) ((if_neg passes).trans ?_)
  obtain ⟨eth, rfl⟩ | ⟨i, qp, rfl⟩ := from_
  · simp only [eth]
  · simp only [qp]

/-- The checks of a request that no earlier one repeats (R388, steps 5 to 10). -/
def State.freshRequest (t : State) (q : RequestIn) (yellow : Bool) : State :=
  if !t.requestAllowed q.req (rqTenant q.header) then
    (t.violation q.req (rqTenant q.header) 0 (rqModel q.header) (0, 0)).refuseRequest q St.ok (zeros 76)
  else if t.sys.profile == .h then t.refuseRequest q St.busy
  else if !t.requestReady q.header then t.refuseRequest q St.state
  else if !payloadValid q.header q.payload then t.refuseRequest q St.param
  else if t.requestBusy (rqTenant q.header) yellow then t.refuseRequest q St.busy
  else t.acceptRequest q

/-- What a request does, once firmware is ready. -/
theorem requestReceive_goes {q : RequestIn} {o : Word} {s n : State} (ready_ : s.dev.fwReady = true)
    (from_ : q.req = .eth o ∧ n = s ∨ ∃ i, q.req = .qp i ∧ n = s.setQp i { s.qp i with inFlight := (s.qp i).inFlight + 1 }) :
    let h := q.header
    let c := rqTenant h
    let met := if c < 1024 then n.meter c q.yellow else (n, Colour.green)
    let t := met.1
    let stored := t.data.stored.find? fun r => r.req == q.req && r.tenant == c && r.tag == rqTag h && t.now < r.since + 10000000
    let good := headerGood h = true ∧ byteAt h 0 = 2
    let passed := good ∧ met.2 ≠ .red ∧ met.2 ≠ .dropped
    let sized := passed ∧ fld h 18 2 ≤ 4096 ∧ fld h 18 2 = q.payload.length
    let intact := sized ∧ fld h 20 4 = crc32c q.payload
    let new := intact ∧ (t.data.requests.any fun e => e.2.req == q.req && rqTenant e.2.header == c && rqTag e.2.header == rqTag h) = false
    let fresh := new ∧ stored = none
    let allowed := fresh ∧ t.requestAllowed q.req c = true
    let ready := allowed ∧ t.sys.profile ≠ .h ∧ t.requestReady h = true
    let valid := ready ∧ payloadValid h q.payload = true
    let c' : Instr := .requestReceive q
    (¬ good → Goes c' s (({ n with data := { n.data with reqBadHcrc := satInc 64 n.data.reqBadHcrc } } : State).dropRequest q.req)) ∧
    (good → ¬ passed → Goes c' s (match q.req with | .qp _ => t.refuseRequest q St.busy | _ => t)) ∧
    (passed → ¬ sized → Goes c' s (t.refuseRequest q St.length)) ∧
    (sized → ¬ intact → Goes c' s (t.refuseRequest q St.crc)) ∧
    (intact → ¬ new → Goes c' s (({ t with data := { t.data with reqDiscards := satInc 64 t.data.reqDiscards } } : State).dropRequest q.req)) ∧
    (∀ r, new → stored = some r → Goes c' s (t.sendResponse q.req q.port.val c
      (some ⟨q.resultAddr.toNat, q.resultSize.toNat, true, match q.req with | .qp i => (t.qp i).sqHead | _ => 0⟩) r.bytes)) ∧
    (fresh → ¬ allowed → Goes c' s ((t.violation q.req c 0 (rqModel h) (0, 0)).refuseRequest q St.ok (zeros 76))) ∧
    (allowed → t.sys.profile = .h → Goes c' s (t.refuseRequest q St.busy)) ∧
    (allowed → t.sys.profile ≠ .h → t.requestReady h = false → Goes c' s (t.refuseRequest q St.state)) ∧
    (ready → ¬ valid → Goes c' s (t.refuseRequest q St.param)) ∧
    (valid → t.requestBusy c (met.2 == .yellow) = true → Goes c' s (t.refuseRequest q St.busy)) ∧
    (valid → t.requestBusy c (met.2 == .yellow) = false → Goes c' s (t.acceptRequest q)) := by
  intro h c met t stored good passed sized intact new fresh allowed ready valid c'
  have runs := exec_requestReceive ready_ from_
  have atMeter (g : good) : n.takeRequest q = _ := if_neg (by simpa [good] using g)
  have atSize (p : passed) : n.takeRequest q = _ := (atMeter p.1).trans (if_neg (by rw [Bool.or_eq_true, beq_iff_eq, beq_iff_eq, not_or]; exact p.2))
  have atCrc (z : sized) : n.takeRequest q = _ := (atSize z.1).trans (if_neg (by simpa using z.2))
  have atDup (i : intact) : n.takeRequest q = _ := (atCrc i.1).trans (if_neg (by simpa using i.2))
  have atStore (w : new) : n.takeRequest q = _ := (atDup w.1).trans (if_neg (Bool.eq_false_iff.mp w.2))
  have first (f : fresh) : n.takeRequest q = t.freshRequest q (met.2 == .yellow) := by
    refine (atStore f.1).trans ?_
    split
    · next r held => exact absurd (f.2.symm.trans held) (by simp)
    · rfl
  have atHeat (a : allowed) : n.takeRequest q = _ := (first a.1).trans (if_neg (by rw [Bool.not_eq_true', Bool.not_eq_false]; exact a.2))
  have atModel (a : allowed) (cool : t.sys.profile ≠ .h) : n.takeRequest q = _ := (atHeat a).trans (if_neg (by rw [beq_iff_eq]; exact cool))
  have atForm (r : ready) : n.takeRequest q = _ := (atModel r.1 r.2.1).trans (if_neg (by rw [Bool.not_eq_true', Bool.not_eq_false]; exact r.2.2))
  have atBound (v : valid) : n.takeRequest q = _ := (atForm v.1).trans (if_neg (by rw [Bool.not_eq_true', Bool.not_eq_false]; exact v.2))
  refine ⟨fun bad => goes_of runs (if_pos ?_), fun g drop => goes_of runs ((atMeter g).trans ((if_pos ?_).trans ?_)),
    fun p long => goes_of runs ((atSize p).trans (if_pos ?_)), fun z bad => goes_of runs ((atCrc z).trans (if_pos ?_)),
    fun i dup => goes_of runs ((atDup i).trans (if_pos ?_)), fun r w held => goes_of runs ((atStore w).trans ?_),
    fun f deny => goes_of runs ((first f).trans (if_pos ?_)), fun a hot => goes_of runs ((atHeat a).trans (if_pos ?_)),
    fun a cool lost => goes_of runs ((atModel a cool).trans (if_pos ?_)), fun r bad => goes_of runs ((atForm r).trans (if_pos ?_)),
    fun v full => goes_of runs ((atBound v).trans (if_pos full)), fun v room => goes_of runs ((atBound v).trans (if_neg (Bool.eq_false_iff.mp room)))⟩
  · refine Classical.byContradiction fun all => ?_
    exact bad (by simpa [good] using all)
  · rw [Bool.or_eq_true, beq_iff_eq, beq_iff_eq]
    refine Classical.byContradiction fun all => ?_
    exact drop ⟨g, not_or.mp all⟩
  · cases q.req <;> rfl
  · refine Classical.byContradiction fun all => ?_
    exact long ⟨p, by simpa using all⟩
  · refine Classical.byContradiction fun all => ?_
    exact bad ⟨z, by simpa using all⟩
  · refine Classical.byContradiction fun all => ?_
    exact dup ⟨i, Bool.eq_false_iff.mpr all⟩
  · split
    · next r' held' =>
      obtain rfl : r = r' := Option.some.inj (held.symm.trans held')
      rfl
    · next none_ => exact absurd (held.symm.trans none_) (by simp)
  · rw [Bool.not_eq_true']
    exact Bool.eq_false_iff.mpr fun may => deny ⟨f, may⟩
  · rw [beq_iff_eq]
    exact hot
  · rw [Bool.not_eq_true']
    exact lost
  · rw [Bool.not_eq_true']
    exact Bool.eq_false_iff.mpr fun fits => bad ⟨r, fits⟩

/-- A request of no queue pair and no station is not taken. -/
theorem requestReceive_foreign {s : State} {q : RequestIn} (eth : ∀ o, q.req ≠ .eth o) (qp : ∀ i, q.req ≠ .qp i) : Stays (.requestReceive q) s := by
  refine stays_of rfl ?_
  dsimp only
  split
  · rfl
  · split
    · next i same => exact absurd same (qp i)
    · next o same => exact absurd same (eth o)
    · rfl

/-- Settles O49: each event of scoring by its own lemma. -/
theorem scoringMovesWorkAlong : Obligations.ScoringMovesWorkAlong := by
  unfold Obligations.ScoringMovesWorkAlong
  intro s
  refine ⟨fun p empty => stays_of rfl ?_, fun p cls w at_ rest head => bodyIngest_goes head, fun p early => stays_of rfl ?_,
    fun p w due => goes_of rfl ?_, fun h => ?_, fun c => (workDispatch_goes s c).1, fun c => (workDispatch_goes s c).2.1,
    fun c => (workDispatch_goes s c).2.2, fun t empty => stays_of rfl ?_, fun t d ds queue => descriptorComplete_goes queue,
    fun t region a => tartletEccError_goes s t region a, fun i => sequenceStep_goes s i, fun k => ?_, fun q waits => stays_of rfl (if_pos (by simp [waits])),
    fun q o n ready from_ => requestReceive_goes ready from_, fun q eth qp => requestReceive_foreign eth qp, goes_of rfl rfl⟩
  · simp only [empty]
  · have none_ : ((s.die p.val).waits.find? fun w => w.instant + s.cutoffNs p * unit ≤ s.svc) = none :=
      List.find?_eq_none.mpr fun w mem => by simpa using early w mem
    simp only [none_]
  · simp only [due]
    rfl
  · obtain ⟨busy, idle, ticks, asked⟩ := vectorStart_goes s h
    exact ⟨busy, idle, ticks, asked, fun free => stays_of rfl (by simp only [free]), fun j v due runs => vectorComplete_goes runs⟩
  · simp only [empty]
  · obtain ⟨noPass, chunk⟩ := streamChunkLoaded_goes s k
    obtain ⟨copies, copied⟩ := placeCopyComplete_goes s k
    obtain ⟨placed, waits⟩ := placementEffective_goes s k
    obtain ⟨early, loads, unloads, drops, sweeps, stands⟩ := unloadEffective_goes s k
    obtain ⟨mapped, unmapped⟩ := featureMapEffective_goes s k
    obtain ⟨idle, scanned⟩ := replicaDigestComplete_goes s k
    exact ⟨noPass, chunk, streamPassStart_goes s k, copies, copied, placed, waits, early, loads, unloads, drops, sweeps, stands, mapped, unmapped,
      loadTimeout_goes s k, replicaDigestScan_goes s k, idle, scanned⟩

end Sys2Proof.Machine
end

section
/-! Frames, buckets, egress, gates and port states of the fabric -/

namespace Sys2Proof.Machine
open Sys2Proof Sys2Proof.Proofs

/-! ## Frames of the fabric (R124, R439, R449 to R452) -/

theorem frameBad_iff {s : State} {port : Nat} {f : Frame} : s.frameBad port f = true ↔
    f.fcsOk = false ∨ 9216 < f.len ∨ (f.dst.toNat ≠ (s.netPort port).mac ∧ f.dst.toNat ∉ timingMulticast) := by
  simp only [State.frameBad, Bool.or_eq_true, Bool.not_eq_true', decide_eq_true_eq, beq_iff_eq, not_or, or_assoc, ne_eq,
    ← Bool.not_eq_true, List.contains_iff_mem]

/-- One sentence in a frame is kept, sent onward or counted. -/
theorem takeItems_sentence {t : State} {port : Fin 17} {f : Frame} {b : Bytes} :
    let src := BitVec.ofNat 32 (fld f.body 0 4)
    let kept := headerGood (b.take 32) = false ∨ t.isOwn (targetOf b) = true ∨ (t.dtcOf (targetOf b)).isSome = true ∨ targetOf b = 0 ∨
      targetOf b = 0xFFFFFFFF ∨ t.route (targetOf b) = none
    (kept → t.takeItems port f 1 [b] = { t with verbs := { t.verbs with waiting := t.verbs.waiting ++ [(.eth src, b)] } }) ∧
    (∀ o, ¬ kept → t.onward port.val 2 (targetOf b) b = some o → t.takeItems port f 1 [b] =
      ({ t with verbs := { t.verbs with transit := (tagOf (b.take 32), src) :: t.verbs.transit } } : State).sendOnward src 1 f.etherType.toNat 1 [o]) ∧
    (¬ kept → t.onward port.val 2 (targetOf b) b = none → t.takeItems port f 1 [b] = t.countNoRoute port.val) := by
  have kept_iff : (!headerGood (b.take 32) || t.isOwn (targetOf b) || (t.dtcOf (targetOf b)).isSome || targetOf b == 0 || targetOf b == 0xFFFFFFFF ||
      (t.route (targetOf b)).isNone) = true ↔ (headerGood (b.take 32) = false ∨ t.isOwn (targetOf b) = true ∨ (t.dtcOf (targetOf b)).isSome = true ∨
      targetOf b = 0 ∨ targetOf b = 0xFFFFFFFF ∨ t.route (targetOf b) = none) := by
    simp only [Bool.or_eq_true, Bool.not_eq_true', beq_iff_eq, Option.isNone_iff_eq_none, or_assoc]
  have routed {r : Routed} (h : routeSentence port.val (BitVec.ofNat 32 (fld f.body 0 4)) (t, []) b = r) :
      t.takeItems port f 1 [b] = r.1.sendOnward (BitVec.ofNat 32 (fld f.body 0 4)) 1 f.etherType.toNat r.2.length r.2 := by
    subst h
    rfl
  refine ⟨fun kept => (routed (if_pos (kept_iff.mpr kept))).trans rfl, 
    fun o leaves next => routed (r := ({ t with verbs := { t.verbs with transit := (tagOf (b.take 32), BitVec.ofNat 32 (fld f.body 0 4)) :: t.verbs.transit } }, [o]))
      ((if_neg (mt kept_iff.mp leaves)).trans ?_),
    fun leaves none_ => routed (r := (t.countNoRoute port.val, [])) ((if_neg (mt kept_iff.mp leaves)).trans ?_)⟩
  · dsimp only
    rw [next]
    rfl
  · dsimp only
    rw [none_]
    rfl

/-- What a frame at a port does. -/
theorem fabricFrame_goes (s : State) (port : Fin 17) (f : Frame) :
    let p := s.netPort port.val
    let t := s.setNetPort port.val { p with received := satInc 64 p.received }
    let gone := (s.setNetPort port.val { p with discards := satInc 64 p.discards }).bumpCounter .agg (.eth 0) fun c => { c with frames := satInc 64 c.frames }
    let timing := f.etherType = 0x88F7 ∨ f.etherType = 0x8809
    let src := BitVec.ofNat 32 (fld f.body 0 4)
    let bad := f.fcsOk = false ∨ 9216 < f.len ∨ (f.dst.toNat ≠ p.mac ∧ f.dst.toNat ∉ timingMulticast)
    (p.st ≠ .inService → Stays (.fabricFrameReceive port f) s) ∧
    (p.st = .inService → bad → Goes (.fabricFrameReceive port f) s gone) ∧
    (p.st = .inService → ¬ bad → timing → Goes (.fabricFrameReceive port f) s t) ∧
    (p.st = .inService → ¬ bad → ¬ timing → s.frameItems port.val f = none → Goes (.fabricFrameReceive port f) s gone) ∧
    (∀ kind is, p.st = .inService → ¬ bad → ¬ timing → s.frameItems port.val f = some (kind, is) →
      Goes (.fabricFrameReceive port f) s (t.takeItems port f kind is) ∧
      (kind = 5 → Goes (.fabricFrameReceive port f) s (t.takeReduction src (is.headD []))) ∧
      (kind = 6 → Goes (.fabricFrameReceive port f) s (t.portControl port.val (byteAt (is.headD []) 0) (byteAt (is.headD []) 1))) ∧
      (kind = 7 → Goes (.fabricFrameReceive port f) s (t.takeNotice .fabric (is.headD [])))) ∧
    (∀ b, p.st = .inService → ¬ bad → ¬ timing → s.frameItems port.val f = some (1, [b]) →
      let kept := headerGood (b.take 32) = false ∨ s.isOwn (targetOf b) = true ∨ (s.dtcOf (targetOf b)).isSome = true ∨ targetOf b = 0 ∨
        targetOf b = 0xFFFFFFFF ∨ s.route (targetOf b) = none
      (kept → Goes (.fabricFrameReceive port f) s { t with verbs := { t.verbs with waiting := t.verbs.waiting ++ [(.eth src, b)] } }) ∧
      (∀ o, ¬ kept → t.onward port.val 2 (targetOf b) b = some o → Goes (.fabricFrameReceive port f) s
        (({ t with verbs := { t.verbs with transit := (tagOf (b.take 32), src) :: t.verbs.transit } }).sendOnward src 1 f.etherType.toNat 1 [o])) ∧
      (¬ kept → t.onward port.val 2 (targetOf b) b = none → Goes (.fabricFrameReceive port f) s (t.countNoRoute port.val))) := by
  intro p t gone timing src bad
  have serves (up : p.st = .inService) : ¬ ((p.st != .inService) = true) := by simp [up]
  have taken {kind : Nat} {is : List Bytes} (up : p.st = .inService) (good : ¬ bad) (plain : ¬ timing) (items : s.frameItems port.val f = some (kind, is)) :
      exec (.fabricFrameReceive port f) s = finish s (t.takeItems port f kind is) := by
    refine congrArg (finish s) ((if_neg (serves up)).trans ((if_neg (mt frameBad_iff.mp good)).trans ((if_neg (by simpa [timing] using plain)).trans ?_)))
    rw [items]
  refine ⟨fun down => stays_of rfl (if_pos (bne_iff_ne.mpr down)), fun up b => goes_of rfl ((if_neg (serves up)).trans (if_pos (frameBad_iff.mpr b))),
    fun up good time => goes_of rfl ((if_neg (serves up)).trans ((if_neg (mt frameBad_iff.mp good)).trans (if_pos (by simpa [timing] using time)))),
    fun up good plain none_ => goes_of rfl ((if_neg (serves up)).trans ((if_neg (mt frameBad_iff.mp good)).trans
      ((if_neg (by simpa [timing] using plain)).trans ?_))),
    fun kind is up good plain items => ⟨taken up good plain items, ?_, ?_, ?_⟩, fun b up good plain items => ?_⟩
  · rw [none_]
    rfl
  · rintro rfl
    exact taken up good plain items
  · rintro rfl
    exact taken up good plain items
  · rintro rfl
    exact taken up good plain items
  · obtain ⟨keeps, leaves, lost⟩ := takeItems_sentence (t := t) (port := port) (f := f) (b := b)
    have goes := taken up good plain items
    exact ⟨fun kept => goes_of goes (keeps kept), fun o out next => goes_of goes (leaves o out next), fun out none_ => goes_of goes (lost out none_)⟩

/-! ## Buckets and egress (R454 to R466) -/

/-- A policer's refill, with a configuration in force and with a new one. -/
theorem policerRefill_spec (k : Nat) (p : Policer) :
    (p.next = none → p.refill k = { p with
      usedC := p.usedC - k * p.cfg.cir, usedP := p.usedP - k * p.cfg.pir, usedF := p.usedF - k * p.cfg.fbRate }) ∧
    (∀ n, p.next = some n → p.refill k = { p with cfg := n, next := none, usedC := 0, usedP := 0, usedF := 0 }) := by
  refine ⟨fun none_ => ?_, fun n next => ?_⟩
  · rw [Policer.refill, none_]
  · rw [Policer.refill, next]

/-- The first of the strict queues whose head may start is chosen. -/
theorem choose_strict {p : Port} {port at_ q : Nat} (strict : q ∈ [0, 1, 2]) (may : p.eligible port q at_ = true)
    (before : ∀ r < q, p.eligible port r at_ = false) : p.choose port at_ = (p, some q) := by
  have first : ([0, 1, 2].find? fun q => p.eligible port q at_) = some q := by
    simp only [List.mem_cons, List.not_mem_nil, or_false] at strict
    obtain rfl | rfl | rfl := strict
    · simp [may]
    · simp [may, before 0 (by decide)]
    · simp [may, before 0 (by decide), before 1 (by decide)]
  rw [Port.choose, first]

/-- What a free line sends. -/
theorem egressSelect_goes (s : State) (port : Fin 17) :
    let p := s.netPort port.val
    let at_ := if s.lineTime < p.lineFree + unit then p.lineFree else s.lineTime
    let c := p.dropLong.choose port.val at_
    (p.st ≠ .inService ∨ s.lineTime < p.lineFree → Stays (.egressSelect port) s) ∧
    (p.st = .inService → p.lineFree ≤ s.lineTime →
      (c.2 = none → Goes (.egressSelect port) s (s.setNetPort port.val c.1)) ∧
      (∀ q, c.2 = some q →
        let e := Tbl.get {} q c.1.queues
        (e.frames = [] → Goes (.egressSelect port) s (s.setNetPort port.val c.1)) ∧
        (∀ h hs, e.frames = h :: hs → Goes (.egressSelect port) s ((s.setNetPort port.val { c.1 with
          queues := Tbl.set {} q { e with frames := hs, tokens := if q = 0 ∨ e.rate = 0 then e.tokens else e.tokens - 1000000 } c.1.queues
          lineFree := at_ + frameTime port.val h.len, sent := satInc 64 c.1.sent }).emit
            (.ethernet port.val q h.dst h.vlan h.etherType) h.body))) ∧
      (∀ q ∈ [0, 1, 2], p.dropLong.eligible port.val q at_ = true → (∀ r < q, p.dropLong.eligible port.val r at_ = false) →
        c = (p.dropLong, some q))) := by
  intro p at_ c
  refine ⟨fun idle => stays_of rfl (if_pos ?_), fun up free => ?_⟩
  · rw [Bool.or_eq_true, bne_iff_ne, decide_eq_true_eq]
    exact idle
  have passes : ¬ ((p.st != .inService || decide (s.lineTime < p.lineFree)) = true) := by
    rw [Bool.or_eq_true, bne_iff_ne, decide_eq_true_eq, not_or, Classical.not_not, Nat.not_lt]
    exact ⟨up, free⟩
  have runs {t : State} (h : (match c.2 with
      | none => s.setNetPort port.val c.1
      | some q => match c.1.send port.val q at_ with
        | (p1, some f) => (s.setNetPort port.val p1).emit (.ethernet port.val q f.dst f.vlan f.etherType) f.body
        | (p1, none) => s.setNetPort port.val p1) = t) : Goes (.egressSelect port) s t := by
    subst h
    exact goes_of rfl ((if_neg passes).trans rfl)
  refine ⟨fun none_ => runs ?_, fun q chosen => ⟨fun empty => runs ?_, fun h hs frames => runs ?_⟩, fun q strict may before => choose_strict strict may before⟩
  · rw [none_]
  · simp only [chosen, Port.send, empty]
  · simp only [chosen, Port.send, frames, Bool.or_eq_true, decide_eq_true_eq]

/-! ## Gates (R463 to R467) -/

/-- A gate list's mask follows its entries, and a list takes effect at its activation. -/
theorem gates_go (s : State) (n : Fin 16) :
    let p := s.netPort n.val
    (p.gate = none → Goes (.gateEntryBoundary n) s (s.setNetPort n.val { p with mask := 255 })) ∧
    (∀ g, p.gate = some g →
      (s.timeValid = true → Goes (.gateEntryBoundary n) s (s.setNetPort n.val { p with mask := g.maskAt s.svc, lastBoundary := s.svc })) ∧
      (s.timeValid = false → Stays (.gateEntryBoundary n) s)) ∧
    (p.gatePending = none → Stays (.gateListActivation n) s) ∧
    (∀ g, p.gatePending = some g →
      let g1 : GateList := { g with activation := g.effective }
      (s.timeValid = false ∨ s.svc < g.effective → Stays (.gateListActivation n) s) ∧
      (s.timeValid = true → g.effective ≤ s.svc → g.entries = [] → Goes (.gateListActivation n) s (s.setNetPort n.val { p with
        gate := none, gatePending := none, mask := 255, lastBoundary := g.effective })) ∧
      (s.timeValid = true → g.effective ≤ s.svc → g.entries ≠ [] → Goes (.gateListActivation n) s (s.setNetPort n.val { p with
        gate := some g1, gatePending := none, mask := g1.maskAt s.svc, lastBoundary := g.effective }))) := by
  refine ⟨fun none_ => goes_of rfl ?_, fun g gate => ⟨fun valid => goes_of rfl ?_, fun unset => stays_of rfl ?_⟩, fun none_ => stays_of rfl ?_,
    fun g pending => ⟨fun waits => stays_of rfl ?_, fun valid due empty => goes_of rfl ?_, fun valid due some_ => goes_of rfl ?_⟩⟩
  · simp only [none_]
  · simp only [gate, valid, if_true]
  · simp only [gate, unset, Bool.false_eq_true, if_false]
  · simp only [none_]
  · dsimp only
    rw [pending]
    refine if_neg ?_
    obtain unset | early := waits
    · simp [unset]
    · simp [early]
  · simp only [pending, valid, due, decide_true, Bool.and_self, if_true, List.isEmpty_iff.mpr empty, Option.map_none, Option.getD_none]
  · simp only [pending, valid, due, decide_true, Bool.and_self, if_true, List.isEmpty_eq_false_iff.mpr some_, Bool.false_eq_true, if_false, Option.map_some,
      Option.getD_some]

/-! ## Events of a port (R441 to R447) -/

/-- Frames of the port control go out on the port's own lanes. -/
theorem sendPortControl_fabric (s : State) (n : Fin 16) (op lane : Nat) :
    s.sendPortControl n.val op lane = s.emit (.lanes (.fabric n) op lane) (shim s.dev.oid 6 1 ++ (be 1 op ++ be 1 lane ++ zeros 10)) := dif_pos n.isLt

theorem swappable_fabric (p : Port) (n : Fin 16) : p.swappable n.val = (p.spareMode && !p.fallback) := by
  rw [Port.swappable, decide_eq_false (by omega), Bool.false_or]

/-- A port says hello each millisecond, and falls back where it hears none for 10 ms. -/
theorem portHello_goes (s : State) (n : Fin 16) :
    let p := s.netPort n.val
    let hello := (s.setNetPort n.val { p with lastHello := s.now }).emit (.lanes (.fabric n) 1 0) (shim s.dev.oid 6 1 ++ (be 1 1 ++ be 1 0 ++ zeros 10))
    (p.spareMode = true → p.st = .inService → (p.lastHello = 0 ∨ p.lastHello + 1000000 ≤ s.now) → Goes (.portHelloSend n) s hello) ∧
    (p.spareMode = false ∨ p.st ≠ .inService ∨ (p.lastHello ≠ 0 ∧ s.now < p.lastHello + 1000000) → Stays (.portHelloSend n) s) := by
  refine ⟨fun spare up due => goes_of rfl ((if_pos ?_).trans (sendPortControl_fabric _ n 1 0)), fun waits => stays_of rfl (if_neg ?_)⟩
  · simpa [spare, up] using due
  · obtain none_ | down | ⟨sent, young⟩ := waits
    · simp [none_]
    · simp [down]
    · simp [sent, young]

theorem spareFallback_goes (s : State) (n : Fin 16) :
    let p := s.netPort n.val
    (p.spareMode = true → p.st = .inService → p.helloSeen = false → p.upSince + 10000000 ≤ s.now →
      Goes (.spareFallbackTimeout n) s (s.setNetPort n.val { p with fallback := true })) ∧
    (p.spareMode = false ∨ p.st ≠ .inService ∨ p.helloSeen = true ∨ s.now < p.upSince + 10000000 → Stays (.spareFallbackTimeout n) s) := by
  refine ⟨fun spare up unheard late => goes_of rfl (if_pos (by simp [spare, up, unheard, late])), fun waits => stays_of rfl (if_neg ?_)⟩
  obtain none_ | down | heard | young := waits
  · simp [none_]
  · simp [down]
  · simp [heard]
  · simp [young]

/-- What an item of the port control does, by its OP. -/
theorem portControl_goes (s : State) (n : Fin 16) (op lane : Byte) :
    let p := s.netPort n.val
    let counted := s.setNetPort n.val { p with discards := satInc 64 p.discards }
    (op = 1 → Goes (.portControlReceive n op lane) s (s.setNetPort n.val { p with helloSeen := true })) ∧
    (op = 3 → lane.toNat < 5 → Goes (.portControlReceive n op lane) s (s.portSwapReq n.val lane.toNat)) ∧
    (op = 3 → 5 ≤ lane.toNat → Goes (.portControlReceive n op lane) s counted) ∧
    (op = 4 → Goes (.portControlReceive n op lane) s (s.portSwapMirror n.val lane.toNat false)) ∧
    (op = 5 → Goes (.portControlReceive n op lane) s (s.portSwapEnd n.val (if lane.toNat < 5 then some lane.toNat else none))) ∧
    (op ∉ [1, 3, 4, 5] → Goes (.portControlReceive n op lane) s counted) := by
  refine ⟨?_, ?_, ?_, ?_, ?_, fun other => goes_of (u := s.portControl n.val op.toNat lane.toNat) rfl ?_⟩
  · rintro rfl
    exact goes_of rfl rfl
  · rintro rfl low
    exact goes_of rfl (if_pos low)
  · rintro rfl high
    exact goes_of rfl (if_neg (Nat.not_lt.mpr high))
  · rintro rfl
    exact goes_of rfl rfl
  · rintro rfl
    exact goes_of rfl rfl
  · have ne (k : Byte) (mem : k ∈ ([1, 3, 4, 5] : List Byte)) : op.toNat ≠ k.toNat := fun same => other (BitVec.eq_of_toNat_eq same ▸ mem)
    have n1 := ne 1 (by decide)
    have n3 := ne 3 (by decide)
    have n4 := ne 4 (by decide)
    have n5 := ne 5 (by decide)
    unfold State.portControl
    split
    · next same => exact absurd same n1
    · next same => exact absurd same n3
    · next same => exact absurd same n4
    · next same => exact absurd same n5
    · rfl

/-- What SWAP_REQ does at a port. -/
theorem portSwapReq_spec (s : State) (n : Fin 16) (lane : Nat) :
    let p := s.netPort n.val
    (p.txSwap ≠ .none → s.portSwapReq n.val lane = s.setNetPort n.val { p with ignoredSwaps := satInc 32 p.ignoredSwaps }) ∧
    (p.txSwap = .none → p.spareMode = false ∨ p.fallback = true → s.portSwapReq n.val lane = s) ∧
    (p.txSwap = .none → p.spareMode = true → p.fallback = false → s.portSwapReq n.val lane =
      (s.setNetPort n.val { p with txSwap := .mirroring lane s.now none }).emit (.lanes (.fabric n) 4 lane)
        (shim s.dev.oid 6 1 ++ (be 1 4 ++ be 1 lane ++ zeros 10))) := by
  refine ⟨fun busy => if_pos (by simp [busy]), fun idle fixed => (if_neg (by simp [idle])).trans (if_pos ?_),
    fun idle spare own => (if_neg (by simp [idle])).trans ((if_neg ?_).trans (sendPortControl_fabric _ n 4 lane))⟩
  · rw [swappable_fabric]
    obtain none_ | fell := fixed
    · simp [none_]
    · simp [fell]
  · rw [swappable_fabric]
    simp [spare, own]

/-- A window of FEC losses ends with its millisecond, and at the limit the port retrains. -/
theorem fecWindowEnd_goes (s : State) (n : Fin 16) :
    let p := s.netPort n.val
    (∀ u, s.msIndex .agg 0 ≤ p.windowIndex → Stays (.fecWindowEnd n u) s) ∧
    (∀ u, p.windowIndex < s.msIndex .agg 0 →
      let t := s.setNetPort n.val { p with fec := satAdd 64 p.fec u, windowIndex := s.msIndex .agg 0 }
      let atLimit := p.limit ≤ u ∧ p.window < p.limit
      (¬ atLimit → Goes (.fecWindowEnd n u) s (t.setNetPort n.val { t.netPort n.val with window := 0 })) ∧
      (atLimit → Goes (.fecWindowEnd n u) s ((t.retrainPort n.val true).setNetPort n.val
        { (t.retrainPort n.val true).netPort n.val with window := 0 }))) := by
  refine ⟨fun u young => stays_of rfl (if_pos young), fun u past => ⟨fun few => goes_of rfl ((if_neg (Nat.not_le.mpr past)).trans ?_),
    fun many => goes_of rfl ((if_neg (Nat.not_le.mpr past)).trans ?_)⟩⟩
  · have few : ¬ (decide ((s.netPort n.val).limit ≤ u) && decide ((s.netPort n.val).window < (s.netPort n.val).limit)) = true := by simpa using few
    simp only [few, Bool.false_eq_true, if_false]
  · have many : (decide ((s.netPort n.val).limit ≤ u) && decide ((s.netPort n.val).window < (s.netPort n.val).limit)) = true := by simpa using many
    simp only [many, if_true]

/-- What a retrain of a port leaves: a bad data lane gives its role to a sound spare. -/
theorem portRetrain_goes (s : State) (n : Fin 16) (c : PortCause) :
    let p := s.netPort n.val
    let bad (x : Nat) : Bool := !(p.lane x).lock || (p.lane x).alarm
    let down (q : Port) : State := (s.setNetPort n.val { q with
      st := .retraining, outSince := s.now, retrains := satInc 32 q.retrains, rxSwap := .none, txSwap := .none
      window := if c = .limit then q.limit else q.window }).rerouteZero n.val
    let held := c = .laneSignal ∧ (p.rxSwap ≠ .none ∨ p.txSwap ≠ .none)
    (p.st ≠ .inService ∨ held → Stays (.portRetrain n c) s) ∧
    (p.st = .inService → ¬ held → (p.roles.take 4).find? bad = none → Goes (.portRetrain n c) s (down p)) ∧
    (∀ x, p.st = .inService → ¬ held → (p.roles.take 4).find? bad = some x → p.spareMode = true → p.fallback = false → bad p.spare = false →
      Goes (.portRetrain n c) s (down { p with roles := retireRole p.roles x })) ∧
    (∀ x, p.st = .inService → ¬ held → (p.roles.take 4).find? bad = some x → (p.spareMode = false ∨ p.fallback = true ∨ bad p.spare = true) →
      Goes (.portRetrain n c) s (down p)) := by
  intro p bad down held
  have held_iff : (c == .laneSignal && (p.rxSwap != .none || p.txSwap != .none)) = true ↔ held := by simp [held]
  have retrains (up : p.st = .inService) (free : ¬ held) {q : Port} (h : (match (p.roles.take 4).find? bad with
      | some x => if p.swappable n.val && !bad p.spare then p.retire x else p
      | none => p) = q) (counted : q.retrains = p.retrains ∧ q.limit = p.limit ∧ q.window = p.window) : Goes (.portRetrain n c) s (down q) := by
    refine goes_of rfl ((if_neg (mt held_iff.mp free)).trans ((if_neg (by simpa using up)).trans ((congrArg (fun r : Port => (s.setNetPort n.val { r with
      st := .retraining, outSince := s.now, retrains := satInc 32 p.retrains, rxSwap := .none, txSwap := .none
      window := if c == .limit then p.limit else p.window }).rerouteZero n.val) h).trans ?_)))
    simp only [beq_iff_eq, down, counted]
  refine ⟨fun waits => stays_of rfl ?_, fun up free sound => retrains up free ?_ ⟨rfl, rfl, rfl⟩,
    fun x up free lane spare own good => retrains up free ?_ ⟨rfl, rfl, rfl⟩, fun x up free lane fixed => retrains up free ?_ ⟨rfl, rfl, rfl⟩⟩
  · by_cases h : held
    · exact if_pos (held_iff.mpr h)
    · exact (if_neg (mt held_iff.mp h)).trans (if_pos (bne_iff_ne.mpr (waits.resolve_right h)))
  · rw [sound]
  · rw [lane]
    exact if_pos (by rw [swappable_fabric]; simp [spare, own, good])
  · rw [lane]
    refine if_neg ?_
    rw [swappable_fabric]
    obtain none_ | fell | broken := fixed
    · simp [none_]
    · simp [fell]
    · simp [broken]

/-- What the end of an outage's first 100 µs, and a port's return, do. -/
theorem portOutage_goes (s : State) (n : Fin 16) :
    let p := s.netPort n.val
    (p.st = .inService ∨ p.outage = true ∨ s.now < p.outSince + 100000 → Stays (.portOutageTimeout n) s) ∧
    (p.st ≠ .inService → p.outage = false → p.outSince + 100000 ≤ s.now → s.pair.partnerUp = false →
      Goes (.portOutageTimeout n) s (s.setNetPort n.val { p with outage := true })) ∧
    (p.st ≠ .inService → p.outage = false → p.outSince + 100000 ≤ s.now → s.pair.partnerUp = true →
      let emptied := Tbl.set {} 2 { Tbl.get {} 2 p.queues with frames := [] } (Tbl.set {} 1 { Tbl.get {} 1 p.queues with frames := [] } p.queues)
      Goes (.portOutageTimeout n) s (((Tbl.get {} 1 p.queues).frames ++ (Tbl.get {} 2 p.queues).frames).foldl (fun t f => t.toPartner f)
        (s.setNetPort n.val { p with outage := true, queues := emptied }))) ∧
    (p.enabled = true → p.st ≠ .disabled → p.st ≠ .inService → Goes (.portInService n) s (s.setNetPort n.val { p with
      st := .inService, outage := false, upSince := s.now, helloSeen := false, lastHello := 0 })) ∧
    (p.enabled = false ∨ p.st = .disabled ∨ p.st = .inService → Stays (.portInService n) s) := by
  refine ⟨fun waits => stays_of rfl (if_neg ?_), fun down first late alone => goes_of rfl ((if_pos (by simp [down, first, late])).trans ?_),
    fun down first late up => goes_of rfl ((if_pos (by simp [down, first, late])).trans ?_),
    fun on able down => goes_of rfl (if_pos (by simp [on, able, down])), fun waits => stays_of rfl (if_neg ?_)⟩
  · obtain up | done | young := waits
    · simp [up]
    · simp [done]
    · simp [young]
  · simp only [alone, Bool.false_eq_true, if_false, List.foldl_nil]
  · simp only [up, if_true]
  · obtain off | disabled | up := waits
    · simp [off]
    · simp [disabled]
    · simp [up]

/-- A swap of a port that does not match in 200 µs is abandoned. -/
theorem portSwapTimeout_goes (s : State) (n : Fin 16) :
    let p := s.netPort n.val
    (∀ x m t, p.rxSwap = .mirroring x m t →
      (m + 200000 ≤ s.now → Goes (.portSwapTimeout n) s ((s.setNetPort n.val { p with rxSwap := .none }).emit (.lanes (.fabric n) 5 255)
        (shim s.dev.oid 6 1 ++ (be 1 5 ++ be 1 255 ++ zeros 10)))) ∧
      (s.now < m + 200000 → Stays (.portSwapTimeout n) s)) ∧
    ((∀ x m t, p.rxSwap ≠ .mirroring x m t) → Stays (.portSwapTimeout n) s) := by
  refine ⟨fun x m t mirrors => ⟨fun late => goes_of (u := s.portSwapExpiry n.val) rfl ?_, fun early => stays_of (u := s.portSwapExpiry n.val) rfl ?_⟩,
    fun other => stays_of (u := s.portSwapExpiry n.val) rfl ?_⟩
  · simp only [State.portSwapExpiry, mirrors]
    exact (if_pos late).trans (sendPortControl_fabric _ n 5 255)
  · simp only [State.portSwapExpiry, mirrors]
    exact if_neg (Nat.not_le.mpr early)
  · rw [State.portSwapExpiry]
    split
    · next x m t mirrors => exact absurd mirrors (other x m t)
    · rfl

/-- Settles O50: each event of the fabric by its own lemma. -/
theorem fabricPortsCarryFrames : Obligations.FabricPortsCarryFrames := by
  unfold Obligations.FabricPortsCarryFrames
  intro s
  refine ⟨fun port f => fabricFrame_goes s port f, fun done => stays_of rfl (if_pos done), fun behind => goes_of rfl (if_neg (Nat.not_le.mpr behind)),
    policerRefill_spec, fun a => goes_of rfl rfl, fun rewrites => goes_of rfl (if_pos rewrites), fun idle => stays_of rfl (if_neg (by simp [idle])),
    fun port => egressSelect_goes s port, fun n => ?_⟩
  obtain ⟨open_, listed, none_, pending⟩ := gates_go s n
  obtain ⟨hello, quiet⟩ := portHello_goes s n
  obtain ⟨falls, stands⟩ := spareFallback_goes s n
  obtain ⟨within, ends⟩ := fecWindowEnd_goes s n
  obtain ⟨waits, alone, moves, up, stays⟩ := portOutage_goes s n
  obtain ⟨expires, runs⟩ := portSwapTimeout_goes s n
  exact ⟨open_, listed, none_, pending, hello, quiet, fun op lane => portControl_goes s n op lane, fun lane => portSwapReq_spec s n lane, falls, stands,
    within, ends, fun c => portRetrain_goes s n c, waits, alone, moves, up, stays, expires, runs, fun down => goes_of rfl (if_pos (by simp [down])),
    fun other => goes_of rfl (if_neg (by simp [other]))⟩

end Sys2Proof.Machine
end

section
/-! Reduction closes -/

namespace Sys2Proof.Machine
open Sys2Proof Sys2Proof.Proofs

/-! ## Folding up the tree (R413 to R425) -/

/-- The steps of a contribution or a fold through the nodes above. -/
theorem carry_steps (n : Nat) (u : State) (i : Nat) (c : Close) (pass level : Nat) (f : Fold) :
    let top := topLevel c.config (u.group i).pos
    (top ≤ level → State.carry (n + 1) u i c pass level f = u.passOn i c pass level f) ∧
    (level < top → expected c.config (u.group i).pos (level + 1) ≠ [] → State.carry (n + 1) u i c pass level f = u) ∧
    (level < top → expected c.config (u.group i).pos (level + 1) = [] → u.foldOnce i c pass (level + 1) = none →
      State.carry (n + 1) u i c pass level f = u) ∧
    (∀ v d e, level < top → expected c.config (u.group i).pos (level + 1) = [] → u.foldOnce i c pass (level + 1) = some (v, d, e) →
      State.carry (n + 1) u i c pass level f = State.carry n v i d pass (level + 1) e) := by
  refine ⟨fun done => if_neg (Nat.not_lt.mpr done), fun below waits => (if_pos below).trans (if_neg (by simpa using waits)),
    fun below free none_ => (if_pos below).trans ((if_pos (by simpa using free)).trans ?_),
    fun v d e below free folds => (if_pos below).trans ((if_pos (by simpa using free)).trans ?_)⟩
  · rw [none_]
  · rw [folds]

/-- A node folds nothing twice, without what lies below, or early with a child missing. -/
theorem foldOnce_none {s : State} {i : Nat} {c : Close} {p l : Nat}
    (h : (c.node p l).done = true ∨ l = 0 ∨ c.below p l = none ∨
      ((∃ q ∈ expected c.config (s.group i).pos l, q ∉ (c.node p l).arrived.map (·.1)) ∧ nsOf s.svc < (s.group i).foldAt c p l)) :
    s.foldOnce i c p l = none := by
  rw [State.foldOnce]
  dsimp only
  split
  · rfl
  · next own below =>
    refine if_pos ?_
    obtain done | rfl | none_ | ⟨⟨q, mem, gone⟩, early⟩ := h
    · simp [done]
    · simp
    · exact absurd (none_.symm.trans below) (by simp)
    · have missing : ((expected c.config (s.group i).pos l).all ((c.node p l).arrived.map (·.1)).contains) = false :=
        List.all_eq_false.mpr ⟨q, mem, by simpa using gone⟩
      rw [missing, decide_eq_true early]
      simp

/-- What a fold at a node leads to. -/
theorem nodeFold_goes (s : State) (i : BitVec 24) :
    let g := s.group i.toNat
    (∀ close p l, g.close close.toNat = none → Stays (.nodeFold i close p l) s) ∧
    (∀ close l, Stays (.nodeFold i close 0 l) s) ∧
    (∀ close c (p : Fin 3) (l : Fin 5), g.close close.toNat = some c →
      let here := (c.node p.val l.val).arrived.map (·.1)
      ((c.node p.val l.val).done = true → Stays (.nodeFold i close p l) s) ∧
      (l.val = 0 ∨ c.below p.val l.val = none → Stays (.nodeFold i close p l) s) ∧
      ((∃ q ∈ expected c.config g.pos l.val, q ∉ here) → nsOf s.svc < g.foldAt c p.val l.val → Stays (.nodeFold i close p l) s) ∧
      (s.foldOnce i.toNat c p.val l.val = none → Stays (.nodeFold i close p l) s) ∧
      (∀ t d f, p.val ≠ 0 → s.foldOnce i.toNat c p.val l.val = some (t, d, f) →
        Goes (.nodeFold i close p l) s (State.carry 3 t i.toNat d p.val l.val f))) := by
  have idle (close : BitVec 64) (c : Close) (p : Fin 3) (l : Fin 5) (found : (s.group i.toNat).close close.toNat = some c)
      (none_ : s.foldOnce i.toNat c p.val l.val = none) : Stays (.nodeFold i close p l) s := by
    refine stays_of rfl ?_
    simp only [found, State.nodeFold, none_, ite_self]
  refine ⟨fun close p l gone => stays_of rfl ?_, fun close l => stays_of rfl ?_, fun close c p l found =>
    ⟨fun done => idle close c p l found (foldOnce_none (.inl done)), fun bare => idle close c p l found (foldOnce_none (.inr (bare.imp_right .inl))),
      fun missing early => idle close c p l found (foldOnce_none (.inr (.inr (.inr ⟨missing, early⟩)))), idle close c p l found,
      fun t d f up folds => goes_of rfl ?_⟩⟩
  · simp only [gone]
  · split
    · exact if_pos rfl
    · rfl
  · simp only [found, State.nodeFold, folds, up, if_false]

/-! ## Contributions, second passes and abandoned closes (R410 to R434) -/

/-- The own contribution is formed once, at its cut-off. -/
theorem localContribution_goes (s : State) (i : BitVec 24) :
    let g := s.group i.toNat
    ((∀ c ∈ g.closes, c.own.isSome = true ∨ s.svc < c.instant + 5500 * unit) → Stays (.localContributionCutoff i) s) ∧
    (∀ c, g.closes.find? (fun c => c.own.isNone && c.instant + 5500 * unit ≤ s.svc) = some c →
      let at_ := nsOf c.instant
      let from_ := if g.fence ≤ at_ then g.fence else 0
      let use := g.verdicts.filter fun v => from_ ≤ fld v 0 8 && fld v 0 8 ≤ at_
      let late := (use.filter fun v => fld v 0 8 ≤ nsOf c.since && recModel (v.drop 8) == gcSource c.config && recStatus (v.drop 8) == St.ok).length
      let r := localSection c.config (s.model (gcSource c.config)).image c.level s.diePorts (use.map (·.drop 8))
      let f : Fold := { counts := { counted := 1, late := late, invalid := r.2, suspect := if g.suspect then 1 else 0 }, section_ := r.1
                        offsets := if c.timeReport then [(g.pos, 0)] else [], maxLevel := s.redLevel }
      Goes (.localContributionCutoff i) s (State.carry 3 (s.setGroup i.toNat { g.setClose { c with own := some f } with
        verdicts := g.verdicts.filter fun v => at_ < fld v 0 8 }) i.toNat { c with own := some f } 1 0 f)) := by
  refine ⟨fun early => stays_of rfl ?_, fun c due => goes_of rfl ?_⟩
  · have none_ : (s.group i.toNat).closes.find? (fun c => c.own.isNone && c.instant + 5500 * unit ≤ s.svc) = none := by
      refine List.find?_eq_none.mpr fun c mem => ?_
      obtain formed | young := early c mem
      · simp [Option.isNone_eq_false_iff.mpr formed]
      · simp [Nat.not_le.mpr young]
    simp only [none_]
  · simp only [due]

/-- The second pass starts once; a close without a summary is abandoned, one with a summary applied. -/
theorem closeEnds_go (s : State) (i : BitVec 24) :
    let g := s.group i.toNat
    (∀ close, g.close close.toNat = none → Stays (.stragglerCutoff i close) s ∧ Stays (.closeAbandon i close) s) ∧
    (∀ close c, g.close close.toNat = some c →
      let per := g.periodOf s.sys.epoch * s.sys.epoch
      let names := c.named ++ g.lateNamed.map fun e => (e.drop 8).take 15 ++ be 1 (min 255 ((nsOf c.instant - fld e 0 8) / max 1 per))
      let f : Fold := { counts := { counted := 1, suspect := if g.suspect then 1 else 0, named := names.length, cut := gcK c.config < names.length }
                        section_ := topSection c.level (mergeTop (gcK c.config) names), maxLevel := s.redLevel }
      let c1 := ({ c with passTwo := true }).setNode { pass := 2, level := 0, done := true, result := f }
      (c.passTwo = true ∨ gcStraggler c.config = false ∨ s.svc < c.instant + 41000 * unit → Stays (.stragglerCutoff i close) s) ∧
      (c.passTwo = false → gcStraggler c.config = true → c.instant + 41000 * unit ≤ s.svc → Goes (.stragglerCutoff i close) s
        (State.carry 3 (s.setGroup i.toNat { g.setClose c1 with lateNamed := [] }) i.toNat c1 2 0 f)) ∧
      (s.svc < c.instant + 100000 * unit → Stays (.closeAbandon i close) s) ∧
      (c.instant + 100000 * unit ≤ s.svc → c.summary = [] → Goes (.closeAbandon i close) s ((s.setGroup i.toNat { g with
        closes := g.closes.filter (fun d => d.instant != c.instant), abandoned := satInc 32 g.abandoned }).applyGroup i.toNat)) ∧
      (c.instant + 100000 * unit ≤ s.svc → c.summary ≠ [] → Goes (.closeAbandon i close) s (s.applyGroup i.toNat))) := by
  refine ⟨fun close gone => ⟨stays_of rfl ?_, stays_of rfl ?_⟩, fun close c found => ⟨fun waits => stays_of rfl ?_, fun first straggles late => goes_of rfl ?_,
    fun early => stays_of rfl ?_, fun late empty => goes_of rfl ?_, fun late some_ => goes_of rfl ?_⟩⟩
  · simp only [gone]
  · simp only [gone]
  · dsimp only
    rw [found]
    refine if_pos ?_
    obtain done | plain | early := waits
    · simp [done]
    · simp [plain]
    · simp [early]
  · dsimp only
    rw [found]
    exact if_neg (by simp [first, straggles, late])
  · dsimp only
    rw [found]
    exact if_pos early
  · dsimp only
    rw [found]
    exact (if_neg (Nat.not_lt.mpr late)).trans (if_pos (by simp [empty]))
  · dsimp only
    rw [found]
    exact (if_neg (Nat.not_lt.mpr late)).trans (if_neg (by simp [some_]))

/-! ## Reduction frames (R416 to R424) -/

/-- What a frame of the reduction does, by its checks in their order. -/
theorem reductionFrame_goes (s : State) (src : Word) (b : Bytes) :
    let h := b.take 64
    let k := fld h 0 3
    let dir := byteAt h 18
    (Tbl.find? k s.data.groups = none → Goes (.reductionFrameReceive src b) s { s with data := { s.data with redDiscards := satInc 64 s.data.redDiscards } }) ∧
    (∀ g0, Tbl.find? k s.data.groups = some g0 →
      let n := byteAt h 35
      let badForm := b.length < 64 ∨ n = 0 ∨ 8 < n ∨ n ≤ byteAt h 34 ∨ 9088 < b.length - 64
      let g1 : Group := if g0.genOwed = true ∧ dir = 3 then { g0 with
          gen := byteAt h 3, genOwed := false, closes := g0.closes.map fun c => { c with gen := byteAt h 3 } } else g0
      let found := g1.closes.find? fun c => c.index == fld h 4 8 && c.gen == byteAt h 3 && !c.complete
      (badForm → Goes (.reductionFrameReceive src b) s (s.setGroup k { g0 with discards := satInc 32 g0.discards })) ∧
      (¬ badForm → found = none → genOlder (byteAt h 3) g1.gen = true →
        Goes (.reductionFrameReceive src b) s (s.setGroup k { g0 with stale := satInc 32 g0.stale })) ∧
      (¬ badForm → found = none → genOlder (byteAt h 3) g1.gen = false →
        Goes (.reductionFrameReceive src b) s (s.setGroup k { g0 with discards := satInc 32 g0.discards })) ∧
      (∀ c, ¬ badForm → found = some c → src ∉ neighbourOids c.neighbours (fld h 20 2) →
        Goes (.reductionFrameReceive src b) s (s.setGroup k { g0 with unknown := satInc 32 g0.unknown })) ∧
      (∀ c, ¬ badForm → found = some c → src ∈ neighbourOids c.neighbours (fld h 20 2) →
        let pos := fld h 20 2
        let m := s.measureChild g1 h
        let g2 := if dir = 1 then m
          else if dir = 2 then m.measure { m.measuredOf pos with tdown := s.sinceSend h }
          else if dir = 3 then g1.measure { g1.measuredOf pos with tdown := s.sinceSend h } else g1
        let r := c.collect h (b.drop 64)
        let t := s.setGroup k (g2.setClose r.1)
        (r.2 = none → Goes (.reductionFrameReceive src b) s t) ∧
        (∀ body, r.2 = some body → dir = 1 ∨ dir = 2 → Goes (.reductionFrameReceive src b) s (t.takeUp k r.1 h body)) ∧
        (∀ body, r.2 = some body → dir = 3 → Goes (.reductionFrameReceive src b) s (t.takeDown k r.1 h body)) ∧
        (∀ body, r.2 = some body → dir ∉ [1, 2, 3] → Goes (.reductionFrameReceive src b) s t))) := by
  intro h k dir
  refine ⟨fun none_ => goes_of (u := s.takeReduction src b) rfl ?_, fun g0 held => ?_⟩
  · rw [State.takeReduction]
    dsimp only
    rw [show Tbl.find? (fld (b.take 64) 0 3) s.data.groups = none from none_]
  intro n badForm g1 found
  have form_iff : (decide (b.length < 64) || decide (n = 0) || decide (8 < n) || decide (n ≤ byteAt h 34) || decide (9088 < b.length - 64)) = true ↔ badForm := by
    simp only [Bool.or_eq_true, decide_eq_true_eq, or_assoc, badForm]
  have owed : (if g0.genOwed && byteAt h 18 = 3 then ({ g0 with
      gen := byteAt h 3, genOwed := false, closes := g0.closes.map fun c => { c with gen := byteAt h 3 } } : Group) else g0) = g1 := by
    simp only [Bool.and_eq_true, decide_eq_true_eq]
    rfl
  have atForm {t : State} (e : (if decide (b.length < 64) || decide (n = 0) || decide (8 < n) || decide (n ≤ byteAt h 34) || decide (9088 < b.length - 64)
      then s.setGroup k { g0 with discards := satInc 32 g0.discards } else match found with
      | none => if genOlder (byteAt h 3) g1.gen then s.setGroup k { g0 with stale := satInc 32 g0.stale }
          else s.setGroup k { g0 with discards := satInc 32 g0.discards }
      | some c => if !(neighbourOids c.neighbours (fld h 20 2)).contains src then s.setGroup k { g0 with unknown := satInc 32 g0.unknown }
        else
          let pos := fld h 20 2
          let g2 := if dir = 1 then s.measureChild g1 h
            else if dir = 2 then (s.measureChild g1 h).measure { (s.measureChild g1 h).measuredOf pos with tdown := s.sinceSend h }
            else if dir = 3 then g1.measure { g1.measuredOf pos with tdown := s.sinceSend h } else g1
          let r := c.collect h (b.drop 64)
          let s1 := s.setGroup k (g2.setClose r.1)
          match r.2 with
          | none => s1
          | some body => if dir = 1 || dir = 2 then s1.takeUp k r.1 h body else if dir = 3 then s1.takeDown k r.1 h body else s1) = t) :
      Goes (.reductionFrameReceive src b) s t := by
    subst e
    refine goes_of (u := s.takeReduction src b) rfl ?_
    rw [State.takeReduction]
    dsimp only
    rw [show Tbl.find? (fld (b.take 64) 0 3) s.data.groups = some g0 from held]
    dsimp only
    rw [owed] <;> rfl
  refine ⟨fun bad => atForm (if_pos (form_iff.mpr bad)), fun good none_ old => atForm ((if_neg (mt form_iff.mp good)).trans ?_),
    fun good none_ new => atForm ((if_neg (mt form_iff.mp good)).trans ?_), fun c good some_ stranger => atForm ((if_neg (mt form_iff.mp good)).trans ?_),
    fun c good some_ known => ?_⟩
  · rw [none_]
    exact if_pos old
  · rw [none_]
    exact if_neg (by simp [new])
  · rw [some_]
    exact if_pos (by simpa using stranger)
  · intro pos m g2 r t
    have atBody {u : State} (e : (match r.2 with
        | none => t
        | some body => if dir = 1 || dir = 2 then t.takeUp k r.1 h body else if dir = 3 then t.takeDown k r.1 h body else t) = u) :
        Goes (.reductionFrameReceive src b) s u := by
      refine atForm ((if_neg (mt form_iff.mp good)).trans ?_)
      rw [some_]
      exact (if_neg (by simpa using known)).trans e
    refine ⟨fun part => atBody ?_, fun body whole up => atBody ?_, fun body whole down => atBody ?_, fun body whole other => atBody ?_⟩
    · rw [part]
    · rw [whole]
      exact if_pos (by simpa using up)
    · rw [whole]
      exact (if_neg (by simp [down])).trans (if_pos down)
    · simp only [List.mem_cons, List.not_mem_nil, or_false, not_or] at other
      obtain ⟨n1, n2, n3⟩ := other
      rw [whole]
      exact (if_neg (by simp [n1, n2])).trans (if_neg n3)

/-! ## Waiting changes of a group (R406 to R409) -/

/-- What a change of a group does at its close tick. -/
theorem applyChange_spec (s : State) (i : BitVec 24) (p : GroupPending) (t : Nat) :
    let g := s.group i.toNat
    let u : Group := { g with pending := g.pending.filter fun q => q != p }
    let done (v : State) (res : Bytes) : State := match p.ticket with
      | some k => v.finalAt .agg k St.ok res (cstampOf true t)
      | none => v
    let tick := stampBytes (stampOf t s.svcFlags)
    (∀ pos gen ns, p.change = .join pos gen ns →
      let n := if gen = 0 then u.gen else gen
      s.applyChange i.toNat t p = done (s.setGroup i.toNat { u with
        joined := true, pos := pos, neighbours := ns, gen := n, genOwed := gen = 0 && !u.joined, lastClose := max u.lastClose t }) (tick ++ be 1 n ++ zeros 3)) ∧
    (p.change = .leave → s.applyChange i.toNat t p = done (s.setGroup i.toNat { u with joined := false, verdicts := [] }) tick) ∧
    (∀ c, p.change = .config c → s.applyChange i.toNat t p = done (s.setGroup i.toNat { u with config := c, defaulted := false }) []) ∧
    (∀ n, p.change = .fence n → n ≠ g.gen → s.applyChange i.toNat t p = done (s.setGroup i.toNat u) (tick ++ be 1 g.gen ++ zeros 3)) ∧
    (p.change = .fence g.gen →
      let n := if 255 ≤ g.gen then 1 else g.gen + 1
      s.applyChange i.toNat t p = done (s.setGroup i.toNat { u with
        gen := n, fence := nsOf t, closes := u.closes.map fun c => if t ≤ c.instant then u.renewed (s.model (gcSource c.config)).image c t n else c })
        (tick ++ be 1 n ++ zeros 3)) := by
  refine ⟨fun pos gen ns change => ?_, fun change => ?_, fun c change => ?_, fun n change other => ?_, fun change => ?_⟩
  · simp only [State.applyChange, change] <;> rfl
  · simp only [State.applyChange, change] <;> rfl
  · simp only [State.applyChange, change] <;> rfl
  · simp only [State.applyChange, change, if_neg (Ne.symm other)] <;> rfl
  · simp only [State.applyChange, change, if_true] <;> rfl

/-- Settles O51: each event of the reduction by its own lemma. -/
theorem reductionClosesRunToTheirEnds : Obligations.ReductionClosesRunToTheirEnds := by
  unfold Obligations.ReductionClosesRunToTheirEnds
  intro s i
  obtain ⟨early, due⟩ := localContribution_goes s i
  obtain ⟨gone, leaf, folds⟩ := nodeFold_goes s i
  obtain ⟨lost, ends⟩ := closeEnds_go s i
  have applied (fence : Bool) : s.applyChanges i.toNat fence = (s.group i.toNat).pending.foldl (fun (t : State) (p : GroupPending) =>
      if p.change.isFence = fence then
        match t.changeTick (t.group i.toNat) p with
        | some k => t.applyChange i.toNat k p
        | none => t
      else t) s := by
    refine congrArg (fun f => (s.group i.toNat).pending.foldl f s) (funext fun t => funext fun p => ?_)
    by_cases same : p.change.isFence = fence
    · exact (if_neg (by simp [same])).trans (if_pos same).symm
    · exact (if_pos (bne_iff_ne.mpr same)).trans (if_neg same).symm
  refine ⟨early, due, fun n u c pass level f => carry_steps n u i.toNat c pass level f, fun src b => reductionFrame_goes s src b, gone, leaf, folds, lost, ends,
    ⟨goes_of (u := s.applyChanges i.toNat true) rfl (applied true), goes_of (u := s.applyChanges i.toNat false) rfl (applied false)⟩,
    fun p unset => if_pos (by simp [unset]), fun p valid => (if_neg (by simp [valid])).trans ?_, fun p t => applyChange_spec s i p t⟩
  simp only [Bool.and_eq_true, decide_eq_true_eq]

end Sys2Proof.Machine
end

section
/-! Epoch, profile, heat and power -/

namespace Sys2Proof.Machine
open Sys2Proof Sys2Proof.Proofs

/-! ## Epoch ticks and profiles (R16 to R42) -/

/-- The last tick not yet taken is taken where time is valid. -/
theorem epochTick_goes (s : State) :
    let e := s.sys.epoch
    let t := s.svcNs / e * e * unit
    let i := epochIndex e t
    let a := s.data.models.foldl (fun u m => u.settleMap m.1) s
    let w : TickWait := { index := i, epoch := e, instant := t, models := if a.scoresAt i then a.scoring else [] }
    let b := ((a.diePorts.foldl (fun u d => u.waitTick w d.1) a).openCloses t i false).tickFreeze t
    (s.timeValid = false ∨ t ≤ s.data.lastTick ∨ t < s.time.sel.validAt → Stays .epochTick s) ∧
    (s.timeValid = true → s.data.lastTick < t → s.time.sel.validAt ≤ t →
      Goes .epochTick s { b with sys := { b.sys with lastTick := t }, data := { b.data with lastTick := t, lastIndex := i } }) := by
  refine ⟨fun waits => stays_of rfl (if_pos ?_), fun valid new after => goes_of rfl (if_neg ?_)⟩
  · simpa [or_assoc] using waits
  · simpa [valid] using ⟨new, after⟩

/-- A new epoch takes effect at its second, once that tick is taken. -/
theorem epochChange_goes (s : State) :
    (s.sys.pendingEpoch = none → Stays .epochChangeActivation s) ∧
    (∀ p, s.sys.pendingEpoch = some p →
      let t := p.second * 1000000000 * unit
      let a := s.openCloses t (epochIndex s.sys.epoch t) true
      let b : State := { a with
        sys := { a.sys with epoch := p.epoch, pendingEpoch := none }
        data := { a.data with groups := Tbl.mapAll {} (fun (g : Group) =>
          { g with defaulted := gcP g.config != 0 && gcP g.config * p.epoch < 10000 }) a.data.groups } }
      (s.timeValid = false ∨ s.svc < t ∨ s.data.lastTick < t → Stays .epochChangeActivation s) ∧
      (s.timeValid = true → t ≤ s.svc → t ≤ s.data.lastTick → Goes .epochChangeActivation s (p.tickets.foldl
        (fun u k => u.finalAt .agg k St.ok (be 4 p.epoch ++ be 4 0 ++ be 8 p.second) (cstampOf true t))
        (b.raise 12 0x0C02 3 (be 4 s.sys.epoch ++ be 4 p.epoch))))) := by
  refine ⟨fun none_ => stays_of rfl ?_, fun p pending => ⟨fun waits => stays_of rfl ?_, fun valid due taken => goes_of rfl ?_⟩⟩
  · simp only [none_]
  · dsimp only
    rw [pending]
    exact if_pos (by simpa [or_assoc] using waits)
  · dsimp only
    rw [pending]
    exact if_neg (by simp [valid, due, taken])

/-- The first waiting profile takes effect with all that wait for its tick, or yields to a hold. -/
theorem profileChange_goes (s : State) :
    (s.sys.pendingProfile = [] → Stays .profileChangeEffective s) ∧
    (∀ p ps, s.sys.pendingProfile = p :: ps → s.profileTick p = none → Stays .profileChangeEffective s) ∧
    (∀ p ps t, s.sys.pendingProfile = p :: ps → s.profileTick p = some t →
      let same := s.sys.pendingProfile.filter fun q => s.profileTick q == some t
      let last := (same.getLast?.getD p).profile
      let a : State := { s with sys := { s.sys with
        pendingProfile := s.sys.pendingProfile.filter fun q => s.profileTick q != some t
        commanded := last, lastOther := if last = .h then s.sys.lastOther else last } }
      let hot := ∃ h, s.holdTick = some h ∧ h ≤ t ∧ s.sys.thermal = false
      let answered (u : State) : State := same.foldl (fun v q => v.finalAt .agg q.ticket St.ok
        (be 8 (nsOf t / 1000000000) ++ be 4 (nsOf t % 1000000000) ++ be 1 u.sys.profile.code ++ zeros 3) (cstampOf true t)) u
      (hot → Goes .profileChangeEffective s (answered a.enterThermal)) ∧
      (¬ hot → s.sys.thermal = true → Goes .profileChangeEffective s (answered a)) ∧
      (¬ hot → s.sys.thermal = false → Goes .profileChangeEffective s (answered (a.enforce last 0)))) := by
  refine ⟨fun none_ => stays_of rfl ?_, fun p ps pending early => stays_of rfl ?_, fun p ps t pending due => ?_⟩
  · simp only [none_]
  · simp only [pending, early]
  intro same last a hot answered
  have hot_iff : (match s.holdTick with | some h => h ≤ t && !s.sys.thermal | none => false) = true ↔ hot := by
    simp only [hot]
    cases s.holdTick <;> simp
  have runs {u : State} (e : (if (match s.holdTick with | some h => h ≤ t && !s.sys.thermal | none => false) then a.enterThermal
      else if s.sys.thermal then a else a.enforce last 0) = u) : Goes .profileChangeEffective s (answered u) := by
    subst e
    refine goes_of rfl ?_
    dsimp only
    split
    · next none_ => exact absurd (none_.symm.trans pending) (by simp)
    · next p' ps' pending' =>
      obtain rfl : p' = p := (List.cons.inj (pending'.symm.trans pending)).1
      rw [due]
      simp only [SysState.command, beq_iff_eq] <;> rfl
  exact ⟨fun h => runs (if_pos (hot_iff.mpr h)), fun cool held => runs ((if_neg (mt hot_iff.mp cool)).trans (if_pos held)),
    fun cool free => runs ((if_neg (mt hot_iff.mp cool)).trans (if_neg (by simp [free])))⟩

/-! ## Heat (R36 to R40) -/

/-- A sample of an island crosses 100 or 95 degC, or neither. -/
theorem thermalCrossing_goes (s : State) (n : Fin 97) (tj : BitVec 16) :
    let a : State := { s with sys := { s.sys with tj := Tbl.set 0 n.val tj s.sys.tj } }
    let rose := s.hottest.2 < 800 ∧ 800 ≤ a.hottest.2
    let fell := 760 < s.hottest.2 ∧ a.hottest.2 ≤ 760
    let b : State := { a with sys := { a.sys with
      hotNs := if rose ∧ s.sys.thermal = false ∧ s.sys.hotNs = none then some s.now else s.sys.hotNs
      coolNs := if 760 < a.hottest.2 then (if s.sys.thermal = true then s.sys.coolNs.filter fun n => decide (n + 10000000000 ≤ s.now) else none)
        else some (s.sys.coolNs.getD s.now) } }
    (rose ∨ fell → Goes (.thermalCrossing n tj) s (b.irq 3)) ∧ (¬ (rose ∨ fell) → Goes (.thermalCrossing n tj) s b) := by
  intro a rose fell b
  have runs {u : State} (e : (if rose ∨ fell then b.irq 3 else b) = u) : Goes (.thermalCrossing n tj) s u := by
    subst e
    refine goes_of rfl ?_
    have keeps : (if s.sys.coolNs.isSome then s.sys.coolNs else some s.now) = some (s.sys.coolNs.getD s.now) := by
      cases s.sys.coolNs <;> rfl
    simp only [keeps, State.returnFixed, Bool.and_eq_true, Bool.or_eq_true, decide_eq_true_eq, Bool.not_eq_true', Option.isNone_iff_eq_none, and_assoc]
    simp only [rose, fell, b, a, and_assoc]
  exact ⟨fun crossed => runs (if_pos crossed), fun none_ => runs (if_neg none_)⟩

/-- The hold enters H at its tick, and is left at its own. -/
theorem thermalHold_goes (s : State) :
    (s.holdTick = none → Stays .thermalHoldEntry s) ∧
    (∀ t, s.holdTick = some t → s.sys.profile ≠ .h → Goes .thermalHoldEntry s ((({ s with sys := { s.sys with hotNs := none } }).enforce .h 1).rereadFuses)) ∧
    (∀ t, s.holdTick = some t → s.sys.profile = .h → Goes .thermalHoldEntry s { s with sys := { s.sys with hotNs := none } }) ∧
    (s.sys.coolNs = none ∨ s.sys.thermal = false → Stays .thermalHoldReturn s) ∧
    (∀ n, s.sys.coolNs = some n → s.sys.thermal = true →
      let due := (s.timeValid = true ∧ (s.dueTick (n + 10000002000)).isSome = true) ∨ (s.timeValid = false ∧ n + 10000002000 ≤ s.now)
      let a := s.enforce s.sys.commanded 0
      (¬ due → Stays .thermalHoldReturn s) ∧
      (due → Goes .thermalHoldReturn s { a with sys := { a.sys with
        coolNs := none, hotNs := if 800 ≤ s.hottest.2 then some s.now else a.sys.hotNs } })) := by
  refine ⟨fun none_ => stays_of rfl ?_, fun t hold other => goes_of rfl ?_, fun t hold h => goes_of rfl ?_, fun free => stays_of rfl ?_,
    fun n cool held => ?_⟩
  · simp only [none_]
  · dsimp only
    rw [hold]
    exact if_neg (by simpa using other)
  · dsimp only
    rw [hold]
    exact if_pos (by simp [h])
  · dsimp only
    split
    · rfl
    · next n cool =>
      refine if_neg ?_
      obtain none_ | open_ := free
      · exact absurd (none_.symm.trans cool) (by simp)
      · simp [open_]
  · have due_iff : (s.sys.thermal && (if s.timeValid then (s.dueTick (n + 10000002000)).isSome else decide (n + 10000002000 ≤ s.now))) = true ↔
        ((s.timeValid = true ∧ (s.dueTick (n + 10000002000)).isSome = true) ∨ (s.timeValid = false ∧ n + 10000002000 ≤ s.now)) := by
      cases s.timeValid <;> simp [held]
    refine ⟨fun early => stays_of rfl ?_, fun due => goes_of rfl ?_⟩
    · dsimp only
      rw [cool]
      exact if_neg (mt due_iff.mp early)
    · dsimp only
      rw [cool]
      exact if_pos (due_iff.mpr due)

/-! ## Clusters (R274 to R285, R326, R402) -/

/-- In H the idle lend clusters go off once no request waits. -/
theorem lendClustersOff_goes (s : State) :
    let waiting := s.active = true ∧ ∃ e ∈ s.data.requests, e.2.resp = none
    (s.sys.profile ≠ .h ∨ s.dev.powerUp ≠ 0 ∨ waiting → Stays .lendClustersOff s) ∧
    (s.sys.profile = .h → s.dev.powerUp = 0 → ¬ waiting → Goes .lendClustersOff s
      (((List.range 64).filter fun c => !inTelemetry .h c && s.dev.domains.getLsbD c && !s.clusterBusy c).foldl State.clusterOff s)) := by
  have waiting_iff : (s.active && s.data.requests.any fun e => e.2.resp.isNone) = true ↔ (s.active = true ∧ ∃ e ∈ s.data.requests, e.2.resp = none) := by
    simp
  refine ⟨fun stays => stays_of rfl (if_pos ?_), fun h idle none_ => goes_of rfl (if_neg ?_)⟩
  · rw [Bool.or_eq_true, Bool.or_eq_true, waiting_iff, bne_iff_ne, bne_iff_ne, or_assoc]
    exact stays
  · rw [Bool.or_eq_true, Bool.or_eq_true, waiting_iff, bne_iff_ne, bne_iff_ne]
    simp only [h, idle, ne_eq, not_true, false_or]
    exact none_

/-- A cluster's reload forgives its bad slots, telemetry clusters before lend clusters. -/
theorem clusterReload_goes (s : State) (c : Fin 64) :
    let later := inTelemetry s.sys.profile c.val = false ∧
      ∃ d < 64, inTelemetry s.sys.profile d = true ∧ (s.dev.reload.getLsbD d = true ∨ s.dev.powerUp.getLsbD d = true)
    let a : State := { s with dev := { s.dev with reload := s.dev.reload &&& ~~~(1#64 <<< c.val) } }
    let b := (List.range 64).foldl (fun u n => u.setTartlet (64 * c.val + n) { u.tartlet (64 * c.val + n) with bad := [] }) a
    (s.dev.reload.getLsbD c.val = false ∨ later → Stays (.clusterReloadComplete c) s) ∧
    (s.dev.reload.getLsbD c.val = true → ¬ later → Goes (.clusterReloadComplete c) s
      (b.data.models.foldl (fun u e => if e.2.out = [] then u else u.replicaBack e.1) b).retryHeld) := by
  have later_iff : (!inTelemetry s.sys.profile c.val && s.telemetryReloads) = true ↔ (inTelemetry s.sys.profile c.val = false ∧
      ∃ d < 64, inTelemetry s.sys.profile d = true ∧ (s.dev.reload.getLsbD d = true ∨ s.dev.powerUp.getLsbD d = true)) := by
    simp only [State.telemetryReloads, Bool.and_eq_true, Bool.not_eq_true', List.any_eq_true, List.mem_range, Bool.or_eq_true]
  refine ⟨fun stays => stays_of rfl (if_pos ?_), fun due first => goes_of rfl ((if_neg ?_).trans ?_)⟩
  · rw [Bool.or_eq_true, later_iff, Bool.not_eq_true']
    exact stays
  · rw [Bool.or_eq_true, later_iff, due]
    exact fun h => first (h.resolve_left (by simp))
  · simp only [List.isEmpty_iff]

/-- A slot's reload forgives it. -/
theorem slotReload_goes (s : State) (t : Fin 4096) (k : Fin 4) (n : Fin 25) :
    (Tbl.find? (slotKey t.val k.val n.val) s.data.directory = none → Stays (.slotReloadComplete t k n) s) ∧
    (∀ d, Tbl.find? (slotKey t.val k.val n.val) s.data.directory = some d →
      let name := k.val * 32 + (if d.mode = 2 then 25 else n.val)
      (name ∉ (s.tartlet t.val).bad → Stays (.slotReloadComplete t k n) s) ∧
      (name ∈ (s.tartlet t.val).bad → Goes (.slotReloadComplete t k n) s (((s.setTartlet t.val { s.tartlet t.val with
        bad := (s.tartlet t.val).bad.filter (· != name) }).replicaBack d.model).retryHeld))) := by
  refine ⟨fun none_ => stays_of rfl ?_, fun d placed => ⟨fun sound => stays_of rfl ?_, fun bad => goes_of rfl ?_⟩⟩
  · simp only [none_]
  · dsimp only
    rw [placed]
    exact if_pos (by simpa using sound)
  · dsimp only
    rw [placed]
    exact if_neg (by simpa using bad)

/-- A power window over the cap in force slows lend clusters, or in H with lend off all of them. -/
theorem powerWindow_goes (s : State) (a : BitVec 16) :
    let capped := s.sys.profile = .h ∧ ∀ c < 64, inTelemetry .h c = true ∨ s.dev.domains.getLsbD c = false
    (capped → Goes (.powerWindow a) s { s with sys := { s.sys with
      powerAvg := a.toNat, lendSlowed := false, capSlowed := decide (powerCap .h < a.toNat) } }) ∧
    (¬ capped → Goes (.powerWindow a) s { s with sys := { s.sys with
      powerAvg := a.toNat, lendSlowed := decide (powerCap .b < a.toNat), capSlowed := false } }) := by
  have capped_iff : s.capped = true ↔ (s.sys.profile = .h ∧ ∀ c < 64, inTelemetry .h c = true ∨ s.dev.domains.getLsbD c = false) := by
    simp only [State.capped, Bool.and_eq_true, beq_iff_eq, List.all_eq_true, List.mem_range, Bool.or_eq_true, Bool.not_eq_true']
  refine ⟨fun h => goes_of rfl ?_, fun h => goes_of rfl ?_⟩
  · simp only [State.capNow, capped_iff.mpr h, Bool.not_true, Bool.false_and, Bool.true_and, if_true]
  · simp only [State.capNow, Bool.eq_false_iff.mpr (mt capped_iff.mp h), Bool.not_false, Bool.false_and, Bool.true_and, Bool.false_eq_true, if_false]

/-! ## Trips (R41 to R44) -/

/-- A trip loses the state and asserts THERMTRIP until 10 s of cooling. -/
theorem thermalTrip_goes (s : State) :
    (s.phys.porLow = true → ∀ n, Stays (.thermalTrip n) s) ∧
    (∀ n : Fin 97, s.phys.porLow = false →
      let a : State := if s.active = true ∧ s.pair.partnerUp = true then s.emit (.notice .partnerLink) (s.notice 2 .partnerLink) else s
      let b : State := { a.lost with
        sys := { a.sys with tj := Tbl.set 0 n.val 920 a.sys.tj, coolNs := none }
        phys := { a.phys with tripped := true, tripShutdown := true, thermtrip := true } }
      Goes (.thermalTrip n) s ((b.bootStatus fun d => { d with
        domains := 0, reload := 0, powerUp := 0, fwReady := false, service := false }).emit (.thermtrip true))) ∧
    (∀ n, s.sys.coolNs = some n → s.phys.thermtrip = true → n + 10000000000 ≤ s.now →
      Goes .thermtripRelease s (({ s with phys := { s.phys with thermtrip := false } }).emit (.thermtrip false))) ∧
    (s.phys.thermtrip = false ∨ s.sys.coolNs = none ∨ (∃ n, s.sys.coolNs = some n ∧ s.now < n + 10000000000) → Stays .thermtripRelease s) ∧
    (s.phys.tripShutdown = false ∨ s.phys.thermtrip = true → Stays .tripRailRestore s) ∧
    (s.phys.tripShutdown = true → s.phys.thermtrip = false →
      let r := ({ s with phys := { s.phys with tripShutdown := false } }).wholeChipReset
      Goes .tripRailRestore s { r with sec := { r.sec with boots := s.sec.boots }, pair := { r.pair with own := {}, partner := {} } }) := by
  refine ⟨fun low n => stays_of rfl (if_pos low), fun n high => goes_of rfl ((if_neg (by simp [high])).trans ?_), fun n cool trip late => goes_of rfl ?_,
    fun waits => stays_of rfl ?_, fun waits => stays_of rfl (if_pos (by simpa using waits)), fun shut cooled => goes_of rfl (if_neg (by simp [shut, cooled]))⟩
  · simp only [Bool.and_eq_true]
  · dsimp only
    rw [cool]
    exact if_pos (by simp [trip, late])
  · dsimp only
    split
    · next n cool =>
      refine if_neg ?_
      obtain free | none_ | ⟨m, cool', young⟩ := waits
      · simp [free]
      · exact absurd (none_.symm.trans cool) (by simp)
      · obtain rfl : m = n := Option.some.inj (cool'.symm.trans cool)
        simp [young]
    · rfl

/-- Settles O52: each event of the epoch, the profile, the heat and the power by its own lemma. -/
theorem epochProfileHeatAndPower : Obligations.EpochProfileHeatAndPower := by
  unfold Obligations.EpochProfileHeatAndPower
  intro s
  obtain ⟨noEpoch, epoch⟩ := epochChange_goes s
  obtain ⟨noProfile, early, profile⟩ := profileChange_goes s
  obtain ⟨noHold, enters, inH, free, returns⟩ := thermalHold_goes s
  refine ⟨epochTick_goes s, noEpoch, epoch, noProfile, early, profile, fun n tj => thermalCrossing_goes s n tj, noHold, enters, inH, free, returns,
    lendClustersOff_goes s, goes_of rfl rfl, fun none_ => stays_of rfl ?_, fun c => clusterReload_goes s c, fun t k n => (slotReload_goes s t k n).1,
    fun t k n => (slotReload_goes s t k n).2, fun a => powerWindow_goes s a, thermalTrip_goes s⟩
  have off : (List.range 64).filter (fun c => s.dev.powerUp.getLsbD c) = [] := List.filter_eq_nil_iff.mpr fun c _ => by simp [none_]
  rw [off]
  rfl

end Sys2Proof.Machine
end

section
/-! Selection, references, triggers and PTP -/

namespace Sys2Proof.Machine
open Sys2Proof Sys2Proof.Proofs

/-! ## Selection (R61 to R69) -/

/-- A transition is recorded where the state or the followed domain changes. -/
theorem transitionRecord_spec (s t : State) :
    (s.time.sel.st = t.time.sel.st → s.time.sel.followed = t.time.sel.followed → s.transitionRecord t = t) ∧
    (s.time.sel.st ≠ t.time.sel.st ∨ s.time.sel.followed ≠ t.time.sel.followed → s.transitionRecord t = t.raise 3 0x0102 3
      (be 1 s.time.sel.st.code ++ be 1 t.time.sel.st.code ++ be 1 t.time.sel.followed.val ++ be 8 (residual16 t.time.sel.residual))) := by
  refine ⟨fun st followed => if_pos (by simp [st, followed]), fun moved => if_neg ?_⟩
  rw [Bool.and_eq_true, beq_iff_eq, beq_iff_eq, Classical.not_and_iff_not_or_not]
  exact moved

/-- The rows of the evaluation, by the state that it leaves. -/
theorem evaluate_rows (s : State) :
    let k := s.time.sel
    let x := k.followed
    let y := other x
    let leave (take : Prop) (t : State) : Prop := (take → t = s.switchTo y) ∧ (¬ take → t = s.enterHold)
    let done := k.mode = 0 ∧ s.better y x = true ∧
      (k.wtrExpired = true ∨ (∃ t, k.betterSince = some t ∧ t + k.wtrSec * 1000000000 ≤ s.now) ∨ (k.betterSince = none ∧ k.wtrSec = 0))
    (k.st = .init → s.candidate = none → s.evaluate = s) ∧
    (∀ d, k.st = .init → s.candidate = some d → s.evaluate = ({ s with time := { s.time with sel := { k with
      st := .track, followed := d, svc := (s.domain d).base, validAt := (s.domain d).base, residual := 0, slewRem := 0, valid := true
      slew := false, hold := false } } }).startTime) ∧
    (k.st = .track → (s.domain x).qualified = false → leave (s.usable y = true) s.evaluate) ∧
    (k.st = .track → (s.domain x).qualified = true → allowed k.mode x = false → leave ((s.domain y).qualified = true) s.evaluate) ∧
    (k.st = .track → (s.domain x).qualified = true → allowed k.mode x = true → done → s.evaluate = s.switchTo y) ∧
    (k.st = .track → (s.domain x).qualified = true → allowed k.mode x = true → ¬ done →
      s.evaluate = { s with time := { s.time with sel := { k with slew := k.residual != 0 } } }) ∧
    (k.st = .switch → (s.domain x).qualified = false ∨ allowed k.mode x = false → leave (s.usable y = true) s.evaluate) ∧
    (k.st = .switch → (s.domain x).qualified = true → allowed k.mode x = true → k.residual = 0 →
      s.evaluate = { s with time := { s.time with sel := { k with st := .track, slew := false } } }) ∧
    (k.st = .switch → (s.domain x).qualified = true → allowed k.mode x = true → k.residual ≠ 0 →
      s.evaluate = { s with time := { s.time with sel := { k with slew := true } } }) ∧
    (k.st = .hold → s.candidate = none → s.evaluate = s) ∧
    (∀ d, k.st = .hold → s.candidate = some d → s.evaluate = s.switchTo d) := by
  have wait_iff : (s.time.sel.mode == 0 && s.better (other s.time.sel.followed) s.time.sel.followed && (s.time.sel.wtrExpired ||
      match s.time.sel.betterSince with
      | some t => t + s.time.sel.wtrSec * 1000000000 ≤ s.now
      | none => s.time.sel.wtrSec == 0)) = true ↔
      (s.time.sel.mode = 0 ∧ s.better (other s.time.sel.followed) s.time.sel.followed = true ∧ (s.time.sel.wtrExpired = true ∨
        (∃ t, s.time.sel.betterSince = some t ∧ t + s.time.sel.wtrSec * 1000000000 ≤ s.now) ∨ (s.time.sel.betterSince = none ∧ s.time.sel.wtrSec = 0))) := by
    cases s.time.sel.betterSince <;> simp [and_assoc]
  refine ⟨fun st none_ => ?_, fun d st some_ => ?_, fun st bad => ⟨fun take => ?_, fun no => ?_⟩, fun st good shut => ⟨fun take => ?_, fun no => ?_⟩,
    fun st good open_ done => ?_, fun st good open_ wait => ?_, fun st out => ⟨fun take => ?_, fun no => ?_⟩, fun st good open_ zero => ?_,
    fun st good open_ left => ?_, fun st none_ => ?_, fun d st some_ => ?_⟩
  · simp only [State.evaluate, st, none_]
  · simp only [State.evaluate, st, some_]
  · simp only [State.evaluate, st, bad, take, Bool.not_false, if_true]
  · simp only [State.evaluate, st, bad, no, Bool.not_false, if_true, Bool.false_eq_true, if_false]
  · simp only [State.evaluate, st, good, shut, take, Bool.not_false, Bool.not_true, Bool.false_eq_true, if_false, if_true]
  · simp only [State.evaluate, st, good, shut, no, Bool.not_false, Bool.not_true, Bool.false_eq_true, if_false, if_true]
  · simp only [State.evaluate, st, good, open_, Bool.not_true, Bool.false_eq_true, if_false]
    exact if_pos (wait_iff.mpr done)
  · simp only [State.evaluate, st, good, open_, Bool.not_true, Bool.false_eq_true, if_false]
    exact if_neg (mt wait_iff.mp wait)
  · simp only [State.evaluate, st]
    exact (if_pos (by simpa using out)).trans (if_pos take)
  · simp only [State.evaluate, st]
    exact (if_pos (by simpa using out)).trans (if_neg no)
  · simp only [State.evaluate, st, good, open_, zero, Bool.not_true, Bool.or_self, Bool.false_eq_true, if_false, beq_self_eq_true, if_true]
  · simp only [State.evaluate, st, good, open_, beq_eq_false_iff_ne.mpr left, Bool.not_true, Bool.or_self, Bool.false_eq_true, if_false]
  · simp only [State.evaluate, st, none_]
  · simp only [State.evaluate, st, some_]

/-- The active evaluates once per microsecond. -/
theorem selectionEvaluation_goes (s : State) :
    (s.pair.standby = true ∨ s.now / 1000 < s.time.sel.lastEval → Stays .selectionEvaluation s) ∧
    (s.pair.standby = false → s.time.sel.lastEval ≤ s.now / 1000 →
      let a := s.wtrClock.evaluate.wtrClock
      Goes .selectionEvaluation s (s.transitionRecord { a with time := { a.time with sel := { a.time.sel with
        lastEval := s.now / 1000 + 1, forced := false } } })) :=
  ⟨fun waits => stays_of (u := Sys2Proof.Machine.selectionEvaluation s) rfl (if_pos (by simpa using waits)),
    fun active due => goes_of (u := Sys2Proof.Machine.selectionEvaluation s) rfl (if_neg (by simp [active, due]))⟩

/-- A wait to restore and a residual end at their times. -/
theorem waitsEnd_go (s : State) :
    (s.time.sel.betterSince = none → Stays .waitToRestoreExpiry s) ∧
    (∀ t, s.time.sel.betterSince = some t →
      (s.now < t + s.time.sel.wtrSec * 1000000000 → Stays .waitToRestoreExpiry s) ∧
      (t + s.time.sel.wtrSec * 1000000000 ≤ s.now → Goes .waitToRestoreExpiry s { s with time := { s.time with sel := { s.time.sel with wtrExpired := true } } })) ∧
    (let k := s.time.sel
     let ends := k.residual = 0 ∧ (k.slew = true ∨ k.st = .switch) ∧ s.pair.standby = false
     (¬ ends → Stays (.residualReachesZero .agg) s) ∧
     (ends → Goes (.residualReachesZero .agg) s (s.transitionRecord { s with time := { s.time with sel := { k with
       slew := false, st := if k.st = .switch then .track else k.st } } }))) ∧
    (∀ p, (s.dtc p).time.residual = 0 → Goes (.residualReachesZero (.dtc p)) s (s.setDtc p { s.dtc p with time := { (s.dtc p).time with slewRem := 0 } })) ∧
    (∀ p, (s.dtc p).time.residual ≠ 0 → Goes (.residualReachesZero (.dtc p)) s (s.setDtc p (s.dtc p))) := by
  refine ⟨fun none_ => stays_of rfl ?_, fun t runs => ⟨fun early => stays_of rfl ?_, fun late => goes_of rfl ?_⟩, ⟨fun none_ => stays_of rfl (if_neg ?_),
    fun ends => goes_of rfl ((if_pos ?_).trans ?_)⟩, fun p zero => goes_onDtc rfl (if_pos (by simp [zero])), fun p left => goes_onDtc rfl (if_neg (by simp [left]))⟩
  · simp only [none_]
  · dsimp only
    rw [runs]
    exact if_neg (Nat.not_le.mpr early)
  · dsimp only
    rw [runs]
    exact if_pos late
  · simpa [and_assoc] using none_
  · simpa [and_assoc] using ends
  · simp only [beq_iff_eq]

/-! ## Watchdogs, pulses and time of day (R59, R60, R599) -/

/-- A watchdog and a silent 1PPS end at their times. -/
theorem domainEnds_go (s : State) (d : Fin 2) :
    let m := s.domain d
    let off := s.setDomain d { m with qualified := false }
    (s.pair.standby = true ∨ m.qualified = false ∨ s.now < m.lastWrite + m.watchdogMs * 1000000 → Stays (.domainWatchdogExpiry d) s) ∧
    (s.pair.standby = false → m.qualified = true → m.lastWrite + m.watchdogMs * 1000000 ≤ s.now →
      Goes (.domainWatchdogExpiry d) s (off.raise 3 0x0101 4 (be 1 d.val ++ be 1 1))) ∧
    (m.qualified = false ∨ s.now < m.lastPulse + 1500000000 ∨ (∀ i, m.binding ≠ .pps i) → Stays (.ppsSilenceTimeout d) s) ∧
    (∀ i, m.binding = .pps i → m.qualified = true → m.lastPulse + 1500000000 ≤ s.now →
      Goes (.ppsSilenceTimeout d) s (off.raise 3 0x0101 4 (be 1 d.val ++ be 1 2))) := by
  refine ⟨fun waits => stays_of rfl (if_neg ?_), fun active good late => goes_of rfl (if_pos (by simp [active, good, late])), fun waits => stays_of rfl ?_,
    fun i bound good late => goes_of rfl ?_⟩
  · obtain standby | bad | young := waits
    · simp [standby]
    · simp [bad]
    · simp [young]
  · dsimp only
    split
    · next i bound =>
      refine if_neg ?_
      obtain bad | young | other := waits
      · simp [bad]
      · simp [young]
      · exact absurd bound (other i)
    · rfl
  · dsimp only
    split
    · exact if_pos (by simp [good, late])
    · next other => exact absurd bound (other i)

/-- A pulse is stamped, counted, and touches the domains bound to it. -/
theorem ppsPulse_goes (s : State) (i : Fin 2) (ph : Fin 8) :
    let p := Tbl.get {} i.val s.time.pps
    let p1 : PpsInput := { p with
      pulses := satInc 64 p.pulses, lastAt := s.now, unused := if p.lastStamp.isSome = true then satInc 64 p.unused else p.unused
      lastStamp := some (stampOf (s.svc + ph.val * 2 ^ 45 - fld s.phys.bootCfg (16 + 2 * i.val) 2 * 2 ^ 44) s.svcFlags) }
    let touch (t : State) (d : Fin 2) : State := if (t.domain d).binding = .pps i then t.setDomain d { t.domain d with lastPulse := t.now } else t
    Goes (.ppsPulse i ph) s (touch (touch { s with time := { s.time with pps := Tbl.set {} i.val p1 s.time.pps } } 0) 1) := by
  refine goes_of rfl ?_
  simp only [beq_iff_eq]
  rfl

/-- A time-of-day message is used within its window, and counted outside it or in a bad form. -/
theorem todMessage_goes (s : State) (i : Fin 2) (b : Bytes) :
    let p := Tbl.get {} i.val s.time.pps
    let put (q : PpsInput) : AggTime := { s.time with pps := Tbl.set {} i.val q s.time.pps }
    let used := b.length = 16 ∧ fld b 0 2 = 0x4F54 ∧ byteAt b 2 = 1 ∧ fld b 14 2 = checkValueOf crc16Config (b.take 14) ∧
      p.lastStamp.isSome = true ∧ p.lastAt + 10000000 ≤ s.now ∧ s.now ≤ p.lastAt + 900000000
    (¬ used → Goes (.todMessage i b) s { s with time := put { p with discarded := satInc 64 p.discarded } }) ∧
    (used → byteAt b 13 % 2 = 0 → Goes (.todMessage i b) s { s with time := put { p with lastStamp := none, unused := satInc 64 p.unused } }) ∧
    (used → byteAt b 13 % 2 = 1 → Goes (.todMessage i b) s { s with time := { s.time with
      utcOffset := BitVec.ofNat 16 (fld b 11 2)
      pps := Tbl.set {} i.val { p with lastStamp := none, lastSeconds := BitVec.ofNat 64 (fld b 3 8) } s.time.pps } }) := by
  intro p put used
  have used_iff : (!(b.length == 16 && fld b 0 2 == 0x4F54 && byteAt b 2 == 1 && fld b 14 2 == checkValueOf crc16Config (b.take 14)) ||
      !(p.lastStamp.isSome && decide (p.lastAt + 10000000 ≤ s.now) && decide (s.now ≤ p.lastAt + 900000000))) = true ↔ ¬ used := by
    simp only [used, ← Bool.not_and, Bool.not_eq_true', ← Bool.not_eq_true, Bool.and_eq_true, beq_iff_eq, decide_eq_true_eq, and_assoc]
  exact ⟨fun not_ => goes_of rfl (if_pos (used_iff.mpr not_)),
    fun use even => goes_of rfl ((if_neg (mt used_iff.mp (Classical.not_not.mpr use))).trans (if_pos (by simp [even]))),
    fun use odd => goes_of rfl ((if_neg (mt used_iff.mp (Classical.not_not.mpr use))).trans (if_neg (by simp [odd])))⟩

/-! ## PTP (R71, R72) -/

/-- What a PTP message at a port does. -/
theorem ptpReceive_goes (s : State) (port : Fin 17) :
    let p := Tbl.get {} port.val s.time.ptp
    let on := byteAt p.params 1 % 2 = 1
    let put (q : PtpPort) : State := { s with time := { s.time with ptp := Tbl.set {} port.val q s.time.ptp } }
    let rx := ((((frac16 s.svc : Nat) : Int) - ((((Tbl.get {} port.val s.time.asym).at s.now).toNat / 65536 * 4096 : Nat) : Int)) / 8192 * 8192)
    (∀ m, ¬ on ∨ s.ptpDomain m.domainNumber = none → Goes (.ptpMessageReceive port m) s (put { p with discards := satInc 16 p.discards })) ∧
    (∀ n d, on → s.ptpDomain n = some d →
      (∀ o, Goes (.ptpMessageReceive port ⟨n, .sync o false⟩) s (put { p with t2 := rx, t1 := o, offset := rx - o - p.pathDelay })) ∧
      (∀ o, Goes (.ptpMessageReceive port ⟨n, .sync o true⟩) s (put { p with t2 := rx })) ∧
      (∀ o, Goes (.ptpMessageReceive port ⟨n, .followUp o⟩) s (put { p with t1 := o, offset := p.t2 - o - p.pathDelay })) ∧
      (∀ o, Goes (.ptpMessageReceive port ⟨n, .delayResp o⟩) s (put { p with
        pathDelay := ((p.t2 - p.t1) + (o - p.t3)).tdiv 2, offset := p.t2 - p.t1 - ((p.t2 - p.t1) + (o - p.t3)).tdiv 2 })) ∧
      (s.active = true → byteAt p.params 2 ≠ 2 → Goes (.ptpMessageReceive port ⟨n, .delayReq⟩) s
        (s.emit (.ptp port.val .delayReq) (ptpBytes p 9 n.toNat false rx (-(rx % 65536))))) ∧
      (s.active = false ∨ byteAt p.params 2 = 2 → Stays (.ptpMessageReceive port ⟨n, .delayReq⟩) s) ∧
      (∀ k a b,
        let p1 : PtpPort := { p with state := Config.bmcaState s.free p.params, stepsRemoved := BitVec.ofNat 8 (k + 1) }
        Goes (.ptpMessageReceive port ⟨n, .announce k a b⟩) s
          { s with free := s.free + 1, time := { s.time with ptp := Tbl.set {} port.val p1 s.time.ptp } }) ∧
      Stays (.ptpMessageReceive port ⟨n, .other⟩) s) := by
  intro p on put rx
  refine ⟨fun m out => goes_of rfl ?_, fun n d o bound => ?_⟩
  · have none_ : (if byteAt p.params 1 % 2 == 1 then s.ptpDomain m.domainNumber else none) = none := by
      obtain off | free := out
      · exact if_neg (by simpa [on] using off)
      · rw [free, ite_self]
    dsimp only
    rw [none_]
  · have some_ : (if byteAt (Tbl.get ({} : PtpPort) port.val s.time.ptp).params 1 % 2 == 1 then s.ptpDomain n else none) = some d :=
      (if_pos (beq_iff_eq.mpr o)).trans bound
    refine ⟨fun o => goes_of rfl ?_, fun o => goes_of rfl ?_, fun o => goes_of rfl ?_, fun o => goes_of rfl ?_, fun active master => goes_of rfl ?_,
      fun slave => stays_of rfl ?_, fun k a b => goes_of rfl ?_, stays_of rfl ?_⟩
    · simp only [some_] <;> rfl
    · simp only [some_] <;> rfl
    · simp only [some_] <;> rfl
    · simp only [some_] <;> rfl
    · simp only [some_]
      refine if_pos ?_
      rw [State.ptpMaster, active, Bool.true_and, bne_iff_ne]
      exact master
    · simp only [some_]
      refine if_neg ?_
      obtain standby | only := slave
      · simp [State.ptpMaster, standby]
      · simp only [State.ptpMaster, show byteAt (Tbl.get ({} : PtpPort) port.val s.time.ptp).params 2 = 2 from only]
        simp
    · simp only [some_] <;> rfl
    · simp only [some_]

/-- What a port sends for PTP. -/
theorem ptpSend_goes (s : State) (port : Fin 17) (k : PtpSend) :
    let p := Tbl.get {} port.val s.time.ptp
    let q := s.netPort port.val
    let tx := ((((frac16 s.svc : Nat) : Int) + ((((Tbl.get {} port.val s.time.asym).at s.now).toNat % 65536 * 4096 : Nat) : Int)) / 8192 * 8192)
    let dom := s.ptpNumber p
    let p1 : PtpPort := { p with sent := p.sent + 1, t3 := if k = .delayReq then tx else p.t3 }
    let t : State := { s with free := s.free + 1, time := { s.time with ptp := Tbl.set {} port.val p1 s.time.ptp } }
    let may := byteAt p.params 1 % 2 = 1 ∧ (k = .delayReq ∨ (s.active = true ∧ byteAt p.params 2 ≠ 2))
    (q.st = .retraining → Goes (.ptpMessageSend port k) s (s.setNetPort port.val { q with outageDrops := satInc 64 q.outageDrops })) ∧
    (q.st ≠ .retraining → ¬ may → Stays (.ptpMessageSend port k) s) ∧
    (q.st ≠ .retraining → may → k = .sync → byteAt p.params 1 / 2 % 2 = 1 →
      Goes (.ptpMessageSend port k) s (t.emit (.ptp port.val .sync) (ptpBytes p 0 dom false tx (tx % 65536)))) ∧
    (q.st ≠ .retraining → may → k = .sync → byteAt p.params 1 / 2 % 2 = 0 → Goes (.ptpMessageSend port k) s
      ((t.emit (.ptp port.val .sync) (ptpBytes p 0 dom true 0 0)).emit (.ptp port.val .sync) (ptpBytes p 8 dom false tx (tx % 65536)))) ∧
    (q.st ≠ .retraining → may → k = .delayReq → Goes (.ptpMessageSend port k) s (t.emit (.ptp port.val .delayReq) (ptpBytes p 1 dom false 0 0))) ∧
    (q.st ≠ .retraining → may → k = .announce → Goes (.ptpMessageSend port k) s (t.emit (.ptp port.val .announce) (ptpBytes p 11 dom false 0 0))) := by
  intro p q tx dom p1 t may
  have may_iff : (byteAt p.params 1 % 2 == 0 || (k != .delayReq && !s.ptpMaster p)) = true ↔ ¬ may := by
    have parity : byteAt p.params 1 % 2 = 0 ↔ ¬ byteAt p.params 1 % 2 = 1 := by omega
    simp only [may, State.ptpMaster, Bool.or_eq_true, beq_iff_eq, Bool.and_eq_true, bne_iff_ne, Bool.not_eq_true', ← Bool.not_eq_true, parity, Classical.not_and_iff_not_or_not,
      not_or, ne_eq]
  have sends (up : q.st ≠ .retraining) (m : may) {u : State} (e : t.sendPtp port.val p k dom tx = u) : Goes (.ptpMessageSend port k) s u := by
    subst e
    refine goes_of rfl ((if_neg (by simpa using up)).trans ((if_neg (mt may_iff.mp (Classical.not_not.mpr m))).trans ?_))
    simp only [beq_iff_eq]
    rfl
  refine ⟨fun down => goes_of rfl (if_pos (beq_iff_eq.mpr down)), fun up no => stays_of rfl ((if_neg (by simpa using up)).trans (if_pos (may_iff.mpr no))),
    fun up m kind one => sends up m ?_, fun up m kind two => sends up m ?_, fun up m kind => sends up m ?_, fun up m kind => sends up m ?_⟩
  · simp only [kind, State.sendPtp]
    exact if_pos one
  · simp only [kind, State.sendPtp]
    exact if_neg (by rw [two]; decide)
  · simp only [kind, State.sendPtp]
  · simp only [kind, State.sendPtp]

/-! ## Trigger edges (R83 to R86) -/

/-- A trigger's changes that are due are issued with their instants, where time is valid. -/
theorem triggerEdge_goes (s : State) :
    (∀ i : Fin 16, s.timeValid = false ∨ 8 ≤ i.val → Stays (.triggerEdge .agg i) s) ∧
    (∀ i : Fin 16, s.timeValid = true → i.val < 8 →
      let k := Tbl.get {} i.val s.time.trig
      let dly := fld s.phys.bootCfg (20 + i.val) 1
      let t := frac16 s.svc + dly * 8192
      let k1 := k.settle t
      Goes (.triggerEdge .agg i) s ((k.changes t).foldl (fun u c => u.emit (.trigger .agg i.val (c.2 != k1.prog.activeLow))
        (stampBytes (edgeStamp (c.1 - dly * 8192) s.svcFlags))) { s with time := { s.time with trig := Tbl.set {} i.val k1 s.time.trig } })) ∧
    (∀ p (i : Fin 16), (s.dtc p).time.valid = false ∨ (s.dtc p).ready = false → Stays (.triggerEdge (.dtc p) i) s) ∧
    (∀ p (i : Fin 16), (s.dtc p).time.valid = true → (s.dtc p).ready = true →
      let d := s.dtc p
      let k := Tbl.get {} i.val d.time.trig
      let dly := d.trigDly.toNat
      let t := frac16 d.instant + dly * 8192
      let k1 := k.settle t
      Goes (.triggerEdge (.dtc p) i) s ((k.changes t).foldl (fun u c => u.emit (.trigger (.dtc p) i.val (c.2 != k1.prog.activeLow))
        (stampBytes (edgeStamp (c.1 - dly * 8192) d.flags))) (s.setDtc p { d with time := { d.time with trig := Tbl.set {} i.val k1 d.time.trig } }))) :=
  ⟨fun i waits => stays_of rfl (if_pos (by simpa using waits)), fun i valid low => goes_of rfl (if_neg (by simp [valid, low])),
    fun p i waits => stays_of rfl (if_pos (by simpa using waits)), fun p i valid ready => goes_of rfl (if_neg (by simp [valid, ready]))⟩

/-- Settles O53: each event of time by its own lemma. -/
theorem timeEventsKeepServiceTime : Obligations.TimeEventsKeepServiceTime := by
  unfold Obligations.TimeEventsKeepServiceTime
  intro s
  obtain ⟨quiet, evaluates⟩ := selectionEvaluation_goes s
  obtain ⟨none_, waits, residual, zero, left⟩ := waitsEnd_go s
  obtain ⟨i1, i2, t1, t2, t3, t4, s1, s2, s3, h1, h2⟩ := evaluate_rows s
  obtain ⟨aggStays, aggIssues, dtcStays, dtcIssues⟩ := triggerEdge_goes s
  exact ⟨quiet, evaluates, transitionRecord_spec s,
    ⟨i1, i2, t1, t2, t3, t4, s1, s2, s3, h1, h2, fun d => ⟨rfl, rfl, rfl⟩, rfl, rfl, rfl⟩,
    none_, waits, residual, zero, left, fun d => domainEnds_go s d, fun i ph => ppsPulse_goes s i ph, fun i b => todMessage_goes s i b,
    fun port => ptpReceive_goes s port, fun port k => ptpSend_goes s port k, fun port q => goes_of rfl rfl, fun c b => goes_of rfl rfl,
    aggStays, aggIssues, dtcStays, dtcIssues⟩

end Sys2Proof.Machine
end

section
/-! The pair's roles, mirroring and recovery (O54) -/

namespace Sys2Proof.Machine
open Sys2Proof Sys2Proof.Proofs

/-! ## Claims, heartbeats and takeovers (R485 to R489) -/

/-- From stage 7 a claiming aggregator sends a claim once per 2 us. -/
theorem claimSend_goes (s : State) :
    (s.pair.claiming = false ∨ s.takesNotices = false ∨ s.now / 2000 ≤ s.pair.lastClaim → Stays .claimSend s) ∧
    (s.pair.claiming = true → s.takesNotices = true → s.pair.lastClaim < s.now / 2000 →
      let t := (s.emit (.notice .partnerLink) (s.notice 4 .partnerLink)).emit (.notice .fabric) (s.notice 4 .fabric)
      Goes .claimSend s { t with pair := { t.pair with firstClaim := some (s.pair.firstClaim.getD s.now), lastClaim := s.now / 2000 } }) :=
  ⟨fun waits => stays_of rfl (if_neg (by
      simp only [Bool.and_eq_true, decide_eq_true_eq, not_and, Nat.not_lt]
      rintro ⟨claims, takes⟩
      simpa [claims, takes] using waits)),
    fun claims takes due => goes_of rfl (if_pos (by simp [claims, takes, due]))⟩

/-- What is heard before stage 7, or while held in reset, changes nothing. -/
theorem notices_ignored (s : State) (p : PairPath) (b : Bytes) (deaf : s.takesNotices = false) :
    Stays (.claimReceive p b) s ∧ Stays (.heartbeatReceive p b) s ∧ Stays (.takeoverNoticeReceive p b) s ∧ Stays (.relinquishReceive p b) s :=
  have skip : (!s.takesNotices) = true := by rw [deaf]; rfl
  ⟨stays_of (u := s.takeClaim p b) rfl (if_pos skip), stays_of (u := s.takeHeartbeat p b) rfl (if_pos skip),
    stays_of (u := s.takeTakeover p b) rfl (if_pos skip), stays_of (u := s.takeRelinquish p b) rfl (if_pos skip)⟩

theorem takesNotices_false (s : State) (h : s.dev.stage < 7 ∨ s.phys.porLow = true ∨ s.phys.tripShutdown = true) : s.takesNotices = false := by
  simp only [State.takesNotices, ← Bool.not_eq_true, Bool.and_eq_true, decide_eq_true_eq, Bool.not_eq_true', not_and]
  rintro ⟨late, high⟩
  rcases h with early | low | trip
  · omega
  · exact absurd low (by simp [high])
  · exact Classical.not_not.mpr trip

section
variable {s : State} {p : PairPath} {b : Bytes} (takes : s.takesNotices = true)
include takes

/-- A claim settles the roles of one that claims by the OID. -/
theorem claimReceive_goes :
    let t := s.hear p b
    (t.pair.claiming = true → t.dev.oid < ntOid b → Goes (.claimReceive p b) s t.becomeActive) ∧
    (t.pair.claiming = true → ¬ t.dev.oid < ntOid b → Goes (.claimReceive p b) s (t.becomeStandby t.pair.term)) ∧
    (t.pair.claiming = false → Goes (.claimReceive p b) s t) := by
  intro t
  have heard {u : State} (e : (if !t.pair.claiming then t else if t.dev.oid < ntOid b then t.becomeActive else t.becomeStandby t.pair.term) = u) :
      Goes (.claimReceive p b) s u :=
    goes_of (u := s.takeClaim p b) rfl ((if_neg (by simp [takes])).trans e)
  exact ⟨fun claims less => heard ((if_neg (by simp [claims])).trans (if_pos less)),
    fun claims less => heard ((if_neg (by simp [claims])).trans (if_neg less)), fun claims => heard (if_pos (by simp [claims]))⟩

/-- A heartbeat settles one that claims, gives a standby its term and what it follows, and steps down an active that it outranks. -/
theorem heartbeatReceive_goes :
    let t := s.hear p b
    let back := s.pair.partnerFlags / 8 % 2 = 1 ∧ ntFlags b % 2 = 1 ∧ ntFlags b / 8 % 2 = 0
    (t.pair.claiming = true → ntRole b = 0 → Goes (.heartbeatReceive p b) s ((t.becomeStandby (ntTerm b)).follow p b)) ∧
    (t.pair.claiming = true → ntRole b ≠ 0 → Goes (.heartbeatReceive p b) s t) ∧
    (t.pair.claiming = false → t.pair.standby = true → ntRole b ≠ 0 → Goes (.heartbeatReceive p b) s t) ∧
    (t.pair.claiming = false → t.pair.standby = true → ntRole b = 0 → Goes (.heartbeatReceive p b) s (t.follow p b)) ∧
    (t.pair.claiming = false → t.pair.standby = false → t.outranked b = true → Goes (.heartbeatReceive p b) s (t.stepDown (ntTerm b))) ∧
    (t.pair.claiming = false → t.pair.standby = false → t.outranked b = false → ntRole b = 1 → back →
      Goes (.heartbeatReceive p b) s (({ t with pair := { t.pair with answersFor := none } }).enginePost 0x100 none)) ∧
    (t.pair.claiming = false → t.pair.standby = false → t.outranked b = false → ¬ (ntRole b = 1 ∧ back) → Goes (.heartbeatReceive p b) s t) := by
  intro t back
  let freed : State := ({ t with pair := { t.pair with answersFor := none } }).enginePost 0x100 none
  have heard {u : State} (e : (if t.pair.claiming = true then (if ntRole b = 0 then (t.becomeStandby (ntTerm b)).follow p b else t)
      else if t.pair.standby = true then (if ntRole b = 0 then t.follow p b else t)
      else if t.outranked b = true then t.stepDown (ntTerm b)
      else if (decide (ntRole b = 1) && (s.pair.partnerFlags / 8 % 2 == 1 && ntFlags b % 2 == 1 && ntFlags b / 8 % 2 == 0)) = true then freed
      else t) = u) : Goes (.heartbeatReceive p b) s u :=
    goes_of (u := s.takeHeartbeat p b) rfl ((if_neg (by simp [takes])).trans e)
  have back_iff : (decide (ntRole b = 1) && (s.pair.partnerFlags / 8 % 2 == 1 && ntFlags b % 2 == 1 && ntFlags b / 8 % 2 == 0)) = true ↔
      ntRole b = 1 ∧ back := by
    simp only [back, Bool.and_eq_true, decide_eq_true_eq, beq_iff_eq, and_assoc]
  refine ⟨fun claims zero => heard ?_, fun claims other => heard ?_, fun quiet stands other => heard ?_, fun quiet stands zero => heard ?_,
    fun quiet leads outranked => heard ?_, fun quiet leads keeps standby returns => heard ?_, fun quiet leads keeps no => heard ?_⟩
  · rw [if_pos claims, if_pos zero]
  · rw [if_pos claims, if_neg other]
  · rw [if_neg (by simp [quiet]), if_pos stands, if_neg other]
  · rw [if_neg (by simp [quiet]), if_pos stands, if_pos zero]
  · rw [if_neg (by simp [quiet]), if_neg (by simp [leads]), if_pos outranked]
  · rw [if_neg (by simp [quiet]), if_neg (by simp [leads]), if_neg (by simp [keeps]), if_pos (back_iff.mpr ⟨standby, returns⟩)]
  · rw [if_neg (by simp [quiet]), if_neg (by simp [leads]), if_neg (by simp [keeps]), if_neg (mt back_iff.mp no)]

/-- A takeover notice settles one that claims, gives a standby its term, and steps down an active that it outranks. -/
theorem takeoverNoticeReceive_goes :
    let t := s.hear p b
    (t.pair.claiming = true → ntRole b = 0 → Goes (.takeoverNoticeReceive p b) s (t.becomeStandby (ntTerm b))) ∧
    (t.pair.claiming = true → ntRole b ≠ 0 → Goes (.takeoverNoticeReceive p b) s t) ∧
    (t.pair.claiming = false → t.pair.standby = true → Goes (.takeoverNoticeReceive p b) s { t with pair := { t.pair with term := ntTerm b } }) ∧
    (t.pair.claiming = false → t.pair.standby = false → t.outranked b = true → Goes (.takeoverNoticeReceive p b) s (t.stepDown (ntTerm b))) ∧
    (t.pair.claiming = false → t.pair.standby = false → t.outranked b = false → Goes (.takeoverNoticeReceive p b) s t) := by
  intro t
  have heard {u : State} (e : (if t.pair.claiming = true then (if ntRole b = 0 then t.becomeStandby (ntTerm b) else t)
      else if t.pair.standby = true then { t with pair := { t.pair with term := ntTerm b } }
      else if t.outranked b = true then t.stepDown (ntTerm b) else t) = u) : Goes (.takeoverNoticeReceive p b) s u :=
    goes_of (u := s.takeTakeover p b) rfl ((if_neg (by simp [takes])).trans e)
  refine ⟨fun claims zero => heard ?_, fun claims other => heard ?_, fun quiet stands => heard ?_, fun quiet leads outranked => heard ?_,
    fun quiet leads keeps => heard ?_⟩
  · rw [if_pos claims, if_pos zero]
  · rw [if_pos claims, if_neg other]
  · rw [if_neg (by simp [quiet]), if_pos stands]
  · rw [if_neg (by simp [quiet]), if_neg (by simp [leads]), if_pos outranked]
  · rw [if_neg (by simp [quiet]), if_neg (by simp [leads]), if_neg (by simp [keeps])]

/-- Relinquish lets a standby take over. -/
theorem relinquishReceive_goes :
    let t := s.hear p b
    (t.pair.standby = false ∨ t.pair.claiming = true → Goes (.relinquishReceive p b) s t) ∧
    (t.pair.standby = true → t.pair.claiming = false → Goes (.relinquishReceive p b) s (t.takeover 1)) := by
  intro t
  have heard {u : State} (e : (if t.pair.standby && !t.pair.claiming then t.takeover 1 else t) = u) : Goes (.relinquishReceive p b) s u :=
    goes_of (u := s.takeRelinquish p b) rfl ((if_neg (by simp [takes])).trans e)
  refine ⟨fun no => heard (if_neg ?_), fun stands quiet => heard (if_pos (by simp [stands, quiet]))⟩
  rcases no with leads | claims
  · simp [leads]
  · simp [claims]

end

/-- A claim unheard for 50 ms (250 ms for the second of the pair) becomes active. -/
theorem claimTimeout_goes (s : State) :
    let due := ∃ t, s.pair.firstClaim = some t ∧ s.pair.claiming = true ∧ s.pair.heardAny = false ∧
      t + (if s.phys.straps.pairSel then 250000000 else 50000000) ≤ s.now
    (¬ due → Stays .claimTimeout s) ∧ (due → Goes .claimTimeout s s.becomeActive) := by
  intro due
  constructor
  · intro no
    refine stays_of rfl ?_
    split
    · next t first =>
      refine if_neg fun h => no ⟨t, first, ?_⟩
      simpa only [Bool.and_eq_true, Bool.not_eq_true', decide_eq_true_eq, and_assoc] using h
    · rfl
  · rintro ⟨t, first, claims, unheard, late⟩
    refine goes_of rfl ?_
    rw [first]
    exact if_pos (by simp only [claims, unheard, late, decide_true, Bool.not_false, Bool.and_self])

/-- One that does not claim sends a heartbeat once per 2 us of line time. -/
theorem heartbeatSend_goes (s : State) :
    let i := nsOf s.lineTime / 2000
    let t := (s.emit (.notice .partnerLink) (s.notice 1 .partnerLink)).emit (.notice .fabric) (s.notice 1 .fabric)
    (s.pair.claiming = true ∨ s.pair.hangCause.isSome = true ∨ s.takesNotices = false ∨ i ≤ s.pair.lastBeat → Stays .heartbeatSend s) ∧
    (s.pair.claiming = false → s.pair.hangCause = none → s.takesNotices = true → s.pair.lastBeat < i →
      Goes .heartbeatSend s { t with pair := { t.pair with lastBeat := i } }) := by
  intro i t
  refine ⟨fun waits => stays_of rfl (if_neg ?_), fun quiet runs takes due => goes_of rfl (if_pos ?_)⟩
  · simp only [Bool.and_eq_true, Bool.not_eq_true', Option.isNone_iff_eq_none, decide_eq_true_eq]
    rintro ⟨⟨⟨quiet, runs⟩, takes⟩, due⟩
    rcases waits with claims | hangs | deaf | early
    · exact absurd claims (by simp [quiet])
    · exact absurd hangs (by simp [runs])
    · exact absurd takes (by simp [deaf])
    · exact absurd due (Nat.not_lt.mpr early)
  · simp only [quiet, runs, takes, Option.isNone_none, Bool.not_false, Bool.and_self, Bool.true_and]
    exact decide_eq_true due

/-- Three slots silent on every path heard let the standby take over. -/
theorem activeLost_goes (s : State) :
    let lost := s.pair.standby = true ∧ s.pair.claiming = false ∧ (s.pair.link.heard = true ∨ s.pair.fabric.heard = true) ∧
      s.pathUp s.pair.link = false ∧ s.pathUp s.pair.fabric = false
    (¬ lost → Stays .activeLost s) ∧ (lost → Goes .activeLost s (s.takeover 0)) := by
  intro lost
  have lost_iff : (s.pair.standby && !s.pair.claiming && (s.pair.link.heard || s.pair.fabric.heard) && !s.pathUp s.pair.link &&
      !s.pathUp s.pair.fabric) = true ↔ lost := by
    simp only [lost, Bool.and_eq_true, Bool.or_eq_true, Bool.not_eq_true', and_assoc]
  exact ⟨fun no => stays_of rfl (if_neg (mt lost_iff.mp no)), fun yes => goes_of rfl (if_pos (lost_iff.mpr yes))⟩

/-! ## Takeover (R488) -/

theorem pair_ite {c : Prop} [Decidable c] (a b : State) : (if c then a else b).pair = if c then a.pair else b.pair := apply_ite State.pair c a b
theorem objects_ite {c : Prop} [Decidable c] (a b : State) : (if c then a else b).sync.objects = if c then a.sync.objects else b.sync.objects :=
  apply_ite (fun t : State => t.sync.objects) c a b

@[simp] theorem signal_pair (s : State) (n : Nat) : (s.signal n).pair = s.pair := by
  simp only [State.signal, pair_ite, State.setVector, State.emit_pair, ite_self]
@[simp] theorem irq_pair (s : State) (bit : Nat) : (s.irq bit).pair = s.pair := by simp only [State.irq, pair_ite, signal_pair, ite_self]
@[simp] theorem raise_pair (s : State) (source code severity : Nat) (data : Bytes) (ctx : Nat) (oid : Option Word) :
    (s.raise source code severity data ctx oid).pair = s.pair := by
  simp only [State.raise, State.enqueueRecord, pair_ite, ite_self]

theorem enginePost_none {s : State} (none_ : s.sync.objects = []) (agent : Nat) (oid : Option Word) : s.enginePost agent oid = s := by
  rw [State.enginePost, none_, List.foldl_nil]

theorem replayRequests_none {s : State} (none_ : s.data.requests = []) : s.replayRequests = s := by
  simp only [State.replayRequests, none_, List.filter_nil, List.foldr_nil, List.foldl_nil]

theorem adoptStaged_none {s : State} (none_ : s.verbs.staging = []) : s.adoptStaged = s := by
  simp only [State.adoptStaged, none_, List.map_nil, List.flatten_nil, List.foldl_nil]

theorem resendReduction_none {s : State} (none_ : s.data.groups = []) : s.resendReduction = s := by
  rw [State.resendReduction, none_, List.foldl_nil]

/-- A takeover with nothing held, open or accepted takes the role under the next TERM. -/
theorem takeover_pair_idle (s : State) (c : Nat) (held : s.sync.heldPosts = []) (objects : s.sync.objects = []) (requests : s.data.requests = [])
    (groups : s.data.groups = []) (accepted : s.pair.accepted = []) (staging : s.verbs.staging = []) :
    (s.takeover c).pair = { s.pair with
      term := s.pair.term + 1, standby := false, mirrored := false, copy := none, commitMseq := 0, partnerRole := 255
      answersFor := some s.pair.partnerOid, takeovers := s.pair.takeovers + 1, lastTakeover := s.stamp, accepted := [] } := by
  unfold State.takeover
  dsimp only
  rw [accepted, List.foldl_nil]
  generalize e : (State.replayRequests _) = s4
  have base : s4.pair = { s.pair with
      term := s.pair.term + 1, standby := false, mirrored := false, copy := none, commitMseq := 0, partnerRole := 255
      answersFor := some s.pair.partnerOid, takeovers := s.pair.takeovers + 1, lastTakeover := s.stamp, accepted := [] } ∧
      s4.data = s.data ∧ s4.verbs = s.verbs ∧ s4.sync.objects = s.sync.objects := by
    subst e
    simp [State.sendNotice, State.refreshDomains, held, replayRequests_none, requests]
  obtain ⟨pair, data, verbs, sync⟩ := base
  rw [adoptStaged_none (by rw [verbs, staging]), resendReduction_none (by rw [data, groups]), enginePost_none, irq_pair, raise_pair]
  · exact pair
  · rw [(quiet_irq _ _).sync, (quiet_raise _ _ _ _ _ _ _).sync]
    exact sync.trans objects

/-! ## Mirror entries at the standby (R490, R491) -/

/-- What the standby does with an entry that is the next, by its type. -/
def State.enters (s : State) (typ copy : Nat) (e : Bytes) : State :=
  match typ with
  | 9 => s.takeSection (entryBody e)
  | 10 => s.takeCopyEntry (entryBody e)
  | _ => match s.pair.copy with
    | some k => if k.number = copy then { s with pair := { s.pair with copy := some { k with held := k.held ++ [e] } } } else s.applyItem typ (entryBody e)
    | none => s.applyItem typ (entryBody e)

theorem enters_item {s : State} {typ : Nat} (copy : Nat) (e : Bytes) (item : typ ∉ [9, 10]) :
    s.enters typ copy e = match s.pair.copy with
      | some k => if k.number = copy then { s with pair := { s.pair with copy := some { k with held := k.held ++ [e] } } } else s.applyItem typ (entryBody e)
      | none => s.applyItem typ (entryBody e) := by
  unfold State.enters
  split
  · exact absurd item (by simp)
  · exact absurd item (by simp)
  · rfl

/-- Whether an entry restarts the sequence: it begins a copy or names a key. -/
def restarts (typ : Nat) (body : Bytes) : Bool := (typ == 10 && byteAt body 0 == 0) || (typ == 9 && byteAt body 0 == 8)

theorem restarts_iff (typ : Nat) (body : Bytes) : restarts typ body = true ↔ (typ = 10 ∧ byteAt body 0 = 0) ∨ (typ = 9 ∧ byteAt body 0 = 8) := by
  simp only [restarts, Bool.or_eq_true, Bool.and_eq_true, beq_iff_eq]

/-- What the standby does with an entry, by its header. -/
theorem takeEntry_eq (s : State) (e : Bytes) :
    let m := (emHeader e).1
    let typ := (emHeader e).2.2
    let t := ({ s with pair := { s.pair with mseqApplied := m } } : State).enters typ (emHeader e).2.1 e
    s.takeEntry e =
      if !s.pair.standby || decide (e.length < 16) then s
      else if decide (m ≤ s.pair.mseqApplied) && !restarts typ (entryBody e) then s.acknowledge
      else if m != s.pair.mseqApplied + 1 && !restarts typ (entryBody e) then s
      else if decide (typ = 10) && byteAt (entryBody e) 0 != 0 then t else t.acknowledge := rfl

/-- A standby applies entries in order and acknowledges them; late and early ones are dropped, and a copy's own are kept aside. -/
theorem mirrorEntryReceive_goes (s : State) (b : Bytes) :
    let h := emHeader b
    let m := h.1
    let typ := h.2.2
    let body := entryBody b
    let restart := (typ = 10 ∧ byteAt body 0 = 0) ∨ (typ = 9 ∧ byteAt body 0 = 8)
    let u : State := { s with pair := { s.pair with mseqApplied := m } }
    (s.pair.standby = false ∨ b.length < 16 → Stays (.mirrorEntryReceive b) s) ∧
    (s.pair.standby = true → 16 ≤ b.length → ¬ restart → m ≤ s.pair.mseqApplied → Goes (.mirrorEntryReceive b) s s.acknowledge) ∧
    (s.pair.standby = true → 16 ≤ b.length → ¬ restart → s.pair.mseqApplied + 1 < m → Stays (.mirrorEntryReceive b) s) ∧
    (s.pair.standby = true → 16 ≤ b.length → m = s.pair.mseqApplied + 1 ∨ restart →
      (typ = 9 → Goes (.mirrorEntryReceive b) s (u.takeSection body).acknowledge) ∧
      (typ = 10 → byteAt body 0 = 0 → Goes (.mirrorEntryReceive b) s (u.takeCopyEntry body).acknowledge) ∧
      (typ = 10 → byteAt body 0 ≠ 0 → Goes (.mirrorEntryReceive b) s (u.takeCopyEntry body)) ∧
      (∀ k, typ ∉ [9, 10] → s.pair.copy = some k → k.number = h.2.1 → Goes (.mirrorEntryReceive b) s
        ({ u with pair := { u.pair with copy := some { k with held := k.held ++ [b] } } }).acknowledge) ∧
      (∀ k, typ ∉ [9, 10] → s.pair.copy = some k → k.number ≠ h.2.1 → Goes (.mirrorEntryReceive b) s (u.applyItem typ body).acknowledge) ∧
      (typ ∉ [9, 10] → s.pair.copy = none → Goes (.mirrorEntryReceive b) s (u.applyItem typ body).acknowledge)) := by
  intro h m typ body restart u
  have taken (stands : s.pair.standby = true) (long : 16 ≤ b.length) : ¬ (!s.pair.standby || decide (b.length < 16)) = true := by
    simp [stands, long]
  have regular (no : ¬ restart) : (!restarts typ body) = true := Bool.not_eq_true' _ ▸ Bool.eq_false_iff.mpr (mt (restarts_iff typ body).mp no)
  have sequel (stands : s.pair.standby = true) (long : 16 ≤ b.length) (new : m = s.pair.mseqApplied + 1 ∨ restart) {v : State}
      (e : (if decide (typ = 10) && byteAt body 0 != 0 then u.enters typ h.2.1 b else (u.enters typ h.2.1 b).acknowledge) = v) :
      Goes (.mirrorEntryReceive b) s v := by
    refine goes_of (u := s.takeEntry b) rfl ((takeEntry_eq s b).trans ((if_neg (taken stands long)).trans ((if_neg fun h => ?_).trans
      ((if_neg fun h => ?_).trans e))))
    all_goals
      obtain ⟨old, no⟩ := Bool.and_eq_true_iff.mp h
      have now : m = s.pair.mseqApplied + 1 := new.resolve_right fun r =>
        absurd ((restarts_iff typ body).mpr r) (Bool.eq_false_iff.mp ((Bool.not_eq_true' _).mp no))
    · exact absurd (of_decide_eq_true old) (Nat.not_le.mpr (Nat.lt_of_lt_of_eq (Nat.lt_succ_self _) now.symm))
    · exact absurd now (bne_iff_ne.mp old)
  refine ⟨fun no => stays_of (u := s.takeEntry b) rfl ((takeEntry_eq s b).trans (if_pos (by simpa using no))),
    fun stands long no old => goes_of (u := s.takeEntry b) rfl ((takeEntry_eq s b).trans ?_),
    fun stands long no early => stays_of (u := s.takeEntry b) rfl ((takeEntry_eq s b).trans ?_), fun stands long new => ?_⟩
  · exact (if_neg (taken stands long)).trans (if_pos (Bool.and_eq_true_iff.mpr ⟨decide_eq_true old, regular no⟩))
  · refine (if_neg (taken stands long)).trans ((if_neg fun h => ?_).trans (if_pos (Bool.and_eq_true_iff.mpr ⟨bne_iff_ne.mpr ?_, regular no⟩)))
    · exact absurd (of_decide_eq_true (Bool.and_eq_true_iff.mp h).1) (Nat.not_le.mpr (Nat.lt_of_succ_lt early))
    · exact Nat.ne_of_gt early
  · have enters {v : State} (other : ¬ (typ = 10 ∧ byteAt body 0 ≠ 0)) (e : u.enters typ h.2.1 b = v) : Goes (.mirrorEntryReceive b) s v.acknowledge :=
      sequel stands long new ((if_neg (by simpa using other)).trans (congrArg State.acknowledge e))
    have item (no : typ ∉ [9, 10]) : ¬ (typ = 10 ∧ byteAt body 0 ≠ 0) := fun h => no (by simp [h.1])
    refine ⟨fun kind => enters (fun h => absurd (kind.symm.trans h.1) (by decide)) (by rw [kind]; rfl),
      fun kind zero => enters (fun h => h.2 zero) (by rw [kind]; rfl),
      fun kind nonzero => sequel stands long new ((if_pos ?_).trans (by rw [kind]; rfl)),
      fun k kind copy same => enters (item kind) ?_, fun k kind copy other => enters (item kind) ?_, fun kind copy => enters (item kind) ?_⟩
    · exact Bool.and_eq_true_iff.mpr ⟨decide_eq_true kind, bne_iff_ne.mpr nonzero⟩
    · rw [enters_item _ _ kind, show u.pair.copy = some k from copy]
      exact if_pos same
    · rw [enters_item _ _ kind, show u.pair.copy = some k from copy]
      exact if_neg other
    · rw [enters_item _ _ kind, show u.pair.copy = none from copy]

/-! ## Acknowledgements and copies at the active (R490 to R493) -/

/-- An acknowledgement drops what it acknowledges and lets go what waited for it; that of the COMMIT ends the copy. -/
theorem mirrorAckReceive_goes (s : State) (n : BitVec 64) :
    let m := min n.toNat (s.pair.mseqNext - 1)
    let a : State := { s with pair := { s.pair with mseqAcked := m, unacked := s.pair.unacked.filter fun u => m < u.1 } }
    (s.active = false ∨ n.toNat ≤ s.pair.mseqAcked → Stays (.mirrorAckReceive n) s) ∧
    (s.active = true → s.pair.mseqAcked < n.toNat → s.pair.copy = none ∨ s.pair.commitMseq = 0 ∨ m < s.pair.commitMseq →
      Goes (.mirrorAckReceive n) s (a.release m)) ∧
    (∀ k, s.active = true → s.pair.mseqAcked < n.toNat → s.pair.copy = some k → s.pair.commitMseq ≠ 0 → s.pair.commitMseq ≤ m →
      Goes (.mirrorAckReceive n) s (({ a with pair := { a.pair with
        copy := none, commitMseq := 0, checkpoint := k.number, mirrored := true } } : State).release m)) := by
  intro m a
  have acts (active : s.active = true) (new : s.pair.mseqAcked < n.toNat) : ¬ (!s.active || decide (n.toNat ≤ s.pair.mseqAcked)) = true := by
    simp [active, new]
  refine ⟨fun no => stays_of rfl (if_pos (by simpa using no)), fun active new waits => goes_of rfl ((if_neg (acts active new)).trans ?_),
    fun k active new copy open_ done => goes_of rfl ((if_neg (acts active new)).trans ?_)⟩
  · refine congrArg (State.release · m) ?_
    split
    · next k copy =>
      refine if_neg fun h => ?_
      obtain ⟨open_, done⟩ := Bool.and_eq_true_iff.mp h
      rcases waits with none_ | zero | before
      · exact absurd (none_.symm.trans copy) (by simp)
      · exact bne_iff_ne.mp open_ zero
      · exact absurd (of_decide_eq_true done) (Nat.not_le.mpr before)
    · rfl
  · refine congrArg (State.release · m) ?_
    split
    · next k' copy' =>
      obtain rfl := Option.some.inj (copy.symm.trans copy')
      exact if_pos (Bool.and_eq_true_iff.mpr ⟨bne_iff_ne.mpr open_, decide_eq_true done⟩)
    · next copy' => exact absurd (copy.symm.trans copy') (by simp)

/-- A link silent for 10 us stops mirroring and lets everything withheld go. -/
theorem mirrorGapTimeout_goes (s : State) :
    (s.pair.partnerUp = false ∨ s.now < s.pair.link.heardAt + 10000 → Stays .mirrorGapTimeout s) ∧
    (s.pair.partnerUp = true → s.pair.link.heardAt + 10000 ≤ s.now →
      let t := ({ s with pair := { s.pair with partnerUp := false, partnerDownSince := some s.now, mirrored := false } }).setNetPort 17
        { s.netPort 17 with st := .retraining, outSince := s.now }
      Goes .mirrorGapTimeout s (t.release t.pair.mseqNext)) :=
  ⟨fun no => stays_of rfl (if_pos (by simpa using no)), fun up silent => goes_of rfl (if_neg (by simp [up, silent]))⟩

/-- The state in which an active has sent a copy: its keys, the sections and the COMMIT with their digests. -/
def State.copySent (s : State) : State :=
  let c := max s.pair.checkpoint s.pair.tried + 1
  let a : State := { s with pair := { s.pair with copy := some { number := c, since := s.now }, tried := c, unacked := [], commitMseq := 0 } }
  let keys := (s.sec.vault.filter fun e => e.2.state == 1).foldl (fun t e => t.mirror 9 (keyEntry e.1 e.2.keyId e.2.weightKey)) a
  let u := ((replacing ++ merging).foldl State.sendSection (keys.mirror 10 (be 1 0 ++ be 4 c))).mirror 10
    (be 1 1 ++ be 4 c ++ ((replacing ++ merging).map fun n => be 1 n ++ be 8 (s.digestOf n).toNat).flatten)
  { u with pair := { u.pair with commitMseq := u.lastMseq } }

theorem exec_checkpointStart (s : State) :
    exec .checkpointStart s = finish s (if (!s.active || s.pair.mirrored || s.pair.copy.isSome || !s.pair.partnerUp ||
      s.pair.partnerRole != 1 || s.pair.hangCause.isSome) = true then s else s.copySent) := by
  change execCheckpointStart s = _
  unfold execCheckpointStart
  dsimp only
  refine congrArg (finish s) (ite_congr rfl (fun _ => rfl) fun _ => ?_)
  unfold State.copySent
  dsimp only

/-- An active whose partner stands by unmirrored starts a copy. -/
theorem checkpointStart_goes (s : State) :
    let may := s.active = true ∧ s.pair.mirrored = false ∧ s.pair.copy = none ∧ s.pair.partnerUp = true ∧ s.pair.partnerRole = 1 ∧ s.pair.hangCause = none
    (¬ may → Stays .checkpointStart s) ∧ (may → Goes .checkpointStart s s.copySent) := by
  intro may
  have skips_iff : (!s.active || s.pair.mirrored || s.pair.copy.isSome || !s.pair.partnerUp || s.pair.partnerRole != 1 || s.pair.hangCause.isSome) = true ↔
      ¬ may := by
    simp only [may, Bool.or_eq_true, Bool.not_eq_true', bne_iff_ne, Option.isSome_iff_ne_none, ne_eq, Classical.not_and_iff_not_or_not, Bool.not_eq_true, Bool.not_eq_false, or_assoc]
  exact ⟨fun no => stays_of (exec_checkpointStart s) (if_pos (skips_iff.mpr no)),
    fun yes => goes_of (exec_checkpointStart s) (if_neg (mt skips_iff.mp (Classical.not_not.mpr yes)))⟩

/-- A COMMIT whose digests are right applies the copy and the entries kept aside; another gives it up. -/
theorem checkpointCommitReceive_goes (s : State) (c : Word) (d : List (Nat × BitVec 64)) :
    (s.pair.standby = false ∨ s.pair.copy = none → Stays (.checkpointCommitReceive c d) s) ∧
    (∀ k, s.pair.standby = true → s.pair.copy = some k →
      let good := ∀ e ∈ d, BitVec.ofNat 64 (crc64 (Tbl.get [] e.1 k.sections)) = e.2
      let a : State := { s with pair := { s.pair with copy := none } }
      let order := replacing.filter fun n => d.any fun e => e.1 == n
      let u := k.held.foldl (fun t e => t.applyItem (byteAt e 12) (entryBody e))
        (order.foldl (fun t n => t.applySection n (Tbl.get [] n k.sections)) a.clearLive)
      (k.number ≠ c.toNat → Stays (.checkpointCommitReceive c d) s) ∧
      (k.number = c.toNat → ¬ good → Goes (.checkpointCommitReceive c d) s a) ∧
      (k.number = c.toNat → good → Goes (.checkpointCommitReceive c d) s ({ u with pair := { u.pair with
        checkpoint := c.toNat, mirrored := u.dev.service, readmitDue := if u.dev.service = true then none else some u.now } }).acknowledge)) := by
  have unfolded (k : CopyState) (stands : s.pair.standby = true) (copy : s.pair.copy = some k) :
      exec (.checkpointCommitReceive c d) s = finish s (s.commitCopy c.toNat d) := congrArg (finish s) (if_pos stands)
  constructor
  · rintro (leads | none_)
    · exact stays_of rfl (if_neg (by simp [leads]))
    · refine stays_of rfl ?_
      split
      · rw [State.commitCopy, none_]
      · rfl
  intro k stands copy good a order u
  have commits : s.commitCopy c.toNat d =
      if (k.number != c.toNat) = true then s
      else if (!d.all fun e => BitVec.ofNat 64 (crc64 (Tbl.get [] e.1 k.sections)) == e.2) = true then a
      else ({ u with pair := { u.pair with
        checkpoint := c.toNat, mirrored := u.dev.service, readmitDue := if u.dev.service = true then none else some u.now } }).acknowledge := by
    unfold State.commitCopy
    rw [copy]
  have good_iff : (d.all fun e => BitVec.ofNat 64 (crc64 (Tbl.get [] e.1 k.sections)) == e.2) = true ↔ good := by
    simp only [good, List.all_eq_true, beq_iff_eq]
  refine ⟨fun other => stays_of (unfolded k stands copy) (commits.trans (if_pos (bne_iff_ne.mpr other))),
    fun same bad => goes_of (unfolded k stands copy) (commits.trans ((if_neg (by simp [same])).trans (if_pos ?_))),
    fun same right => goes_of (unfolded k stands copy) (commits.trans ((if_neg (by simp [same])).trans (if_neg ?_)))⟩
  · exact (Bool.not_eq_true' _).mpr (Bool.eq_false_iff.mpr (mt good_iff.mp bad))
  · exact fun h => Bool.eq_false_iff.mp ((Bool.not_eq_true' _).mp h) (good_iff.mpr right)

/-- A copy with the link down for over 100 us is given up. -/
theorem checkpointAbort_goes (s : State) :
    let late := s.pair.copy.isSome = true ∧ s.pair.partnerUp = false ∧ ∃ t, s.pair.partnerDownSince = some t ∧ t + 100000 < s.now
    (¬ late → Stays .checkpointAbort s) ∧ (late → Goes .checkpointAbort s { s with pair := { s.pair with copy := none, commitMseq := 0 } }) := by
  intro late
  constructor
  · intro no
    refine stays_of rfl ?_
    split
    · next k t copy since =>
      refine if_neg fun h => no ⟨by rw [copy]; rfl, ?_⟩
      obtain ⟨down, over_⟩ := Bool.and_eq_true_iff.mp h
      exact ⟨(Bool.not_eq_true' _).mp down, t, since, of_decide_eq_true over_⟩
    · rfl
  · rintro ⟨some_, down, t, since, over_⟩
    obtain ⟨k, copy⟩ := Option.isSome_iff_exists.mp some_
    refine goes_of rfl ?_
    split
    · next k' t' copy' since' =>
      obtain rfl := Option.some.inj (since.symm.trans since')
      exact if_pos (by simp [down, over_])
    · next none_ => exact absurd since (none_ k t copy)

/-! ## Hang handling and readmission (R494 to R501) -/

/-- Hang handling records, gives the role up, keeps last words and stops the firmware. -/
theorem hangHandlingEntry_goes (s : State) (c : HangCause) (u : Word) :
    (s.pair.hangCause.isSome = true ∨ s.phys.porLow = true ∨ s.phys.tripShutdown = true → Stays (.hangHandlingEntry c u) s) ∧
    (s.pair.hangCause = none → s.phys.porLow = false → s.phys.tripShutdown = false →
      let a := s.raise 12 0x0804 6 (be 1 (hangRow c) ++ be 4 u.toNat)
      let t := if a.active = true then (a.emit (.notice .partnerLink) (a.notice 2 .partnerLink)).emit (.notice .fabric) (a.notice 2 .fabric) else a
      Goes (.hangHandlingEntry c u) s (({ t with
        rel := { t.rel with run := none }, pair := { t.pair with hangCause := some c, own := s.lastWords (hangRow c) } }).bootStatus fun d =>
          { d with fwReady := false, service := false })) :=
  ⟨fun no => stays_of rfl (if_pos (by simpa [or_assoc] using no)), fun runs high cool => goes_of rfl (if_neg (by simp [runs, high, cool]))⟩

/-- Once the last words are written, the whole-chip reset follows. -/
theorem lastWordsComplete_goes (s : State) (b : Bool) :
    (s.pair.hangCause = none → Stays (.lastWordsComplete b) s) ∧
    (∀ c, s.pair.hangCause = some c →
      let w := { s.pair.own with complete := true }
      Goes (.lastWordsComplete b) s ((({ s with pair := { s.pair with own := w } }).emit (.lastWords b) w.header).wholeChipReset)) :=
  ⟨fun runs => stays_of rfl (if_pos (by rw [runs]; rfl)), fun c hangs => goes_of rfl (if_neg (by simp [hangs]))⟩

/-- A standby is readmitted at a tick 2 us after its copy. -/
theorem readmission_goes (s : State) :
    let due := s.pair.standby = true ∧ s.pair.claiming = false ∧ s.dev.stage = 9 ∧ ∃ n t, s.pair.readmitDue = some n ∧ s.dueTick (n + 2000) = some t
    (¬ due → Stays .readmission s) ∧
    (due → Goes .readmission s (({ s with pair := { s.pair with mirrored := true, recovering := false, readmitDue := none } }).setService.enginePost 0x100 none)) := by
  intro due
  constructor
  · intro no
    refine stays_of rfl ?_
    split
    · rfl
    · next n since =>
      refine if_neg fun h => no ?_
      simp only [Bool.and_eq_true, Bool.not_eq_true', decide_eq_true_eq, Option.isSome_iff_exists] at h
      obtain ⟨⟨⟨stands, quiet⟩, last⟩, t, tick⟩ := h
      exact ⟨stands, quiet, last, n, t, since, tick⟩
  · rintro ⟨stands, quiet, last, n, t, since, tick⟩
    refine goes_of rfl ?_
    rw [since]
    exact if_pos (by simp [stands, quiet, last, tick])

/-- Settles O54: each event of the pair by its own lemma. -/
theorem thePairKeepsItsRoles : Obligations.ThePairKeepsItsRoles := by
  unfold Obligations.ThePairKeepsItsRoles
  intro s
  refine ⟨(claimSend_goes s).1, (claimSend_goes s).2, takesNotices_false s, fun p b => notices_ignored s p b, fun p b takes => ?_,
    fun c held objects requests groups accepted staging => takeover_pair_idle s c held objects requests groups accepted staging, claimTimeout_goes s,
    heartbeatSend_goes s, activeLost_goes s, fun b => mirrorEntryReceive_goes s b, fun n => mirrorAckReceive_goes s n, (mirrorGapTimeout_goes s).1,
    (mirrorGapTimeout_goes s).2, checkpointStart_goes s, fun c d => (checkpointCommitReceive_goes s c d).1, fun c d => (checkpointCommitReceive_goes s c d).2,
    checkpointAbort_goes s, fun no c u => (hangHandlingEntry_goes s c u).1 no, fun c u => (hangHandlingEntry_goes s c u).2,
    fun runs b => (lastWordsComplete_goes s b).1 runs, fun c b => (lastWordsComplete_goes s b).2 c, readmission_goes s⟩
  obtain ⟨claimWins, claimLoses, claimHeard⟩ := claimReceive_goes (p := p) (b := b) takes
  obtain ⟨beatStands, beatHeard, beatOther, beatFollows, beatDown, beatBack, beatKeeps⟩ := heartbeatReceive_goes (p := p) (b := b) takes
  obtain ⟨overStands, overHeard, overTerm, overDown, overKeeps⟩ := takeoverNoticeReceive_goes (p := p) (b := b) takes
  obtain ⟨relinquishHeard, relinquishTakes⟩ := relinquishReceive_goes (p := p) (b := b) takes
  exact ⟨claimWins, claimLoses, claimHeard, fun claims zero => ⟨beatStands claims zero, overStands claims zero⟩,
    fun claims other => ⟨beatHeard claims other, overHeard claims other⟩, beatOther, beatFollows, overTerm,
    fun quiet leads down => ⟨beatDown quiet leads down, overDown quiet leads down⟩, overKeeps, beatBack, beatKeeps, relinquishHeard, relinquishTakes⟩

end Sys2Proof.Machine
end

section
/-! Deadlock scans, waits and ordered posts (O55) -/

namespace Sys2Proof.Machine
open Sys2Proof Sys2Proof.Proofs

/-! ## Posts and waiters of an object (R471 to R478) -/

/-- A post that is refused is counted, one past the limit is a fault of the object, another adds its count. -/
theorem post_cases (s : State) (o n : Nat) (a : Nat × Word) (c : Nat) :
    let k := s.object o
    (s.postRefused o a = true → s.post o n a c = ({ s with sync := { s.sync with refused := satInc 32 s.sync.refused } }, St.state)) ∧
    (s.postRefused o a = false → k.limit < k.count + n → s.post o n a c = ((s.setObject o { k with faulted := true }).raise 10 0x0801 4
      (be 4 o ++ be 1 1 ++ be 2 a.1 ++ be 4 n ++ be 4 k.count) c, St.state)) ∧
    (s.postRefused o a = false → k.count + n ≤ k.limit → s.post o n a c =
      (((s.setObject o { k with count := k.count + n }).notify o k.count).serve o k.waiters.length, St.ok)) :=
  ⟨fun refused => if_pos refused, fun taken past => (if_neg (by simp [taken])).trans (if_pos past),
    fun taken within_ => (if_neg (by simp [taken])).trans (if_neg (Nat.not_lt.mpr within_))⟩

/-- Waiters are served first in, first out, as far as the count covers them. -/
theorem serve_cases (s : State) (o f : Nat) :
    s.serve o 0 = s ∧ ((s.object o).waiters = [] → s.serve o (f + 1) = s) ∧
    (∀ w ws, (s.object o).waiters = w :: ws → (s.object o).count < w.n → s.serve o (f + 1) = s) ∧
    (∀ w ws, (s.object o).waiters = w :: ws → w.n ≤ (s.object o).count →
      let left := (s.object o).count - w.n
      s.serve o (f + 1) = ((s.setObject o { s.object o with count := left, waiters := ws }).final .agg w.ticket St.ok
        (be 4 left ++ be 1 0 ++ zeros 3)).serve o f) := by
  refine ⟨rfl, fun none_ => ?_, fun w ws front short => ?_, fun w ws front covered => ?_⟩ <;> rw [State.serve]
  · rw [none_]
  · rw [front]
    exact if_neg (Nat.not_le.mpr short)
  · dsimp only
    split
    · next none_ => exact absurd (front.symm.trans none_) (by simp)
    · next w' ws' front' =>
      obtain ⟨rfl, rfl⟩ := List.cons.inj (front.symm.trans front')
      exact if_pos covered

/-! ## Ends of waits and of ordered posts (R476, R479, R481) -/

/-- A wait with a timeout ends then with reason 1, and the waiters behind it are served. -/
theorem waitTimeout_goes (s : State) (o : BitVec 15) (r : Requester) (tag : Word) :
    let k := s.object o.toNat
    ((∀ w ∈ k.waiters, w.ticket ≠ ⟨r, tag⟩) → Stays (.waitTimeout o r tag) s) ∧
    (∀ w, k.waiters.find? (fun w => w.ticket == ⟨r, tag⟩) = some w →
      (w.timeoutUs = 0 ∨ s.now < w.since + 1000 * w.timeoutUs → Stays (.waitTimeout o r tag) s) ∧
      (w.timeoutUs ≠ 0 → w.since + 1000 * w.timeoutUs ≤ s.now → Goes (.waitTimeout o r tag) s
        (((s.setObject o.toNat { k with waiters := k.waiters.filter fun v => v.ticket != w.ticket }).final .agg w.ticket St.state
          (be 4 k.count ++ be 1 1 ++ zeros 3)).serve o.toNat k.waiters.length))) := by
  intro k
  constructor
  · intro none_
    have absent : k.waiters.find? (fun w => w.ticket == ⟨r, tag⟩) = none := List.find?_eq_none.mpr fun w mem => by simpa using none_ w mem
    refine stays_of rfl ?_
    dsimp only
    rw [absent]
  · intro w found
    have waits {u : State} (e : (if (w.timeoutUs != 0 && decide (w.since + 1000 * w.timeoutUs ≤ s.now)) = true then
        ((s.setObject o.toNat { k with waiters := k.waiters.filter fun v => v.ticket != w.ticket }).endWaiter w k.count 1).serve o.toNat k.waiters.length
        else s) = u) : Goes (.waitTimeout o r tag) s u := by
      refine goes_of rfl ?_
      dsimp only
      rw [found]
      exact e
    exact ⟨fun no => waits (if_neg (by simp; omega)), fun some_ late => waits (if_pos (by simp [some_, late]))⟩

/-- An ordered post lands once all that it follows has its final reply; 10 ms end it unless the one it follows has its reply. -/
theorem orderedPost_goes (s : State) (r : Requester) (tag : Word) :
    (s.orderedOf r tag = none → Stays (.orderedPostApply r tag) s ∧ Stays (.orderedPostTimeout r tag) s) ∧
    (∀ q, s.orderedOf r tag = some q →
      let landed := ∀ t ∈ q.earlier, (s.sentFinal r t).isSome = true ∨ findTag s.verbs.tags r t = none
      let p := (s.dropOrdered q).post q.object q.n (agentOf r) q.x.tenant.toNat
      (¬ landed ∨ s.sentFinal r q.behind = none → Stays (.orderedPostApply r tag) s) ∧
      (∀ st, landed → s.sentFinal r q.behind = some st →
        Goes (.orderedPostApply r tag) s (p.1.final .agg q.x.ticket p.2 (postResults p.1 q.object st))) ∧
      (s.now < q.since + 10000000 ∨ (s.sentFinal r q.behind).isSome = true → Stays (.orderedPostTimeout r tag) s) ∧
      (q.since + 10000000 ≤ s.now → s.sentFinal r q.behind = none →
        Goes (.orderedPostTimeout r tag) s ((s.dropOrdered q).final .agg q.x.ticket St.state (postResults s q.object 0)))) := by
  refine ⟨fun none_ => ⟨stays_of rfl (by rw [none_]), stays_of rfl (by rw [none_])⟩, fun q ordered => ?_⟩
  intro landed p
  have landed_iff : (q.earlier.all fun t => (s.sentFinal r t).isSome || (findTag s.verbs.tags r t).isNone) = true ↔ landed := by
    simp only [landed, List.all_eq_true, Bool.or_eq_true, Option.isNone_iff_eq_none]
  refine ⟨fun waits => stays_of rfl ?_, fun st all behind => goes_of rfl ?_, fun waits => stays_of rfl ?_, fun late open_ => goes_of rfl ?_⟩
  · rw [ordered]
    dsimp only
    split
    · next st all behind =>
      rcases waits with no | open_
      · exact absurd (landed_iff.mp all) no
      · exact absurd (open_.symm.trans behind) (by simp)
    · rfl
  · rw [ordered]
    dsimp only
    rw [landed_iff.mpr all, behind]
  · rw [ordered]
    exact if_neg (by simpa [← Option.isSome_iff_ne_none, Classical.or_iff_not_imp_left] using waits)
  · rw [ordered]
    exact if_pos (by simp [late, open_])

/-! ## Deadlock scans (R482) -/

/-- What a scan that finds the cycle of the last one does. -/
theorem deadlockScan_goes (s : State) :
    let i := (if s.timeValid then s.svcNs else s.now) / 10000
    let a : State := { s with sync := { s.sync with lastScan := i } }
    let c := cycleEdges s.waitEdges
    (i ≤ s.sync.lastScan → Stays .deadlockScan s) ∧
    (s.sync.lastScan < i → c = [] → Goes .deadlockScan s { a with sync := { a.sync with cycle := [] } }) ∧
    (s.sync.lastScan < i → c ≠ [] → cycleKey c ≠ s.sync.cycle → Goes .deadlockScan s { a with sync := { a.sync with cycle := cycleKey c } }) ∧
    (∀ e es, s.sync.lastScan < i → c = e :: es → cycleKey c = s.sync.cycle →
      let k := a.object e.object
      let others := ((c.map (·.object)).eraseDups.filter (· != e.object)).take 8
      let hang := stampBytes a.stamp ++ be 4 (s.sync.hangSeq + 1) ++ be 4 e.object ++ be 2 e.ctx ++ be 2 e.src.1 ++ be 2 k.producer ++
        be 1 (min 255 (c.map (·.src)).eraseDups.length) ++ be 1 0 ++ ((List.range 8).map fun j => be 4 (others.getD j 0xFFFFFFFF)).flatten
      let b := (({ a with sync := { a.sync with hangSeq := s.sync.hangSeq + 1, hang := hang } }).raise 10 0x0802 5 (sub hang 16 28)).setObject e.object
        { k with waiters := k.waiters.filter fun w => w.ticket != e.ticket }
      let left (t : State) : State :=
        let u := t.serve e.object k.waiters.length
        { u with sync := { u.sync with cycle := cycleKey (cycleEdges u.waitEdges) } }
      (k.waiters.find? (fun w => w.ticket == e.ticket) = none → Goes .deadlockScan s (left b)) ∧
      (∀ w, k.waiters.find? (fun w => w.ticket == e.ticket) = some w → Goes .deadlockScan s
        (left (b.final .agg w.ticket St.state (be 4 k.count ++ be 1 3 ++ zeros 3))))) := by
  intro i a c
  refine ⟨fun early => stays_of rfl (if_pos early), fun due none_ => goes_of rfl ((if_neg (Nat.not_le.mpr due)).trans ?_),
    fun due some_ new => goes_of rfl ((if_neg (Nat.not_le.mpr due)).trans ?_), fun e es due cycle same => ?_⟩
  · dsimp only
    split
    · rfl
    · next e es cycle => exact absurd (none_.symm.trans cycle) (by simp)
  · dsimp only
    split
    · next none_ => exact absurd none_ some_
    · exact if_pos (bne_iff_ne.mpr new)
  intro k others hang b left
  have ends {t : State} (f : (match k.waiters.find? fun w => w.ticket == e.ticket with | some w => b.endWaiter w k.count 3 | none => b) = t) :
      Goes .deadlockScan s (left t) := by
    refine goes_of rfl ((if_neg (Nat.not_le.mpr due)).trans ?_)
    dsimp only
    split
    · next none_ => exact absurd (none_.symm.trans cycle) (by simp)
    · next e' es' cycle' =>
      obtain ⟨rfl, rfl⟩ := List.cons.inj (cycle.symm.trans cycle')
      exact (if_neg (by simp [show cycleKey c = s.sync.cycle from same, c])).trans (congrArg left f)
  exact ⟨fun none_ => ends (by rw [none_]), fun w found => ends (by rw [found]; rfl)⟩

/-- Settles O55: each event of a sync object by its own lemma. -/
theorem waitsAndOrderedPostsEnd : Obligations.WaitsAndOrderedPostsEnd := by
  unfold Obligations.WaitsAndOrderedPostsEnd
  intro s
  exact ⟨deadlockScan_goes s, waitTimeout_goes s, fun r tag => (orderedPost_goes s r tag).1, fun r tag => (orderedPost_goes s r tag).2,
    fun o n a c => post_cases s o n a c, fun o f => serve_cases s o f⟩

end Sys2Proof.Machine
end

section
/-! The boot's stages and POR_N (O56) -/

namespace Sys2Proof.Machine
open Sys2Proof Sys2Proof.Proofs

/-! ## Power and straps (R296, R597, R613) -/

theorem switchOn_off {s : State} {n : Nat} (off : s.dev.domains.getLsbD n = false) : s.switchOn n = { s with
    obs := s.obs.restart n
    dev := { s.dev with domains := s.dev.domains ||| (1#96 <<< n), powerUps := Tbl.set 0 n ((Tbl.get 0 n s.dev.powerUps + 1) % 65536) s.dev.powerUps } } :=
  if_neg (by simp [off])

/-- POR_RELEASE samples the straps and gives slot 0 its memory key. -/
theorem porRelease_goes (s : State) (st : Straps) :
    (s.phys.porLow = false → Stays (.porRelease st) s) ∧
    (s.phys.porLow = true → Goes (.porRelease st) s (({ s with
      free := s.free + 1
      phys := { s.phys with porLow := false, straps := st }
      sec := { s.sec with vault := if st.testEn = true then [] else Tbl.set {} 0 { memKey := some s.free } s.sec.vault } }).switchOn 81)) :=
  ⟨fun high => stays_of rfl (if_pos (by simp [high])), fun low => goes_of rfl (if_neg (by simp [low]))⟩

/-- POR_N low keeps flash, fuses, regulators, the persisted records, the pins' latches and the other parts. -/
theorem porNAssert_goes (s : State) :
    Goes .porNAssert s { State.reset with
      free := s.free, out := s.out, dtcs := s.dtcs, rel := s.rel.kept, obs := { plog := s.obs.plog }
      dev := { pinned := s.dev.pinned, dtcPins := s.dev.dtcPins }, phys := { flash := s.phys.flash }, hbm := s.hbm.lost } := rfl

/-! ## Stages (R296 to R298, R536 to R545) -/

/-- A stage ends where POR_N is high, the boot runs and no trip's shutdown lasts. -/
def State.bootRuns (s : State) : Prop := s.phys.porLow = false ∧ s.dev.halted = false ∧ s.phys.tripShutdown = false

theorem stage_goes {s u : State} {r : StageResult} (runs : s.bootRuns) (e : s.stageEnds r = u) : Goes (.bootStageComplete r) s u := by
  obtain ⟨high, boots, cool⟩ := runs
  exact goes_of rfl ((if_neg (by simp [high, boots, cool])).trans e)

theorem stage_stays {s : State} {r : StageResult} (e : s.stageEnds r = s) : Stays (.bootStageComplete r) s :=
  stays_of rfl ((congrArg (ite _ s) e).trans (ite_self s))

theorem stage_waits {s : State} (waits : s.phys.porLow = true ∨ s.dev.halted = true ∨ s.phys.tripShutdown = true) (r : StageResult) :
    Stays (.bootStageComplete r) s :=
  stays_of rfl (if_pos (by simpa [or_assoc] using waits))

section
variable {s : State}

theorem stageEnds_straps (stage : s.dev.stage = 0) :
    s.stageEnds .done = if 2 ≤ s.phys.straps.bootSel.toNat || s.phys.straps.testEn then s else s.enterStage 1 := by simp only [State.stageEnds, stage]
theorem stageEnds_unread (stage : s.dev.stage = 1) : s.stageEnds .done = s.latchFuses [] := by simp only [State.stageEnds, stage]
theorem stageEnds_fuses (stage : s.dev.stage = 1) (rs : List (Nat × FuseCopies)) : s.stageEnds (.fuses rs) = s.latchFuses rs := by
  simp only [State.stageEnds, stage]
theorem stageEnds_stage1 (stage : s.dev.stage = 2) : s.stageEnds .image = s.stage1Image := by simp only [State.stageEnds, stage]
theorem stageEnds_firmware (stage : s.dev.stage = 3) : s.stageEnds .image = s.firmwareImage := by simp only [State.stageEnds, stage]
theorem stageEnds_map (stage : s.dev.stage = 4) : s.stageEnds .accessMap = s.writeMap := by simp only [State.stageEnds, stage]
theorem stageEnds_hbm (stage : s.dev.stage = 5) (b : Bool) : s.stageEnds (.hbm b) = s.hbmTrained b := by simp only [State.stageEnds, stage]
theorem stageEnds_bist (stage : s.dev.stage = 6) (b : Bool) : s.stageEnds (.bist b) = s.selfTested b := by simp only [State.stageEnds, stage]
theorem stageEnds_role (stage : s.dev.stage = 7) : s.stageEnds .done = if s.pair.claiming then s else s.enterStage 8 := by
  simp only [State.stageEnds, stage]
theorem stageEnds_time (stage : s.dev.stage = 8) : s.stageEnds .done = if s.timeReady then s.enterStage 9 else s := by simp only [State.stageEnds, stage]
theorem stageEnds_service (stage : s.dev.stage = 9) :
    s.stageEnds .done = if s.active && !s.dev.service && s.onTick then s.setService else s := by simp only [State.stageEnds, stage]

end

/-- The stages that a result ends. -/
def stagesOf : StageResult → List Nat
  | .done => [0, 1, 7, 8, 9]
  | .fuses _ => [1]
  | .image => [2, 3]
  | .accessMap => [4]
  | .hbm _ => [5]
  | .bist _ => [6]

/-- A result of another stage changes nothing. -/
theorem stageEnds_other {s : State} {r : StageResult} (other : s.dev.stage ∉ stagesOf r) : s.stageEnds r = s := by
  unfold State.stageEnds
  split
  case h_12 => rfl
  all_goals
    next stage => exact absurd other (by simp [stage, stagesOf])

/-! ## The failure of a stage and what each image stage does -/

/-- Stage 1 decides the fuse words from six reads each. -/
theorem latchFuses_cases (s : State) (rs : List (Nat × FuseCopies)) :
    let decided : State := { s with rel := { s.rel with marks := [], latched := s.rel.fuses, bootTj := s.tjField } }
    let one (t : State) (r : Nat × FuseCopies) (v : BitVec 32) : State :=
      let t1 : State := { t with rel := { t.rel with latched := Tbl.set 0 r.1 v t.rel.latched } }
      if fuseMarginal r.2 v = true then (t1.setMark r.1 { boot := true, reads := fuseDiffer r.2 v }).raise 12 0x0907 3 (fuseData s r.1 r.2) else t1
    ((∃ r ∈ rs, fuseValue r.2 = none) → s.latchFuses rs = decided.bootFail 1 []) ∧
    ((∀ r ∈ rs, (fuseValue r.2).isSome = true) →
      s.latchFuses rs = (rs.foldl (fun t r => match fuseValue r.2 with | some v => one t r v | none => t) decided).enterStage 2) := by
  intro decided one
  constructor
  · rintro ⟨r, mem, none_⟩
    exact if_pos (List.any_eq_true.mpr ⟨r, mem, by rw [none_]; rfl⟩)
  · intro all
    refine (if_neg ?_).trans ?_
    · rw [List.any_eq_true]
      rintro ⟨r, mem, none_⟩
      exact absurd (all r mem) (by simp [Option.isNone_iff_eq_none.mp none_])
    · refine congrArg (fun f => (rs.foldl f decided).enterStage 2) (funext fun t => funext fun r => ?_)
      cases fuseValue r.2 <;> rfl

theorem latchFuses_nil (s : State) :
    s.latchFuses [] = ({ s with rel := { s.rel with marks := [], latched := s.rel.fuses, bootTj := s.tjField } } : State).enterStage 2 := rfl

theorem stage1Image_none {s : State} (none_ : s.copyInUse 1 = none) :
    s.stage1Image = s.bootFail (s.imageFault 1) (failedBytes 0x0001 (s.copiesFailed 1)) := by rw [State.stage1Image, none_]

theorem stage1Image_some {s : State} {c : Nat} (use : s.copyInUse 1 = some c) :
    s.stage1Image = ({ s with sec := { s.sec with
      svn1 := imageVersion s.phys.flash 1 c, m0 := Config.sha384 (imageAt s.phys.flash 1 c) } } : State).beginStage3 := by rw [State.stage1Image, use]

theorem firmwareImage_none {s : State} (none_ : s.copyInUse 2 = none) :
    s.firmwareImage = s.bootFail (s.imageFault 2) (failedBytes 0x0001 (s.copiesFailed 2)) := by rw [State.firmwareImage, none_]

theorem firmwareImage_some {s : State} {c : Nat} (use : s.copyInUse 2 = some c) :
    let image := imageAt s.phys.flash 2 c
    s.firmwareImage = ({ s with sec := { s.sec with
      svn2 := imageVersion s.phys.flash 2 c, m1 := Config.sha384 image, level := BitVec.ofNat 8 (byteAt image 16)
      auxKey := sub image 168 96 } } : State).enterStage 4 := by rw [State.firmwareImage, use]

/-- The records of the access-map copies that failed. -/
def State.mapFailures (s : State) : State :=
  (s.copiesFailed 3).foldl (fun t c => t.raise 11 0x0002 4 (be 1 c.1 ++ [Config.causeCode 0x0002 c.2] ++ [])) s

theorem writeMap_default {s : State} (none_ : s.copyInUse 3 = none) :
    s.writeMap = (s.mapFailures.lockMap defaultMap [] 0 true).enterStage 5 := by
  unfold State.writeMap
  rw [none_]
  rfl

theorem writeMap_image {s : State} {c : Nat} {rs : List MapRequester} {ws : List MapWindow} (use : s.copyInUse 3 = some c)
    (parsed : parseMap ((imageAt s.phys.flash 3 c).drop 384) = some (rs, ws)) :
    s.writeMap = (s.mapFailures.lockMap rs ws (BitVec.ofNat 32 (imageVersion s.phys.flash 3 c)) false).enterStage 5 := by
  unfold State.writeMap
  rw [use, Option.bind_some, parsed]
  rfl

/-! ## The checks of an image (R537) -/

/-- The form that a header has. -/
def headerForm (type : Nat) (b : Bytes) : Prop := fld b 0 4 = 0x4F534931 ∧ fld b 4 2 = 1 ∧ byteAt b 6 = type ∧ fld b 12 4 ≤ imageLimit type

/-- The checks of R537 up to the body's hash, in their order. -/
theorem imageCheck_first (s : State) (type : Nat) (b : Bytes) :
    let key := s.keyTrusted type b = true
    let sig := Config.verify (sub b 24 96) (Config.sha384 (b.take 288)) (sub b 288 96) = true
    let hash := Config.sha384 (b.drop 384) = sub b 120 48
    (¬ headerForm type b → s.imageCheck type b = some 0) ∧ (headerForm type b → ¬ key → s.imageCheck type b = some 1) ∧
    (headerForm type b → key → ¬ sig → s.imageCheck type b = some 2) ∧ (headerForm type b → key → sig → ¬ hash → s.imageCheck type b = some 3) ∧
    (headerForm type b → key → sig → hash → s.imageCheck type b =
      if (decide (type = 2) && (decide (byteAt b 16 < 2) || decide (3 < byteAt b 16))) = true then some 4
      else if (decide (type ≠ 3) && decide (64 < fld b 8 4)) = true then some 5
      else if (decide (type = 3) && (parseMap (b.drop 384)).isNone) = true then some 6
      else if (decide (type ≠ 3) && decide (fld b 8 4 < s.antiRollback)) = true then some 7
      else none) := by
  intro key sig hash
  have form_iff : (fld b 0 4 != 0x4F534931 || fld b 4 2 != 1 || byteAt b 6 != type || decide (imageLimit type < fld b 12 4)) = true ↔ ¬ headerForm type b := by
    simp only [headerForm, Bool.or_eq_true, bne_iff_ne, decide_eq_true_eq, Classical.not_and_iff_not_or_not, Nat.not_le, or_assoc, ne_eq]
  have formed (form : headerForm type b) : s.imageCheck type b = _ := if_neg (mt form_iff.mp (Classical.not_not.mpr form))
  have trusted (form : headerForm type b) (k : key) : s.imageCheck type b = _ := (formed form).trans (if_neg (by simp [show s.keyTrusted type b = true from k]))
  have signed (form : headerForm type b) (k : key) (g : sig) : s.imageCheck type b = _ :=
    (trusted form k).trans (if_neg (by simp only [show Config.verify _ _ _ = true from g, Bool.not_true, Bool.false_eq_true, not_false_eq_true]))
  refine ⟨fun no => if_pos (form_iff.mpr no), fun form no => (formed form).trans (if_pos ?_), fun form k no => (trusted form k).trans (if_pos ?_),
    fun form k g no => (signed form k g).trans (if_pos (bne_iff_ne.mpr no)), fun form k g e => (signed form k g).trans (if_neg ?_)⟩
  · exact (Bool.not_eq_true' _).mpr (Bool.eq_false_iff.mpr no)
  · exact (Bool.not_eq_true' _).mpr (Bool.eq_false_iff.mpr no)
  · exact fun h => bne_iff_ne.mp h e

/-- The checks of the level, the version limit, the map and the rollback, in their order. -/
theorem imageCheck_goes (s : State) (type : Nat) (b : Bytes) :
    let body := b.drop 384
    let form := headerForm type b
    let key := s.keyTrusted type b = true
    let sig := Config.verify (sub b 24 96) (Config.sha384 (b.take 288)) (sub b 288 96) = true
    let hash := Config.sha384 body = sub b 120 48
    (¬ form → s.imageCheck type b = some 0) ∧ (form → ¬ key → s.imageCheck type b = some 1) ∧ (form → key → ¬ sig → s.imageCheck type b = some 2) ∧
    (form → key → sig → ¬ hash → s.imageCheck type b = some 3) ∧
    (let level := type = 2 → 2 ≤ byteAt b 16 ∧ byteAt b 16 ≤ 3
     (form → key → sig → hash → ¬ level → s.imageCheck type b = some 4) ∧
     (form → key → sig → hash → level → type ≠ 3 → 64 < fld b 8 4 → s.imageCheck type b = some 5) ∧
     (form → key → sig → hash → level → type ≠ 3 → fld b 8 4 ≤ 64 → s.imageCheck type b = if fld b 8 4 < s.antiRollback then some 7 else none)) ∧
    (form → key → sig → hash → type = 3 → s.imageCheck type b = if parseMap body = none then some 6 else none) := by
  intro body form key sig hash
  obtain ⟨badForm, badKey, badSig, badHash, authentic⟩ := imageCheck_first s type b
  refine ⟨badForm, badKey, badSig, badHash, ?_, fun f k g e map => (authentic f k g e).trans ?_⟩
  · intro level
    have level_iff : (decide (type = 2) && (decide (byteAt b 16 < 2) || decide (3 < byteAt b 16))) = true ↔ ¬ level := by
      simp only [level, Bool.and_eq_true, Bool.or_eq_true, decide_eq_true_eq]
      omega
    refine ⟨fun f k g e no => (authentic f k g e).trans (if_pos (level_iff.mpr no)),
      fun f k g e l other past => (authentic f k g e).trans ((if_neg (mt level_iff.mp (Classical.not_not.mpr l))).trans (if_pos ?_)),
      fun f k g e l other within_ => (authentic f k g e).trans ((if_neg (mt level_iff.mp (Classical.not_not.mpr l))).trans ?_)⟩
    · simp [other, past]
    · simp [other, Nat.not_lt.mpr within_]
  · subst map
    simp [Option.isNone_iff_eq_none, body]

/-! ## The boot -/

/-- What each stage does where the boot runs. -/
theorem stages_go {s : State} (runs : s.bootRuns) :
    let decided : State := { s with rel := { s.rel with marks := [], latched := s.rel.fuses, bootTj := s.tjField } }
    (s.dev.stage = 0 → s.phys.straps.testEn = false → s.phys.straps.bootSel.toNat < 2 → Goes (.bootStageComplete .done) s (s.enterStage 1)) ∧
    (s.dev.stage = 0 → s.phys.straps.testEn = true ∨ 2 ≤ s.phys.straps.bootSel.toNat → Stays (.bootStageComplete .done) s) ∧
    (s.dev.stage = 1 → Goes (.bootStageComplete .done) s (decided.enterStage 2)) ∧
    (s.dev.stage = 5 → Goes (.bootStageComplete (.hbm true)) s (([64, 65, 66, 67].foldl State.switchOn s).enterStage 6)) ∧
    (s.dev.stage = 5 → Goes (.bootStageComplete (.hbm false)) s (([64, 65, 66, 67].foldl State.switchOff s).bootFail 5 [])) ∧
    (s.dev.stage = 6 → Goes (.bootStageComplete (.bist false)) s (s.bootFail 6 [])) ∧
    (s.dev.stage = 7 → s.pair.claiming = true → Stays (.bootStageComplete .done) s) ∧
    (s.dev.stage = 7 → s.pair.claiming = false → Goes (.bootStageComplete .done) s (s.enterStage 8)) ∧
    (let ready := s.timeValid = true ∧ (s.pair.standby = true ∨ s.time.sel.st ≠ .init)
     (s.dev.stage = 8 → ¬ ready → Stays (.bootStageComplete .done) s) ∧
     (s.dev.stage = 8 → ready → Goes (.bootStageComplete .done) s (s.enterStage 9))) ∧
    (s.dev.stage = 9 → s.active = true → s.dev.service = false → s.onTick = true →
      Goes (.bootStageComplete .done) s (({ s with dev := { s.dev with service := true } }).irq 0).advanceRollback) ∧
    (s.dev.stage = 9 → s.active = false ∨ s.dev.service = true ∨ s.onTick = false → Stays (.bootStageComplete .done) s) := by
  intro decided
  refine ⟨fun stage run sel => stage_goes runs ((stageEnds_straps stage).trans (if_neg (by simp [run, sel]))),
    fun stage held => stage_stays ((stageEnds_straps stage).trans (if_pos (by simpa [or_comm] using held))),
    fun stage => stage_goes runs (stageEnds_unread stage), fun stage => stage_goes runs (stageEnds_hbm stage true),
    fun stage => stage_goes runs (stageEnds_hbm stage false), fun stage => stage_goes runs (stageEnds_bist stage false),
    fun stage claims => stage_stays ((stageEnds_role stage).trans (if_pos claims)),
    fun stage quiet => stage_goes runs ((stageEnds_role stage).trans (if_neg (by simp [quiet]))), ?_,
    fun stage active out tick => stage_goes runs ((stageEnds_service stage).trans ((if_pos (by simp [active, out, tick])).trans (if_neg (by simp [out])))),
    fun stage no => stage_stays ((stageEnds_service stage).trans (if_neg ?_))⟩
  · intro ready
    have ready_iff : s.timeReady = true ↔ ready := by
      simp only [ready, State.timeReady, Bool.and_eq_true, Bool.or_eq_true, bne_iff_ne, ne_eq]
    exact ⟨fun stage no => stage_stays ((stageEnds_time stage).trans (if_neg (mt ready_iff.mp no))),
      fun stage yes => stage_goes runs ((stageEnds_time stage).trans (if_pos (ready_iff.mpr yes)))⟩
  · simp only [Bool.and_eq_true, Bool.not_eq_true']
    rintro ⟨⟨active, out⟩, tick⟩
    simp [active, out, tick] at no

/-- Settles O56: each stage by its own lemma. -/
theorem bootRunsInStages : Obligations.BootRunsInStages := by
  unfold Obligations.BootRunsInStages
  intro s
  refine ⟨fun high st => (porRelease_goes s st).1 high, fun st => (porRelease_goes s st).2, switchOn_off, stage_waits, fun high boots cool => ?_,
    fun type => ?_, fun type b => imageCheck_goes s type b, porNAssert_goes s, rfl, rfl, rfl, rfl⟩
  case refine_2 => rfl
  intro fails goes names fault decided noted
  have fails_eq : fails = State.bootFail := rfl
  have goes_eq : goes = State.enterStage := rfl
  clear_value fails goes
  subst fails_eq goes_eq
  have runs : s.bootRuns := ⟨high, boots, cool⟩
  obtain ⟨strapped, held, unread, trained, untrained, failed, claims, roles, timed, serves, waits⟩ := stages_go runs
  exact ⟨strapped, held, unread,
    fun rs stage bad => stage_goes runs ((stageEnds_fuses stage rs).trans ((latchFuses_cases s rs).1 bad)),
    fun rs stage all => stage_goes runs ((stageEnds_fuses stage rs).trans ((latchFuses_cases s rs).2 all)),
    fun stage none_ => stage_goes runs ((stageEnds_stage1 stage).trans (stage1Image_none none_)),
    fun c stage use => stage_goes runs ((stageEnds_stage1 stage).trans (stage1Image_some use)),
    fun stage none_ => stage_goes runs ((stageEnds_firmware stage).trans (firmwareImage_none none_)),
    fun c stage use => stage_goes runs ((stageEnds_firmware stage).trans (firmwareImage_some use)),
    fun stage none_ => stage_goes runs ((stageEnds_map stage).trans (writeMap_default none_)),
    fun c rs ws stage use parsed => stage_goes runs ((stageEnds_map stage).trans (writeMap_image use parsed)),
    trained, untrained, failed, fun stage => stage_goes runs (stageEnds_bist stage true), claims, roles, timed, serves, waits,
    fun late early => stage_stays (stageEnds_other (by simp [stagesOf]; omega)),
    fun rs other => stage_stays (stageEnds_other (by simpa [stagesOf] using other)),
    fun other => stage_stays (stageEnds_other other),
    fun other => stage_stays (stageEnds_other (by simpa [stagesOf] using other)),
    fun b other => stage_stays (stageEnds_other (by simpa [stagesOf] using other)),
    fun b other => stage_stays (stageEnds_other (by simpa [stagesOf] using other))⟩

end Sys2Proof.Machine
end

section
/-! Monitors, margin plans, screens and pins (O57) -/

namespace Sys2Proof.Machine
open Sys2Proof Sys2Proof.Proofs

/-! ## Margin plans (R510, R511) -/

/-- The scheduled plan starts at its second of the TAI day, after the fuse words are read again. -/
theorem marginPlanScheduled_goes (s : State) :
    (s.timeValid = false ∨ s.svcNs / 1000000000 % 86400 ≠ s.rel.schedule ∨ s.rel.run.isSome = true ∨ s.dev.fwReady = false → Stays .marginPlanScheduled s) ∧
    (s.timeValid = true → s.svcNs / 1000000000 % 86400 = s.rel.schedule → s.rel.run = none → s.dev.fwReady = true →
      Goes .marginPlanScheduled s { s.rereadFuses with rel := { s.rereadFuses.rel with run := some { apply := true, ticket := none } } }) := by
  refine ⟨fun waits => stays_of rfl (if_neg ?_), fun valid second idle ready => goes_of rfl (if_pos (by simp [valid, second, idle, ready]))⟩
  simp only [Bool.and_eq_true, decide_eq_true_eq, Option.isNone_iff_eq_none]
  rintro ⟨⟨⟨valid, second⟩, idle⟩, ready⟩
  simp [valid, second, idle, ready] at waits

/-- Without a run, no event of a plan changes anything. -/
theorem marginPlan_idle {s : State} (idle : s.rel.run = none) :
    Stays .marginPlanComplete s ∧ (∀ a, Stays (.marginPlanApply a) s) ∧ Stays .fstepDecrease s :=
  ⟨stays_of rfl (by rw [idle]), fun a => stays_of rfl (by rw [idle]), stays_of rfl (by rw [idle])⟩

section
variable {s : State} {r : PlanRun} (run : s.rel.run = some r)
include run

/-- A complete plan is answered, or logged and kept for its tick. -/
theorem marginPlanComplete_goes :
    let idle : State := { s with rel := { s.rel with run := none } }
    (r.plan.isSome = true → Stays .marginPlanComplete s) ∧
    (∀ k, r.plan = none → r.apply = false → r.ticket = some k → Goes .marginPlanComplete s
      (idle.final .agg k St.ok (s.planResults s.planAll (s.stepsNow s.planAll) false))) ∧
    (r.plan = none → r.apply = false → r.ticket = none → Goes .marginPlanComplete s idle) ∧
    (r.plan = none → r.apply = true →
      let u := s.planAll.foldl State.logChange s
      Goes .marginPlanComplete s { u with rel := { u.rel with run := some { r with plan := some (s.planAll, s.now), before := s.stepsNow s.planAll } } }) := by
  intro idle
  refine ⟨fun planned => stays_of rfl ?_, fun k open_ reads asked => goes_of rfl ?_, fun open_ reads asked => goes_of rfl ?_,
    fun open_ applies => goes_of rfl ?_⟩ <;> rw [run]
  · exact if_pos planned
  · refine (if_neg (by simp [open_])).trans ((if_neg (by simp [reads])).trans ?_)
    rw [asked]
  · refine (if_neg (by simp [open_])).trans ((if_neg (by simp [reads])).trans ?_)
    rw [asked]
  · exact (if_neg (by simp [open_])).trans (if_pos applies)

/-- Before a plan is complete, its tick does nothing. -/
theorem marginPlan_unplanned (open_ : r.plan = none) : (∀ a, Stays (.marginPlanApply a) s) ∧ Stays .fstepDecrease s := by
  refine ⟨fun a => stays_of rfl ?_, stays_of rfl ?_⟩ <;> rw [run] <;> dsimp only
  · rw [open_]
  · rw [open_]

/-- At a plan's tick rising clock steps are lifted and rails written; steps that fall wait a tick a millisecond later, and then end the plan. -/
theorem marginPlanApply_goes {pl : List PlanChange} {n : Nat} (a : List (Nat × Bool)) (planned : r.plan = some (pl, n)) :
    let lifted := pl.foldl (fun t c => if (t.island c.island).fstep < c.fstep then t.setIsland c.island { t.island c.island with fstep := c.fstep } else t) s
    let u := (List.range 20).foldl (State.applyRail pl a) lifted
    let falls := ∃ c ∈ pl, c.fstep < (u.island c.island).fstep
    (r.wrote.isSome = true ∨ s.dueTick (n + 1) = none → Stays (.marginPlanApply a) s) ∧
    (r.wrote = none → (s.dueTick (n + 1)).isSome = true → falls →
      Goes (.marginPlanApply a) s { u with rel := { u.rel with run := some { r with wrote := some s.now } } }) ∧
    (r.wrote = none → (s.dueTick (n + 1)).isSome = true → ¬ falls → Goes (.marginPlanApply a) s (u.endPlan r (u.planResults pl r.before true))) ∧
    (r.wrote = none → Stays .fstepDecrease s) ∧
    (∀ w, r.wrote = some w →
      let v := pl.foldl (fun t c => if c.fstep < (t.island c.island).fstep then t.setIsland c.island { t.island c.island with fstep := c.fstep } else t) s
      (s.dueTick (w + 1000000) = none → Stays .fstepDecrease s) ∧
      ((s.dueTick (w + 1000000)).isSome = true → Goes .fstepDecrease s (v.endPlan r (v.planResults pl r.before true)))) := by
  intro lifted u falls
  have applies : exec (.marginPlanApply a) s = finish s (if r.wrote.isSome || (s.dueTick (n + 1)).isNone then s
      else if pl.any fun c => decide (c.fstep < (u.island c.island).fstep) then
        { u with rel := { u.rel with run := some { r with wrote := some s.now } } }
      else u.endPlan r (u.planResults pl r.before true)) := by
    refine congrArg (finish s) ?_
    rw [run]
    dsimp only
    split
    · next none_ => exact absurd (planned.symm.trans none_) (by simp)
    · next pl' n' planned' =>
      obtain ⟨rfl, rfl⟩ := Prod.mk.inj (Option.some.inj (planned.symm.trans planned'))
      rfl
  have falls_iff : (pl.any fun c => decide (c.fstep < (u.island c.island).fstep)) = true ↔ falls := by
    simp only [falls, List.any_eq_true, decide_eq_true_eq]
  have due (new : r.wrote = none) (tick : (s.dueTick (n + 1)).isSome = true) : ¬ (r.wrote.isSome || (s.dueTick (n + 1)).isNone) = true := by
    simp [new, Option.isSome_iff_ne_none.mp tick]
  refine ⟨fun waits => stays_of applies (if_pos (by simpa using waits)), fun new tick fall => goes_of applies ((if_neg (due new tick)).trans (if_pos (falls_iff.mpr fall))),
    fun new tick rise => goes_of applies ((if_neg (due new tick)).trans (if_neg (mt falls_iff.mp rise))), fun new => stays_of rfl ?_, fun w wrote => ?_⟩
  · rw [run]
    dsimp only
    rw [planned, new]
  · refine ⟨fun early => stays_of rfl ?_, fun tick => goes_of rfl ?_⟩ <;> rw [run] <;> dsimp only <;> rw [planned, wrote]
    · exact if_pos (by rw [early]; rfl)
    · exact if_neg (by simp [Option.isSome_iff_ne_none.mp tick])

end

/-! ## Samples, margins and weeks (R507 to R513) -/

/-- Every island that is powered is sampled at valid time, with a day of history. -/
theorem ageingSample_goes (s : State) (q : List IslandSample) :
    (s.timeValid = false → Stays (.ageingSample q) s) ∧
    (s.timeValid = true →
      let sec := s.svcNs / 1000000000
      let one (t : State) (i : Nat) : State :=
        let v := t.island i
        let past := v.hist.filter fun h => sec < h.1 + 86400
        match q.find? fun e => e.island.val == i && t.powered i with
        | some e => t.setIsland i { v with sampled := true, ro := e.ro, delay := e.delay, tj := e.tj, volt := e.volt, hist := (sec, d105 i e.delay e.tj) :: past }
        | none => t.setIsland i { v with sampled := false, hist := past }
      Goes (.ageingSample q) s ((List.range 97).foldl one s)) :=
  ⟨fun no => stays_of rfl (if_pos (by simp [no])), fun valid => goes_of rfl (if_neg (by simp [valid]))⟩

/-- After the margin readings, DTCs of option A in service are asked for theirs. -/
theorem marginRefresh_goes (s : State) (ms : List MarginReading) :
    let ask (u : State) (p : Fin 64) : State :=
      if (u.dtc p).ties.optA = true ∧ (u.port p).e.st = .inService ∧ u.dev.fwReady = true then
        let x : Sentence := ⟨.agg, .mailbox, 0x0B, BitVec.ofNat 32 (Tbl.get 1 p.val u.verbs.nextFtag), 0, 0, 0, zeros 4⟩
        (u.forward p 0x0400 x (BitVec.ofNat 32 (Tbl.get 1 p.val u.verbs.knownOid))).1
      else u
    Goes (.marginRefresh ms) s (allPorts.foldl ask (ms.foldl State.takeMargin s)) := by
  intro ask
  refine goes_of rfl (congrArg (fun f => allPorts.foldl f (ms.foldl State.takeMargin s)) (funext fun u => funext fun p => ?_))
  exact ite_of_iff (by simp only [Bool.and_eq_true, beq_iff_eq, and_assoc]) rfl rfl

/-- Whether an alarm of a reading is to be recorded: none was within a day. -/
def alarmDue (s : State) (r : MarginReading) (alarm : Bool) : Bool :=
  let m := Tbl.get ({} : Margin) (marginKey r.kind.val r.index r.lane r.quantity.val) s.rel.margins
  alarm && (m.alarmAt = 0 || m.alarmAt + 86400 ≤ s.now / 1000000000 + 1)

/-- The state with a reading taken, by whether it is an alarm and one to record. -/
def State.withMargin (s : State) (r : MarginReading) (alarm due : Bool) : State :=
  let k := marginKey r.kind.val r.index r.lane r.quantity.val
  let m := Tbl.get ({} : Margin) k s.rel.margins
  let sec := s.now / 1000000000
  let v := r.value.toNat
  let new : Margin := { current := v, alarm := alarm, day := (sec, v) :: m.day.filter (fun d => sec < d.1 + 86400), least := some (min v (m.least.getD v)),
                        alarmAt := if due then sec + 1 else m.alarmAt }
  let t : State := { s with rel := { s.rel with margins := Tbl.set {} k new s.rel.margins } }
  if due then t.raise 12 0x0909 4 (be 1 r.kind.val ++ be 1 r.index ++ be 1 r.lane ++ be 2 v) else t

/-- A margin reading of a valid index becomes current, joins the day and the least, and an alarm is recorded at most once a day. -/
theorem takeMargin_cases (s : State) (r : MarginReading) :
    let k := marginKey r.kind.val r.index r.lane r.quantity.val
    let m := Tbl.get ({} : Margin) k s.rel.margins
    let sec := s.now / 1000000000
    let v := r.value.toNat
    let alarm := r.alarm || (r.kind.val = 4 && r.quantity.val < 2 && v < 32)
    let due := alarm = true ∧ (m.alarmAt = 0 ∨ m.alarmAt + 86400 ≤ sec + 1)
    let valid := marginIndexValid r.kind.val r.index r.lane = true ∧ (r.kind.val = 4 ∨ r.quantity.val = 0)
    let t : State := { s with rel := { s.rel with margins := Tbl.set {} k { current := v, alarm := alarm, day := (sec, v) :: m.day.filter (fun d => sec < d.1 + 86400), least := some (min v (m.least.getD v)), alarmAt := if due then sec + 1 else m.alarmAt } s.rel.margins } }
    (¬ valid → s.takeMargin r = s) ∧ (valid → ¬ due → s.takeMargin r = t) ∧
    (valid → due → s.takeMargin r = t.raise 12 0x0909 4 (be 1 r.kind.val ++ be 1 r.index ++ be 1 r.lane ++ be 2 v)) := by
  intro k m sec v alarm due valid t
  have invalid_iff : (!marginIndexValid r.kind.val r.index r.lane || (r.kind.val != 4 && r.quantity.val != 0)) = true ↔ ¬ valid := by
    simp only [valid, Bool.or_eq_true, Bool.not_eq_true', Bool.and_eq_true, bne_iff_ne, Classical.not_and_iff_not_or_not, not_or, Bool.not_eq_true, ne_eq]
  have alarmed : (if r.kind.val = 4 then r.alarm || (decide (r.quantity.val < 2) && decide (v < 32)) else r.alarm) = alarm := by
    by_cases four : r.kind.val = 4
    · rw [if_pos four]
      simp [alarm, four]
    · rw [if_neg four]
      simp [alarm, four]
  have due_iff : (alarm && (decide (m.alarmAt = 0) || decide (m.alarmAt + 86400 ≤ sec + 1))) = true ↔ due := by
    simp only [due, Bool.and_eq_true, Bool.or_eq_true, decide_eq_true_eq]
  have taken (ok : valid) : s.takeMargin r = if due then t.raise 12 0x0909 4 (be 1 r.kind.val ++ be 1 r.index ++ be 1 r.lane ++ be 2 v) else t := by
    refine (if_neg (mt invalid_iff.mp (Classical.not_not.mpr ok))).trans ((congrArg (fun alarm => s.withMargin r alarm (alarmDue s r alarm)) alarmed).trans ?_)
    by_cases yes : due
    · rw [if_pos yes, show alarmDue s r alarm = true from due_iff.mpr yes]
      simp only [State.withMargin, t, if_pos yes, if_true]
      rfl
    · rw [if_neg yes, show alarmDue s r alarm = false from Bool.eq_false_iff.mpr (mt due_iff.mp yes)]
      simp only [State.withMargin, t, if_neg yes, Bool.false_eq_true, if_false]
      rfl
  exact ⟨fun no => if_pos (invalid_iff.mpr no), fun ok no => (taken ok).trans (if_neg no), fun ok yes => (taken ok).trans (if_pos yes)⟩

/-- A week adds a value to each series and records the projection that falls below the rated life. -/
theorem ageingWeek_goes (s : State) :
    let a := (List.range 97).foldl (fun t i =>
      { t with rel := { t.rel with series := Tbl.set {} i ((t.series i).push (t.island i).vstep) t.rel.series } }) s
    let b := a.diePorts.foldl (fun t e => (List.range 16).foldl (fun u c => u.channelWeek e.1 (48 + c)) t) a
    let d : State := { b with data := { b.data with dies := Tbl.mapAll {} (fun d => { d with week := [] }) b.data.dies } }
    (belowRated (d.series d.projection.1) = false → Goes .ageingWeek s d) ∧
    (belowRated (d.series d.projection.1) = true → Goes .ageingWeek s (d.raise 12 0x0903 4 (be 1 d.projection.1 ++ be 2 d.projection.2))) :=
  ⟨fun above => goes_of rfl (if_neg (by rw [above]; exact Bool.false_ne_true)), fun below => goes_of rfl (if_pos below)⟩

/-! ## Screens (R515 to R519) -/

theorem screen_idle {s : State} (idle : s.rel.screen = none) (o : ScreenOutcome) : Stays (.screenTestOutcome o) s := stays_of rfl (by rw [idle])

theorem screen_done {s : State} {r : ScreenRun} (run : s.rel.screen = some r) (todo : r.todo = []) (o : ScreenOutcome) :
    Stays (.screenTestOutcome o) s :=
  stays_of rfl (by rw [run]; dsimp only; rw [todo])

/-- The run goes on as k, or ends where k has nothing left to do. -/
def State.screenOn (u : State) (k : ScreenRun) : State :=
  let v : State := { u with rel := { u.rel with screen := some k } }
  if k.todo = [] then v.endScreen k k.clusters else v

/-- A test on a cluster that is not clean is skipped; one that passes marks its tartlets; one that fails reports each and retires the cluster. -/
theorem screenTestOutcome_goes {s : State} {r : ScreenRun} {c i : Nat} {q : List (Nat × Nat)} (run : s.rel.screen = some r) (todo : r.todo = (c, i) :: q) :
    let test := s.screenTest r.pack i
    let skipped := s.screenOn { r with todo := q, skipped := r.skipped + 1, unclean := c :: r.unclean }
    let ran := s.runTestOn c test
    let mine := (List.range (if byteAt test 2 / 2 % 2 = 1 then 64 else 1)).map (64 * c + ·)
    (s.screenable c = false → ∀ o, Goes (.screenTestOutcome o) s skipped) ∧
    (s.screenable c = true → Goes (.screenTestOutcome .skipped) s skipped) ∧
    (s.screenable c = true → Goes (.screenTestOutcome .passed) s (State.screenOn
      { ran with rel := { ran.rel with lastPass := mine.foldl (fun a k => Tbl.set 0 k s.cs a) ran.rel.lastPass } }
      { r with todo := q, ran := r.ran + 1, passed := r.passed + 1 })) ∧
    (∀ ts, s.screenable c = true →
      let bad := ts.filter fun e => e.1 / 64 == c
      let fails := bad.foldl (fun a e => Tbl.set 0 e.1 (Tbl.get 0 e.1 a + 1) a) r.fails
      let told := bad.foldl (fun u e => u.report { source := 2, unit_ := 5, tartlet := e.1, bank := 255, slot := 255, operation := fld test 0 2, context := 0, object := r.pack, count := Tbl.get 0 e.1 fails, since := Tbl.get 0 e.1 u.rel.lastPass, expected := e.2.1, found := e.2.2, replica := 255 }) ran
      Goes (.screenTestOutcome (.failed ts)) s (State.screenOn
        { told with rel := { told.rel with retired := if (c, r.pack) ∈ told.rel.retired then told.rel.retired else (c, r.pack) :: told.rel.retired } }
        { r with todo := q, ran := r.ran + 1, failed := r.failed + 1, fails := fails, bad := c :: r.bad
                 first := r.first <|> (bad.head?.map fun e => (fld test 0 2, e.1)) })) := by
  intro test skipped ran mine
  refine ⟨fun no o => goes_of rfl ?_, fun can => goes_of rfl ?_, fun can => goes_of rfl ?_, fun ts can => ?_⟩
  · rw [run]
    dsimp only
    rw [todo]
    exact (if_pos (by rw [no]; rfl)).trans (ite_of_iff List.isEmpty_iff rfl rfl)
  · rw [run]
    dsimp only
    rw [todo]
    exact (if_neg (by simp [can])).trans (ite_of_iff List.isEmpty_iff rfl rfl)
  · rw [run]
    dsimp only
    rw [todo]
    exact (if_neg (by simp [can])).trans (ite_of_iff List.isEmpty_iff rfl rfl)
  · intro bad fails told
    refine goes_of rfl ?_
    rw [run]
    dsimp only
    rw [todo]
    have retires : (if told.rel.retired.contains (c, r.pack) then told.rel.retired else (c, r.pack) :: told.rel.retired) =
        if (c, r.pack) ∈ told.rel.retired then told.rel.retired else (c, r.pack) :: told.rel.retired := ite_of_iff List.contains_iff_mem rfl rfl
    rw [← retires]
    exact (if_neg (by simp [can])).trans (ite_of_iff List.isEmpty_iff rfl rfl)

/-! ## Pins (R529, R530) -/

/-- A pin takes effect at its tick. -/
theorem pinEffective_goes (s : State) :
    (s.dev.pinNext = none → Stays (.pinEffective .agg) s) ∧
    (∀ l n ks, s.dev.pinNext = some (l, n, ks) →
      (s.dueTick n = none → Stays (.pinEffective .agg) s) ∧
      (∀ t, s.dueTick n = some t → Goes (.pinEffective .agg) s (ks.foldl (fun u k => u.finalAt .agg k St.ok (pinResults t s.svcFlags l) (cstampOf true t))
          { s with dev := { s.dev with pinned := l, pinNext := none } }))) ∧
    (∀ p, (s.dtc p).pinNext = none → Stays (.pinEffective (.dtc p)) s) ∧
    (∀ p l n k, (s.dtc p).pinNext = some (l, n, k) →
      ((s.dtc p).dueTick n = none → Stays (.pinEffective (.dtc p)) s) ∧
      (∀ t, (s.dtc p).dueTick n = some t → Goes (.pinEffective (.dtc p)) s
        ((s.onDtc p fun d => { d with pinned := BitVec.ofNat 8 l, pinNext := none }).finalAt (.dtc p) k St.ok
          (pinResults t (s.dtc p).flags l) (cstampOf true t)))) := by
  refine ⟨fun none_ => stays_of rfl ?_, fun l n ks next => ⟨fun early => stays_of rfl ?_, fun t tick => goes_of rfl ?_⟩, fun p none_ => stays_of rfl ?_,
    fun p l n k next => ⟨fun early => stays_of rfl ?_, fun t tick => goes_of rfl ?_⟩⟩ <;> dsimp only
  · rw [none_]
  · rw [next]
    dsimp only
    rw [early]
  · rw [next]
    dsimp only
    rw [tick]
  · rw [none_]
  · rw [next]
    dsimp only
    rw [early]
  · rw [next]
    dsimp only
    rw [tick]

/-- Settles O57: each event by its own lemma. -/
theorem monitorsPlansScreensAndPins : Obligations.MonitorsPlansScreensAndPins := by
  unfold Obligations.MonitorsPlansScreensAndPins
  intro s
  refine ⟨(marginPlanScheduled_goes s).1, (marginPlanScheduled_goes s).2, marginPlan_idle, fun r run => ?_, fun q => (ageingSample_goes s q).1,
    fun q => (ageingSample_goes s q).2, marginRefresh_goes s, takeMargin_cases s, ageingWeek_goes s, screen_idle, fun r run todo => screen_done run todo,
    fun r c i q run todo => screenTestOutcome_goes run todo, fun r cs => rfl, pinEffective_goes s⟩
  obtain ⟨planned, asked, quiet, applies⟩ := marginPlanComplete_goes run
  exact ⟨planned, asked, quiet, applies, marginPlan_unplanned run, fun pl n a plan => marginPlanApply_goes run a plan⟩

end Sys2Proof.Machine
end

section
/-! Keys, debug authorisations, records and engines (O58) -/

namespace Sys2Proof.Machine
open Sys2Proof Sys2Proof.Proofs

/-! ## Records (R568 to R574) -/

/-- A record of low severity in a log with room is kept under the next SEQ. -/
theorem accept_low {s : State} {r : RawRecord} (low : r.severity < 3) (room : s.obs.recs.length < 65536) :
    s.accept r = { s with obs := { s.obs with nextSeq := s.obs.nextSeq + 1, recs := ⟨s.obs.nextSeq, r⟩ :: s.obs.recs } } := by
  have plain : (if 3 ≤ r.severity then r.flags ||| 1 else r.flags) = r.flags := if_neg (Nat.not_le.mpr low)
  have placed : placeRecord 65536 ⟨s.obs.nextSeq, r⟩ s.obs.recs = some (⟨s.obs.nextSeq, r⟩ :: s.obs.recs) := if_pos room
  have persisted (o : ObsState) : o.persist ⟨s.obs.nextSeq, r⟩ = o := if_pos low
  have quiet (t : State) : t.triggerFreeze ⟨s.obs.nextSeq, r⟩ = t := if_pos (Nat.lt_trans low (by decide))
  unfold State.accept
  rw [plain]
  dsimp only
  rw [placed, persisted, quiet]

/-- From stage 6 a record of the early buffer is accepted before those of the sources. -/
theorem recordAccept_goes (s : State) :
    (s.dev.stage < 6 → Stays .recordAccept s) ∧
    (∀ r rs, 6 ≤ s.dev.stage → s.obs.early = r :: rs → Goes .recordAccept s (({ s with obs := { s.obs with early := rs } }).accept r)) ∧
    (∀ n, 6 ≤ s.dev.stage → s.obs.early = [] → s.obs.nextSource = some n → Goes .recordAccept s (s.acceptFrom n 16)) ∧
    (6 ≤ s.dev.stage → s.obs.early = [] → s.obs.nextSource = none → Stays .recordAccept s) := by
  refine ⟨fun before => stays_of rfl (if_pos before), fun r rs ready early => goes_of rfl ((if_neg (Nat.not_lt.mpr ready)).trans ?_),
    fun n ready none_ turn => goes_of rfl ((if_neg (Nat.not_lt.mpr ready)).trans ?_),
    fun ready none_ turn => stays_of rfl ((if_neg (Nat.not_lt.mpr ready)).trans ?_)⟩
  · rw [early]
  · rw [none_]
    dsimp only
    rw [turn]
  · rw [none_]
    dsimp only
    rw [turn]

/-- A source's record is accepted with its continuations. -/
theorem acceptFrom_cases (s : State) (n k : Nat) :
    s.acceptFrom n 0 = s ∧ (Tbl.get [] n s.obs.queues = [] → s.acceptFrom n (k + 1) = s) ∧
    (∀ r rs, Tbl.get [] n s.obs.queues = r :: rs →
      let t := ({ s with obs := { s.obs with queues := Tbl.set [] n rs s.obs.queues } }).accept r
      (r.flags / 4 % 2 = 0 → s.acceptFrom n (k + 1) = t) ∧ (r.flags / 4 % 2 = 1 → s.acceptFrom n (k + 1) = t.acceptFrom n k)) := by
  refine ⟨rfl, fun none_ => by rw [State.acceptFrom, none_], fun r rs front => ⟨fun last => ?_, fun more => ?_⟩⟩ <;> rw [State.acceptFrom, front]
  · exact if_neg (by rw [last]; decide)
  · exact if_pos more

/-- Queued records move to the log oldest first once firmware is ready. -/
theorem persistenceWrite_goes (s : State) (n : Nat) :
    (s.dev.fwReady = false → Stays (.persistenceWrite n) s) ∧
    (s.dev.fwReady = true → Goes (.persistenceWrite n) s { s with obs := { s.obs with
      pqueue := s.obs.pqueue.drop n, plog := ((s.obs.pqueue.take n).reverse ++ s.obs.plog).take 32768 } }) :=
  ⟨fun no => stays_of rfl (if_pos (by simp [no])), fun ready => goes_of rfl (if_neg (by simp [ready]))⟩

/-! ## Keys and debug authorisations (R549 to R560) -/

/-- A revocation takes effect at its tick: its context's open sequences close and its models are unloaded. -/
theorem keyRevokeEffective_goes (s : State) (c : BitVec 10) :
    let k := s.keySlot c.toNat
    (k.ticket = none ∨ k.revokeTick ≠ 0 ∨ s.dueTick k.revokeDue = none → Stays (.keyRevokeEffective c) s) ∧
    (∀ t, k.ticket.isSome = true → k.revokeTick = 0 → s.dueTick k.revokeDue = some t →
      let a := s.setKeySlot c.toNat { k with revokeTick := t, unloaded := (s.modelsOf c.toNat).length }
      let open_ := (a.data.seqs.filter fun e => e.2.isOpen && e.2.port.isNone && modelCtx e.2.model == c.toNat).map (·.1)
      Goes (.keyRevokeEffective c) s (((s.modelsOf c.toNat).foldl State.unload (open_.foldl State.revokeSeq a)).endRevoke c.toNat)) := by
  intro k
  constructor
  · intro waits
    refine stays_of rfl ?_
    by_cases started : (k.ticket.isNone || k.revokeTick != 0) = true
    · exact if_pos started
    · refine (if_neg started).trans ?_
      have early : s.dueTick k.revokeDue = none := by
        rcases waits with none_ | begun | early
        · exact absurd (by simp [none_]) started
        · exact absurd (by simp [begun]) started
        · exact early
      dsimp only
      rw [early]
  · intro t asked fresh tick a open_
    refine goes_of rfl ((if_neg ?_).trans ?_)
    · simp [show (s.keySlot c.toNat).revokeTick = 0 from fresh, show (s.keySlot c.toNat).ticket ≠ none from Option.isSome_iff_ne_none.mp asked]
    · dsimp only
      rw [tick]

/-- A revocation ends, with the slot freed, once no page of the context is left. -/
theorem endRevoke_cases (s : State) (c : Nat) :
    let k := s.keySlot c
    (k.ticket = none ∨ k.revokeTick = 0 ∨ s.pagesOf c ≠ 0 → s.endRevoke c = s) ∧
    (∀ t, k.ticket = some t → k.revokeTick ≠ 0 → s.pagesOf c = 0 →
      s.endRevoke c = (s.setKeySlot c (if k.state = 2 then {} else { k with ticket := none, revokeTick := 0, unloaded := 0 })).final .agg t St.ok
        (stampBytes (stampOf k.revokeTick s.svcFlags) ++ be 2 k.unloaded ++ zeros 2)) := by
  intro k
  constructor
  · intro waits
    unfold State.endRevoke
    dsimp only
    split
    · rfl
    · next t asked => exact if_pos (by simpa using waits.resolve_left fun none_ => absurd (none_.symm.trans asked) (by simp))
  · intro t asked begun gone
    unfold State.endRevoke
    dsimp only
    split
    · next none_ => exact absurd (asked.symm.trans none_) (by simp)
    · next t' asked' =>
      obtain rfl := Option.some.inj (asked.symm.trans asked')
      exact if_neg (by simp [show (s.keySlot c).revokeTick ≠ 0 from begun, gone])

/-- A debug authorisation ends with its window, which disables and empties the trace sources. -/
theorem debugAuthExpiry_goes (s : State) :
    (s.sec.debugAuth = none ∨ s.timeValid = false → Stays .debugAuthExpiry s) ∧
    (∀ a, s.sec.debugAuth = some a → s.svcNs / 1000000000 < a.notAfter → Stays .debugAuthExpiry s) ∧
    (∀ a, s.sec.debugAuth = some a → s.timeValid = true → a.notAfter ≤ s.svcNs / 1000000000 → Goes .debugAuthExpiry s s.endDebug) := by
  refine ⟨fun no => stays_of rfl ?_, fun a given inside => stays_of rfl ?_, fun a given valid past => goes_of rfl ?_⟩
  · split
    · next a given => exact if_neg (by simp [no.resolve_left fun none_ => absurd (none_.symm.trans given) (by simp)])
    · rfl
  · rw [given]
    exact if_neg (by simp [inside])
  · rw [given]
    exact if_pos (by simp [valid, past])

/-! ## Check-value units, engines and banks (R575 to R587) -/

/-- A check-value unit answers with the value and length, or a failed read of host memory with the fault. -/
theorem checkValueScanComplete_goes (s : State) (u : Fin 6) :
    (∀ d a, Tbl.get none u.val s.obs.units = none → Stays (.checkValueScanComplete u d a) s) ∧
    (∀ (d : Bytes) q, Tbl.get none u.val s.obs.units = some q →
      let n := fld q.params 36 8
      let t : State := { s with obs := { s.obs with units := Tbl.set none u.val none s.obs.units } }
      let v (b : Bytes) : Bytes := be 8 (checkValueOf (cvConfig q.params) b)
      (byteAt q.params 1 = 0 → Goes (.checkValueScanComplete u d none) s
        (t.final .agg q.ticket St.ok (v (s.hbmRead (fld q.params 28 8) n) ++ be 8 n ++ be 8 (2 ^ 64 - 1)))) ∧
      (byteAt q.params 1 ≠ 0 → d.length = n → Goes (.checkValueScanComplete u d none) s
        (t.final .agg q.ticket St.ok (v d ++ be 8 n ++ be 8 (2 ^ 64 - 1)))) ∧
      (byteAt q.params 1 ≠ 0 → d.length ≠ n → Stays (.checkValueScanComplete u d none) s) ∧
      (∀ a, byteAt q.params 1 = 1 → Goes (.checkValueScanComplete u d (some a)) s
        (t.final .agg q.ticket St.hwFault (v (d.take n) ++ be 8 (d.take n).length ++ be 8 a.toNat))) ∧
      (∀ a, byteAt q.params 1 ≠ 1 → Stays (.checkValueScanComplete u d (some a)) s)) := by
  refine ⟨fun d a idle => stays_of rfl (by rw [idle]), fun d q busy => ?_⟩
  intro n t v
  refine ⟨fun hbm => goes_of rfl ?_, fun host all => goes_of rfl ?_, fun host part => stays_of rfl ?_, fun a host => goes_of rfl ?_,
    fun a other => stays_of rfl ?_⟩ <;> rw [busy] <;> dsimp only
  · exact if_pos hbm
  · refine (if_neg host).trans ((if_pos all).trans ?_)
    rw [List.take_of_length_le (Nat.le_of_eq all)]
  · exact (if_neg host).trans (if_neg part)
  · exact if_pos host
  · exact if_neg other

/-- An engine answers with what it wrote, ST_PARAM with free lengths, or another status after a free part of its output. -/
theorem compressionEngineComplete_goes (s : State) (e : Fin 4) (b : Bytes) :
    (Tbl.get none e.val s.obs.engines = none → Stays (.compressionEngineComplete e b) s) ∧
    (∀ q, Tbl.get none e.val s.obs.engines = some q →
      let src := if byteAt q.params 2 = 0 then s.hbmRead (fld q.params 4 8) (fld q.params 20 8) else b
      let r := engineOutput (byteAt q.params 1) s.free (fld q.params 28 8) src
      let t (n : Nat) : State := { s with free := s.free + n, obs := { s.obs with engines := Tbl.set none e.val none s.obs.engines } }
      let free (n : Nat) : Nat := (Config.freeWord (s.free + n)).toNat
      let write (u : State) (out : Bytes) : State :=
        if byteAt q.params 3 = 0 then u.hbmWrite (fld q.params 12 8) out else u.emit (.hostWrite (fld q.params 12 8)) out
      (src.length ≠ fld q.params 20 8 → Stays (.compressionEngineComplete e b) s) ∧
      (src.length = fld q.params 20 8 → r.1 = St.ok → Goes (.compressionEngineComplete e b) s
        ((write (t 1) r.2).final .agg q.ticket St.ok (be 8 r.2.length ++ be 8 src.length ++ be 8 (2 ^ 64 - 1)))) ∧
      (src.length = fld q.params 20 8 → r.1 = St.param → Goes (.compressionEngineComplete e b) s
        ((t 3).final .agg q.ticket St.param (be 8 (free 0) ++ be 8 (free 1) ++ be 8 (free 2)))) ∧
      (src.length = fld q.params 20 8 → r.1 ≠ St.ok → r.1 ≠ St.param → Goes (.compressionEngineComplete e b) s
        ((write (t 2) (r.2.take (free 1 % (fld q.params 28 8 + 1)))).final .agg q.ticket r.1))) := by
  refine ⟨fun idle => stays_of rfl (by rw [idle]), fun q busy => ?_⟩
  intro src r t free write
  have whole (all : src.length = fld q.params 20 8) : ¬ (src.length != fld q.params 20 8) = true := by simp [all]
  refine ⟨fun part => stays_of rfl ?_, fun all ok => goes_of rfl ?_, fun all param => goes_of rfl ?_, fun all notOk notParam => goes_of rfl ?_⟩ <;>
    rw [busy] <;> dsimp only
  · exact if_pos (bne_iff_ne.mpr part)
  · exact (if_neg (whole all)).trans (if_pos ok)
  · have notOk : r.1 ≠ St.ok := by
      rw [param]
      decide
    exact (if_neg (whole all)).trans ((if_neg notOk).trans (if_pos param))
  · exact (if_neg (whole all)).trans ((if_neg notOk).trans (if_neg notParam))

/-- A bank's writing ends. -/
theorem selfCounterBankWritten_goes (s : State) :
    (s.obs.tick.writing = false → Stays (.selfCounterBankWritten 0) s) ∧
    (s.obs.tick.writing = true → Goes (.selfCounterBankWritten 0) s { s with obs := { s.obs with
      gen := s.obs.gen + 1, tick := { s.obs.tick with writing := false } } }) ∧
    Goes (.selfCounterBankWritten 1) s { s with obs := { s.obs with hold := { s.obs.hold with writing := false } } } :=
  ⟨fun idle => stays_of rfl ((if_pos rfl).trans (if_neg (by simp [idle]))), fun writes => goes_of rfl ((if_pos rfl).trans (if_pos writes)),
    goes_of rfl (if_neg (by decide))⟩

/-- Settles O58: each event by its own lemma. -/
theorem secretsRecordsAndUnitsEnd : Obligations.SecretsRecordsAndUnitsEnd := by
  unfold Obligations.SecretsRecordsAndUnitsEnd
  intro s
  obtain ⟨early, buffered, source, none_⟩ := recordAccept_goes s
  exact ⟨early, buffered, fun r rs ready front low room => accept_low (s := { s with obs := { s.obs with early := rs } }) low room ▸ buffered r rs ready front,
    source, none_, acceptFrom_cases s, fun n => (persistenceWrite_goes s n).1, fun n => (persistenceWrite_goes s n).2, fun id => goes_of rfl rfl,
    keyRevokeEffective_goes s, fun c => goes_of rfl rfl, endRevoke_cases s, (debugAuthExpiry_goes s).1, (debugAuthExpiry_goes s).2.1,
    (debugAuthExpiry_goes s).2.2, fun u => (checkValueScanComplete_goes s u).1, fun u => (checkValueScanComplete_goes s u).2,
    fun e b => (compressionEngineComplete_goes s e b).1, fun e b => (compressionEngineComplete_goes s e b).2, selfCounterBankWritten_goes s⟩

end Sys2Proof.Machine
end

section
/-! Flash port, TAP and trace (O59) -/

namespace Sys2Proof.Machine
open Sys2Proof Sys2Proof.Proofs

/-! ## Transactions of the management port (R608 to R611) -/

theorem mspiTransaction_held {s : State} (low : s.phys.porLow = true) (t : SpiTransaction) : Stays (.mspiTransaction t) s := stays_of rfl (if_pos low)

/-- The count of a transaction that was cut short. -/
def State.cutShort (s : State) (t : SpiTransaction) : State :=
  if t.edges = 0 then s else s.setMspi { s.phys.mspi with partials := satInc 8 s.phys.mspi.partials }

/-- A transaction cut short of its header only counts, a bad header counts and shifts the pattern out, a good one reads or writes its words. -/
theorem mspiTransaction_goes {s : State} (t : SpiTransaction) (high : s.phys.porLow = false) :
    (t.header = none → Goes (.mspiTransaction t) s (s.cutShort t)) ∧
    (∀ h, t.header = some h → spiHeaderValid h = false → Goes (.mspiTransaction t) s
      ((s.setMspi { s.phys.mspi with badop := satInc 8 s.phys.mspi.badop }).emit .spi (be 4 0x5A5A5A5A))) ∧
    (∀ h, t.header = some h → spiHeaderValid h = true →
      let n := h.toNat / 65536 % 256
      let a := h.toNat % 65536
      let ds := t.data.take n
      let u := if h.toNat / 2 ^ 24 = 1 then
          s.emit .spi (be 4 0x5A5A5A5A ++ ((List.range ds.length).map fun i => be 4 (s.mspiValue (a + 4 * i))).flatten)
        else (s.mspiWrites a ds).emit .spi (be 4 0x5A5A5A5A)
      (ds.length ≠ n → Goes (.mspiTransaction t) s (u.cutShort t)) ∧
      (ds.length = n → Goes (.mspiTransaction t) s (u.setMspi { u.phys.mspi with extra := satAdd 16 u.phys.mspi.extra t.extra }))) := by
  have released : ¬ s.phys.porLow = true := by simp [high]
  refine ⟨fun none_ => goes_of rfl ((if_neg released).trans ?_), fun h header bad => goes_of rfl ((if_neg released).trans ?_), fun h header good => ?_⟩
  · rw [none_]
    rfl
  · rw [header]
    exact if_pos (by simp [bad])
  · intro n a ds u
    refine ⟨fun short => goes_of rfl ((if_neg released).trans ?_), fun whole => goes_of rfl ((if_neg released).trans ?_)⟩ <;> rw [header]
    · exact (if_neg (by simp [good])).trans (if_neg short)
    · exact (if_neg (by simp [good])).trans (if_pos whole)

/-- The words that name a command: its address, its length and the command itself. -/
theorem mspiWrite_words (s : State) (v : Word) :
    s.mspiWrite 0x14 v = s.setMspi { s.phys.mspi with addr := v.toNat } ∧ s.mspiWrite 0x18 v = s.setMspi { s.phys.mspi with len := v.toNat % 8192 } ∧
    (s.phys.mspi.run.isSome = true → s.mspiWrite 0x0C v = s.setMspi { s.phys.mspi with overrun := true }) ∧
    (s.phys.mspi.run = none → s.mspiWrite 0x0C v = s.setMspi { s.phys.mspi with
      run := some ⟨v.toNat / 2 ^ 24, if 1 ≤ v.toNat / 2 ^ 24 ∧ v.toNat / 2 ^ 24 ≤ 5 then none else some 7⟩ }) := by
  have known : (if (decide (1 ≤ v.toNat / 2 ^ 24) && decide (v.toNat / 2 ^ 24 ≤ 5)) = true then (none : Option Nat) else some 7) =
      if 1 ≤ v.toNat / 2 ^ 24 ∧ v.toNat / 2 ^ 24 ≤ 5 then none else some 7 := ite_of_iff (by simp only [Bool.and_eq_true, decide_eq_true_eq]) rfl rfl
  refine ⟨rfl, rfl, fun busy => if_pos busy, fun idle => ?_⟩
  rw [← known]
  exact if_neg (by simp [idle])

/-! ## Commands of the management port (R604, R610 to R613) -/

/-- The command n of the port ends with the result c. -/
def State.mspiEnds (s : State) (n c : Nat) : State := s.setMspi { s.phys.mspi with run := some ⟨n, some c⟩ }

theorem mspiRuns_iff (s : State) (n : Nat) : s.mspiRuns n = true ↔ s.phys.mspi.run = some ⟨n, none⟩ := by simp only [State.mspiRuns, beq_iff_eq]

theorem mspiResult_ends {s : State} {n : Nat} (runs : s.phys.mspi.run = some ⟨n, none⟩) (c : Nat) : s.mspiResult c = s.mspiEnds n c := by
  rw [State.mspiResult, runs]
  rfl

/-- A command that the port was not given does nothing. -/
theorem mspiCommand_idle (s : State) :
    (s.phys.mspi.run ≠ some ⟨1, none⟩ → Stays .flashRead s) ∧ (s.phys.mspi.run ≠ some ⟨2, none⟩ → ∀ ok, Stays (.flashProgram ok) s) ∧
    (s.phys.mspi.run ≠ some ⟨3, none⟩ → ∀ ok, Stays (.flashErase ok) s) ∧ (s.phys.mspi.run ≠ some ⟨4, none⟩ → ∀ v ok, Stays (.fuseOwner v ok) s) ∧
    (s.phys.mspi.run ≠ some ⟨5, none⟩ → ∀ v ok, Stays (.fuseDebugDisable v ok) s) := by
  have idle {n : Nat} (no : s.phys.mspi.run ≠ some ⟨n, none⟩) : (!s.mspiRuns n) = true :=
    (Bool.not_eq_true' _).mpr (Bool.eq_false_iff.mpr (mt (mspiRuns_iff s n).mp no))
  exact ⟨fun no => stays_of rfl (if_pos (idle no)), fun no ok => stays_of rfl (if_pos (idle no)), fun no ok => stays_of rfl (if_pos (idle no)),
    fun no v ok => stays_of rfl (if_pos (idle no)), fun no v ok => stays_of rfl (if_pos (idle no))⟩

section
variable {s : State}

theorem mspi_given {n : Nat} (runs : s.phys.mspi.run = some ⟨n, none⟩) : ¬ (!s.mspiRuns n) = true := by simp [(mspiRuns_iff s n).mpr runs]

/-- A read is refused for its range and by the boot, and otherwise fills the buffer. -/
theorem flashRead_goes (runs : s.phys.mspi.run = some ⟨1, none⟩) :
    let m := s.phys.mspi
    (m.rangeValid = false → Goes .flashRead s (s.mspiEnds 1 8)) ∧
    (m.rangeValid = true → s.bootReads = true → Goes .flashRead s (s.mspiEnds 1 6)) ∧
    (m.rangeValid = true → s.bootReads = false →
      let read (i : Nat) : Byte := if noLayout (m.addr + i) = true then Config.flashByte s.free (m.addr + i) else Tbl.get 0xFF (m.addr + i) s.phys.flash
      Goes .flashRead s (({ s with free := s.free + 1 }).setMspi { m with
        buffer := (List.range m.len).foldl (fun t i => Tbl.set 0 i (read i) t) m.buffer, run := some ⟨1, some 0⟩ })) := by
  intro m
  refine ⟨fun bad => goes_of rfl ((if_neg (mspi_given runs)).trans ((if_pos ?_).trans (mspiResult_ends runs 8))), fun good boots => ?_, fun good quiet => ?_⟩
  · simp [show s.phys.mspi.rangeValid = false from bad]
  all_goals
    have ranged : ¬ (!s.phys.mspi.rangeValid) = true := by simp [show s.phys.mspi.rangeValid = true from good]
  · exact goes_of rfl ((if_neg (mspi_given runs)).trans ((if_neg ranged).trans ((if_pos boots).trans (mspiResult_ends runs 6))))
  · intro read
    refine goes_of rfl ((if_neg (mspi_given runs)).trans ((if_neg ranged).trans ((if_neg (by simp [quiet])).trans ?_)))
    exact mspiResult_ends (by exact runs) 0

/-- The flash with a range of free bytes. -/
def State.freeBytes (s : State) (f : Tbl Byte) (x k : Nat) : State := { s with
  free := s.free + 1
  phys := { s.phys with flash := flashPut f x ((List.range k).map fun i => Config.flashByte s.free (x + i)) } }

/-- A program command is refused in the order of R610; of erased bytes it writes its bytes, of others it leaves free ones. -/
theorem flashProgram_goes (runs : s.phys.mspi.run = some ⟨2, none⟩) (ok : Bool) :
    let m := s.phys.mspi
    let allowed := m.rangeValid = true ∧ s.bootReads = false
    let good := allowed ∧ regionAllows m.addr m.len = true ∧ (sectorsOf m.addr m.len).any (sectorBad s.phys.flash) = false
    (m.rangeValid = false → Goes (.flashProgram ok) s (s.mspiEnds 2 8)) ∧
    (m.rangeValid = true → s.bootReads = true → Goes (.flashProgram ok) s (s.mspiEnds 2 6)) ∧
    (allowed → regionAllows m.addr m.len = false → Goes (.flashProgram ok) s (s.mspiEnds 2 1)) ∧
    (allowed → regionAllows m.addr m.len = true → (sectorsOf m.addr m.len).any (sectorBad s.phys.flash) = true →
      Goes (.flashProgram ok) s (s.mspiEnds 2 3)) ∧
    (good → Goes (.flashProgram false) s ((s.freeBytes s.phys.flash m.addr m.len).mspiEnds 2 2)) ∧
    (good → (∃ x ∈ flashBytes s.phys.flash m.addr m.len, x ≠ 0xFF) → Goes (.flashProgram true) s ((s.freeBytes s.phys.flash m.addr m.len).mspiEnds 2 0)) ∧
    (good → (∀ x ∈ flashBytes s.phys.flash m.addr m.len, x = 0xFF) → Goes (.flashProgram true) s
      (({ s with phys := { s.phys with flash := flashPut s.phys.flash m.addr (m.data m.len) } } : State).mspiEnds 2 0)) := by
  intro m allowed good
  have given (ok : Bool) : exec (.flashProgram ok) s = finish s _ := congrArg (finish s) (if_neg (mspi_given runs))
  have ranged (ok : Bool) (r : m.rangeValid = true) : exec (.flashProgram ok) s = finish s _ :=
    (given ok).trans (congrArg (finish s) (if_neg (by simp [show s.phys.mspi.rangeValid = true from r])))
  have quiet (ok : Bool) (a : allowed) : exec (.flashProgram ok) s = finish s _ := (ranged ok a.1).trans (congrArg (finish s) (if_neg (by simp [a.2])))
  have inRegion (ok : Bool) (a : allowed) (r : regionAllows m.addr m.len = true) : exec (.flashProgram ok) s = finish s _ :=
    (quiet ok a).trans (congrArg (finish s) (if_neg (by simp [show regionAllows s.phys.mspi.addr s.phys.mspi.len = true from r])))
  have writable (ok : Bool) (g : good) : exec (.flashProgram ok) s = finish s _ :=
    (inRegion ok g.1 g.2.1).trans (congrArg (finish s) (if_neg (by rw [g.2.2]; exact Bool.false_ne_true)))
  refine ⟨fun bad => goes_of (given ok) ((if_pos (by simp [show s.phys.mspi.rangeValid = false from bad])).trans (mspiResult_ends runs 8)),
    fun r boots => goes_of (ranged ok r) ((if_pos boots).trans (mspiResult_ends runs 6)),
    fun a out => goes_of (quiet ok a) ((if_pos (by simp [show regionAllows s.phys.mspi.addr s.phys.mspi.len = false from out])).trans (mspiResult_ends runs 1)),
    fun a r bad => goes_of (inRegion ok a r) ((if_pos bad).trans (mspiResult_ends runs 3)),
    fun g => goes_of (writable false g) ((if_pos rfl).trans (mspiResult_ends (by exact runs) 2)),
    fun g used => goes_of (writable true g) ((if_neg (by decide)).trans ((if_pos ?_).trans (mspiResult_ends (by exact runs) 0))),
    fun g erased => goes_of (writable true g) ((if_neg (by decide)).trans ((if_neg ?_).trans (mspiResult_ends (by exact runs) 0)))⟩
  · obtain ⟨x, mem, used⟩ := used
    exact List.any_eq_true.mpr ⟨x, mem, bne_iff_ne.mpr used⟩
  · rw [List.any_eq_true]
    rintro ⟨x, mem, used⟩
    exact bne_iff_ne.mp used (erased x mem)

/-- An erase is refused in the same order and runs under the journal; one that does not verify leaves its bytes free. -/
theorem flashErase_goes (runs : s.phys.mspi.run = some ⟨3, none⟩) (ok : Bool) :
    let m := s.phys.mspi
    let a := m.addr / 4096 * 4096
    let good := m.addr < 0x4000000 ∧ s.bootReads = false ∧ regionAllows a 4096 = true ∧ sectorBad s.phys.flash a = false
    (0x4000000 ≤ m.addr → Goes (.flashErase ok) s (s.mspiEnds 3 8)) ∧
    (m.addr < 0x4000000 → s.bootReads = true → Goes (.flashErase ok) s (s.mspiEnds 3 6)) ∧
    (m.addr < 0x4000000 → s.bootReads = false → regionAllows a 4096 = false → Goes (.flashErase ok) s (s.mspiEnds 3 1)) ∧
    (m.addr < 0x4000000 → s.bootReads = false → regionAllows a 4096 = true → sectorBad s.phys.flash a = true → Goes (.flashErase ok) s (s.mspiEnds 3 3)) ∧
    (good → Goes (.flashErase true) s (({ s with phys := { s.phys with flash := journalledErase s.phys.flash a } } : State).mspiEnds 3 0)) ∧
    (good → Goes (.flashErase false) s ((s.freeBytes (jStart s.phys.flash a).1 a 4096).mspiEnds 3 2)) := by
  intro m a good
  have given (ok : Bool) : exec (.flashErase ok) s = finish s _ := congrArg (finish s) (if_neg (mspi_given runs))
  have ranged (ok : Bool) (r : m.addr < 0x4000000) : exec (.flashErase ok) s = finish s _ := (given ok).trans (congrArg (finish s) (if_neg (Nat.not_le.mpr r)))
  have quiet (ok : Bool) (r : m.addr < 0x4000000) (q : s.bootReads = false) : exec (.flashErase ok) s = finish s _ :=
    (ranged ok r).trans (congrArg (finish s) (if_neg (by simp [q])))
  have inRegion (ok : Bool) (r : m.addr < 0x4000000) (q : s.bootReads = false) (w : regionAllows a 4096 = true) : exec (.flashErase ok) s = finish s _ :=
    (quiet ok r q).trans (congrArg (finish s) (if_neg (by rw [show regionAllows _ _ = true from w]; decide)))
  have erasable (ok : Bool) (g : good) : exec (.flashErase ok) s = finish s _ :=
    (inRegion ok g.1 g.2.1 g.2.2.1).trans (congrArg (finish s) (if_neg (by rw [show sectorBad _ _ = false from g.2.2.2]; decide)))
  exact ⟨fun past => goes_of (given ok) ((if_pos past).trans (mspiResult_ends runs 8)),
    fun r boots => goes_of (ranged ok r) ((if_pos boots).trans (mspiResult_ends runs 6)),
    fun r q out => goes_of (quiet ok r q) ((if_pos (by rw [show regionAllows _ _ = false from out]; rfl)).trans (mspiResult_ends runs 1)),
    fun r q w bad => goes_of (inRegion ok r q w) ((if_pos bad).trans (mspiResult_ends runs 3)),
    fun g => goes_of (erasable true g) ((if_pos rfl).trans (mspiResult_ends (by exact runs) 0)),
    fun g => goes_of (erasable false g) ((if_neg Bool.false_ne_true).trans (mspiResult_ends (by exact runs) 2))⟩

/-- The owner's fuses are refused where they are locked, without VQPS, and for a hash of zeros. -/
theorem fuseOwner_goes (runs : s.phys.mspi.run = some ⟨4, none⟩) :
    let locked := (Tbl.get 0 71 s.rel.fuses).getLsbD 0 = true
    let hash := s.phys.mspi.data 48
    (∀ v ok, locked ∨ v = false ∨ (∀ x ∈ hash, x = 0) → Goes (.fuseOwner v ok) s (s.mspiEnds 4 4)) ∧
    (¬ locked → (∃ x ∈ hash, x ≠ 0) →
      let u := s.blow 49 ((List.range 12).map fun i => BitVec.ofNat 32 (fld hash (4 * i) 4))
      Goes (.fuseOwner true true) s ((u.blow 71 [1]).mspiEnds 4 0) ∧ Goes (.fuseOwner true false) s (u.mspiEnds 4 5)) := by
  intro locked hash
  have refused_iff (v : Bool) : ((Tbl.get 0 71 s.rel.fuses).getLsbD 0 || !v || hash.all (· == 0)) = true ↔ locked ∨ v = false ∨ (∀ x ∈ hash, x = 0) := by
    simp only [locked, Bool.or_eq_true, Bool.not_eq_true', List.all_eq_true, beq_iff_eq, or_assoc]
  refine ⟨fun v ok no => goes_of rfl ((if_neg (mspi_given runs)).trans ((if_pos ((refused_iff v).mpr no)).trans (mspiResult_ends runs 4))),
    fun unlocked some_ => ?_⟩
  intro u
  have allowed : ¬ ((Tbl.get 0 71 s.rel.fuses).getLsbD 0 || !true || hash.all (· == 0)) = true := by
    rw [refused_iff]
    rintro (l | v | zeros)
    · exact unlocked l
    · exact absurd v (by decide)
    · obtain ⟨x, mem, nonzero⟩ := some_
      exact nonzero (zeros x mem)
  exact ⟨goes_of rfl ((if_neg (mspi_given runs)).trans ((if_neg allowed).trans ((if_pos rfl).trans (mspiResult_ends (by exact runs) 0)))),
    goes_of rfl ((if_neg (mspi_given runs)).trans ((if_neg allowed).trans ((if_neg Bool.false_ne_true).trans (mspiResult_ends (by exact runs) 5))))⟩

theorem fuseDebugDisable_goes (runs : s.phys.mspi.run = some ⟨5, none⟩) (ok : Bool) :
    Goes (.fuseDebugDisable false ok) s (s.mspiEnds 5 4) ∧ Goes (.fuseDebugDisable true ok) s ((s.blow 71 [2]).mspiEnds 5 (if ok then 0 else 5)) :=
  ⟨goes_of rfl ((if_neg (mspi_given runs)).trans ((if_pos rfl).trans (mspiResult_ends runs 4))),
    goes_of rfl ((if_neg (mspi_given runs)).trans ((if_neg (by decide)).trans (mspiResult_ends (by exact runs) _)))⟩

end

/-- DONE shows the result and raises the line. -/
theorem mspiCommandDone_goes (s : State) :
    ((∀ n r, s.phys.mspi.run ≠ some ⟨n, some r⟩) → Stays .mspiCommandDone s) ∧
    (∀ n r, s.phys.mspi.run = some ⟨n, some r⟩ → Goes .mspiCommandDone s
      ((s.setMspi { s.phys.mspi with run := none, done := true, result := r }).emit (.mspiIrq true))) := by
  refine ⟨fun no => stays_of rfl ?_, fun n r run => goes_of rfl ?_⟩ <;> dsimp only
  · split
    · next n r run => exact absurd run (no n r)
    · rfl
  · split
    · next n' r' run' =>
      obtain ⟨rfl, ⟨⟩⟩ := MspiRun.mk.inj (Option.some.inj (run.symm.trans run'))
      rfl
    · next none_ => exact absurd run (none_ n r)

/-! ## The flash's bytes, the TAP (R604, R612, R613) -/

/-- The bytes put at an address read back, and every other byte stands. -/
theorem get_putFrom {f : Tbl Byte} (wf : Tbl.wf 0xFF f = true) (x i n : Nat) (b : Bytes) :
    Tbl.get 0xFF i ((b.zipIdx n).foldl (fun t e => Tbl.set 0xFF (x + e.2) e.1 t) f) =
      if x + n ≤ i ∧ i < x + n + b.length then b.getD (i - (x + n)) 0xFF else Tbl.get 0xFF i f := by
  induction b generalizing f n with
  | nil => exact (if_neg (by simp)).symm
  | cons y ys ih =>
    rw [List.zipIdx_cons, List.foldl_cons, ih (Tbl.wf_set wf)]
    by_cases here : i = x + n
    · subst here
      rw [if_neg (by omega), if_pos (by simp), Tbl.get_set_eq wf, Nat.sub_self, List.getD_cons_zero]
    · rw [Tbl.get_set_ne wf here]
      refine ite_congr (propext (by rw [List.length_cons]; omega)) (fun inside => ?_) fun _ => rfl
      rw [show i - (x + n) = (i - (x + (n + 1))) + 1 by rw [List.length_cons] at inside; omega, List.getD_cons_succ]

theorem get_flashPut {f : Tbl Byte} (wf : Tbl.wf 0xFF f = true) (x i : Nat) (b : Bytes) :
    Tbl.get 0xFF i (flashPut f x b) = if x ≤ i ∧ i < x + b.length then b.getD (i - x) 0xFF else Tbl.get 0xFF i f :=
  get_putFrom wf x i 0 b

/-- Restricted TAP instructions are bypassed outside test mode. -/
theorem tapInstructionUpdate_goes (s : State) (i : TapInstruction) :
    let open_ := s.phys.straps.testEn = true ∧ s.debugDisabled = false
    (tapRestricted i = true → ¬ open_ → Goes (.tapInstructionUpdate i) s { s with phys := { s.phys with tap := .bypass } }) ∧
    (tapRestricted i = false ∨ open_ → Goes (.tapInstructionUpdate i) s { s with phys := { s.phys with tap := i } }) := by
  intro open_
  have closed_iff : (tapRestricted i && !(s.phys.straps.testEn && !s.debugDisabled)) = true ↔ tapRestricted i = true ∧ ¬ open_ := by
    simp only [open_, Bool.and_eq_true, Bool.not_eq_true', ← Bool.not_eq_true, not_and]
  have enters {t : TapInstruction} (e : (if tapRestricted i && !(s.phys.straps.testEn && !s.debugDisabled) then .bypass else i) = t) :
      Goes (.tapInstructionUpdate i) s { s with phys := { s.phys with tap := t } } := goes_of rfl (by rw [e])
  refine ⟨fun restricted closed => enters (if_pos (closed_iff.mpr ⟨restricted, closed⟩)), fun may => enters (if_neg (mt closed_iff.mp ?_))⟩
  rintro ⟨restricted, closed⟩
  rcases may with free | opened
  · exact absurd restricted (by simp [free])
  · exact closed opened

/-! ## Trace (R208 to R230) -/

/-- A merger takes the source whose turn it is, where the source's first clause fits. -/
theorem merge_cases (w : Part) (u : TraceUnit) (now : Nat) :
    let src (i : Nat) : List TraceClause := if u.current = some i then [] else [⟨srcClause i, 0, [], false⟩]
    let fits (i : Nat) := u.fill + clauseBytes (src i) + (((u.source i).fifo.head?.map fun c => c.bytes.length).getD 0) ≤ mergeCap w
    let r (i : Nat) := mergeClauses (mergeCap w) now 16 false { u with buffer := u.buffer ++ src i, current := some i } (u.source i).fifo
    (u.turn (traceSources w) = none → u.merge w now = u) ∧
    (∀ i, u.turn (traceSources w) = some i → ¬ fits i → u.merge w now = u) ∧
    (∀ i, u.turn (traceSources w) = some i → fits i → u.merge w now =
      ({ (r i).1.setSource i { u.source i with fifo := (r i).2 } with pointer := (i + 1) % traceSources w }).drops now) := by
  intro src fits r
  refine ⟨fun none_ => by rw [TraceUnit.merge, none_], fun i turn no => ?_, fun i turn yes => ?_⟩ <;> rw [TraceUnit.merge, turn]
  · exact if_pos (Nat.not_le.mp no)
  · exact if_neg (Nat.not_lt.mpr yes)

/-- A trace source takes its cycle. -/
theorem traceSourceCycle_goes (s : State) :
    (∀ p n cy, (s.dtc p).ready = false ∨ 16 ≤ n.val → Stays (.traceSourceCycle (.dtc p) n cy) s) ∧
    (∀ w (n : Fin 68) (cy : TraceCycle), (∀ p, w = .dtc p → (s.dtc p).ready = true ∧ n.val < 16) →
      let u := s.traceUnit w
      let k := u.source n.val
      let k1 := k.step (fifoCap w) (s.csOf w) (s.nowOf w) cy
      let flush := u.flush.map fun f => { f with count := f.count + ((k1.fifo.drop k.fifo.length).filter (·.marks.contains f.mark)).length }
      Goes (.traceSourceCycle w n cy) s ((s.setTraceUnit w { u.setSource n.val k1 with flush := flush }).endFlushes w)) := by
  refine ⟨fun p n cy waits => stays_of rfl (if_neg ?_), fun w n cy ready => ?_⟩
  · simp only [Bool.and_eq_true, decide_eq_true_eq]
    rintro ⟨up, low⟩
    rcases waits with down | high
    · exact absurd up (by simp [down])
    · exact absurd low (Nat.not_lt.mpr high)
  cases w with
  | agg => exact goes_of rfl (if_pos rfl)
  | dtc p =>
    obtain ⟨up, low⟩ := ready p rfl
    exact goes_of rfl (if_pos (by simp [up, low]))

/-- A record closes 1 us after it opened. -/
theorem traceRecordTimeout_goes (s : State) (p : Fin 64) :
    ((s.dtc p).ready = false ∨ (s.dtc p).trace.record = [] ∨ (s.dtc p).now < (s.dtc p).trace.recordAt + 1000 → Stays (.traceRecordTimeout p) s) ∧
    ((s.dtc p).ready = true → (s.dtc p).trace.record ≠ [] → (s.dtc p).trace.recordAt + 1000 ≤ (s.dtc p).now →
      Goes (.traceRecordTimeout p) s ((({ s with free := s.free + 1 }).setDtc p ((s.dtc p).closeTrace s.free)).endFlushes (.dtc p))) := by
  refine ⟨fun waits => stays_of rfl (if_neg ?_), fun ready open_ due => goes_of rfl (if_pos (by simp [ready, open_, due]))⟩
  simp only [Bool.and_eq_true, Bool.not_eq_true', decide_eq_true_eq, List.isEmpty_eq_false_iff]
  rintro ⟨⟨ready, open_⟩, due⟩
  rcases waits with down | none_ | early
  · exact absurd ready (by simp [down])
  · exact open_ none_
  · omega

/-- Flushes whose marks are gone are answered. -/
theorem endFlushes_cases (s : State) (w : Part) :
    let u := s.traceUnit w
    let gone (f : FlushWait) : Bool := !u.holdsMark f.mark && !u.recMarks.contains f.mark && f.recs.isEmpty
    (u.flush.filter gone = [] → s.endFlushes w = s) ∧
    (u.flush.filter gone ≠ [] → s.endFlushes w = (u.flush.filter gone).foldl (fun t f => t.final w f.ticket St.ok (be 4 f.count))
      (s.setTraceUnit w { u with flush := u.flush.filter fun f => !gone f })) := by
  intro u gone
  have ends : s.endFlushes w = (u.flush.filter gone).foldl (fun t f => t.final w f.ticket St.ok (be 4 f.count))
      (if (u.flush.filter gone).isEmpty then s else s.setTraceUnit w { u with flush := u.flush.filter fun f => !gone f }) := rfl
  refine ⟨fun none_ => ?_, fun some_ => ?_⟩
  · rw [ends, none_]
    rfl
  · rw [ends, if_neg (by simpa using some_)]

/-- Whether a record's sequence number is not the next one. -/
def traceGap (last : Option Nat) (seq : Nat) : Bool :=
  match last with
  | some q => seq != (q + 1) % 65536
  | none => false

theorem traceGap_iff (last : Option Nat) (seq : Nat) : traceGap last seq = true ↔ ∃ q, last = some q ∧ seq ≠ (q + 1) % 65536 := by
  cases last with
  | none => simp [traceGap]
  | some q => simp [traceGap]

/-- What a trace record of port p does, by the source before it and the overflows that are owed with it. -/
def State.takeTraced (s : State) (p : Fin 64) (b : Bytes) (src : Option Nat) (owed : List Nat) : State :=
  let n := p.val + 1
  let k := s.sink n
  let clauses := sub b 4 (fld b 2 2)
  let after := sourceAfter clauses.length clauses src
  if !s.active || k.size = 0 then s.setSink n { k with lastSeq := some (fld b 0 2), src := after }
  else
    let k1 := { k with lastSeq := some (fld b 0 2), ovfs := owed, src := src }
    let r := (s.setSink n k1).sinkWrite n clauses
    if r.2 then r.1 else s.setSink n { k1 with src := after, ovfs := if owed.contains 5 then owed else owed ++ [5] }

theorem takeTrace_eq (s : State) (p : Fin 64) (b : Bytes) :
    let k := s.sink (p.val + 1)
    let gap := traceGap k.lastSeq (fld b 0 2)
    s.takeTrace p b = s.takeTraced p b (if gap then none else k.src) (k.ovfs ++ (if gap && !k.ovfs.contains 4 then [4] else [])) := by
  unfold State.takeTrace State.takeTraced traceGap
  dsimp only <;> cases (s.sink (p.val + 1)).lastSeq <;> with_reducible rfl

/-- A stream without a ring, or at a standby, only keeps its sequence; a record that fits is written, and another owes overflow 5. -/
theorem takeTraced_cases (s : State) (p : Fin 64) (b : Bytes) (src : Option Nat) (owed : List Nat) (r : State × Bool)
    (writes : (s.setSink (p.val + 1) { s.sink (p.val + 1) with lastSeq := some (fld b 0 2), ovfs := owed, src := src }).sinkWrite (p.val + 1)
      (sub b 4 (fld b 2 2)) = r) :
    let k := s.sink (p.val + 1)
    let after := sourceAfter (sub b 4 (fld b 2 2)).length (sub b 4 (fld b 2 2)) src
    (s.active = false ∨ k.size = 0 → s.takeTraced p b src owed = s.setSink (p.val + 1) { k with lastSeq := some (fld b 0 2), src := after }) ∧
    (s.active = true → k.size ≠ 0 → r.2 = true → s.takeTraced p b src owed = r.1) ∧
    (s.active = true → k.size ≠ 0 → r.2 = false → s.takeTraced p b src owed = s.setSink (p.val + 1) { k with
      lastSeq := some (fld b 0 2), src := after, ovfs := if 5 ∈ owed then owed else owed ++ [5] }) := by
  intro k after
  have serves (active : s.active = true) (open_ : k.size ≠ 0) : ¬ (!s.active || decide (k.size = 0)) = true := by simpa [active] using open_
  have lists : (if owed.contains 5 = true then owed else owed ++ [5]) = if 5 ∈ owed then owed else owed ++ [5] := ite_of_iff List.contains_iff_mem rfl rfl
  refine ⟨fun no => ?_, fun active open_ fits => ?_, fun active open_ full => ?_⟩ <;> unfold State.takeTraced <;> dsimp only
  · rw [if_pos (by simpa using no)]
  · rw [if_neg (serves active open_), writes, if_pos fits]
  · rw [if_neg (serves active open_), writes, if_neg (Bool.eq_false_iff.mp full), lists]

/-- A trace record keeps its sequence, is written to its ring, or owes an overflow. -/
theorem traceRecordReceive_goes (s : State) (p : Fin 64) (b : Bytes) :
    let n := p.val + 1
    let k := s.sink n
    let seq := fld b 0 2
    let gap := ∃ q, k.lastSeq = some q ∧ seq ≠ (q + 1) % 65536
    let clauses := sub b 4 (fld b 2 2)
    let src := if gap then none else k.src
    let after := sourceAfter clauses.length clauses src
    let owed := k.ovfs ++ (if gap ∧ 4 ∉ k.ovfs then [4] else [])
    let k1 : Sink := { k with lastSeq := some seq, ovfs := owed, src := src }
    let r := (s.setSink n k1).sinkWrite n clauses
    (s.active = false ∨ k.size = 0 → Goes (.traceRecordReceive p b) s (s.setSink n { k with lastSeq := some seq, src := after })) ∧
    (s.active = true → k.size ≠ 0 → r.2 = true → Goes (.traceRecordReceive p b) s r.1) ∧
    (s.active = true → k.size ≠ 0 → r.2 = false → Goes (.traceRecordReceive p b) s (s.setSink n { k1 with
      src := after, ovfs := if 5 ∈ owed then owed else owed ++ [5] })) := by
  intro n k seq gap clauses src after owed k1 r
  have gap_iff : traceGap k.lastSeq seq = true ↔ gap := traceGap_iff k.lastSeq seq
  have src_eq : (if traceGap k.lastSeq seq = true then none else k.src) = src := ite_of_iff gap_iff rfl rfl
  have owed_eq : k.ovfs ++ (if (traceGap k.lastSeq seq && !k.ovfs.contains 4) = true then [4] else []) = owed := by
    refine congrArg (k.ovfs ++ ·) (ite_of_iff ?_ rfl rfl)
    rw [Bool.and_eq_true, gap_iff, Bool.not_eq_true', ← Bool.not_eq_true, List.contains_iff_mem]
  have takes : s.takeTrace p b = s.takeTraced p b src owed := (takeTrace_eq s p b).trans (by rw [src_eq, owed_eq])
  obtain ⟨kept, written, lost⟩ := takeTraced_cases s p b src owed r rfl
  exact ⟨fun no => goes_of rfl (takes.trans (kept no)), fun active open_ fits => goes_of rfl (takes.trans (written active open_ fits)),
    fun active open_ full => goes_of rfl (takes.trans (lost active open_ full))⟩

/-- A ring's read offset is taken where the stream has a ring. -/
theorem sinkRingPoll_goes (s : State) (n : Fin 65) (o : BitVec 64) :
    ((s.sink n.val).size = 0 → Stays (.sinkRingPoll n o) s) ∧
    ((s.sink n.val).size ≠ 0 → Goes (.sinkRingPoll n o) s (s.setSink n.val { s.sink n.val with rd := o.toNat })) :=
  ⟨fun none_ => stays_of rfl (if_pos none_), fun ring => goes_of rfl (if_neg ring)⟩

/-- Settles O59: the port's transactions and commands, the TAP and each trace event by its own lemma. -/
theorem flashPortTapAndTraceRun : Obligations.FlashPortTapAndTraceRun := by
  unfold Obligations.FlashPortTapAndTraceRun
  intro s
  obtain ⟨noRead, noProgram, noErase, noOwner, noDisable⟩ := mspiCommand_idle s
  refine ⟨fun low t => mspiTransaction_held low t, fun t high => mspiTransaction_goes t high, mspiWrite_words s, ?_,
    fun f x b i wf => get_flashPut wf x i b, fun w v => rfl, tapInstructionUpdate_goes s, fun w => ⟨goes_of rfl rfl, goes_of rfl rfl⟩, merge_cases,
    (traceSourceCycle_goes s).1, (traceSourceCycle_goes s).2, fun p => (traceRecordTimeout_goes s p).1, fun p => (traceRecordTimeout_goes s p).2,
    endFlushes_cases s, traceRecordReceive_goes s, fun n o => (sinkRingPoll_goes s n o).1, fun n o => (sinkRingPoll_goes s n o).2⟩
  exact ⟨noRead, noProgram, noErase, noOwner, noDisable, fun runs => (flashRead_goes runs).1, fun runs => (flashRead_goes runs).2.1,
    fun runs => (flashRead_goes runs).2.2, fun ok runs => flashProgram_goes runs ok, fun ok runs => flashErase_goes runs ok,
    fun v ok runs => (fuseOwner_goes runs).1 v ok, fun runs => (fuseOwner_goes runs).2, fun ok runs => fuseDebugDisable_goes runs ok,
    mspiCommandDone_goes s⟩

end Sys2Proof.Machine
end

section
/-! What reset leaves (O60) -/

namespace Sys2Proof.Machine
open Sys2Proof Sys2Proof.Proofs

/-! ## Reset (R2, R16, R30, R51, R83, R125, R454, R471, R509) -/

/-- An interrupt changes the interrupt registers and the MSI-X table alone. -/
theorem irq_dev (s : State) (bit : Nat) : (s.irq bit).dev.stage = s.dev.stage ∧ (s.irq bit).dev.fwReady = s.dev.fwReady := by
  unfold State.irq
  dsimp only
  split
  · unfold State.signal
    dsimp only
    split <;> exact ⟨rfl, rfl⟩
  · exact ⟨rfl, rfl⟩

/-- Entering a stage changes the stage and raises an interrupt. -/
theorem enterStage_keeps (s : State) (n : Nat) :
    (s.enterStage n).sync = s.sync ∧ (s.enterStage n).phys = s.phys ∧ (s.enterStage n).rel = s.rel ∧ (s.enterStage n).time = s.time ∧
      (s.enterStage n).dev.stage = n ∧ (s.enterStage n).dev.fwReady = s.dev.fwReady ∧ (s.enterStage n).pair = s.pair := by
  have quiet : Quiet { s with dev := { s.dev with stage := n } } (s.enterStage n) := quiet_irq _ 0
  exact ⟨quiet.sync, quiet.phys, quiet.rel, quiet.time, (irq_dev _ 0).1, (irq_dev _ 0).2, irq_pair _ 0⟩

/-- A whole-chip reset clears the sync objects too and keeps flash, fuses and time. -/
theorem wholeChipReset_keeps (s : State) (o : Nat) :
    s.wholeChipReset.object o = {} ∧ s.wholeChipReset.phys = s.phys ∧ s.wholeChipReset.rel.fuses = s.rel.fuses ∧
      s.wholeChipReset.time = s.time ∧ s.wholeChipReset.dev.stage = 1 ∧ s.wholeChipReset.dev.fwReady = false ∧ s.wholeChipReset.pair.claiming = true := by
  unfold State.wholeChipReset
  obtain ⟨sync, phys, rel, time, stage, fwReady, pair⟩ := enterStage_keeps (State.emit _ .chipReset) 1
  refine ⟨?_, phys, ?_, time, stage, fwReady, ?_⟩
  · unfold State.object
    rw [sync]
    rfl
  · rw [rel]
    rfl
  · rw [pair]
    rfl

/-- Settles O60: the values of the reset state, and what a whole-chip reset keeps. -/
theorem resetLeavesTheSpecValues : Obligations.ResetLeavesTheSpecValues := by
  unfold Obligations.ResetLeavesTheSpecValues
  intro r
  have domains (d : Fin 2) : r.domain d = {} := by
    unfold State.domain
    split <;> rfl
  refine ⟨rfl, rfl, fun a => rfl, rfl, rfl, rfl, rfl, rfl, rfl, rfl, rfl, rfl, rfl, fun d => ?_, rfl, rfl, rfl, fun i => ⟨rfl, rfl⟩, rfl, rfl, rfl, fun i => rfl,
    fun p => ⟨rfl, rfl, rfl, rfl⟩, fun c => ⟨rfl, rfl, rfl, rfl⟩, fun o => rfl, rfl, fun i => ⟨rfl, rfl⟩, rfl, rfl, wholeChipReset_keeps⟩
  rw [domains]
  exact ⟨rfl, rfl, rfl, rfl, rfl⟩

end Sys2Proof.Machine
end
